-- ==== Sys2Proof/Word.lean ====
section
/-! DEFINITION. Words and bytes, and the little-endian byte strings of the manual's layout tables. -/

namespace Sys2Proof

/-- A register of BAR0: 32 bits, naturally aligned (R349). -/
abbrev Word := BitVec 32

/-- A byte of a layout table. -/
abbrev Byte := BitVec 8

end Sys2Proof
end

