-- ==== Sys2Proof/Syntax.lean ====
section
/-! DEFINITION. The commands: one constructor per row of spec/opcode_table.json, with the row's operands.

A Tsuvar command row names the mailbox `m` it runs in: its header and argument bytes are the ones COMMAND_TAKE
copied (R359). A Jetur message row names the connection `c` whose oldest delivered message it takes. A timer or
engine row names the record whose timer or work it is. Everything the outside world decides (a measured skew, a
test result, a laser level) is an operand. -/

namespace Sys2Proof

/-- One received flit of a frame (R276): its 64 bytes, and whether forward error correction marked it bad (R273). -/
structure Flit where
  bad : Bool
  bytes : List Byte
  deriving DecidableEq, Repr

/-- A receive lane that has lost lock (R287), and the classes of which a frame was then outstanding, as its receiver alone knows. -/
structure LostLane where
  lane : Nat
  normalOut : Bool
  expressOut : Bool
  deriving DecidableEq, Repr

/-- The lane for which a hold is made (R298), its direction 0 for receive or 1 for transmit. -/
structure HeldLane where
  dir : Nat
  lane : Nat
  deriving DecidableEq, Repr

/-- The data area of a LINK flit (R280), fields by offset; `checkOk` says that its CRC-32C matched. -/
structure LinkFlit where
  checkOk : Bool
  normalAck : BitVec 16
  expressAck : BitVec 16
  reqCredits : Nat
  rspCredits : Nat
  laneMask : BitVec 16
  nakExpress : Bool
  cause : Nat
  calLane : Nat
  hold : Nat
  deriving DecidableEq, Repr

/-- The body of a LINK_CTRL message (R299). -/
structure LinkCtrl where
  major : Nat
  minor : Nat
  port : Nat
  node : Nat
  minLanes : Nat
  session : BitVec 32
  peerSession : BitVec 32
  normalExpected : BitVec 16
  expressExpected : BitVec 16
  t1 : Nat
  t2 : Nat
  t3 : Nat
  deriving DecidableEq, Repr

/-- A TIME_SYNC message (R36) with the source node and traffic class of its header (R304). -/
structure TimeSync where
  src : Nat
  cls : Nat
  seq : BitVec 32
  t1 : Nat
  t2 : Nat
  t3 : Nat
  deriving DecidableEq, Repr

/-- What the tuning loop does to the transmit or the receive side of a lane (R297). A hold names the idle time in ns. -/
inductive TuneAct where
  | none
  | trimTx
  | trimRx
  | holdTx (ns : Nat)
  | holdRx (ns : Nat)
  deriving DecidableEq, Repr

/-- The engine classes that power down without work (R157). -/
inductive EngineClass where
  | ridge
  | hawkmoth
  | luna
  | chrysalis
  deriving DecidableEq, Repr

/-- The instructions of the test access port (R441); every other one is fused off. -/
inductive JtagIns where
  | bypass
  | idcode
  | samplePreload
  | extest
  | clamp
  | highz
  | other
  deriving DecidableEq, Repr

/-- What a read of a stack frame's words found (R412). -/
inductive WordFinding where
  | clean
  | corrected
  | uncorrectable
  /-- an uncorrectable error of the page's DIGEST under DIGEST_CHECK (R102) -/
  | digest
  /-- an uncorrectable error of the page's entry under ENTRY_CHECK (R103) -/
  | entry
  /-- poison signalled by a Type-3 device on a warm read of the patrol (R412, R414) -/
  | warm
  deriving DecidableEq, Repr

/-- The three classes of a mesh link (R19). -/
inductive MeshClass where
  | request
  | response
  | control
  deriving DecidableEq, Repr

/-- One rail's reading over AVSBus (R425): millivolts and milliamperes, or no reading within 100 µs. -/
inductive RailReading where
  | value (mv ma : Nat)
  | missing
  deriving DecidableEq, Repr

/-- The commands the block takes, one constructor per row of the table. -/
inductive Instr where
  /-- DEVICE_QUERY (R372): Mailbox command returning device state, role, primary Summit, job ID, package time and versions. -/
  | deviceQuery (m : Nat)
  /-- CAP_QUERY (R373): Mailbox command returning the 256-byte capability record. -/
  | capQuery (m : Nat)
  /-- JOB_BIND (R375): Checks the shape record and bind fields, then binds a job and sets every job default, entering BOUND. -/
  | jobBind (m : Nat)
  /-- JOB_RELEASE (R376): Enters DRAINING, aborts or finishes moves, retires contexts and job objects, scrubs, then enters READY. -/
  | jobRelease (m : Nat)
  /-- ROLE_SET (R145): Changes the node role and applies the new role's defaults from the next step boundary, optionally draining. -/
  | roleSet (m : Nat)
  /-- MBOX_RECLAIM (R372): Lets the command running in a named mailbox complete, then frees that mailbox. -/
  | mboxReclaim (m : Nat)
  /-- CTX_ADMIT (R60): Selects a free context under the one-second rule, reserves its sequence region and returns a new handle. -/
  | ctxAdmit (m : Nat)
  /-- CTX_QUERY (R62): Returns the 64-byte record of a context. -/
  | ctxQuery (m : Nat)
  /-- CTX_SET (R61): Sets a context's priority and deadline class. -/
  | ctxSet (m : Nat)
  /-- CTX_PAUSE (R57): Moves a GENERATE context to PAUSED at the next step boundary, completing when no step of it is in flight. -/
  | ctxPause (m : Nat)
  /-- CTX_PARK (R100): Parks a PAUSED context, starting demotion to tier 2 and its time to live. -/
  | ctxPark (m : Nat)
  /-- CTX_RESUME (R57): Returns a PARKED context to PAUSED and starts promotion in layer order. -/
  | ctxResume (m : Nat)
  /-- CTX_RETIRE (R54): Moves a context to DRAINING, cancelling its waiters and taking no new references. -/
  | ctxRetire (m : Nat)
  /-- CTX_LIST (R63): Returns handles of contexts selected by state mask and client. -/
  | ctxList (m : Nat)
  /-- TIER_QUERY (R113): Returns capacity, units, floor, pending demotion and guarantees of one tier. -/
  | tierQuery (m : Nat)
  /-- QUOTA_SET (R105): Sets a client's tier-1 or tier-2 guarantee and ceiling, checking overcommit. -/
  | quotaSet (m : Nat)
  /-- QUOTA_QUERY (R114): Returns a client's guarantee, honoured guarantee, ceiling, holding and shortfall. -/
  | quotaQuery (m : Nat)
  /-- TIER0_SET (R113): Sets or restores the four Crest store partition sizes, effective at the next step boundary. -/
  | tier0Set (m : Nat)
  /-- STRIPE_SET (R95): Defines a tier-3 stripe set of member nodes and base offsets. -/
  | stripeSet (m : Nat)
  /-- POOL_GRANT (R96): Opens part of the pool window to a protection domain, charged to a client. -/
  | poolGrant (m : Nat)
  /-- POOL_REVOKE (R96): Frees a range of granted pool storage. -/
  | poolRevoke (m : Nat)
  /-- PAGE_QUERY (R112): Returns a page table entry as stored and its share count. -/
  | pageQuery (m : Nat)
  /-- MOVE_START (R115): Starts a HANDOFF, MIGRATE, PARK, RESUME or ATTACH move of a context. -/
  | moveStart (m : Nat)
  /-- MOVE_ABORT (R138): Aborts a move before cutover. -/
  | moveAbort (m : Nat)
  /-- MOVE_QUERY (R146): Returns the record of a move. -/
  | moveQuery (m : Nat)
  /-- MOVE_PARAM_SET (R136): Sets the stall timer of the device. -/
  | moveParamSet (m : Nat)
  /-- PARK_TTL_SET (R144): Sets a client's park time to live. -/
  | parkTtlSet (m : Nat)
  /-- SCHED_SET (R173): Sets scheduler fields such as batch limit, allowance, hold limit, power cap, step slots and Skipper window. -/
  | schedSet (m : Nat)
  /-- SCHED_QUERY (R173): Returns scheduler settings, allowance, power, governor state, step counts and cost model. -/
  | schedQuery (m : Nat)
  /-- CLIENT_SCHED_SET (R158): Sets a client's default priority, deadline class, Skipper permission and chunk size. -/
  | clientSchedSet (m : Nat)
  /-- CLIENT_SCHED_QUERY (R173): Returns a client's scheduling defaults and chunk size. -/
  | clientSchedQuery (m : Nat)
  /-- DEADLINE_SET (R161): Sets the token budget of a deadline class. -/
  | deadlineSet (m : Nat)
  /-- DEADLINE_QUERY (R173): Returns the token budget of a deadline class. -/
  | deadlineQuery (m : Nat)
  /-- ACCT_QUERY (R170): Returns a client's accounting counters and wait histogram. -/
  | acctQuery (m : Nat)
  /-- ACCT_CTX_QUERY (R171): Returns a context's accounting counters and straggler state. -/
  | acctCtxQuery (m : Nat)
  /-- STRAGGLER_SET (R172): Sets straggler threshold, run length and enable. -/
  | stragglerSet (m : Nat)
  /-- SHAPE_CHECK (R175): Validates a model shape record and returns derived sizes. -/
  | shapeCheck (m : Nat)
  /-- SHAPE_QUERY (R201): Returns the bound shape record and derived sizes. -/
  | shapeQuery (m : Nat)
  /-- SLICE_SET (R202): Sets the slice target for later steps. -/
  | sliceSet (m : Nat)
  /-- SLICE_QUERY (R201): Returns slice target, cap_buf and cap in effect. -/
  | sliceQuery (m : Nat)
  /-- PLAN_QUERY (R202): Returns the slice plan of a context layer at a position. -/
  | planQuery (m : Nat)
  /-- ROPE_EVAL (R184): Returns the rotary phase, cosine and sine for a pair and distance. -/
  | ropeEval (m : Nat)
  /-- HAWKMOTH_QUERY (R203): Returns Hawkmoth counters of one Crest die. -/
  | hawkmothQuery (m : Nat)
  /-- FORMAT_QUERY (R243): Returns the records of every numeric format. -/
  | formatQuery (m : Nat)
  /-- FORMAT_POLICY_SET (R237): Sets a client's narrowing target for tier 2 or tier 3. -/
  | formatPolicySet (m : Nat)
  /-- FORMAT_POLICY_QUERY (R243): Returns a client's narrowing targets. -/
  | formatPolicyQuery (m : Nat)
  /-- QUANT_EVAL (R244): Quantises 32 inputs into a storage format and returns the encoding and decoded values. -/
  | quantEval (m : Nat)
  /-- EXP_EVAL (R235): Returns exp_fp32 of an argument. -/
  | expEval (m : Nat)
  /-- CHRYSALIS_QUERY (R244): Returns Chrysalis counters of one Crest die. -/
  | chrysalisQuery (m : Nat)
  /-- INDEX_CREATE (R248): Creates a vector index in LOADING and takes its tier-1 and tier-2 budgets. -/
  | indexCreate (m : Nat)
  /-- INDEX_LOAD (R252): Copies centroids, codebook, list or shadow records from host memory into a loading index. -/
  | indexLoad (m : Nat)
  /-- INDEX_SEAL (R253): Checks a loaded index, computes norms and digests and enters READY. -/
  | indexSeal (m : Nat)
  /-- INDEX_MERGE (R266): Takes a cut and folds side-list entries into a range of lists, completing at the switch. -/
  | indexMerge (m : Nat)
  /-- INDEX_QUERY (R271): Returns the state and figures of an index. -/
  | indexQuery (m : Nat)
  /-- INDEX_DESTROY (R250): Moves an index to RETIRING, abandoning any merge. -/
  | indexDestroy (m : Nat)
  /-- SEARCH_SET (R271): Sets the batching window, Luna credits under decode and Luna floor. -/
  | searchSet (m : Nat)
  /-- LUNA_QUERY (R271): Returns Luna counters of one Crest die. -/
  | lunaQuery (m : Nat)
  /-- PORT_QUERY (R303): Returns the state, maps, peer and counters of a Jetur port. -/
  | portQuery (m : Nat)
  /-- PORT_SET (R303): Enables or disables a port and sets its minimum lanes and hold window. -/
  | portSet (m : Nat)
  /-- PORT_BOND (R38): Bonds or unbonds a permitted group of ports, measuring skew. -/
  | portBond (m : Nat) (skew : Nat)
  /-- LANE_QUERY (R303): Returns the state and counters of one lane in one direction. -/
  | laneQuery (m : Nat)
  /-- PORT_RETRAIN (R303): Forces an UP port into RETRAIN. -/
  | portRetrain (m : Nat)
  /-- PD_ALLOC (R310): Allocates a protection domain, optionally naming a client. -/
  | pdAlloc (m : Nat)
  /-- PD_FREE (R331): Frees a protection domain with no connections or regions. -/
  | pdFree (m : Nat)
  /-- REGION_REGISTER (R310): Registers a HOST, DEVICE or SIGNAL region with rights and flags in a domain. -/
  | regionRegister (m : Nat)
  /-- REGION_DEREGISTER (R331): Removes a region after accesses in progress finish. -/
  | regionDeregister (m : Nat)
  /-- CONN_OPEN (R307): Opens the local end of a connection with its route, grants and completion timeout. -/
  | connOpen (m : Nat)
  /-- CONN_CLOSE (R307): Stops new sends on a connection and starts its closing. -/
  | connClose (m : Nat)
  /-- CONN_QUERY (R330): Returns the state, units, sequences and losses of a connection. -/
  | connQuery (m : Nat)
  /-- RECV_POST (R311): Posts a receive buffer on a connection. -/
  | recvPost (m : Nat)
  /-- SEND_POST (R311): Sends a SEND message from a region and completes on its SEND_ACK. -/
  | sendPost (m : Nat)
  /-- MEM_ISSUE (R318): Issues a MEM_READ, MEM_WRITE or MEM_ATOMIC on a connection and returns its completion. -/
  | memIssue (m : Nat)
  /-- COH_SUBSCRIBE (R323): Adds or removes a subscriber of a COHERENT_READ region. -/
  | cohSubscribe (m : Nat)
  /-- COH_DOMAIN_SET (R325): Forms the coherent domain of this node and up to three others. -/
  | cohDomainSet (m : Nat)
  /-- FABRIC_SET (R315): Sets the stamp skew tolerance. -/
  | fabricSet (m : Nat)
  /-- FABRIC_QUERY (R330): Returns fabric counters of one Pass die. -/
  | fabricQuery (m : Nat)
  /-- SHAPER_SET (R339): Sets a queue shaper's enable, rate and burst and its tokens. -/
  | shaperSet (m : Nat)
  /-- SHAPER_QUERY (R345): Returns a shaper's settings and present tokens. -/
  | shaperQuery (m : Nat)
  /-- GATE_LIST_SET (R343): Loads a pending gate list and returns its switch instant. -/
  | gateListSet (m : Nat)
  /-- GATE_LIST_QUERY (R345): Returns the operational or pending gate list. -/
  | gateListQuery (m : Nat)
  /-- EGRESS_SET (R346): Sets a port's express mask. -/
  | egressSet (m : Nat)
  /-- EGRESS_QUERY (R346): Returns counters and histograms of one egress queue. -/
  | egressQuery (m : Nat)
  /-- EVENT_MASK_SET (R409): Sets the mask of event classes not written. -/
  | eventMaskSet (m : Nat)
  /-- EVENT_QUERY (R418): Returns the class mask and per-class raised and masked counts. -/
  | eventQuery (m : Nat)
  /-- COUNTER_SNAPSHOT (R418): Captures queue instance counters together at one package time. -/
  | counterSnapshot (m : Nat)
  /-- WATERMARK_SET (R406): Enables, clears or sets thresholds of a watermark. -/
  | watermarkSet (m : Nat)
  /-- WATERMARK_QUERY (R418): Returns a watermark's settings, value and crossings. -/
  | watermarkQuery (m : Nat)
  /-- LIFETIME_READ (R418): Returns part of a die's lifetime record from a chosen copy. -/
  | lifetimeRead (m : Nat)
  /-- LIFETIME_FLUSH (R411): Writes every lifetime record to the store. -/
  | lifetimeFlush (m : Nat)
  /-- SCRUB_SET (R414): Sets the patrol period and warm patrol. -/
  | scrubSet (m : Nat)
  /-- JOB_QUIESCE (R416): Raises a commanded job fault that quiesces the bound job. -/
  | jobQuiesce (m : Nat)
  /-- FAULT_QUERY (R418): Returns the first job-fault cause and error counts. -/
  | faultQuery (m : Nat)
  /-- BOOT_QUERY (R400): Returns phase end times, firmware and configuration status and failed dies. -/
  | bootQuery (m : Nat)
  /-- CFG_LOAD (R388): Checks a configuration image from host memory and writes it to flash with the commit word last. -/
  | cfgLoad (m : Nat)
  /-- CFG_READ (R400): Returns part of the configuration image in use. -/
  | cfgRead (m : Nat)
  /-- FW_LOAD (R383): Checks a firmware image and writes it to the idle slot, then prefers that slot. -/
  | fwLoad (m : Nat)
  /-- SELFTEST_SET (R400): Enables in-service self-test and sets its period. -/
  | selftestSet (m : Nat)
  /-- SELFTEST_RUN (R400): Starts a die's next self-test slice as soon as allowed, completing when it ends. -/
  | selftestRun (m : Nat)
  /-- SELFTEST_QUERY (R400): Returns the self-test state and results of a die. -/
  | selftestQuery (m : Nat)
  /-- SYNC_ALLOC (R74): Allocates synchronisation objects of one kind on one Summit die. -/
  | syncAlloc (m : Nat)
  /-- SYNC_FREE (R72): Frees a synchronisation object, cancelling its waiters. -/
  | syncFree (m : Nat)
  /-- SYNC_SET (R66): Sets an object's value or threshold, releasing waiters where the condition now holds. -/
  | syncSet (m : Nat)
  /-- SYNC_SIGNAL (R65): Applies a signal or clear operation to an object and returns its value after releases. -/
  | syncSignal (m : Nat)
  /-- SYNC_WAIT (R70): Registers a MAILBOX, MSIX or REMOTE waiter on an object. -/
  | syncWait (m : Nat)
  /-- SYNC_QUERY (R74): Returns an object's state, kind, value, threshold and completion count. -/
  | syncQuery (m : Nat)
  /-- SYNC_CANCEL (R74): Cancels a registered waiter. -/
  | syncCancel (m : Nat)
  /-- UNKNOWN_OPCODE (R11): A mailbox opcode not implemented completes with NOT_SUPPORTED. -/
  | unknownOpcode (m : Nat)
  /-- MAILBOX_CLAIM (R358): A non-zero write to OWNER claims a free mailbox. -/
  | mailboxClaim (m : Nat) (v : Word)
  /-- MAILBOX_RELEASE (R358): A zero write to OWNER frees an idle or done mailbox. -/
  | mailboxRelease (m : Nat)
  /-- DOORBELL (R359): A doorbell write submits the command in the area when owner, phase and tag allow, else sets DB_REJECT. -/
  | doorbell (m : Nat) (v : Word)
  /-- COMMAND_TAKE (R359): Firmware takes the oldest PENDING command, copies it and marks it RUNNING. -/
  | commandTake
  /-- COMMAND_COMPLETE (R362): A command's response is written, PHASE set to DONE and the vector or event raised. -/
  | commandComplete (m : Nat)
  /-- DEVICE_RESET (R378): A write of TOP.RESET with key 0xA5 and GO flushes lifetime records and restarts the device from boot. -/
  | deviceReset (v : Word)
  /-- TIME_STEP (R32): A write to TIME.STEP_LO steps package time forward when allowed, else sets STEP_REFUSED. -/
  | timeStep (v : Word)
  /-- TIME_CONTROL_WRITE (R37): A write to TIME.CONTROL selects source and sync settings, clearing LOCKED and HOLDOVER on a source change. -/
  | timeControlWrite (v : Word)
  /-- EVQ_CTRL_WRITE (R365): A write to EVQ_CTRL enables or disables the event queue and, while disabled, applies its size. -/
  | evqCtrlWrite (v : Word)
  /-- EVQ_HEAD_WRITE (R366): Host software advances the event queue head. -/
  | evqHeadWrite (v : Word)
  /-- WATERMARK_CLEAR (R406): A write of 1 to WM_STATUS.CROSSED clears it, ordered against crossings. -/
  | watermarkClear (q : Nat) (inst : Nat) (v : Word)
  /-- ALIAS_SET (R354): A write to the +0x4000 alias sets the written bits of RW fields atomically. -/
  | aliasSet (addr : Nat) (v : Word)
  /-- ALIAS_CLEAR (R354): A write to the +0x8000 alias clears the written bits of RW fields atomically. -/
  | aliasClear (addr : Nat) (v : Word)
  /-- ALIAS_INVERT (R354): A write to the +0xC000 alias inverts the written bits of RW fields atomically. -/
  | aliasInvert (addr : Nat) (v : Word)
  /-- REGISTER_WRITE (R349): A write to a register with no behaviour of its own, including misaligned or wrong-size accesses. -/
  | registerWrite (bar : Nat) (addr : Nat) (size : Nat) (v : BitVec 64)
  /-- FAR_WRITE_APPLIED (R351): A posted far-block write is applied and BUSY clears. -/
  | farWriteApplied (blk : Nat)
  /-- FAR_READ_TIMEOUT (R351): A far-block read unanswered within 2 µs returns all ones and sets TIMEOUT. -/
  | farReadTimeout (blk : Nat)
  /-- STEP_QUERY (R179): A decode query for one layer of one token is checked and accepted, held or refused. -/
  | stepQuery (c : Nat)
  /-- CHUNK_SUBMIT (R206): One part of a prefill chunk layer is checked and accepted or refused. -/
  | chunkSubmit (c : Nat)
  /-- STATE_PUSH_OPEN (R125): A destination tests and commits frames for an incoming move and accepts or refuses it. -/
  | statePushOpen (c : Nat)
  /-- STATE_PUSH_PAGE (R129): A page fragment arrives and is written into the committed frame or slot. -/
  | statePushPage (c : Nat)
  /-- STATE_PUSH_CUTOVER (R133): Cutover reaches the destination and held messages join the next step. -/
  | statePushCutover (c : Nat)
  /-- STATE_PUSH_ABORT (R138): A peer's abort ends the move at this end. -/
  | statePushAbort (c : Nat)
  /-- STATE_PULL_OPEN (R127): A source is asked to push a context under RESUME. -/
  | statePullOpen (c : Nat)
  /-- STATE_PULL_COPY (R142): A donor is asked to send prefix pages of an attach. -/
  | statePullCopy (c : Nat)
  /-- STATE_PULL_PAGE (R136): A source is asked to resend one page with a new attempt. -/
  | statePullPage (c : Nat)
  /-- STATE_ACK_OPEN (R127): The destination's acceptance arrives, completing MOVE_START and granting credits. -/
  | stateAckOpen (c : Nat)
  /-- STATE_ACK_PULL (R127): The source's answer to a pull arrives at the destination. -/
  | stateAckPull (c : Nat)
  /-- STATE_ACK_PAGE (R130): A page acknowledgement with credits, or a STALLED or CHECK_FAIL report, arrives at the source. -/
  | stateAckPage (c : Nat)
  /-- STATE_ACK_CREDIT (R130): Fragment credits are returned to the source. -/
  | stateAckCredit (c : Nat)
  /-- STATE_ACK_CUTOVER (R305): The destination's acknowledgement of CUTOVER arrives. -/
  | stateAckCutover (c : Nat)
  /-- STATE_ACK_DONE (R134): The destination's completion arrives; the source context enters DRAINING. -/
  | stateAckDone (c : Nat)
  /-- DRAIN_MARK_MARK (R135): A drain marker is echoed after every earlier message of its connection is delivered. -/
  | drainMarkMark (c : Nat)
  /-- DRAIN_MARK_ECHO (R134): An echo marks its connection drained; all drained sends COMPLETE. -/
  | drainMarkEcho (c : Nat)
  /-- DRAIN_MARK_COMPLETE (R134): The destination completes the move once every page is acknowledged. -/
  | drainMarkComplete (c : Nat)
  /-- MOVE_PAGE_PUSH (R128): A ready page is pushed as fragments while credits are held. -/
  | movePagePush (r : Nat)
  /-- SEARCH_QUERY (R256): A QUERY search request is checked and accepted with its snapshot. -/
  | searchQuery (c : Nat)
  /-- SEARCH_INSERT (R265): An INSERT is appended to the side list with the next sequence number. -/
  | searchInsert (c : Nat)
  /-- SEARCH_DELETE (R265): A DELETE tombstone is appended to the side list. -/
  | searchDelete (c : Nat)
  /-- MEM_READ (R321): A remote read of a registered region or signal word is checked and served. -/
  | memRead (c : Nat)
  /-- MEM_WRITE (R321): A remote write is checked and applied, invalidating subscribers where required. -/
  | memWrite (c : Nat)
  /-- MEM_ATOMIC (R320): A remote atomic on an aligned word is applied and its old value returned. -/
  | memAtomic (c : Nat)
  /-- MEM_COMPLETION (R319): The answer to an outstanding load, store, atomic or invalidate arrives. -/
  | memCompletion (c : Nat)
  /-- INVALIDATE (R323): An invalidation of a granule or line arrives and is answered. -/
  | invalidate (c : Nat)
  /-- SEND (R311): A SEND message is written into the oldest posted buffer and answered. -/
  | send (c : Nat)
  /-- SEND_ACK (R311): The acknowledgement of a sent SEND arrives. -/
  | sendAck (c : Nat)
  /-- SEND_ACK_CREDIT (R313): A control cell returns credit units of a connection. -/
  | sendAckCredit (c : Nat)
  /-- SEND_ACK_GRANT (R307): A grant sets the units held on first receipt and moves the connection to OPEN. -/
  | sendAckGrant (c : Nat)
  /-- TIME_SYNC_REQUEST (R35): A TIME_SYNC request is answered with receive and send times. -/
  | timeSyncRequest (port : Nat) (msg : TimeSync)
  /-- TIME_SYNC_RESPONSE (R35): A TIME_SYNC response gives an offset that steers package time. -/
  | timeSyncResponse (port : Nat) (msg : TimeSync)
  /-- UNKNOWN_MESSAGE (R11): A message of unimplemented type is discarded and counted, answered NOT_SUPPORTED where expected. -/
  | unknownMessage (c : Nat)
  /-- CELL_RECEIVE (R314): A cell frame is checked and written into its reassembly slot. -/
  | cellReceive (port : Nat)
  /-- MESSAGE_DELIVER (R316): The reorder point delivers completed messages in sequence after the checks of R306. -/
  | messageDeliver (c : Nat) (rsp : Bool)
  /-- REASSEMBLY_TIMEOUT (R314): A slot not completed within the completion timeout is discarded and becomes a gap. -/
  | reassemblyTimeout (c : Nat) (rsp : Bool) (id : Nat)
  /-- REORDER_SKIP (R316): An expected sequence missing past the completion timeout is skipped and counted lost. -/
  | reorderSkip (c : Nat) (rsp : Bool)
  /-- COMPLETION_TIMEOUT (R317): A request unanswered within its connection timeout completes with TIMEOUT. -/
  | completionTimeout (req : Nat)
  /-- CREDIT_RETURN_TIMER (R313): Owed credits with no message for 2 µs are returned in a SEND_ACK CREDIT. -/
  | creditReturnTimer (c : Nat)
  /-- CONN_GRANT_TIMER (R307): An OPENING connection resends its grants every 100 µs. -/
  | connGrantTimer (c : Nat)
  /-- CONN_CLOSED (R307): A closing connection enters CLOSED once reassembly drains or times out. -/
  | connClosed (c : Nat)
  /-- INVALIDATE_TIMEOUT (R323): A subscriber or member not answering an invalidation times out and is counted or resent. -/
  | invalidateTimeout (req : Nat)
  /-- COHERENT_REQUEST (R326): A waiting coherent-line request is taken by the home when the line frees. -/
  | coherentRequest (line : Nat)
  /-- DATA_FRAME_RECEIVE (R283): A DATA frame is accepted in sequence and acknowledged, or a NAK is sent. -/
  | dataFrameReceive (port : Nat) (flits : List Flit)
  /-- LINK_ACK (R282): An ACK flit releases acknowledged frames and resets the retry count. -/
  | linkAck (port : Nat) (f : LinkFlit)
  /-- LINK_NAK (R284): A NAK flit triggers replay from the expected sequence. -/
  | linkNak (port : Nat) (f : LinkFlit)
  /-- LANE_REQ (R288): A lane request leads the transmitter to send LANE_MAP or DOWN at the next frame boundary. -/
  | laneReq (port : Nat) (f : LinkFlit)
  /-- LANE_MAP (R288): A new transmit map arrives and destriping resumes. -/
  | laneMap (port : Nat) (f : LinkFlit)
  /-- LINK_DOWN (R291): A DOWN flit from the peer takes the port to DOWN with cause PEER. -/
  | linkDown (port : Nat) (f : LinkFlit)
  /-- CAL_REQ (R298): A calibration request asks the transmitter to idle a lane for a hold. -/
  | calReq (port : Nat) (f : LinkFlit)
  /-- HELLO (R299): A HELLO is answered with HELLO_ACK carrying session and times. -/
  | hello (port : Nat) (msg : LinkCtrl)
  /-- HELLO_ACK (R293): A HELLO_ACK gives the round trip and peer session of a bring-up. -/
  | helloAck (port : Nat) (msg : LinkCtrl)
  /-- LINK_RETRAIN (R290): A peer RETRAIN takes the port into RETRAIN. -/
  | linkRetrain (port : Nat) (msg : LinkCtrl)
  /-- RETRY_TIMER (R284): A class's retry timer expires and unacknowledged frames are replayed. -/
  | retryTimer (port : Nat) (express : Bool)
  /-- RETRY_LIMIT (R285): A class reaching 8 retries takes the port into RETRAIN. -/
  | retryLimit (port : Nat)
  /-- LANE_LOCK_LOSS (R287): A receive lane losing lock stops delivery and sends LANE_REQ and NAKs. -/
  | laneLockLoss (port : Nat) (lane : LostLane)
  /-- LANE_REJOIN (R289): A lane stable for 100 µs is offered back with LANE_REQ. -/
  | laneRejoin (port : Nat) (lane : Nat)
  /-- LANE_KEEPOUT (R289): A lane losing lock 4 times in 1 s is kept out of the map. -/
  | laneKeepout (port : Nat) (lane : Nat)
  /-- LANE_KEEPOUT_END (R289): A kept-out lane's 1 s exclusion ends. -/
  | laneKeepoutEnd (port : Nat) (lane : Nat)
  /-- LASER_LANE_LOW (R275): A lane's laser input below threshold removes it from the transmit map. -/
  | laserLaneLow (port : Nat) (lane : Nat)
  /-- LASER_ALL_LOW (R275): All lanes' laser input low for 10 µs takes the port to DOWN with cause LASER. -/
  | laserAllLow (port : Nat)
  /-- LIGHT_LOST (R290): No received light for 10 µs takes a training or down port to DARK. -/
  | lightLost (port : Nat)
  /-- LIGHT_PRESENT (R290): Light returns and a DARK port returns to its earlier state. -/
  | lightPresent (port : Nat)
  /-- BRINGUP_ATTEMPT (R293): A bring-up attempt starts, succeeding to UP or failing with a cause. -/
  | bringupAttempt (port : Nat) (locked : BitVec 16)
  /-- BRINGUP_TIMEOUT (R293): An attempt without both maps after 2 ms fails with LANES or PEER. -/
  | bringupTimeout (port : Nat)
  /-- RETRAIN_TIMEOUT (R290): RETRAIN lasting 1 ms takes the port to DOWN. -/
  | retrainTimeout (port : Nat)
  /-- FLAP_HOLD_ENTRY (R290): The 8th entry to DOWN within 1 s takes the port to FLAP_HOLD. -/
  | flapHoldEntry (port : Nat)
  /-- FLAP_HOLD_END (R290): FLAP_HOLD ends after 1 s and bring-up resumes. -/
  | flapHoldEnd (port : Nat)
  /-- HOLD_WINDOW_EXPIRY (R295): Held frames are rerouted or completed with PORT_DOWN. -/
  | holdWindowExpiry (port : Nat)
  /-- PORT_DISABLE_DONE (R296): A disabling port, once acknowledged or past its window, sends DOWN and enters DISABLED. -/
  | portDisableDone (port : Nat)
  /-- LINK_REPEAT_TIMER (R280): Unanswered LANE_REQ, CAL_REQ or HELLO is repeated. -/
  | linkRepeatTimer (port : Nat)
  /-- TUNING_PERIOD (R297): Every 1 ms each lane's tuning loop applies a trim or schedules a hold. -/
  | tuningPeriod (port : Nat) (lane : Nat) (act : TuneAct)
  /-- CALIBRATION_HOLD (R298): A hold is made at a frame boundary by idling every lane for the hold time. -/
  | calibrationHold (port : Nat) (lane : HeldLane) (ns : Nat)
  /-- BOND_MEMBER_RETURN (R301): A member back to UP rejoins its group if skew allows, else raises a bond event. -/
  | bondMemberReturn (port : Nat) (skew : Nat)
  /-- FRAME_START (R334): The transmitter starts the next frame from the highest eligible queue. -/
  | frameStart (port : Nat)
  /-- GATE_ENTRY_CHANGE (R340): The next gate list entry comes into force. -/
  | gateEntryChange (port : Nat)
  /-- GATE_LIST_SWITCH (R343): A pending gate list becomes operational at its switch instant. -/
  | gateListSwitch (port : Nat)
  /-- EGRESS_SAMPLE (R344): Every 1,000 ns each egress queue's depth and delay are binned. -/
  | egressSample
  /-- STEP_BOUNDARY (R107): A boundary is settled, frees applied, frames given and a step formed. -/
  | stepBoundary
  /-- IDLE_BOUNDARY (R445): A settlement forming no step applies pending boundary effects. -/
  | idleBoundary
  /-- ITEM_STARVED (R155): An item passed over at A_age boundaries becomes starved. -/
  | itemStarved (i : Nat)
  /-- MEMBER_LAYER_START (R182): A member's layer starts: the token is appended and the slice plan formed. -/
  | memberLayerStart (i : Nat)
  /-- SCORE_BUFFER_GRANT (R220): A waiting slice or unit is granted its score buffer and starts. -/
  | scoreBufferGrant (crest : Nat)
  /-- SLICE_COMPLETE (R188): A Hawkmoth slice finishes its three passes and sends its partial. -/
  | sliceComplete (i : Nat) (k : Nat)
  /-- PARTIAL_ARRIVE (R190): A slice or Skipper partial reaches the merge die and is combined. -/
  | partialArrive (i : Nat) (k : Nat)
  /-- CHUNK_APPEND_DONE (R209): A chunk's page append completes, releasing tiles that read it. -/
  | chunkAppendDone (i : Nat) (p : Nat)
  /-- RIDGE_UNIT_COMPLETE (R213): A Ridge unit returns its partials for each active row. -/
  | ridgeUnitComplete (i : Nat) (h : Nat) (b : Nat) (seg : Nat)
  /-- PAGE_RECOMPUTE (R193): A slice or unit reading an uncorrectable word waits for restoration and is recomputed or poisoned. -/
  | pageRecompute (i : Nat) (obj : Nat) (tier : Nat)
  /-- HOLD_TIMER_EXPIRY (R166): A member waiting past the hold limit is detached from its step. -/
  | holdTimerExpiry (i : Nat)
  /-- STEP_END (R154): A step's members have all completed or detached and its slot frees. -/
  | stepEnd (n : Nat)
  /-- MEMBER_GROUP_COMPLETE (R169): A member completes its group, measuring slowdown and accounting. -/
  | memberGroupComplete (i : Nat)
  /-- STRAGGLER (R172): A context above threshold for N items raises a straggler event. -/
  | straggler (ctx : Nat)
  /-- BASELINE_READY (R169): After 1,024 steps NO_BASELINE clears and slowdown sampling starts. -/
  | baselineReady
  /-- HELD_MESSAGE_TIMEOUT (R133): A held message not joined within 500 ms completes with STATE_REJECT. -/
  | heldMessageTimeout (ctx : Nat)
  /-- PROMOTION_COMPLETE (R99): A promotion into a faster tier completes and the page becomes present. -/
  | promotionComplete (obj : Nat)
  /-- WRITE_DOWN_COMPLETE (R240): A demotion or narrowing completes and the page entry is updated in one step. -/
  | writeDownComplete (obj : Nat)
  /-- PENDING_DEMOTION_START (R100): A page pending demotion starts its write-down when room appears. -/
  | pendingDemotionStart
  /-- TIER0_WRITE_BACK (R92): A tier-0 tail copy is written back to tier 1. -/
  | tier0WriteBack (obj : Nat)
  /-- ENGINE_POWER_DOWN (R157): An engine class not kept powered is powered down after 10 ms without work. -/
  | enginePowerDown (cls : EngineClass)
  /-- ENGINE_POWER_READY (R157): A powered-up engine class reports ready and its members start. -/
  | enginePowerReady (cls : EngineClass)
  /-- ROLE_SET_TIMEOUT (R145): A draining ROLE_SET not done within 5 ms completes with TIMEOUT. -/
  | roleSetTimeout
  /-- TTL_EXPIRY (R57): A PARKED context's time to live expires and it enters DRAINING. -/
  | ttlExpiry (ctx : Nat)
  /-- CONTEXT_FREED (R50): A DRAINING context with zero references enters FREE. -/
  | contextFreed (ctx : Nat)
  /-- SYNC_WAIT_TIMEOUT (R71): A MAILBOX waiter's timeout expires and SYNC_WAIT completes with TIMEOUT. -/
  | syncWaitTimeout (summit : Nat) (w : Nat)
  /-- STALL_TIMER_EXPIRY (R136): A partial page is discarded, marked REFETCH and pulled again. -/
  | stallTimerExpiry (r : Nat) (layer : Nat) (page : Nat)
  /-- PAGE_ACK_TIMEOUT (R136): An unacknowledged page is resent with the next attempt. -/
  | pageAckTimeout (r : Nat) (layer : Nat) (page : Nat)
  /-- MOVE_OPEN_TIMEOUT (R138): An unanswered OPEN aborts the move with TIMEOUT. -/
  | moveOpenTimeout (r : Nat)
  /-- DRAIN_TIMEOUT (R134): A connection without an ECHO counts as drained at the completion timeout. -/
  | drainTimeout (r : Nat) (c : Nat)
  /-- MOVE_RECORD_EXPIRY (R147): An ended move's record stops being queryable after 1 s. -/
  | moveRecordExpiry (r : Nat)
  /-- SEARCH_BATCH_WINDOW (R257): The batching window ends or 64 queries wait, and centroid units are formed. -/
  | searchBatchWindow (idx : Nat)
  /-- CENTROID_UNIT_COMPLETE (R258): A centroid unit returns its best candidates for each query. -/
  | centroidUnitComplete (unit : Nat) (bad : Bool)
  /-- LIST_BLOCK_SCAN (R259): A Luna engine scans a list or side block for its waiting queries. -/
  | listBlockScan (crest : Nat) (idx : Nat) (blk : Nat) (bad : Bool)
  /-- SEARCH_QUERY_TIMEOUT (R256): A query not completed in 500 ms completes with TIMEOUT. -/
  | searchQueryTimeout (q : Nat)
  /-- INDEX_MERGE_SWITCH (R266): The merged lists take effect in one update and the generation increments. -/
  | indexMergeSwitch (idx : Nat)
  /-- INDEX_RETIRED (R250): A RETIRING index with nothing in flight is zeroed and returned to NONE. -/
  | indexRetired (idx : Nat)
  /-- OLD_GENERATION_FREE (R266): Old index blocks are freed when the last query on them completes. -/
  | oldGenerationFree (idx : Nat) (gen : Nat)
  /-- POWER_GOOD (R379): Power good starts boot phase 1. -/
  | powerGood
  /-- POWER_LOST (R428): POWER_GOOD deasserted, a rail out of tolerance or a reference clock break stops the device into OFF. -/
  | powerLost
  /-- POWER_WARN (R428): POWER_WARN_N asserted starts a lifetime store write. -/
  | powerWarn
  /-- PERST_ASSERT (R436): PERST_N asserted resets the device and endpoint. -/
  | perstAssert
  /-- PERST_RELEASE (R436): PERST_N released lets boot proceed from phase 1. -/
  | perstRelease
  /-- PCIE_FUNCTION_RESET (R436): FLR, hot reset or link down resets mailboxes and disables the event queue. -/
  | pcieFunctionReset
  /-- FIBRE_UNMATED (R421): A connector unmated drives LASER_EN low and takes the port DOWN with cause LASER. -/
  | fibreUnmated (port : Nat)
  /-- FIBRE_MATED (R421): A connector mated again drives LASER_EN high and bring-up resumes. -/
  | fibreMated (port : Nat)
  /-- TX_REFCLK_LOSS (R433): TX_REFCLK lost for 1 µs takes every enabled port DOWN with cause LANES. -/
  | txRefclkLoss
  /-- TX_REFCLK_RETURN (R433): TX_REFCLK returns and bring-up resumes. -/
  | txRefclkReturn
  /-- I3C_IBI (R439): A laser module in-band interrupt may take a port DOWN with cause LASER. -/
  | i3cIbi (mdb : Byte)
  /-- SMBUS_BLOCK_READ (R440): An I2C block read returns a status word by command code. -/
  | smbusBlockRead (code : Byte)
  /-- JTAG_INSTRUCTION (R441): A test access port instruction is loaded and applied. -/
  | jtagInstruction (ins : JtagIns)
  /-- PPS_EDGE (R33): A 1 PPS rising edge is captured and accepted or rejected to steer time. -/
  | ppsEdge
  /-- PPS_HOLDOVER (R33): No accepted edge for 2.5 s sets HOLDOVER and clears LOCKED. -/
  | ppsHoldover
  /-- PPS_OUT_RISE (R34): PPS_OUT rises when package time crosses a whole second. -/
  | ppsOutRise
  /-- PPS_OUT_FALL (R34): PPS_OUT falls 100 µs after rising. -/
  | ppsOutFall
  /-- SYNC_INTERVAL (R35): A TIME_SYNC request is sent once per sync interval. -/
  | syncInterval
  /-- SYNC_LOST (R35): No valid exchange for 16 intervals sets SYNC_LOST. -/
  | syncLost
  /-- TIME_LOCKED (R35): 16 consecutive good measurements set LOCKED. -/
  | timeLocked
  /-- TIME_CORRECTION (R29): Summit 0 sends a package time correction to every die each 1 ms. -/
  | timeCorrection
  /-- BOOT_ROM_DONE (R40): Summit boot ROM tests end or time out and candidates are known. -/
  | bootRomDone (passed : BitVec 4)
  /-- FIRMWARE_VERIFY (R382): A candidate Summit verifies the firmware slots and becomes primary or fails. -/
  | firmwareVerify
  /-- CONFIG_APPLY (R385): The configuration image is checked and applied or defaults used. -/
  | configApply
  /-- TRAINING_DONE (R389): Stack training ends and the device enters SELFTEST or FAULTED. -/
  | trainingDone (trained : BitVec 16) (devices : List Nat)
  /-- STARTUP_SELFTEST_DONE (R392): Start-up self-test ends and the device enters READY or FAULTED. -/
  | startupSelftestDone (failed : BitVec 64) (links : List Nat) (repaired : List Nat)
  /-- INTERFACE_RETRAIN (R391): Every 100 ms a Saddle remeasures its interface timing. -/
  | interfaceRetrain (stack : Nat) (margin : Nat) (low : Bool)
  /-- SELFTEST_SLICE_START (R394): A die is chosen for an in-service slice and fencing begins. -/
  | selftestSliceStart (die : Nat)
  /-- SELFTEST_FENCED (R395): Work on a fencing die has drained; FENCED sets and the slice runs. -/
  | selftestFenced (die : Nat)
  /-- SELFTEST_SLICE_END (R399): A slice ends; pass lifts the fence, failure declares the die failed. -/
  | selftestSliceEnd (die : Nat) (pass : Bool) (repaired : Nat)
  /-- PATROL_READ (R414): A Saddle patrol reads words of its stack and checks full pages. -/
  | patrolRead (stack : Nat) (frame : Nat) (found : WordFinding)
  /-- CXL_SURPRISE_REMOVAL (R437): A removed Type-3 device makes its units uncorrectable. -/
  | cxlSurpriseRemoval (device : Nat)
  /-- TEMPERATURE_SAMPLE (R430): Each 1 ms junction temperatures are sampled and thermal throttle steps applied. -/
  | temperatureSample (temps : List Nat)
  /-- THERMTRIP (R430): A die at 115 °C asserts THERMTRIP_N, stops clocks and lasers. -/
  | thermtrip (die : Nat)
  /-- POWER_SAMPLE (R425): Every 100 µs rail voltages and currents are read and P updated. -/
  | powerSample (rails : List RailReading)
  /-- RAIL_OVERCURRENT (R430): A rail above its limit for 20 µs halves Crest clocks. -/
  | railOvercurrent (rail : Nat)
  /-- SUPPLY_DROOP (R426): A local droop beyond 50 mV stretches the die's logic clocks. -/
  | supplyDroop (die : Nat) (mv : Nat)
  /-- AVS_ADJUST (R424): An AVS rail target is moved by at most 10 mV. -/
  | avsAdjust (rail : Nat) (mv : Nat)
  /-- TELEMETRY_REFRESH (R403): Every 1,000 ns each die refreshes its queue telemetry registers. -/
  | telemetryRefresh
  /-- LIFETIME_WRITE (R411): Every 10 minutes lifetime records are written to primary and mirror. -/
  | lifetimeWrite
  /-- QUEUE_CREDIT_RETURN (R22): A consumer frees an entry and returns the credit, letting a waiting producer send. -/
  | queueCreditReturn (q : Nat) (inst : Nat) (prod : Nat)
  /-- MESH_TRANSFER_RECEIVE (R21): A mesh transfer arrives and is checked, replayed on CRC failure. -/
  | meshTransferReceive (link : Nat) (dir : Nat) (cls : MeshClass) (good : Bool)
  /-- LASER_INPUT_RESTORED (R275): A lane's laser input power, once below the lane threshold, returns above it, so the lane is no longer excluded from the transmit map and may rejoin through LANE_REQ. -/
  | laserInputRestored (port : Nat) (lane : Nat)
  /-- PCIE_READ_COMPLETION (R435): A PCIe completion for a read of host memory that the SZ864 mastered arrives, good, poisoned or in error, and the HOST region access, SEND_POST, INDEX_LOAD, CFG_LOAD or FW_LOAD that issued it continues or fails. -/
  | pcieReadCompletion (req : Nat) (good : Bool) (data : List Byte)
  deriving DecidableEq, Repr

end Sys2Proof
end

