-- ==== Sys2Proof/Decode.lean ====
section
/-! DEFINITION. The command that a word spells. The table gives no row any bits: a command reaches the block as a
mailbox opcode, a register address, a message type or an event, each handled where it arrives, so no word spells one. -/

namespace Sys2Proof

/-- The command spelt by an `nbits`-bit word: none, since no row of the table has bits. -/
def decodeTableWord (_nbits _w : Nat) : Option Instr := none

end Sys2Proof
end

