-- ==== Sys2Proof/Config.lean ====
section
/-! DEFINITION. What the manual leaves to an implementation or does not say: each constant here has no body, so nothing
can be proved of its value. A choice among free names is drawn by `pick`, applied to the count of choices so far. -/

namespace Sys2Proof.Config

/-- Which of the free IDs or frames is taken, where the manual does not say. -/
opaque pick : Nat → Nat

/-- Whether a cosine or sine (R184, within 1 ulp) is the rounded-down or the rounded-up neighbour, by angle and function. -/
opaque trigUp : Nat → Bool → Bool

/-- The servo's rate law of R31, from the measurement's number and the offset in ns; its answer is clamped to ±200,000. -/
opaque servoRate : Nat → Int → Int

/-- The link session number of a bring-up (R290), by port and the count of choices so far. -/
opaque session : Nat → Nat → Nat

/-- Whether a signature of R382 and R383 verifies: the signed bytes and the signature's bytes (ECDSA P-384 over SHA-384
under a key the manual does not give). -/
opaque signatureOk : List Byte → List Byte → Bool

/-- The digest of a public key compared with the fused one (R382). -/
opaque keyDigestOk : List Byte → Bool

/-- The heater code that a trim leaves (R297, R303), by port, direction, lane and the count of trims. -/
opaque heaterCode : Nat → Nat → Nat → Nat → Nat

/-- The optical power that LANE_QUERY reports (R303), by port, direction and lane and package time. -/
opaque opticalPower : Nat → Nat → Nat → Nat → Nat

/-- The shift of an in-service self-test's remaining time (R397) that BUSY_TEST reports, in µs, by die and package time. -/
opaque busyUs : Nat → Nat → Nat

/-- ENTRY_CHECK of R87, whose code R86 does not write out, by the 165 bits it covers. -/
opaque entryCheck : Nat → Nat

/-- DIGEST_CHECK of R87, by DIGEST. -/
opaque digestCheck : Nat → Nat

/-- A byte of a lifetime record's image (R411, LIFETIME_READ), whose layout R410 does not give: by die, by the record's contents
as numbers, and by offset. -/
opaque lifeByte : Nat → List Nat → Nat → BitVec 8

/-- The factory defaults rendered as a configuration image (R400, CFG_READ), whose record order R386 does not give. -/
opaque factoryImage : List (BitVec 8)

/-- The die of a quartet, 0 to 3, at which a quartet link ends, by link and end (R18 does not name it). -/
opaque quartetEnd : Nat → Nat → Nat

/-- The distribution delay of package time to a die in ns, as start-up measures it (R29). -/
opaque timeDelay : Nat → Nat

end Sys2Proof.Config
end

