-- ==== Sys2Proof/Machine/Bytes.lean ====
section
/-! DEFINITION. Little-endian fields of byte strings (the notation section of 00_scope.md), sparse tables keyed by a
number, and CRC-32C (R101). -/

namespace Sys2Proof.Machine

/-- The `n` bytes of `v`, least significant first. -/
def le : Nat → Nat → List Byte
  | 0, _ => []
  | n + 1, v => BitVec.ofNat 8 v :: le n (v / 256)

/-- The number that `n` bytes at offset `off` spell, least significant first; bytes past the end read as 0. -/
def rd (bs : List Byte) (off : Nat) : Nat → Nat
  | 0 => 0
  | n + 1 => (bs[off]?.getD 0).toNat + 256 * rd bs (off + 1) n

/-- `n` zero bytes: a reserved part of a layout (R12). -/
def zeros (n : Nat) : List Byte := List.replicate n 0

/-- `bs` cut or zero-filled to exactly `n` bytes. -/
def fit (n : Nat) (bs : List Byte) : List Byte := bs.take n ++ zeros (n - bs.length)

/-- Bits `[hi:lo]` of a number. -/
def bits (v hi lo : Nat) : Nat := (v / 2 ^ lo) % 2 ^ (hi + 1 - lo)

/-- Bit `i` of a number. -/
def bit (v i : Nat) : Bool := (v / 2 ^ i) % 2 == 1

/-- A truth value as a bit. -/
def b2n (b : Bool) : Nat := if b then 1 else 0

/-- Division rounded up. -/
def ceilDiv (a b : Nat) : Nat := (a + b - 1) / b

/-- `a` rounded up to a multiple of `b`. -/
def roundUp (a b : Nat) : Nat := ceilDiv a b * b

/-- The 40-bit form of a rate counter (R401): the value in `[31:0]`, the wrap count in `[39:32]`. -/
abbrev Rate := BitVec 40

/-- A rate counter in the 8-byte form of R173. -/
def Rate.bytes (r : Rate) : List Byte := le 8 r.toNat

/-- A rate counter raised by `n` (R401): the value wraps to 0 and carries into the wrap count, modulo 256. -/
def Rate.up (r : Rate) (n : Nat := 1) : Rate := r + BitVec.ofNat 40 n

/-- A lifetime counter (R401): 48 bits, held at its limit with a sticky SAT bit. -/
structure Lifetime where
  count : Nat := 0
  sat : Bool := false
  deriving DecidableEq, Repr

/-- A lifetime counter raised by `n` (R401). -/
def Lifetime.up (c : Lifetime) (n : Nat := 1) : Lifetime :=
  if c.count + n > 2 ^ 48 - 1 then { count := 2 ^ 48 - 1, sat := true } else { c with count := c.count + n }

/-- A lifetime counter in a command payload (R402): `[47:0]` the count, `[63]` SAT. -/
def Lifetime.bytes (c : Lifetime) : List Byte := le 8 (c.count + b2n c.sat * 2 ^ 63)

/-- One step of the reflected CRC-32C division (R101). -/
def crcBit (c : BitVec 32) : BitVec 32 := if c.getLsbD 0 then (c >>> 1) ^^^ 0x82F63B78#32 else c >>> 1

/-- One byte of the CRC-32C of R101. -/
def crcByte (c : BitVec 32) (b : Byte) : BitVec 32 :=
  crcBit (crcBit (crcBit (crcBit (crcBit (crcBit (crcBit (crcBit (c ^^^ b.setWidth 32))))))))

/-- CRC-32C: polynomial 0x1EDC_6F41 reflected, initial value and final exclusive OR all ones (R101). -/
def crc32c (bs : List Byte) : BitVec 32 := (bs.foldl crcByte 0xFFFFFFFF#32) ^^^ 0xFFFFFFFF#32

/-- A sparse table keyed by number, keys strictly rising. -/
abbrev Tbl (α : Type) := List (Nat × α)

/-- The entry of key `k`, if the table holds one. -/
def Tbl.get? {α : Type} : Tbl α → Nat → Option α
  | [], _ => none
  | (j, v) :: rest, k => if j = k then some v else Tbl.get? rest k

/-- The entry of key `k`, or `d`. -/
def Tbl.getD {α : Type} (t : Tbl α) (k : Nat) (d : α) : α := (t.get? k).getD d

/-- The table with key `k` set to `v`, keys still rising. -/
def Tbl.set {α : Type} : Tbl α → Nat → α → Tbl α
  | [], k, v => [(k, v)]
  | (j, w) :: rest, k, v =>
    if k < j then (k, v) :: (j, w) :: rest
    else if k = j then (k, v) :: rest
    else (j, w) :: Tbl.set rest k v

/-- The table without key `k`. -/
def Tbl.del {α : Type} (t : Tbl α) (k : Nat) : Tbl α := t.filter (fun e => e.1 != k)

/-- The table with the entry of key `k`, where there is one, changed by `f`. -/
def Tbl.upd {α : Type} (t : Tbl α) (k : Nat) (f : α → α) : Tbl α :=
  match t.get? k with
  | some v => t.set k (f v)
  | none => t

/-- The table with the entry of key `k`, taken as `d` where there is none, changed by `f`. -/
def Tbl.updD {α : Type} (t : Tbl α) (k : Nat) (d : α) (f : α → α) : Tbl α := t.set k (f (t.getD k d))

/-- The table with every entry changed by `f`. -/
def Tbl.mapVal {α β : Type} (t : Tbl α) (f : Nat → α → β) : Tbl β := t.map (fun e => (e.1, f e.1 e.2))

/-- The entries, keys left out. -/
def Tbl.vals {α : Type} (t : Tbl α) : List α := t.map Prod.snd

/-- The keys. -/
def Tbl.keys {α : Type} (t : Tbl α) : List Nat := t.map Prod.fst

/-- Keys strictly rising: the canonical form of a table. -/
def Tbl.wf {α : Type} : Tbl α → Bool
  | [] => true
  | [_] => true
  | (j, _) :: (k, v) :: rest => j < k && Tbl.wf ((k, v) :: rest)

/-- The `k`-th number, counting from 0, that is at least `from_` and not in `used` (rising). The one choice by which
the model picks a free name (frame, waiter, domain, region, move) where the manual does not say which. -/
def nthFree : List Nat → Nat → Nat → Nat
  | [], from_, k => from_ + k
  | u :: used, from_, k =>
    if u < from_ then nthFree used from_ k
    else if from_ + k < u then from_ + k
    else nthFree used (u + 1) (k - (u - from_))

/-- The least value of a list, or `d` for the empty list. -/
def minD (d : Nat) : List Nat → Nat
  | [] => d
  | x :: xs => xs.foldl min x

/-- The greatest value of a list, or 0 for the empty list. -/
def maxL (xs : List Nat) : Nat := xs.foldl max 0

/-- The sum of a list. -/
def sumL (xs : List Nat) : Nat := xs.foldl (· + ·) 0

/-- Insertion into a list ordered by `lt`, after its equals. -/
def insertBy {α : Type} (lt : α → α → Bool) (x : α) : List α → List α
  | [] => [x]
  | y :: ys => if lt x y then x :: y :: ys else y :: insertBy lt x ys

/-- A stable sort by `lt`. -/
def sortBy {α : Type} (lt : α → α → Bool) (xs : List α) : List α := xs.foldl (fun acc x => insertBy lt x acc) []

/-- Cut a list into pieces of `n` elements; `fuel` bounds the number of pieces. -/
def chunksOf {α : Type} (n : Nat) : Nat → List α → List (List α)
  | 0, _ => []
  | _ + 1, [] => []
  | fuel + 1, xs => xs.take n :: chunksOf n fuel (xs.drop n)

end Sys2Proof.Machine
end

