-- ==== Sys2Proof/Machine/Fp.lean ====
section
/-! DEFINITION. FP32 arithmetic (R189, R234): round to nearest even, keep subnormals, saturate at the largest
magnitude in place of infinity. Operations run in `Num`, which counts saturations (R189) and special values
decoded as zero (R230, R259). -/

namespace Sys2Proof.Machine

/-- An FP32 value, by its bits. -/
abbrev F32 := BitVec 32

/-- What arithmetic counts: saturations of R189 and R234, special values of R230. -/
structure NumCount where
  sat : Nat := 0
  special : Nat := 0
  deriving DecidableEq, Repr

/-- A computation that counts. -/
abbrev Num (α : Type) := StateM NumCount α

/-- A computation's value and counts from zero. -/
def Num.go {α : Type} (x : Num α) : α × NumCount := x.run {}

/-- Count one saturation. -/
def countSat : Num Unit := modify (fun c => { c with sat := c.sat + 1 })

/-- Count one special value. -/
def countSpecial : Num Unit := modify (fun c => { c with special := c.special + 1 })

/-- A dyadic number: (−1)^neg · m · 2^e. -/
structure Dyadic where
  neg : Bool
  m : Nat
  e : Int
  deriving DecidableEq, Repr

/-- The dyadic an FP32 word stands for (an exponent of all ones is read as a larger binade; no rule lets one in). -/
def F32.dy (w : F32) : Dyadic :=
  let ex : Nat := (w.toNat / 2 ^ 23) % 256
  let fr : Nat := w.toNat % 2 ^ 23
  if ex = 0 then ⟨w.msb, fr, -149⟩ else ⟨w.msb, 2 ^ 23 + fr, (ex : Int) - 150⟩

/-- NaN or infinity. -/
def F32.special (w : F32) : Bool := (w.toNat / 2 ^ 23) % 256 == 255

/-- NaN. -/
def F32.isNaN (w : F32) : Bool := w.special && w.toNat % 2 ^ 23 != 0

/-- Round the magnitude m·2^e (plus a positive tail below its last place when `sticky`) to `p` significant bits, no
finer than 2^qmin, to nearest with ties to even: the answer k·2^q. -/
def roundNE (p : Nat) (qmin : Int) (m : Nat) (e : Int) (sticky : Bool) : Nat × Int :=
  let L : Int := Nat.log2 m + 1
  let q := max qmin (e + L - p)
  let sh := (q - e).toNat
  if q ≤ e then (m <<< (e - q).toNat, q)
  else
    let k := m >>> sh
    let rem := m % 2 ^ sh
    let half := 2 ^ (sh - 1)
    if rem > half || (rem == half && (sticky || k % 2 == 1)) then (k + 1, q) else (k, q)

/-- Round the magnitude down to `p` significant bits, no finer than 2^qmin. -/
def roundDown (p : Nat) (qmin : Int) (m : Nat) (e : Int) : Nat × Int :=
  let L : Int := Nat.log2 m + 1
  let q := max qmin (e + L - p)
  if q ≤ e then (m <<< (e - q).toNat, q) else (m >>> (q - e).toNat, q)

/-- The FP32 bits of ±k·2^q, k at most 2^24 and q at least −149, and whether the magnitude saturated. -/
def F32.pack (neg : Bool) (k : Nat) (q : Int) : F32 × Bool :=
  let s : Nat := if neg then 2 ^ 31 else 0
  let (k, q) := if k = 2 ^ 24 then (2 ^ 23, q + 1) else (k, q)
  if k < 2 ^ 23 then (BitVec.ofNat 32 (s + k), false)
  else
    let ex := q + 150
    if ex > 254 then (BitVec.ofNat 32 (s + 0x7F7FFFFF), true)
    else (BitVec.ofNat 32 (s + ex.toNat * 2 ^ 23 + (k - 2 ^ 23)), false)

/-- Round a dyadic to FP32, saturating (R189). -/
def F32.ofDy (d : Dyadic) (sticky : Bool := false) : Num F32 := do
  let (k, q) := roundNE 24 (-149) d.m d.e sticky
  let (w, sat) := F32.pack d.neg k q
  if sat then countSat
  return w

/-- The exact product. -/
def Dyadic.mul (a b : Dyadic) : Dyadic := ⟨a.neg != b.neg, a.m * b.m, a.e + b.e⟩

/-- The signed integer of a dyadic at exponent `e`, at most its own. -/
def Dyadic.at (a : Dyadic) (e : Int) : Int :=
  let v : Int := (a.m <<< (a.e - e).toNat : Nat)
  if a.neg then -v else v

/-- The exact sum; an exact zero is +0 unless both are −0. -/
def Dyadic.add (a b : Dyadic) : Dyadic :=
  let e := min a.e b.e
  let v := a.at e + b.at e
  if v = 0 then ⟨a.m == 0 && b.m == 0 && a.neg && b.neg, 0, e⟩ else ⟨v < 0, v.natAbs, e⟩

/-- The negated value. -/
def F32.neg (a : F32) : F32 := a ^^^ 0x80000000#32

/-- FP32 addition (R189). -/
def fp32Add (a b : F32) : Num F32 := F32.ofDy (a.dy.add b.dy)

/-- FP32 subtraction (R189). -/
def fp32Sub (a b : F32) : Num F32 := fp32Add a b.neg

/-- FP32 multiplication (R189). -/
def fp32Mul (a b : F32) : Num F32 := F32.ofDy (a.dy.mul b.dy)

/-- Fused multiply and add, rounded once (R185). -/
def fp32Fma (a b c : F32) : Num F32 := F32.ofDy ((a.dy.mul b.dy).add c.dy)

/-- FP32 division (R190, R232); the divisor is not zero at any use. -/
def fp32Div (a b : F32) : Num F32 :=
  let x := a.dy
  let y := b.dy
  if y.m = 0 then F32.ofDy ⟨x.neg != y.neg, x.m, 300⟩
  else
    let n := x.m <<< 80
    F32.ofDy ⟨x.neg != y.neg, n / y.m, x.e - y.e - 80⟩ (n % y.m != 0)

/-- Comparison by value: a < b. -/
def F32.lt (a b : F32) : Bool :=
  let x := a.dy
  let y := b.dy
  let e := min x.e y.e
  x.at e < y.at e

/-- The greater of two values, the first on equality. -/
def F32.max (a b : F32) : F32 := if a.lt b then b else a

/-- The magnitude. -/
def F32.abs (a : F32) : F32 := a &&& 0x7FFFFFFF#32

/-- Zero, of either sign. -/
def F32.isZero (a : F32) : Bool := a.abs == 0#32

/-- 1.0. -/
def F32.one : F32 := 0x3F800000#32

/-- The FP32 word of a small integer, rounded. -/
def F32.ofInt (v : Int) : F32 := (F32.ofDy ⟨v < 0, v.natAbs, 0⟩).go.1

/-- Round an FP32 value to BF16, as an FP32 word whose low half is zero (R234). A magnitude beyond the largest
BF16 normal becomes that normal, and is counted. -/
def bf16 (x : F32) : Num F32 := do
  let d := x.dy
  let (k, q) := roundNE 8 (-133) d.m d.e false
  let s : Nat := if d.neg then 2 ^ 31 else 0
  let (k, q) := if k = 2 ^ 8 then (2 ^ 7, q + 1) else (k, q)
  if k < 2 ^ 7 then return BitVec.ofNat 32 (s + k * 2 ^ 16)
  let ex := q + 134
  if ex > 254 then
    countSat
    return BitVec.ofNat 32 (s + 0x7F7F0000)
  return BitVec.ofNat 32 (s + ex.toNat * 2 ^ 23 + (k - 2 ^ 7) * 2 ^ 16)

/-- The FP32 word of a BF16 word. -/
def bf16Widen (w : Nat) : F32 := BitVec.ofNat 32 ((w % 2 ^ 16) * 2 ^ 16)

/-- The BF16 word of an FP32 word whose low half is zero. -/
def bf16Bits (x : F32) : Nat := x.toNat / 2 ^ 16

/-- Round to FP16 with saturation at ±65,504 (R265), as the FP16 word. -/
def fp16Bits (x : F32) : Num Nat := do
  let d := x.dy
  let (k, q) := roundNE 11 (-24) d.m d.e false
  let s : Nat := if d.neg then 2 ^ 15 else 0
  let (k, q) := if k = 2 ^ 11 then (2 ^ 10, q + 1) else (k, q)
  if k < 2 ^ 10 then return s + k
  let ex := q + 25
  if ex > 30 then
    countSat
    return s + 0x7BFF
  return s + ex.toNat * 2 ^ 10 + (k - 2 ^ 10)

/-- Widen an FP16 word (R259): a NaN or infinite element decodes as +0 and is counted. -/
def fp16Widen (w : Nat) : Num F32 := do
  let ex := bits w 14 10
  let fr := bits w 9 0
  if ex = 31 then
    countSpecial
    return 0#32
  let d : Dyadic := if ex = 0 then ⟨bit w 15, fr, -24⟩ else ⟨bit w 15, 1024 + fr, (ex : Int) - 25⟩
  F32.ofDy d

/-! ### Fixed-point elementary functions: integers at 2^−320 -/

/-- Fraction bits of the fixed-point work. -/
def fxBits : Nat := 320

/-- 1.0 in fixed point. -/
def fxOne : Nat := 1 <<< fxBits

/-- The product of two fixed-point numbers, rounded down. -/
def fxMul (a b : Nat) : Nat := (a * b) >>> fxBits

/-- The Taylor sum of e^r: `term` is r^n/n!. -/
def expSeries (r : Nat) : Nat → Nat → Nat → Nat
  | 0, _, _ => 0
  | fuel + 1, n, term => term + expSeries r fuel (n + 1) (fxMul term r / (n + 1))

/-- e^r for r in [0, 1), fixed point. -/
def fxExp (r : Nat) : Nat := expSeries r 90 0 fxOne

/-- The sum of z^(2n+1)/(2n+1): `p` is z^(2n+1), `z2` its square ratio. -/
def atanhSeries (z2 : Nat) : Nat → Nat → Nat → Nat
  | 0, _, _ => 0
  | fuel + 1, n, p => p / (2 * n + 1) + atanhSeries z2 fuel (n + 1) (fxMul p z2)

/-- ln of t/2^320 for t in [1, 2): 2·atanh((t−1)/(t+1)). -/
def fxLn1 (t : Nat) : Nat :=
  let z := ((t - fxOne) <<< fxBits) / (t + fxOne)
  2 * atanhSeries (fxMul z z) 110 0 z

/-- ln 2. -/
def fxLn2 : Nat := fxLn1 (2 * fxOne)

/-- The alternating sum for arctangent of 1/k: `p` is 1/k^(2n+1). -/
def atanInvSeries (k2 : Nat) : Nat → Nat → Nat → Int
  | 0, _, _ => 0
  | fuel + 1, n, p => (p / (2 * n + 1) : Nat) - atanInvSeries k2 fuel (n + 1) (p / k2)

/-- π, by Machin's formula. -/
def fxPi : Nat := (16 * atanInvSeries 25 150 0 (fxOne / 5) - 4 * atanInvSeries 57121 60 0 (fxOne / 239)).toNat

/-- e^−y for a fixed-point y ≥ 0, as (v, k): the value v·2^−(320+k). -/
def fxExpNeg (y : Nat) : Nat × Nat :=
  let k := y / fxLn2
  let r := y - k * fxLn2
  ((fxOne <<< fxBits) / fxExp r, k)

/-- exp_fp32 (R235): e^x for x ≤ 0, correctly rounded to FP32, +0 below 2^−150, exactly 1.0 at 0. -/
def expFp32 (x : F32) : F32 :=
  let d := x.dy
  if d.m = 0 then F32.one
  else if d.e > 0 && d.m ≥ 2 ^ 23 then 0#32
  else
    let y := if d.e ≥ 0 then d.m <<< (fxBits + d.e.toNat) else (d.m <<< fxBits) >>> (-d.e).toNat
    if y ≥ 105 * fxOne then 0#32
    else
      let (v, k) := fxExpNeg y
      (F32.ofDy ⟨false, v, -((fxBits : Int) + k)⟩ true).go.1

/-- ln of an FP32 value above 1.0, fixed point. -/
def fxLnF32 (x : F32) : Nat :=
  let d := x.dy
  let b := Nat.log2 d.m
  let t := (d.m <<< fxBits) >>> b
  (fxLn1 t : Nat) + (d.e + b).toNat * fxLn2

/-- The alternating Taylor sum of sine or cosine: `term` is a^n/n!, two powers a step. -/
def trigSeries (a2 : Nat) : Nat → Nat → Nat → Int
  | 0, _, _ => 0
  | fuel + 1, n, term => (term : Int) - trigSeries a2 fuel (n + 2) (fxMul term a2 / ((n + 1) * (n + 2)))

/-- The sine (`true`) or cosine (`false`) of 2π·t/2^32, fixed point, signed. -/
def fxTrig (sine : Bool) (t : Nat) : Int :=
  let a := (2 * fxPi * t) >>> 32
  if sine then trigSeries (fxMul a a) 100 1 a else trigSeries (fxMul a a) 100 0 fxOne

end Sys2Proof.Machine
end

