-- ==== Sys2Proof/Machine/Mem.lean ====
section
/-! DEFINITION. Byte storage (page data, DEVICE regions, pool grants, index parts): a list of address and byte pairs,
addresses strictly rising, no entry equal to the 0 that an unlisted address reads as. -/

namespace Sys2Proof.Machine

/-- Sparse byte storage. -/
abbrev Mem := List Host.Cell

/-- What an unlisted address reads as: R84 zeroes a frame before it is committed, R377 and R378 scrub with zeros. -/
def Mem.empty : Byte := 0

/-- The byte at an address. -/
def Mem.read (m : Mem) (a : Nat) : Byte := (Tbl.get? m a).getD Mem.empty

/-- The storage with one byte written, in canonical form. -/
def Mem.write (m : Mem) (a : Nat) (b : Byte) : Mem := if b = Mem.empty then Tbl.del m a else Tbl.set m a b

/-- `n` bytes from an address. -/
def Mem.readN (m : Mem) (a : Nat) : Nat → List Byte
  | 0 => []
  | n + 1 => m.read a :: Mem.readN m (a + 1) n

/-- Bytes written from an address on. -/
def Mem.writeN (m : Mem) (a : Nat) : List Byte → Mem
  | [] => m
  | b :: bs => Mem.writeN (m.write a b) (a + 1) bs

/-- The storage with `n` bytes from an address zeroed. -/
def Mem.zero (m : Mem) (a n : Nat) : Mem := m.filter (fun c => c.1 < a || a + n ≤ c.1)

/-- The canonical form. -/
def Mem.wf (m : Mem) : Bool := Tbl.wf m && m.all (fun c => c.2 != Mem.empty)

end Sys2Proof.Machine
end

