-- ==== Sys2Proof/Machine/Formats.lean ====
section
/-! DEFINITION. Numeric formats, page layout and Chrysalis conversion (08_formats_and_transcoding.md). -/

namespace Sys2Proof.Machine

/-- The storage formats of R223. -/
inductive Fmt where
  | bf16
  | e4m3
  | e5m2
  | e3m2
  | e2m3
  | fp4
  | int8
  deriving DecidableEq, Repr

/-- The code of a format (R223). -/
def Fmt.code : Fmt → Nat
  | .bf16 => 1
  | .e4m3 => 2
  | .e5m2 => 3
  | .e3m2 => 4
  | .e2m3 => 5
  | .fp4 => 6
  | .int8 => 7

/-- The format of a code; 0 and 8 to 15 are reserved. -/
def Fmt.ofCode : Nat → Option Fmt
  | 1 => some .bf16
  | 2 => some .e4m3
  | 3 => some .e5m2
  | 4 => some .e3m2
  | 5 => some .e2m3
  | 6 => some .fp4
  | 7 => some .int8
  | _ => none

/-- Every format, in code order. -/
def Fmt.all : List Fmt := [.bf16, .e4m3, .e5m2, .e3m2, .e2m3, .fp4, .int8]

/-- Ridge input formats (R223): BF16, FP8 (as MXFP8_E4M3) and MXFP4. -/
def Fmt.compute : Fmt → Bool
  | .bf16 | .e4m3 | .fp4 => true
  | _ => false

/-- Bits of one element (R80, R225). -/
def Fmt.bits : Fmt → Nat
  | .bf16 => 16
  | .e4m3 | .e5m2 | .int8 => 8
  | .e3m2 | .e2m3 => 6
  | .fp4 => 4

/-- Bytes of one block's scale (R80). -/
def Fmt.scaleBytes : Fmt → Nat
  | .bf16 => 0
  | .int8 => 2
  | _ => 1

/-- Mantissa bits of an MX element (R225). -/
def Fmt.mant : Fmt → Nat
  | .e4m3 => 3
  | .e5m2 => 2
  | .e3m2 => 2
  | .e2m3 => 3
  | .fp4 => 1
  | _ => 7

/-- Exponent bias (R225). -/
def Fmt.bias : Fmt → Nat
  | .e4m3 => 7
  | .e5m2 => 15
  | .e3m2 => 3
  | .e2m3 => 1
  | .fp4 => 1
  | _ => 127

/-- The exponent of the largest normal (R225). -/
def Fmt.emax : Fmt → Int
  | .e4m3 => 8
  | .e5m2 => 15
  | .e3m2 => 4
  | .e2m3 => 2
  | .fp4 => 2
  | _ => 127

/-- The magnitude code of the largest normal (R225). -/
def Fmt.maxCode : Fmt → Nat
  | .e4m3 => 0x7E
  | .e5m2 => 0x7B
  | .e3m2 => 0x1F
  | .e2m3 => 0x1F
  | .fp4 => 0x7
  | .int8 => 127
  | .bf16 => 0x7F7F

/-- The largest normal as FP32 bits (R243, FORMAT_QUERY). -/
def Fmt.largest : Fmt → F32
  | .bf16 => 0x7F7F0000#32
  | .e4m3 => 0x43E00000#32
  | .e5m2 => 0x47600000#32
  | .e3m2 => 0x41E00000#32
  | .e2m3 => 0x40F00000#32
  | .fp4 => 0x40C00000#32
  | .int8 => 0x42FE0000#32

/-- The smallest subnormal as FP32 bits, 0 for INT8 (R243). -/
def Fmt.smallest : Fmt → F32
  | .bf16 => 0x00010000#32
  | .e4m3 => 0x3B000000#32
  | .e5m2 => 0x37800000#32
  | .e3m2 => 0x3D800000#32
  | .e2m3 => 0x3E000000#32
  | .fp4 => 0x3F000000#32
  | .int8 => 0#32

/-- Elements of a page: E = H × D × 2 × 256 (R80). -/
def pageElems (h d : Nat) : Nat := h * d * 512

/-- Page data bytes in a format (R80). -/
def pageBytes (f : Fmt) (h d : Nat) : Nat :=
  pageElems h d * f.bits / 8 + pageElems h d / 32 * f.scaleBytes

/-- The frame size F (R81). -/
def frameBytes (f : Fmt) (h d : Nat) : Nat := max 65536 (roundUp (pageBytes f h d) 4096)

/-- The metadata slot of R82. -/
def slotBytes (h d : Nat) : Nat := roundUp (32 + 4 * h * d) 64

/-- An MX element's value (R225), and whether it is a NaN or an infinity. -/
def mxElem (f : Fmt) (c : Nat) : Dyadic × Bool :=
  let sgn := bit c (f.bits - 1)
  let mag := c % 2 ^ (f.bits - 1)
  let ex := mag / 2 ^ f.mant
  let fr := mag % 2 ^ f.mant
  let d : Dyadic :=
    if ex = 0 then ⟨sgn, fr, 1 - (f.bias : Int) - f.mant⟩
    else ⟨sgn, 2 ^ f.mant + fr, (ex : Int) - f.bias - f.mant⟩
  (d, (f = .e4m3 || f = .e5m2) && mag > f.maxCode)

/-- The element value as FP32 (R229, R230): a NaN or infinite element is +0 and is counted. -/
def decodeElem (f : Fmt) (c : Nat) : Num F32 :=
  match f with
  | .bf16 => do
    if (bf16Widen c).special then
      countSpecial
      return 0#32
    return bf16Widen c
  | .int8 => return F32.ofInt (if c ≥ 128 then (c : Int) - 256 else c)
  | f => do
    let (d, bad) := mxElem f c
    if bad then
      countSpecial
      return 0#32
    F32.ofDy d

/-- The scale value as FP32 (R226); `none` for 0xFF or an invalid INT8 scale (R230). -/
def decodeScale (f : Fmt) (raw : Nat) : Option F32 :=
  match f with
  | .bf16 => some F32.one
  | .int8 => if (bf16Widen raw).special || bit raw 15 then none else some (bf16Widen raw)
  | _ => if raw = 255 then none else some ((F32.ofDy ⟨false, 1, (raw : Int) - 127⟩).go.1)

/-- A block's decoded elements and its scale; a block with an invalid scale decodes as +0 and counts once (R230). -/
def decodeBlock (f : Fmt) (raw : Nat) (codes : List Nat) : Num (List F32 × F32) := do
  match decodeScale f raw with
  | none =>
    countSpecial
    return (codes.map (fun _ => 0#32), 0#32)
  | some s =>
    let es ← codes.mapM (decodeElem f)
    return (es, s)

/-- Whether the magnitude of `a` is above that of `b`. -/
def Dyadic.above (a b : Dyadic) : Bool :=
  let e := min a.e b.e
  ({ a with neg := false } : Dyadic).at e > ({ b with neg := false } : Dyadic).at e

/-- The code of a rounded MX element (R231): nearest even; a magnitude above the largest normal becomes the largest
normal and is counted; a result of zero is +0. -/
def roundMx (f : Fmt) (d : Dyadic) : Num Nat := do
  let qmin : Int := 1 - (f.bias : Int) - f.mant
  let (k, q) := roundNE (f.mant + 1) qmin d.m d.e false
  let (k, q) := if k = 2 ^ (f.mant + 1) then (2 ^ f.mant, q + 1) else (k, q)
  let c := if k < 2 ^ f.mant then k else (q - qmin + 1).toNat * 2 ^ f.mant + (k - 2 ^ f.mant)
  let c ← if d.above (mxElem f f.maxCode).1 then do countSat; pure f.maxCode else pure c
  return if c = 0 then 0 else c + b2n d.neg * 2 ^ (f.bits - 1)

/-- The greatest magnitude of a block. -/
def amaxOf (v : List F32) : F32 := v.foldl (fun a x => if a.lt x.abs then x.abs else a) 0#32

/-- mx_quantise (R231): the scale byte and the element codes. -/
def mxQuantise (f : Fmt) (v : List F32) : Num (Nat × List Nat) := do
  let d := (amaxOf v).dy
  if d.m = 0 then return (0, v.map (fun _ => 0))
  let x : Int := (Nat.log2 d.m : Int) + d.e - f.emax
  let x := max (-127) (min 127 x)
  let es ← v.mapM (fun w => let y := w.dy; roundMx f { y with e := y.e - x })
  return ((x + 127).toNat, es)

/-- An FP32 value rounded to an integer, ties to even. -/
def roundEven (w : F32) : Int :=
  let d := w.dy
  let n : Nat :=
    if d.e ≥ 0 then d.m <<< d.e.toNat
    else
      let (k, q) := roundNE 200 0 d.m d.e false
      k <<< q.toNat
  if d.neg then -(n : Int) else n

/-- int8_quantise (R232): the BF16 scale word and the element bytes. The same rule serves a block of 32 and, in
R266, a whole vector. -/
def int8Quantise (v : List F32) : Num (Nat × List Nat) := do
  let q ← fp32Div (amaxOf v) 0x42FE0000#32
  let scale ← bf16 q
  if scale.isZero then return (0, v.map (fun _ => 0))
  let es ← v.mapM (fun w => do
    let r ← fp32Div w scale
    let i := max (-127) (min 127 (roundEven r))
    return (if i < 0 then (i + 256).toNat else i.toNat))
  return (bf16Bits scale, es)

/-- Quantisation of a block of FP32 values into a storage format (R231 to R233). BF16 takes values already BF16. -/
def quantise (f : Fmt) (v : List F32) : Num (Nat × List Nat) :=
  match f with
  | .bf16 => return (0, v.map bf16Bits)
  | .int8 => int8Quantise v
  | f => mxQuantise f v

/-- Elements packed little-endian at their width (R227, R228). -/
def packNat (w : Nat) : List Nat → Nat
  | [] => 0
  | c :: cs => c + 2 ^ w * packNat w cs

/-- `n` elements of width `w` unpacked from a number. -/
def unpackNat (w : Nat) : Nat → Nat → List Nat
  | 0, _ => []
  | n + 1, v => v % 2 ^ w :: unpackNat w n (v / 2 ^ w)

/-- Block index of dimensions 32·db.. of head h at slot i (R227); kv is 0 for keys, 1 for values. -/
def blockIdx (hn d kv i h db : Nat) : Nat := (((kv * 256 + i) * hn + h) * d) / 32 + db

/-- Block `b` of a page's data, decoded. -/
def readBlock (f : Fmt) (hn d : Nat) (data : Mem) (b : Nat) : Num (List F32 × F32) :=
  let v := rd (data.readN (4 * b * f.bits) (4 * f.bits)) 0 (4 * f.bits)
  let so := pageElems hn d * f.bits / 8 + b * f.scaleBytes
  decodeBlock f (rd (data.readN so f.scaleBytes) 0 f.scaleBytes) (unpackNat f.bits 32 v)

/-- A page's data with block `b` quantised from 32 values. -/
def writeBlock (f : Fmt) (hn d : Nat) (data : Mem) (b : Nat) (v : List F32) : Num Mem := do
  let (s, cs) ← quantise f v
  let data := data.writeN (4 * b * f.bits) (le (4 * f.bits) (packNat f.bits cs))
  return data.writeN (pageElems hn d * f.bits / 8 + b * f.scaleBytes) (le f.scaleBytes s)

/-- One head's vector at one slot, as blocks of 32 elements and their scales (kv 0 keys, 1 values). -/
def readVec (f : Fmt) (hn d : Nat) (data : Mem) (kv i h : Nat) : Num (List (List F32 × F32)) :=
  (List.range (d / 32)).mapM (fun db => readBlock f hn d data (blockIdx hn d kv i h db))

/-- A page's data with one head's vector written at one slot. -/
def writeVec (f : Fmt) (hn d : Nat) (data : Mem) (kv i h : Nat) (v : List F32) : Num Mem :=
  (List.range (d / 32)).foldlM (fun data db =>
    writeBlock f hn d data (blockIdx hn d kv i h db) ((v.drop (32 * db)).take 32)) data

/-- A block's decoded FP32 values: element times scale (R229). -/
def blockValues (b : List F32 × F32) : Num (List F32) := b.1.mapM (fun e => fp32Mul e b.2)

/-- DIGEST: the CRC-32C of the page data, unwritten positions as zero (R101). -/
def pageDigest (f : Fmt) (hn d : Nat) (data : Mem) : BitVec 32 := crc32c (data.readN 0 (pageBytes f hn d))

/-- Page data decoded block by block and quantised into another format (R239 step 2). -/
def narrowData (f g : Fmt) (hn d : Nat) (data : Mem) : Num Mem :=
  (List.range (pageElems hn d / 32)).foldlM (fun out b => do
    let v ← readBlock f hn d data b >>= blockValues
    writeBlock g hn d out b v) []

/-- The sum of decoded values of one dimension over 256 slots in slot order, times 2^−8, rounded to BF16 (R195). -/
def summaryOf (f : Fmt) (hn d : Nat) (data : Mem) (kv h : Nat) : Num (List F32) := do
  let sums ← (List.range 256).foldlM (fun acc i => do
    let bs ← readVec f hn d data kv i h
    let vs ← bs.mapM blockValues
    (acc.zip vs.flatten).mapM (fun p => fp32Add p.1 p.2)) (List.replicate d 0#32)
  sums.mapM (fun s => do
    let m ← fp32Mul s 0x3B800000#32
    bf16 m)

/-- The summary bytes of R82: summary keys of every head, then summary values, BF16 little-endian. -/
def pageSummary (f : Fmt) (hn d : Nat) (data : Mem) : Num (List Byte) := do
  let ks ← (List.range hn).mapM (summaryOf f hn d data 0)
  let vs ← (List.range hn).mapM (summaryOf f hn d data 1)
  return (ks.flatten ++ vs.flatten).flatMap (fun w => le 2 (bf16Bits w))

/-- One head's vector of a summary: kv 0 the key, 1 the value (R195). -/
def summaryVec (hn d : Nat) (sum : List Byte) (kv h : Nat) : List F32 :=
  (List.range d).map (fun j => bf16Widen (rd sum (2 * ((kv * hn + h) * d + j)) 2))

/-- BF16 values of a message body, head-major (R177). -/
def bf16List (bs : List Byte) (off n : Nat) : List F32 :=
  (List.range n).map (fun j => bf16Widen (rd bs (off + 2 * j) 2))

end Sys2Proof.Machine
end

