-- ==== Sys2Proof/Machine/State.lean ====
section
/-! DEFINITION. The state of the SZ864 as plain data, and its value right after reset. Each field's comment ends with
the rule that names it, its width and its reset value; "model" marks bookkeeping of the model's own. -/

namespace Sys2Proof.Machine

/-! ### Codes -/

/-- Device states (R356). -/
inductive DevState where
  | off | boot | train | selftest | ready | bound | draining | faulted
  deriving DecidableEq, Repr

/-- The code of a device state (R356). -/
def DevState.code : DevState → Nat
  | .off => 0 | .boot => 1 | .train => 2 | .selftest => 3 | .ready => 4 | .bound => 5 | .draining => 6 | .faulted => 7

/-- Node roles (R1). -/
inductive Role where
  | prompt | generation | cache
  deriving DecidableEq, Repr

/-- The code of a role (R1). -/
def Role.code : Role → Nat
  | .prompt => 1 | .generation => 2 | .cache => 3

/-- The role of a code; any other value is refused (R1). -/
def Role.ofCode : Nat → Option Role
  | 1 => some .prompt | 2 => some .generation | 3 => some .cache | _ => none

/-- Context states (R55). -/
inductive CtxState where
  | free | reserved | prompt | generate | paused | parked | movingOut | movingIn | draining | faulted
  deriving DecidableEq, Repr

/-- The code of a context state (R55). -/
def CtxState.code : CtxState → Nat
  | .free => 0 | .reserved => 1 | .prompt => 2 | .generate => 3 | .paused => 4 | .parked => 5
  | .movingOut => 6 | .movingIn => 7 | .draining => 8 | .faulted => 9

/-- The context state of a code; 0xA to 0xF are reserved. -/
def CtxState.ofCode : Nat → Option CtxState
  | 0 => some .free | 1 => some .reserved | 2 => some .prompt | 3 => some .generate | 4 => some .paused
  | 5 => some .parked | 6 => some .movingOut | 7 => some .movingIn | 8 => some .draining | 9 => some .faulted
  | _ => none

/-- Status codes (R367). -/
inductive Status where
  | ok | busy | stateReject | badArg | noResource | deferredMemory | quotaOvercommit | busyTest | staleHandle
  | authFail | jobFaulted | notSupported | checkFail | portDown | stalled | timeout | degraded | poisoned
  deriving DecidableEq, Repr

/-- The code of a status (R367). -/
def Status.code : Status → Nat
  | .ok => 0 | .busy => 1 | .stateReject => 2 | .badArg => 3 | .noResource => 4 | .deferredMemory => 5
  | .quotaOvercommit => 6 | .busyTest => 7 | .staleHandle => 8 | .authFail => 9 | .jobFaulted => 10
  | .notSupported => 11 | .checkFail => 12 | .portDown => 13 | .stalled => 14 | .timeout => 15
  | .degraded => 16 | .poisoned => 17

/-- The status of a code; 0x12 to 0xFF are reserved. -/
def Status.ofCode : Nat → Option Status
  | 0 => some .ok | 1 => some .busy | 2 => some .stateReject | 3 => some .badArg | 4 => some .noResource
  | 5 => some .deferredMemory | 6 => some .quotaOvercommit | 7 => some .busyTest | 8 => some .staleHandle
  | 9 => some .authFail | 10 => some .jobFaulted | 11 => some .notSupported | 12 => some .checkFail
  | 13 => some .portDown | 14 => some .stalled | 15 => some .timeout | 16 => some .degraded | 17 => some .poisoned
  | _ => none

/-- Synchronisation object kinds (R65). -/
inductive SyncKind where
  | counter | semaphore | barrier | event
  deriving DecidableEq, Repr

/-- The kind of a code (R65). -/
def SyncKind.ofCode : Nat → Option SyncKind
  | 1 => some .counter | 2 => some .semaphore | 3 => some .barrier | 4 => some .event | _ => none

/-- The code of a kind (R65). -/
def SyncKind.code : SyncKind → Nat
  | .counter => 1 | .semaphore => 2 | .barrier => 3 | .event => 4

/-- Mailbox phases (R357). -/
inductive Phase where
  | idle | pending | running | done
  deriving DecidableEq, Repr

/-- The code of a mailbox phase (R357). -/
def Phase.code : Phase → Nat
  | .idle => 0 | .pending => 1 | .running => 2 | .done => 3

/-- Port states (R290). -/
inductive PortState where
  | disabled | dark | training | up | retrain | down | flapHold
  deriving DecidableEq, Repr

/-- The code of a port state (R290). -/
def PortState.code : PortState → Nat
  | .disabled => 0 | .dark => 1 | .training => 2 | .up => 3 | .retrain => 4 | .down => 5 | .flapHold => 6

/-- Index states (R250). -/
inductive IdxState where
  | loading | ready | merging | retiring | faulted
  deriving DecidableEq, Repr

/-- The code of an index state (R250); NONE, 0x0, is an absent index. -/
def IdxState.code : IdxState → Nat
  | .loading => 1 | .ready => 2 | .merging => 3 | .retiring => 4 | .faulted => 5

/-- Move types (R115). -/
inductive MoveType where
  | handoff | migrate | park | resume | attach
  deriving DecidableEq, Repr

/-- The code of a move type (R115). -/
def MoveType.code : MoveType → Nat
  | .handoff => 1 | .migrate => 2 | .park => 3 | .resume => 4 | .attach => 5

/-- The move type of a code (R115). -/
def MoveType.ofCode : Nat → Option MoveType
  | 1 => some .handoff | 2 => some .migrate | 3 => some .park | 4 => some .resume | 5 => some .attach | _ => none

/-- Move phases (R146). -/
inductive MovePhase where
  | opening | bulk | tail | drain | done | aborted
  deriving DecidableEq, Repr

/-- The code of a move phase (R146). -/
def MovePhase.code : MovePhase → Nat
  | .opening => 1 | .bulk => 2 | .tail => 3 | .drain => 4 | .done => 5 | .aborted => 6

/-- Connection states (R307). -/
inductive ConnState where
  | closed | opening | opened | closing
  deriving DecidableEq, Repr

/-- The code of a connection state (R307). -/
def ConnState.code : ConnState → Nat
  | .closed => 0 | .opening => 1 | .opened => 2 | .closing => 3

/-- The counters of the device, every one a rate counter of R401 under a name of its own. -/
inductive Ctr where
  /-- stale handles per Summit (R51), 0; stale synchronisation (R69), 1; EPOCH_STALE (R119), 2; LATE_FRAGMENT (R137), 3;
  DRAIN_TIMEOUT (R134), 4 -/
  | summit (s k : Nat)
  /-- the 13 fields of FABRIC_QUERY, in its order (R331); 13 protocol errors (R314), 14 discarded messages (R306) -/
  | pass (p k : Nat)
  /-- the 17 counters of PORT_QUERY, in its order (R303); 17 reserved flits, frames and LINK flits discarded (R276, R278, R280) -/
  | port (p k : Nat)
  /-- LANE_QUERY: 0 lock losses, 1 corrected symbols, 2 uncorrectable codewords, 3 trims (R303); dir 0 receive, 1 transmit -/
  | lane (p dir lane k : Nat)
  /-- EGRESS_QUERY: counters 0 to 6, 7 bytes on the fibre, depth bins 8 to 23, delay bins 24 to 39 (R346) -/
  | egress (p q k : Nat)
  /-- HAWKMOTH_QUERY: 0 to 15 the four engines, 16 to 19 the die (R203) -/
  | hawk (crest k : Nat)
  /-- CHRYSALIS_QUERY: 0 to 7 the two transcoders, 8 to 11 the die (R244) -/
  | chrys (crest k : Nat)
  /-- LUNA_QUERY, in its order (R271) -/
  | luna (crest k : Nat)
  /-- ACCT_QUERY: counters 0 to 10, wait bins 11 to 26, evictions 27 (R173) -/
  | client (c k : Nat)
  /-- events raised, 0, and masked, 1, per class (R409) -/
  | event (cls k : Nat)
  /-- credit starvation in ns per queue instance (R25) -/
  | starve (q inst : Nat)
  /-- watermark crossings (R405) -/
  | cross (id : Nat)
  /-- corrected mesh errors per link (R21) -/
  | mesh (link : Nat)
  /-- device-wide counts: 0 DIGEST_REPAIRED (R102), 1 PAGE_RESTORED (R103), 2 unimplemented message types (R11), 3 rejected PPS
  edges (R33), 4 discarded TIME_SYNC (R35, R36), 5 missing rail readings (R425), 6 EVQ_LOST (R366), 7 throttled ns (R432),
  8 reserved move kinds (R120), 9 refused OPENs counted as refused joins (R125) -/
  | dev (k : Nat)
  deriving DecidableEq, Repr

/-! ### Host interface -/

/-- A command as copied from a mailbox's command area (R360). -/
structure Cmd where
  opcode : Nat
  tag : Nat
  length : Nat
  handle : Nat
  flags : Nat
  vector : Nat
  args : List Byte
  deriving DecidableEq, Repr

/-- A response not yet written to the response area (R361). -/
structure Resp where
  status : Status
  detail : Nat
  payload : List Byte
  deriving DecidableEq, Repr

/-- One mailbox of BAR2 (R357). -/
structure Mbox where
  /-- OWNER (R358; 32 bits; 0) -/
  owner : Word := 0
  /-- STATUS.PHASE (R357; 2 bits; IDLE) -/
  phase : Phase := .idle
  /-- STATUS.DB_REJECT (R357; 1 bit; 0) -/
  dbReject : Bool := false
  /-- STATUS.TAG (R357; 16 bits; 0) -/
  tag : Nat := 0
  /-- the command area (R357; 4,080 bytes; DESIGN CHOICE 0) -/
  area : Mem := []
  /-- the command copied when PHASE became RUNNING (R359; header and up to 4,048 bytes; none) -/
  taken : Option Cmd := none
  /-- the device state in force when the command was taken (R363; 4 bits; BOOT) -/
  takenIn : DevState := .boot
  /-- the command's row has run: it has answered or waits (R363; model; false) -/
  started : Bool := false
  /-- the response decided and not yet written (R359; model; none) -/
  result : Option Resp := none
  /-- the response area (R357, R361; 4,096 bytes; DESIGN CHOICE 0) -/
  resp : List Byte := []
  /-- the mailboxes whose MBOX_RECLAIM waits for this one (R372; model; none) -/
  reclaim : List Nat := []
  /-- the response is to be discarded after a PCIe function reset (R436; model; false) -/
  discard : Bool := false
  deriving DecidableEq, Repr

/-- What the block puts out on its pins, links and PCIe, oldest first. -/
inductive Out where
  /-- an MSI-X vector raised (R362) -/
  | msix (vector : Nat)
  /-- a PCIe write to host memory (R366, R310, R311) -/
  | hostWrite (addr : Nat) (data : List Byte)
  /-- a PCIe read request to host memory (R435) -/
  | hostRead (req addr len : Nat)
  /-- a DATA frame started on a port (R278), and its flits, each with its lane (R276) -/
  | frame (port : Nat) (express : Bool) (seq : Nat) (payload : List Byte) (flits : List (Nat × List Byte))
  /-- a LINK flit (R280), and its copies, each with its lane -/
  | link (port kind : Nat) (f : LinkFlit) (copies : List (Nat × List Byte))
  /-- a LINK_CTRL message (R299), and the flits of its frame, each with its lane -/
  | linkCtrl (port kind : Nat) (msg : LinkCtrl) (flits : List (Nat × List Byte))
  /-- the flits of a frame in progress as they go out now that others have cut into it (R281, R286), each with its lane -/
  | restriped (port : Nat) (express : Bool) (seq : Nat) (flits : List (Nat × List Byte))
  /-- a lane idled on a port for a calibration hold (R298) -/
  | idleHold (port ns : Nat)
  /-- an SMBus block read's answer (R440) -/
  | smbus (value : Word)
  /-- THERMTRIP_N driven low (R430) -/
  | thermtrip
  /-- a time correction sent over the mesh control class (R29) -/
  | timeCorrection
  /-- an AVSBus voltage target (R424) -/
  | avs (rail mv : Nat)
  /-- the JTAG instruction now in force (R441) -/
  | jtag (ins : JtagIns)
  deriving DecidableEq, Repr

/-- The host interface: TOP's event registers, mailboxes, MSI-X, ACCESS_STATUS. -/
structure HostIf where
  /-- the event queue's host address, as the last write of EVQ_BASE_LO applied it (R350, R355; 64 bits; 0) -/
  evqBase : Nat := 0
  /-- TOP.EVQ_BASE_HI as last written, which that write applies (R350, R355; 32 bits; 0) -/
  evqHi : Nat := 0
  /-- TOP.EVQ_CTRL.ENABLE (R355; 1 bit; 0) -/
  evqEnable : Bool := false
  /-- TOP.EVQ_CTRL.SIZE_LOG2 (R355; 5 bits; 6) -/
  evqSize : Nat := 6
  /-- TOP.EVQ_CTRL.VECTOR (R355; 11 bits; 0) -/
  evqVector : Nat := 0
  /-- TOP.EVQ_CTRL.VECTOR_EN (R355; 1 bit; 0) -/
  evqVectorEn : Bool := false
  /-- TOP.EVQ_TAIL (R355; 20 bits; 0) -/
  evqTail : Nat := 0
  /-- TOP.EVQ_HEAD (R355; 20 bits; 0) -/
  evqHead : Nat := 0
  /-- PHASE of the records of the present pass (R365; 1 bit; 1) -/
  evqPhase : Bool := true
  /-- events were lost since the last record written (R366; 1 bit; 0) -/
  lostBefore : Bool := false
  /-- event class mask (R409; 16 bits; 0) -/
  evMask : Nat := 0
  /-- the mailboxes that differ from their reset value (R357; 64; none) -/
  mboxes : Tbl Mbox := []
  /-- PENDING mailboxes in doorbell order (R359; up to 64; empty) -/
  dbOrder : List Nat := []
  /-- mailboxes whose JOB_BIND, JOB_RELEASE or ROLE_SET was taken and not yet applied, in the order taken (R363; empty) -/
  serial : List Nat := []
  /-- ACCESS_STATUS W1C and BUSY bits per block (R352; 32 bits each; 0) -/
  access : Tbl Nat := []
  /-- accepted far-block writes not yet applied: block, page offset, value (R351, R353; one per block; none) -/
  farWrites : Tbl (Nat × Word) := []
  /-- the MSI-X table and pending-bit array of BAR4 (R347; 64 KiB; 0) -/
  bar4 : Mem := []
  /-- number of the next host memory read (R435; model; 0) -/
  nextRead : Nat := 0
  deriving DecidableEq, Repr

/-! ### Time, start-up and pins -/

/-- A die's own copy of package time (R29). -/
structure TimeCopy where
  /-- distribution delay measured over the mesh at start-up, in ns (R29; free) -/
  delay : Nat
  /-- how far the copy is from the master since the last correction, within ±5 ns (R29; free) -/
  off : Int
  /-- the copy's value at that correction, below which it never goes (R28) -/
  least : Nat
  deriving DecidableEq, Repr

/-- Package time and the TIME block. -/
structure TimeBlk where
  /-- package time in ns (R28; 64 bits; 0) -/
  now : Nat := 0
  /-- the part of a ns that the rate correction has built up, in 10^−9 ns (R31; model; 0) -/
  frac : Int := 0
  /-- TIME.STEP_LO (R37; 32 bits; 0) -/
  stepLo : Word := 0
  /-- TIME.STEP_HI (R37; 32 bits; 0) -/
  stepHi : Word := 0
  /-- TIME.CONTROL (R37; 32 bits; 0x0000_0800) -/
  control : Word := 0x00000800
  /-- TIME.STATUS.LOCKED (R37; 1 bit; 0) -/
  locked : Bool := false
  /-- TIME.STATUS.HOLDOVER (R37; 1 bit; 0) -/
  holdover : Bool := false
  /-- TIME.STATUS.STEP_REFUSED (R37; 1 bit; 0) -/
  stepRefused : Bool := false
  /-- TIME.STATUS.AHEAD (R37; 1 bit; 0) -/
  ahead : Bool := false
  /-- TIME.STATUS.PPS_REJECT (R37; 1 bit; 0) -/
  ppsReject : Bool := false
  /-- TIME.STATUS.SYNC_LOST (R37; 1 bit; 0) -/
  syncLost : Bool := false
  /-- TIME.PPS_CAPTURE (R37; 64 bits; 0) -/
  ppsCapture : Nat := 0
  /-- TIME.OFFSET (R37; 32 bits signed; 0) -/
  offset : Int := 0
  /-- TIME.RATE, in parts per 10^9 (R37; 32 bits signed; 0) -/
  rate : Int := 0
  /-- consecutive measurements within ±20 ns (R33, R35; model; 0) -/
  goodRun : Nat := 0
  /-- package time of the last accepted PPS edge, before one that of the selection of PPS (R33; model; none) -/
  lastPps : Option Nat := none
  /-- TIME_SYNC sequence last sent (R36; 32 bits; 0) -/
  syncSeq : Word := 0
  /-- package time of the last TIME_SYNC request sent (R35; model; 0) -/
  syncSentAt : Nat := 0
  /-- package time of the last valid exchange, before one that of the selection of FABRIC (R35; model; 0) -/
  syncValidAt : Nat := 0
  /-- ns still to be slewed back while AHEAD is set (R31; model; 0) -/
  slew : Nat := 0
  /-- ns by which steps have moved package time, which are no powered time (R32, R410; model; 0) -/
  stepSum : Nat := 0
  /-- PPS_OUT pin (R34; 1 bit; low) -/
  ppsOut : Bool := false
  /-- the whole second of the last PPS_OUT rise (R34; model; 0) -/
  ppsOutSec : Nat := 0
  /-- package time of the last correction over the mesh (R29; model; 0) -/
  corrected : Nat := 0
  /-- counts the measurements the servo has taken, the index of its free value (R31; model, DESIGN CHOICE 0) -/
  servo : Nat := 0
  /-- the copies that the dies hold, by die, once start-up has loaded them (R29; 64; none) -/
  copies : Tbl TimeCopy := []
  /-- a TIME_SYNC request has been sent, so that a response may match it (R36; model; false) -/
  syncAsked : Bool := false
  deriving DecidableEq, Repr

/-- Device state, start-up, firmware and configuration, fuses, flash, reset pins. -/
structure Top where
  /-- TOP.DEVICE_STATE (R355, R356; 4 bits; BOOT) -/
  dev : DevState := .boot
  /-- start-up phase in progress, 0 after phase 5 (R379; model; 1) -/
  phase : Nat := 1
  /-- package time at which phases 1 to 5 ended, 0 for none (R400; 5 × 64 bits; 0) -/
  phaseEnds : List Nat := [0, 0, 0, 0, 0]
  /-- Summit dies that passed their ROM test and have not failed since (R40; 4 bits; 0) -/
  candidates : BitVec 4 := 0
  /-- TOP.BOOT_STATUS.PRIMARY (R355; 2 bits; 0) -/
  primary : Nat := 0
  /-- TOP.BOOT_STATUS.SUMMIT_FAIL (R355; 4 bits; 0) -/
  summitFail : BitVec 4 := 0
  /-- TOP.BOOT_STATUS.ALL_FAILED (R355; 1 bit; 0) -/
  allFailed : Bool := false
  /-- TOP.BOOT_STATUS.FW_VALID (R355; 1 bit; 0) -/
  fwValid : Bool := false
  /-- TOP.BOOT_STATUS.CFG_DEFAULTED (R355; 1 bit; 0) -/
  cfgDefaulted : Bool := false
  /-- BOOT_QUERY REJECT flag (R385; 1 bit; 0) -/
  cfgReject : Bool := false
  /-- BOOT_QUERY UNKNOWN flag (R385; 1 bit; 0) -/
  cfgUnknown : Bool := false
  /-- cause code of R385 (R400; 8 bits; 0) -/
  cfgCause : Nat := 0
  /-- configuration sequence (R384; 32 bits; 0) -/
  cfgSeq : Nat := 0
  /-- configuration image in use (R400; up to 64 KiB; none) -/
  cfgImage : List Byte := []
  /-- firmware slot running (R400; 8 bits; 0) -/
  fwSlot : Nat := 0
  /-- fallback to the other slot (R400; 1 bit; 0) -/
  fwFallback : Bool := false
  /-- firmware version running (R382; 32 bits; 0) -/
  fwVersion : Nat := 0
  /-- security version of the running firmware (R382; 16 bits; 0) -/
  fwSecurity : Nat := 0
  /-- fused security floor (R382, R383; 8 bits; DESIGN CHOICE 0) -/
  secFloor : Nat := 0
  /-- flash firmware slot 0 (R381; 16 MiB; DESIGN CHOICE erased) -/
  slot0 : List Byte := []
  /-- flash firmware slot 1 (R381; 16 MiB; DESIGN CHOICE erased) -/
  slot1 : List Byte := []
  /-- flash boot control word (R381; 32 bits; DESIGN CHOICE erased) -/
  bootWord : Word := 0xFFFFFFFF
  /-- flash configuration region (R381, R384; 64 KiB; DESIGN CHOICE erased) -/
  cfgFlash : List Byte := []
  /-- ports that the configuration enables (R386, R390; 8 bits; 0) -/
  cfgPorts : BitVec 8 := 0
  /-- node ID, 0x3FFF unassigned (R386; 14 bits; 0x3FFF) -/
  nodeId : Nat := 0x3FFF
  /-- dies that failed at start-up (R400; 64 bits; 0) -/
  failedStart : BitVec 64 := 0
  /-- dies out of service, at start-up or since (R352, R399; 64 bits; 0) -/
  absent : BitVec 64 := 0
  /-- stacks in service (R373, R389; 16 bits; all ones until training) -/
  stackMask : BitVec 16 := 0xFFFF
  /-- bytes of one memory stack (R373; 64 bits; 48 GiB under R7) -/
  stackBytes : Nat := 48 * 2 ^ 30
  /-- capacities of the Type-3 devices enumerated (R437; model; none) -/
  warmDevices : List Nat := []
  /-- Type-3 devices removed by surprise, by number (R437; model; none) -/
  warmRemoved : List Nat := []
  /-- PERST_N is held asserted (R436; pin; released) -/
  perst : Bool := false
  /-- POWER_WARN_N is asserted (R428; pin; released) -/
  powerWarn : Bool := false
  /-- THERMTRIP_N is asserted and held (R430; pin; released) -/
  thermtrip : Bool := false
  /-- TX_REFCLK is present (R433; pin; present) -/
  txRefclk : Bool := true
  /-- I2C_ADDR[2:0] sampled at power good (R440; 3 bits; DESIGN CHOICE 0) -/
  i2cAddr : BitVec 3 := 0
  /-- the last start was a reset, not power good (R410; model, DESIGN CHOICE false) -/
  byReset : Bool := false
  /-- the instruction loaded in the test access port (R441; IDCODE after test reset, PRESUMED IEEE 1149.1) -/
  jtag : JtagIns := .idcode
  /-- package time and the TIME block (R28, R37) -/
  time : TimeBlk := {}
  deriving DecidableEq, Repr

/-! ### Job, clients and boundary settings -/

/-- A tier quota set by QUOTA_SET (R104, R105). -/
structure Quota where
  guarantee : Nat
  ceiling : Nat
  deriving DecidableEq, Repr

/-- A client's settings that act from a step boundary (R152, R114). -/
structure ClientSet where
  /-- default priority (R173; 3 bits; 3) -/
  prio : Nat := 3
  /-- default deadline class (R173; 4 bits; 0) -/
  cls : Nat := 0
  /-- SKIPPER_ALLOWED (R173; 1 bit; 1) -/
  skipper : Bool := true
  /-- tier-1 quota when QUOTA_SET has set it (R104; 2 × 64 bits; none) -/
  q1 : Option Quota := none
  /-- tier-2 quota when QUOTA_SET has set it (R104; 2 × 64 bits; none) -/
  q2 : Option Quota := none
  deriving DecidableEq, Repr

/-- A client's settings that act at once. -/
structure Client where
  /-- chunk size C (R158; 16 bits; 512) -/
  chunk : Nat := 512
  /-- park time to live in s (R144; 32 bits; 600) -/
  ttl : Nat := 600
  /-- narrowing target of tier 2, none for KEEP (R237; 4 bits; KEEP) -/
  narrow2 : Option Fmt := none
  /-- narrowing target of tier 3, none for KEEP (R237; 4 bits; KEEP) -/
  narrow3 : Option Fmt := none
  deriving DecidableEq, Repr

/-- The four partitions of a Crest store in MiB (R91). -/
structure Parts where
  score : Nat
  staging : Nat
  hot : Nat
  search : Nat
  deriving DecidableEq, Repr

/-- The settings that a command changes now and a step boundary brings into force (R114, R152, R145, R91, R202). -/
structure Params where
  /-- the role (R1; 2 bits; none before a job) -/
  role : Role := .generation
  /-- SCHED_SET fields 0 to 9, none for the default (R173; none) -/
  sched : List (Option Nat) := List.replicate 10 none
  /-- straggler threshold, 16.16 (R172; 32 bits; 4.0) -/
  stragX : Nat := 0x00040000
  /-- straggler run length (R172; 16 bits; 8) -/
  stragN : Nat := 8
  /-- straggler detection enabled (R172; 1 bit; 1) -/
  stragOn : Bool := true
  /-- token budgets of the 16 deadline classes in µs (R161; 32 bits each; 0) -/
  budgets : List Nat := List.replicate 16 0
  /-- slice target (R202; 9 bits; 16) -/
  slice : Nat := 16
  /-- Crest store partitions when TIER0_SET has set them (R91; 4 × 8 bits; none) -/
  parts : Option Parts := none
  /-- how often the partitions have been changed, by role or by TIER0_SET (R91; model; 0) -/
  partsNo : Nat := 0
  /-- per-client settings that differ from the default (R173) -/
  clients : Tbl ClientSet := []
  deriving DecidableEq, Repr

/-- The first fault of a job (R416): cause, node, die. -/
structure JobFault where
  cause : Nat
  node : Nat
  die : Nat
  deriving DecidableEq, Repr

/-- The bound job. -/
structure Job where
  /-- job ID (R374; 32 bits) -/
  id : Nat
  /-- the shape record (R174; 840 bytes) -/
  shape : List Byte
  /-- configured clients: 0 to count − 1 (R374; 9 bits) -/
  clientCount : Nat
  /-- the job is quiesced (R329; 1 bit; 0) -/
  quiesced : Bool := false
  /-- frames each in-service stack holds, fixed at JOB_BIND (R83) -/
  framesPerStack : Nat
  /-- F1 as last recomputed at a boundary (R83, R107) -/
  f1 : Nat
  /-- the mailbox of a JOB_RELEASE in progress (R376; model; none) -/
  releaseMbox : Option Nat := none
  /-- the scrub runs (R377; 1 bit; 0) -/
  scrubbing : Bool := false
  /-- tier-1 frames, with their slots, committed to a page since JOB_BIND, for the scrub (R377; none) -/
  everFrames : List (Nat × Nat) := []
  /-- other tier-1 bytes that held job state, for the scrub (R377; count) -/
  everBytes : Nat := 0
  /-- bytes of warm space that index blocks were written to, for the scrub (R377; count) -/
  everWarm : Nat := 0
  deriving DecidableEq, Repr

/-! ### Contexts, pages, tiers -/

/-- A held STEP_QUERY or CHUNK_SUBMIT layer of a MOVING_IN context (R133). -/
structure Held where
  conn : Nat
  cls : Nat := 0
  chunk : Bool
  epoch : Nat
  body : List Byte
  at_ : Nat
  deriving DecidableEq, Repr

/-- A page as one context names it (R87, R88). -/
structure PageRef where
  /-- the page object named (model) -/
  obj : Nat
  /-- BASE_POS (R87; 21 bits) -/
  base : Nat
  deriving DecidableEq, Repr

/-- A request context (R45). A context absent from the table is FREE with generation 0. -/
structure Ctx where
  /-- state (R45; 4 bits; FREE) -/
  state : CtxState := .free
  /-- generation of the handle last issued (R45, R47; 15 bits; 0) -/
  gen : Nat := 0
  /-- owning client (R45; 8 bits; 0) -/
  client : Nat := 0
  /-- priority as set (R45; 3 bits; 0) -/
  prio : Nat := 0
  /-- deadline class as set (R45; 4 bits; 0) -/
  cls : Nat := 0
  /-- priority in force since the last boundary (R152; 3 bits; 0) -/
  prioAct : Nat := 0
  /-- deadline class in force since the last boundary (R152; 4 bits; 0) -/
  clsAct : Nat := 0
  /-- region base (R45, R78; 50 bits; 0) -/
  base : Nat := 0
  /-- declared maximum length (R45; 21 bits; 0) -/
  maxLen : Nat := 0
  /-- placement epoch (R45; 16 bits; 0) -/
  epoch : Nat := 0
  /-- prior state (R45; 4 bits; FREE) -/
  prior : CtxState := .free
  /-- fault cause (R45; 2 bits; 0) -/
  cause : Nat := 0
  /-- message references (R52; 24 bits; 0) -/
  msgs : Nat := 0
  /-- pin references (R52; 24 bits; 0) -/
  pins : Nat := 0
  /-- wait references (R52; 24 bits; 0) -/
  waits : Nat := 0
  /-- admitted at (R45; 64 bits; 0) -/
  admitted : Nat := 0
  /-- last stepped at (R45; 64 bits; 0) -/
  stepped : Nat := 0
  /-- tokens held per layer, 0 when absent (R181; 21 bits each; 0) -/
  tokens : Tbl Nat := []
  /-- the page table, by layer × P + page (R86; empty) -/
  pages : Tbl PageRef := []
  /-- position offset set by an attach (R88, R142; 21 bits; 0) -/
  posOff : Nat := 0
  /-- package time at which the time to live ends (R57, R144; none) -/
  ttlAt : Option Nat := none
  /-- time to live left while it is suspended (R138; none) -/
  ttlLeft : Option Nat := none
  /-- order in which contexts were parked (R100; model; 0) -/
  parkedNo : Nat := 0
  /-- the next step is the first since entry to PROMPT or GENERATE from RESERVED, PAUSED or MOVING_IN (R107; 1 bit; 0) -/
  joining : Bool := false
  /-- an attach is in progress (R142; 1 bit; 0) -/
  attaching : Bool := false
  /-- a move's cutover has been reached (R132, R133; 1 bit; 0) -/
  cut : Bool := false
  /-- mailboxes whose CTX_PAUSE waits (R57; model; none) -/
  pauseMbox : List Nat := []
  /-- CTX_PAUSE awaits the next boundary (R57; 1 bit; 0) -/
  pauseDue : Bool := false
  /-- connections used in the present placement, up to 16 (R134; empty) -/
  conns : List Nat := []
  /-- the record of used connections overflowed (R134; 1 bit; 0) -/
  connsOver : Bool := false
  /-- held messages of R133, up to 4 (empty) -/
  held : List Held := []
  /-- leaving: frees are applied at the next boundary (R153; 1 bit; 0) -/
  leaving : Bool := false
  /-- per-context counters of ACCT_CTX_QUERY: items, wait sum, degraded steps, summarised pages (R171; rate; 0) -/
  items : Rate := 0
  waitSum : Rate := 0
  degraded : Rate := 0
  summarised : Rate := 0
  /-- last slowdown, 16.16 (R173; 32 bits; 0) -/
  slowdown : Nat := 0
  /-- consecutive items above the threshold (R172; 32 bits; 0) -/
  run : Nat := 0
  /-- consecutive items at or below the threshold (R172; model; 0) -/
  runLow : Nat := 0
  /-- STRAGGLING (R172; 1 bit; 0) -/
  straggling : Bool := false
  /-- step of the item last measured (R172; 64 bits; 0) -/
  slowStep : Nat := 0
  deriving DecidableEq, Repr

/-- A write-down in progress (R239, R240). -/
structure WriteDown where
  /-- destination tier -/
  tier : Nat
  /-- format it is written in -/
  fmt : Fmt
  /-- first 4 KiB unit of the copy -/
  off : Nat
  /-- the frame has passed to another page, which waits for the completion (R109, R110) -/
  given : Bool := false
  /-- the Crest die whose Chrysalis converts it (R242; free choice) -/
  crest : Nat := 0
  /-- the stripe set of a write-down into tier 3, `off` being its offset on each member (R94; 0) -/
  set : Nat := 0
  /-- tier-3 units whose writes have not been acknowledged, once they have been issued (R94; none) -/
  units : Option (List Nat) := none
  /-- page data in the new format while the units are written (R239; empty) -/
  data : Mem := []
  deriving DecidableEq, Repr

/-- A page: its copies and their data. Contexts that share a prefix name the same page object (R89). -/
structure PageObj where
  /-- FORMAT (R87; 4 bits) -/
  fmt : Fmt
  /-- FILL (R87; 9 bits; 0) -/
  fill : Nat := 0
  /-- POISON (R87; 1 bit; 0) -/
  poison : Bool := false
  /-- REFETCH (R87; 1 bit; 0) -/
  refetch : Bool := false
  /-- PRESENT (R87; 4 bits) -/
  present : BitVec 4 := 0
  /-- DIRTY (R87; 4 bits) -/
  dirty : BitVec 4 := 0
  /-- T1_FRAME: stack and frame number (R87; 24 bits; none) -/
  t1 : Option (Nat × Nat) := none
  /-- T0_SLOT: Crest index and first slot (R87; 15 bits; none) -/
  t0 : Option (Nat × Nat) := none
  /-- T2_LOC and its length, in 4 KiB units (R87; 32 bits; none) -/
  t2 : Option (Nat × Nat) := none
  /-- T3_SET and T3_OFFSET (R87; 16 and 32 bits; none) -/
  t3 : Option (Nat × Nat) := none
  /-- DIGEST (R87, R101; 32 bits) -/
  digest : BitVec 32 := 0
  /-- page data: every copy that exists holds the same bytes (R98) -/
  data : Mem := []
  /-- the page summary in the metadata slot (R82, R195; none) -/
  summary : Option (List Byte) := none
  /-- the context charged with it (R90) -/
  owner : Nat
  /-- package time of the last append, for hot-tail eviction (R92) -/
  appended : Nat := 0
  /-- the write-down in progress (R240; none) -/
  down : Option WriteDown := none
  /-- a promotion to tier 1 in progress (R99; 1 bit; 0) -/
  promoting : Bool := false
  /-- counted as pending demotion (R100; 1 bit; 0) -/
  pendingDown : Bool := false
  /-- its promotion is one that a step needs (R99, R163, R164; 1 bit; 0) -/
  urgent : Bool := false
  /-- its promotion is the tail page's, ahead of every other (R164; 1 bit; 0) -/
  first : Bool := false
  /-- DIGEST holds an uncorrectable error under DIGEST_CHECK (R102; 1 bit; 0) -/
  badDigest : Bool := false
  /-- ENTRY_CHECK has reported an uncorrectable error: its locators are untrusted, and its frame stays until its context frees (R103;
  1 bit; 0) -/
  entryLost : Bool := false
  /-- its frame is retired when the page releases it: reason of R408, 0 for none (R413; 0) -/
  retireWhy : Nat := 0
  /-- tiers whose copy holds an uncorrectable word (R412; 4 bits; 0) -/
  badTiers : BitVec 4 := 0
  /-- tier-3 units still to arrive for a promotion, once their reads have been issued (R94; none) -/
  units3 : Option (List Nat) := none
  /-- tier-3 bytes that have arrived (R94; empty) -/
  buf3 : Mem := []
  deriving DecidableEq, Repr

/-- A stripe set of tier 3: node and base offset of each member (R94, R95). -/
abbrev Stripe := List (Nat × Nat)

/-- A pool grant (R96). -/
structure Grant where
  off : Nat
  size : Nat
  client : Nat
  pd : Nat
  /-- the grant's first offset when it was made, from which its units are counted (R83) -/
  origin : Nat
  /-- 64 KiB units committed by a first write: unit numbers -/
  units : List Nat := []
  deriving DecidableEq, Repr

/-- Where state lies. -/
structure Tiers where
  /-- page objects (model numbering) -/
  pages : Tbl PageObj := []
  /-- next page object number (model; 0) -/
  nextPage : Nat := 0
  /-- tier-1 frames retired: stack and frame number (R413; none) -/
  retired : List (Nat × Nat) := []
  /-- patrol passes in a row with a corrected error, per stack × 2^20 + frame (R413; none) -/
  corrections : Tbl Nat := []
  /-- warm-space units that a job has written (R377; map; empty) -/
  warmWritten : List (Nat × Nat) := []
  /-- stripe sets (R95; 65,536; none) -/
  stripes : Tbl Stripe := []
  /-- pool grants (R96; none) -/
  grants : List Grant := []
  /-- revoked pool ranges, read as POISONED (R96; none) -/
  revoked : List (Nat × Nat) := []
  /-- bytes of DEVICE regions and pool grants by local offset (R96, R310; 0) -/
  mem : Mem := []
  /-- 64-byte granules of `mem` that hold an uncorrectable word (R412; none) -/
  poisoned : List Nat := []
  /-- Crest dies' dropped order: parkings so far (R100; model; 0) -/
  parkings : Nat := 0
  /-- patrol period in h (R414; 8 bits; 24) -/
  patrolH : Nat := 24
  /-- warm patrol enabled (R414; 1 bit; DESIGN CHOICE 0) -/
  warmPatrol : Bool := false
  /-- the partitions of every Crest store, in force since the last boundary that changed them (R91; 4 × 8 bits; 0 before a job) -/
  tier0 : Parts := ⟨0, 0, 0, 0⟩
  deriving DecidableEq, Repr

/-! ### Synchronisation -/

/-- An allocated synchronisation object (R64). -/
structure SyncObj where
  kind : SyncKind
  /-- value (R64; 32 bits) -/
  value : Nat
  /-- threshold (R64; 32 bits) -/
  threshold : Nat
  /-- SAT (R66; 1 bit; 0) -/
  sat : Bool := false
  /-- completion count (R64, R66; rate; 0) -/
  completions : Rate := 0
  deriving DecidableEq, Repr

/-- What a waiter does on release (R70). -/
inductive WaitKind where
  | mailbox (m : Nat)
  | msix (vector : Nat) (event : Bool)
  | remote (addr operand conn : Nat)
  deriving DecidableEq, Repr

/-- A registered waiter (R70). -/
structure Waiter where
  /-- waiter number on its Summit (R70, R74; 14 bits) -/
  num : Nat
  /-- object waited on (R70; 14 bits) -/
  obj : Nat
  kind : WaitKind
  /-- package time at which a MAILBOX waiter times out (R71; none) -/
  deadline : Option Nat
  /-- context whose wait reference it holds (R70; none) -/
  ctx : Option Nat
  deriving DecidableEq, Repr

/-- One Summit die's free lists (R49, R72) and waiters (R70). -/
structure Summit where
  /-- contexts never allocated since reset: the lowest such index on the die, counted from its first (R49; 0) -/
  ctxNext : Nat := 0
  /-- freed contexts, oldest first, with the time of entry to FREE (R49; empty) -/
  ctxFree : List (Nat × Nat) := []
  /-- objects never allocated since reset: the lowest, counted from the die's first (R72; 0) -/
  syncNext : Nat := 0
  /-- freed objects, oldest first, with the time they were freed (R72; empty) -/
  syncFree : List (Nat × Nat) := []
  /-- waiter entries in registration order (R70; 16,384; empty) -/
  waiters : List Waiter := []
  /-- synchronisation overflow counter (R66; saturating; 0) -/
  overflow : Lifetime := {}
  deriving DecidableEq, Repr

/-! ### Moves -/

/-- A page that a move's source has sent (R128, R136). -/
structure SentPage where
  layer : Nat
  page : Nat
  attempt : Nat
  /-- bytes of the stream sent so far -/
  sent : Nat
  /-- acknowledged -/
  acked : Bool := false
  /-- package time of the last fragment -/
  at_ : Nat
  deriving DecidableEq, Repr

/-- A page that a move's destination is receiving (R129, R136). -/
structure RecvPage where
  layer : Nat
  page : Nat
  attempt : Nat
  /-- fragments received: offset and length -/
  got : List (Nat × Nat) := []
  /-- stream bytes received, by offset -/
  bytes : Mem := []
  total : Nat
  fmt : Nat
  fill : Nat
  digest : BitVec 32
  poison : Bool := false
  complete : Bool := false
  /-- package time at which the stall timer expires, while it runs -/
  stallAt : Option Nat := none
  deriving DecidableEq, Repr

/-- A move record (R116). -/
structure Move where
  initiator : Nat
  id : Nat
  type : MoveType
  /-- this node holds the source or donor (R146: end) -/
  source : Bool
  phase : MovePhase
  status : Status := .ok
  /-- local context index -/
  ctx : Nat
  /-- local handle -/
  handle : Nat
  peerNode : Nat
  peerHandle : Nat := 0
  /-- epoch E of the source -/
  oldEpoch : Nat
  /-- the move's new epoch -/
  newEpoch : Nat
  tag : Nat := 0
  conn : Nat
  /-- the mailbox of MOVE_START while it runs -/
  mbox : Option Nat := none
  syncObj : Nat := 0xFFFF
  client : Nat := 0
  arrival : CtxState := .generate
  expected : Nat := 0
  ttl : Nat := 0
  prefixLen : Nat := 0
  /-- pages carried (R146) -/
  carried : Nat := 0
  /-- pages acknowledged (R146) -/
  acked : Nat := 0
  /-- stalls (R146) -/
  stalls : Nat := 0
  /-- late fragments (R146) -/
  late : Nat := 0
  /-- fragment credits held by the source (R130) -/
  credits : Nat := 0
  /-- fragments written since credits were last returned (R130) -/
  owed : Nat := 0
  sent : List SentPage := []
  recv : List RecvPage := []
  /-- cutover has been reached (source) or received (destination) -/
  cut : Bool := false
  /-- the CUTOVER message has been sent -/
  cutSent : Bool := false
  /-- final current length (R121) -/
  finalLen : Nat := 0
  /-- connections marked (R134) -/
  paths : Nat := 0
  /-- MARK has been sent on every used connection (R134) -/
  marked : Bool := false
  /-- COMPLETE has been sent (R134) -/
  completeSent : Bool := false
  /-- DRAIN_MARK COMPLETE has arrived (R134) -/
  complete : Bool := false
  /-- package time at which the move ended (R147; none) -/
  ended : Option Nat := none
  /-- the Summit die that keeps the record (R116) -/
  summit : Nat := 0
  /-- the source context's state when the move started (R115) -/
  started : CtxState := .free
  /-- pages in their order of readiness (R128) -/
  ready : List (Nat × Nat) := []
  /-- a page was lost after cutover (R137; source) -/
  lost : Bool := false
  /-- traffic classes of the peer's last STATE_PUSH PAGE and of its DRAIN_MARK COMPLETE, which the answers take (R335; 2 and 5 before one) -/
  pageCls : Nat := 2
  doneCls : Nat := 5
  deriving DecidableEq, Repr

/-! ### Steps, items and engines -/

/-- One head's partial result: maximum, sum and output (R188). -/
structure HeadPart where
  m : F32
  l : F32
  o : List F32
  deriving DecidableEq, Repr

/-- Where a piece of engine work stands. -/
inductive WorkState where
  | waiting    -- no score buffer granted yet (R220)
  | granted    -- its buffer is held, and its array has not taken it (R220, R221)
  | running    -- on an engine
  | sent       -- its partial is on the mesh
  | arrived    -- its partial has reached the merge die
  deriving DecidableEq, Repr

/-- A Hawkmoth slice of R186; the Skipper partial of R196 is the one with `skipper`. -/
structure Slice where
  stack : Nat
  pages : List Nat
  crest : Nat
  state : WorkState := .waiting
  /-- package time at which it was granted its buffer -/
  at_ : Nat := 0
  skipper : Bool := false
  parts : List HeadPart := []
  deriving DecidableEq, Repr

/-- A Ridge unit of R210: rows hold position, head result. -/
structure RidgeUnit where
  head : Nat
  row : Nat
  seg : Nat
  crest : Nat
  /-- the array of the die that computes it (R211; 3 bits) -/
  array : Nat := 0
  state : WorkState := .waiting
  /-- package time at which it was granted its buffer -/
  granted : Nat := 0
  /-- package time at which its array took it (R168) -/
  at_ : Nat := 0
  rows : List (Nat × HeadPart) := []
  deriving DecidableEq, Repr

/-- One accepted STEP_QUERY, or one accepted part of a chunk layer (R177, R204). -/
structure LayerMsg where
  layer : Nat
  conn : Nat
  /-- traffic class of the message (R335) -/
  cls : Nat := 0
  epoch : Nat
  /-- position n, or the part's first position -/
  pos : Nat
  /-- tokens: 1, or the part's tokens -/
  len : Nat
  /-- part index -/
  part : Nat := 0
  body : List Byte
  obj : Nat
  tag : Nat
  answered : Bool := false
  deriving DecidableEq, Repr

/-- The layer of an item that is in its step (R163, R182, R210). -/
structure LayerRun where
  layer : Nat
  /-- the append has been made, or is in progress page by page (R182, R208) -/
  started : Bool := false
  /-- pages whose append is not complete (R209) -/
  appends : List Nat := []
  /-- summarised pages (R164) -/
  summarised : List Nat := []
  /-- an absent page was summarised (R198) -/
  absentSum : Bool := false
  slices : List Slice := []
  units : List RidgeUnit := []
  /-- the die that merges (R182) -/
  merge : Nat := 0
  deriving DecidableEq, Repr

/-- A work item (R149). -/
structure Item where
  ctx : Nat
  chunk : Bool
  group : Nat
  /-- the token or chunk it belongs to, in order of acceptance (R150) -/
  token : Nat
  /-- package time at which it became pending, or pending again (R149, R166) -/
  since : Nat
  /-- package time at which it first became pending (R169) -/
  born : Nat := 0
  /-- marked leaving (R178) -/
  leaving : Bool := false
  /-- chunk start, tokens, tag, FINAL (R204) -/
  start : Nat := 0
  count : Nat := 1
  tag : Nat := 0
  final : Bool := false
  /-- boundaries at which it was passed over (R155) -/
  passed : Nat := 0
  starved : Bool := false
  /-- the step it is a member of, 0 for none (R151) -/
  step : Nat := 0
  /-- detached and still waiting for the arrival it awaited (R166) -/
  detached : Bool := false
  /-- marked DEADLINE for this step (R162) -/
  late : Bool := false
  /-- next layer whose message is due (R149) -/
  next : Nat
  /-- accepted messages not yet answered, oldest first -/
  msgs : List LayerMsg := []
  /-- it began while its context was RESERVED or PAUSED, which it turns as it joins (R57; 1 bit; 0) -/
  turns : Bool := false
  /-- per layer whose message has been accepted into its step: the pages to be summarised, and whether an absent page is among them
  (R163 to R165; none) -/
  plans : Tbl (List Nat × Bool) := []
  /-- the layer in progress -/
  run : Option LayerRun := none
  /-- package time since which its hold timer runs (R166) -/
  holdAt : Option Nat := none
  /-- total hold time in this item (R168, R169) -/
  holdNs : Nat := 0
  /-- its hold time when it joined its step (R168) -/
  holdJoin : Nat := 0
  /-- pages summarised over its layers (R170) -/
  sumPages : Nat := 0
  /-- a layer was DEGRADED (R170) -/
  anySum : Bool := false
  /-- data bytes read in full over its layers (R169) -/
  bytes : Nat := 0
  /-- the last result of its group has been sent (R169) -/
  done : Bool := false
  lastResult : Nat := 0
  deriving DecidableEq, Repr

/-- A token or chunk in progress, ordered by its number (R150). -/
structure Token where
  ctx : Nat
  chunk : Bool
  /-- position, or chunk start -/
  pos : Nat
  /-- package time of the token's start t0 (R161) -/
  t0 : Nat
  /-- the token's budget B in µs (R161) -/
  budget : Nat
  /-- the chunk size C in force when the chunk began (R158) -/
  chunkC : Nat := 0
  /-- groups begun -/
  begun : Nat := 0
  /-- groups completed, every one after a failure (R150) -/
  groups : Nat := 0
  /-- the end of a chunk marked final, none for any other (R204, R128) -/
  last : Option Nat := none
  deriving DecidableEq, Repr

/-- A chunk layer whose last part has not been accepted (R205, R207, R446). -/
structure PartLayer where
  ctx : Nat
  layer : Nat
  conn : Nat
  epoch : Nat
  start : Nat
  count : Nat
  tag : Nat
  final : Bool
  token : Nat
  /-- its item, none while the layer would begin one -/
  item : Option Nat
  parts : List LayerMsg := []
  /-- the layer has failed: parts still to come get BAD_ARG (R207) -/
  failed : Bool := false
  deriving DecidableEq, Repr

/-- An open step (R151, R168). -/
structure StepRec where
  group : Nat
  formed : Nat
  /-- slice target, score partition in MiB in force at its boundary (R186, R210) -/
  slice : Nat
  score : Nat
  hasDecode : Bool
  hasChunk : Bool
  /-- decode bytes and chunk FLOP of its members (R168) -/
  bytes : Nat := 0
  flop : Nat := 0
  lastDecode : Nat := 0
  lastChunk : Nat := 0
  holdDecode : Nat := 0
  holdChunk : Nat := 0
  /-- spans of package time for which an engine held a slice, or an array a unit, of a member: item, begin and end (R168) -/
  hawk : List (Nat × Nat × Nat) := []
  ridge : List (Nat × Nat × Nat) := []
  deriving DecidableEq, Repr

/-- Governor states (R159). -/
inductive Governor where
  | rising | holding | cutting
  deriving DecidableEq, Repr

/-- Power of an engine class (R157). -/
inductive EnginePower where
  | on | off | rising
  deriving DecidableEq, Repr

/-- A score-buffer request that waits for credits (R220). -/
structure ScoreReq where
  item : Nat
  /-- index of the slice or unit in the item's layer -/
  index : Nat
  ridge : Bool
  credits : Nat
  /-- Hawkmoth grants made while it waited -/
  passed : Nat := 0
  deriving DecidableEq, Repr

/-- A ROLE_SET with drain that waits (R145). -/
structure RoleDrain where
  mbox : Nat
  role : Role
  /-- package time at which its wait ends -/
  deadline : Nat
  /-- the boundary of the change has been settled -/
  settled : Bool := false
  /-- the steps that were open at it -/
  steps : List Nat := []
  deriving DecidableEq, Repr

/-- The Arete scheduler. -/
structure Sched where
  /-- items (model numbering) -/
  items : Tbl Item := []
  nextItem : Nat := 1
  /-- token order of each context: tokens and chunks accepted so far (R150; model; 0) -/
  nextToken : Nat := 1
  /-- tokens and chunks in progress (R150; none) -/
  tokens : Tbl Token := []
  /-- chunk layers not yet ready (R205; none) -/
  layers : List PartLayer := []
  /-- after a settlement that took no item, package time of the next one unless something happens first (R445; none) -/
  coolUntil : Option Nat := none
  /-- open steps by number (R151; up to K; none) -/
  steps : Tbl StepRec := []
  /-- last step formed (R173; 64 bits; 0) -/
  lastStep : Nat := 0
  /-- steps completed since JOB_BIND (R173; 64 bits; 0) -/
  completed : Nat := 0
  /-- NO_BASELINE (R169; 1 bit; 1) -/
  noBaseline : Bool := true
  /-- prefill allowance A (R159; 32 bits; 0 before a job) -/
  allowance : Nat := 0
  /-- governor state (R159; 8 bits; DESIGN CHOICE HOLDING) -/
  governor : Governor := .holding
  /-- β, ρ, λ of the cost model as FP32 (R168; 32 bits each; 0 before a job) -/
  beta : F32 := 0
  rho : F32 := 0
  lambda : F32 := 0
  /-- power state of Ridge, Hawkmoth, Luna, Chrysalis, and when each last had work (R157; DESIGN CHOICE on) -/
  engines : List (EnginePower × Nat) := List.replicate 4 (.on, 0)
  /-- ROLE_SETs with drain that wait (R145; none) -/
  drains : List RoleDrain := []
  /-- score-buffer requests waiting per Crest, in order of arrival (R220; none) -/
  waiting : Tbl (List ScoreReq) := []
  /-- score credits in use per Crest, in KiB (R220; 0) -/
  scoreUsed : Tbl Nat := []
  /-- units that each Ridge array has started, by 8 × Crest index + array (R221; model; 0) -/
  arrays : Tbl Nat := []
  /-- an effect awaits the next step boundary (R445; 1 bit; 0) -/
  due : Bool := false
  deriving DecidableEq, Repr

/-! ### Vector search -/

/-- A side-list entry (R247, R265). -/
structure SideRec where
  seq : Nat
  vid : Nat
  del : Bool
  /-- FP16 elements -/
  vec : List Nat
  deriving DecidableEq, Repr

/-- A list record (R247): vector ID, INT8 scale word, payload bytes. -/
structure ListRec where
  vid : Nat
  scale : Nat := 0
  data : List Byte
  deriving DecidableEq, Repr

/-- One generation of an index's lists and shadow (R245, R266). A block is named by list × 2^32 + its place in the list; a
shadow block by 2^64 more. -/
structure IdxGen where
  gen : Nat
  lists : Tbl (List ListRec) := []
  shadow : Tbl (List ListRec) := []
  /-- blocks marked poisoned in the digest table, by name (R264) -/
  poisoned : List Nat := []
  /-- where each block lies: 2 × G in tier 1, 2 × K + 1 in tier 2 (R248) -/
  place : Tbl Nat := []
  /-- the generation that last rewrote a list, 0 when absent (R266) -/
  written : Tbl Nat := []
  /-- the digest table's entries of list and shadow blocks, by name (R245, R253; 32 bits each; none before INDEX_SEAL) -/
  digests : Tbl (BitVec 32) := []
  deriving DecidableEq, Repr

/-- A merge in progress (R266). -/
structure Merge where
  cut : Nat
  first : Nat
  count : Nat
  obj : Nat
  mbox : Nat
  deriving DecidableEq, Repr

/-- A vector index (R245, R246). -/
structure Idx where
  state : IdxState := .loading
  /-- parameters of R246: list format, metric, flags, d, M, nlist, side-list capacity, default nprobe -/
  fmt : Nat
  metric : Nat
  flags : Nat
  d : Nat
  sub : Nat
  nlist : Nat
  sideCap : Nat
  nprobe : Nat
  client : Nat
  summit : Nat
  pd : Nat
  /-- tier-1 and tier-2 budgets in bytes (R248) -/
  budget1 : Nat
  budget2 : Nat
  /-- centroid and codebook bytes (R245), and which ranges were written (R253) -/
  centroids : Mem := []
  codebook : Mem := []
  centWritten : List (Nat × Nat) := []
  codeWritten : List (Nat × Nat) := []
  /-- highest list loaded so far, LIST and SHADOW (R252) -/
  lastList : Nat := 0
  lastShadow : Nat := 0
  /-- the norms of R258, computed at INDEX_SEAL -/
  norms : List F32 := []
  cur : IdxGen := { gen := 0 }
  /-- older generations still in use (R266) -/
  old : List IdxGen := []
  /-- side head H, tail N and entries (R256) -/
  head : Nat := 0
  tail : Nat := 0
  side : List SideRec := []
  /-- poisoned side-list blocks, by sequence number over entries of a block (R264) -/
  sideBad : List Nat := []
  /-- the digest table's entries of side-list blocks, by the same number (R245; 32 bits each; none) -/
  sideDigests : Tbl (BitVec 32) := []
  /-- merged cut of each list, 0 when absent (R266) -/
  mergedCut : Tbl Nat := []
  merge : Option Merge := none
  /-- records lost (R264; 64 bits; 0) -/
  lost : Nat := 0
  deriving DecidableEq, Repr

/-- A record scored (R260): key, score, vector ID, list and position in it. -/
structure Hit where
  key : F32
  score : F32
  vid : Nat
  list : Nat
  pos : Nat
  deriving DecidableEq, Repr

/-- A query in a slot (R256). -/
structure Query where
  idx : Nat
  conn : Nat
  /-- traffic class of the message (R335) -/
  cls : Nat := 0
  tag : Nat
  k : Nat
  nprobe : Nat
  exact : Bool
  obj : Nat
  client : Nat
  gen : Nat
  head : Nat
  tail : Nat
  vec : List F32
  since : Nat
  /-- in a batch (R257) -/
  batched : Bool := false
  /-- centroid units still to return (R258) -/
  units : List Nat := []
  /-- best candidates so far: key and list (R258) -/
  cands : List (F32 × Nat) := []
  /-- probe set, once chosen -/
  probe : Option (List Nat) := none
  /-- blocks still to scan (R259): names as in `IdxGen`, side-list blocks by 2^65 + number -/
  blocks : List Nat := []
  /-- poisoned blocks skipped (R264) -/
  skipped : List Nat := []
  deriving DecidableEq, Repr

/-- A centroid unit (R257): index, first centroid, queries of its batch; index MERGE inserts use the same arrays. -/
structure CentUnit where
  idx : Nat
  first : Nat
  queries : List Nat
  /-- the Crest die and the array that it waits for or runs on (R221; 5 and 3 bits) -/
  crest : Nat := 0
  array : Nat := 0
  /-- its array has taken it (R221; 1 bit; 0) -/
  running : Bool := false
  deriving DecidableEq, Repr

/-- Vector search. -/
structure Search where
  /-- indexes 0 to 15 (R245; none) -/
  idxs : Tbl Idx := []
  /-- query slots in use (R255; 4,096; none) -/
  queries : Tbl Query := []
  nextQuery : Nat := 0
  units : Tbl CentUnit := []
  nextUnit : Nat := 0
  /-- batching window in µs (R257; 32 bits; 20) -/
  windowUs : Nat := 20
  /-- Luna credits under decode (R268; 8 bits; 16) -/
  lunaCredits : Nat := 16
  /-- Luna floor (R268; 8 bits; 1) -/
  lunaFloor : Nat := 1
  deriving DecidableEq, Repr

/-! ### Links -/

/-- A frame waiting in an egress queue (R332): its cell, and the connection, channel and sequence of its message. -/
structure QFrame where
  payload : List Byte
  rsp : Bool
  /-- package time at which it entered the queue (R344), none while it waits at the cell builder for a credit (R332) -/
  entered : Option Nat := none
  conn : Nat
  mseq : Nat
  /-- the expiry of the hold window that covers it (R294; none) -/
  until_ : Option Nat := none
  deriving DecidableEq, Repr

/-- A frame sent and not yet acknowledged (R282). -/
structure TxFrame where
  seq : BitVec 16
  payload : List Byte
  rsp : Bool
  queue : Nat
  conn : Nat
  mseq : Nat
  /-- the expiry of the hold window that covers it (R294; none) -/
  until_ : Option Nat := none
  deriving DecidableEq, Repr

/-- One class of a port's link (R282 to R285). -/
structure LinkClass where
  /-- next sequence to assign (R282; 16 bits; 0) -/
  next : BitVec 16 := 0
  /-- unacknowledged frames, oldest first: the retry buffer (R282; empty) -/
  unacked : List TxFrame := []
  /-- retry count (R285; 4 bits; 0) -/
  retries : Nat := 0
  /-- frames of `unacked` still to be replayed (R284; model; 0) -/
  replay : Nat := 0
  /-- package time at which the retry timer expires (R284; none) -/
  timerAt : Option Nat := none
  /-- next sequence expected from the peer (R283; 16 bits; 0) -/
  expect : BitVec 16 := 0
  /-- a NAK was sent for `expect`, at this time (R283; none) -/
  nakAt : Option Nat := none
  deriving DecidableEq, Repr

/-- A lane's record (R287, R289, R297). -/
structure Lane where
  /-- package times of recent lock losses (R289; empty) -/
  losses : List Nat := []
  /-- kept out of the map until this time (R289; none) -/
  outUntil : Option Nat := none
  /-- last lock loss (R303; 64 bits; 0) -/
  lastLoss : Nat := 0
  /-- trims applied since the lane's settings were loaded from the factory table, the index of the heater's free value (R290, R297;
  model; 0) -/
  trims : Nat := 0
  /-- period of the last trim, counted from 1 (R297; model; 0) -/
  trimAt : Nat := 0
  /-- a hold asked for and not yet made, in ns (R298; none) -/
  hold : Option Nat := none
  /-- period of the last hold action, counted from 1 (R297; model; 0) -/
  heldAt : Nat := 0
  deriving DecidableEq, Repr

/-- A token-bucket shaper (R337). -/
structure Shaper where
  /-- enable (R337; 1 bit; 0) -/
  on : Bool := false
  /-- rate in MB/s (R337; 32 bits; DESIGN CHOICE 1) -/
  rate : Nat := 1
  /-- burst in bytes (R337; 32 bits; DESIGN CHOICE 4096) -/
  burst : Nat := 4096
  /-- tokens in 1/65,536 byte (R337, R393; B) -/
  tokens : Nat := 4096 * 65536
  /-- remainder of the accrual, in units of 1/10,000 token (R337; 0) -/
  rem : Nat := 0
  /-- package time up to which tokens have been accrued (R337; model; 0) -/
  at_ : Nat := 0
  deriving DecidableEq, Repr

/-- A gate list (R340): base time and entries of mask and duration. -/
structure GateList where
  base : Nat
  entries : List (Nat × Nat)
  deriving DecidableEq, Repr

/-- A frame on its way onto the fibre (R276, R278, R286). -/
structure Air where
  seq : BitVec 16
  kind : Nat
  rsp : Bool
  payload : List Byte
  /-- the flit slot of each of its flits, counted from the last lane-map change -/
  slots : List Nat
  deriving DecidableEq, Repr

/-- A Jetur port. -/
structure Port where
  /-- STATE (R302; 4 bits; DISABLED) -/
  state : PortState := .disabled
  /-- the state before DARK (R290; model; TRAINING) -/
  beforeDark : PortState := .training
  /-- CAUSE (R302; 4 bits; NONE) -/
  cause : Nat := 0
  /-- CHANGED (R302; 1 bit; 0) -/
  changed : Bool := false
  /-- TX_MAP (R302; 16 bits; 0) -/
  txMap : BitVec 16 := 0
  /-- RX_MAP (R302; 16 bits; 0) -/
  rxMap : BitVec 16 := 0
  /-- receive lanes locked (R287; 16 bits; 0) -/
  rxLocked : BitVec 16 := 0
  /-- lanes whose laser input is below the threshold (R275; 16 bits; 0) -/
  laserLow : BitVec 16 := 0
  /-- its own LANE_REQ that is unanswered: the mask sent (R280, R288; 16 bits; none) -/
  laneReq : Option (BitVec 16) := none
  /-- receive flits are discarded until a LANE_MAP arrives (R287; 1 bit; 0) -/
  stopped : Bool := false
  /-- own minimum lane count (R292; 5 bits; 8) -/
  minLanes : Nat := 8
  /-- the peer's minimum from HELLO (R292; 5 bits; 0) -/
  peerMin : Nat := 0
  /-- hold window in µs (R294; 32 bits; 50) -/
  holdUs : Nat := 50
  /-- link session number (R290; 32 bits; DESIGN CHOICE 0) -/
  session : BitVec 32 := 0
  /-- the peer's session as last seen (R299; 32 bits; 0) -/
  peerSession : BitVec 32 := 0
  /-- peer node and port (R303; 14 and 8 bits; 0) -/
  peerNode : Nat := 0
  peerPort : Nat := 0
  /-- round trip in ns (R274; 32 bits; 0) -/
  rtt : Nat := 0
  /-- package time of the last entry to UP (R303; 64 bits; 0) -/
  upSince : Nat := 0
  /-- a HELLO_ACK has been taken in this attempt (R293; model; false) -/
  acked : Bool := false
  /-- a bring-up attempt runs, since (R293; none) -/
  attemptAt : Option Nat := none
  /-- the last HELLO was sent at (R299; none once answered) -/
  helloAt : Option Nat := none
  /-- a LANE_REQ is unanswered, last sent at (R280; none) -/
  reqAt : Option Nat := none
  /-- a CAL_REQ is unanswered, last sent at (R280, R298; none) -/
  calAt : Option Nat := none
  /-- package times of entries to DOWN (R290; empty) -/
  downs : List Nat := []
  /-- entry to RETRAIN or FLAP_HOLD (R290; none) -/
  stateAt : Nat := 0
  /-- the hold window's end (R294; none) -/
  holdUntil : Option Nat := none
  /-- PORT_SET disable waits for acknowledgements until (R296; none) -/
  disableBy : Option Nat := none
  /-- mask of the bonded group, 0 for none (R38; 8 bits; 0) -/
  group : Nat := 0
  /-- mask of a group it left when it went down, to rejoin (R301; 8 bits; 0) -/
  rejoin : Nat := 0
  normal : LinkClass := {}
  express : LinkClass := {}
  /-- lanes by direction × 16 + lane (R289) -/
  lanes : Tbl Lane := []
  /-- accepted frames not yet taken by the Pass die: PORT_RX (R24; empty), with their channel, 1 for response (R278) -/
  rxq : List (Bool × List Byte) := []
  /-- the eight egress queues (R332; empty) -/
  queues : Tbl (List QFrame) := []
  shapers : Tbl Shaper := []
  /-- express mask (R333; 8 bits; 0x80) -/
  expressMask : Nat := 0x80
  /-- operational and pending gate lists, and the pending one's switch instant (R340, R343; none) -/
  gates : Option GateList := none
  gatesNext : Option (GateList × Nat) := none
  /-- gate entry last brought into force (R340; 8 bits; 0) -/
  gateEntry : Nat := 0
  /-- package time at which the express and the normal frame in progress end (R286; model; 0) -/
  expressEnd : Nat := 0
  normalEnd : Nat := 0
  /-- egress queue of the normal frame in progress (R342; model; 0) -/
  normalQueue : Nat := 0
  /-- package time of the last change of the transmit map, from which flit slots and STRIPE count (R276, R288; 0) -/
  mapAt : Nat := 0
  /-- first flit slot that no frame, LINK flit or hold has taken (R276, R277; model; 0) -/
  slot : Nat := 0
  /-- first flit slot after the last LINK flit or hold (R286, R298; model; 0) -/
  linkSlot : Nat := 0
  /-- the normal and the express frame last started (R286; none) -/
  normalAir : Option Air := none
  expressAir : Option Air := none
  /-- STRIPE expected next on the receive side (R276; 16 bits; 0) -/
  rxStripe : Nat := 0
  /-- the lanes of a LANE_REQ that waits for the next frame boundary (R288; 16 bits; none) -/
  mapWant : Option (BitVec 16) := none
  /-- package time up to which the time counters of R346 have been kept (R346; model; 0) -/
  acctAt : Nat := 0
  /-- LASER_EN pin (R421; low) -/
  laserEn : Bool := false
  /-- FIBRE_PRESENT_N is low: mated (R421; DESIGN CHOICE mated) -/
  mated : Bool := true
  /-- light is received (R290; DESIGN CHOICE present) -/
  light : Bool := true
  /-- flits of request and response buffer freed and not yet reported in a LINK flit (R280; 16 bits each; 0) -/
  freedReq : Nat := 0
  freedRsp : Nat := 0
  /-- flits of buffer that the peer has reported freed (R280; 16 bits each; 0) -/
  gotReq : Nat := 0
  gotRsp : Nat := 0
  /-- both session numbers are those of the last UP (R295; 1 bit; 0) -/
  sameLink : Bool := false
  /-- the sequences that the peer's last HELLO or HELLO_ACK expects (R299; 2 × 16 bits; 0) -/
  peerNormal : BitVec 16 := 0
  peerExpress : BitVec 16 := 0
  /-- lanes that the peer last reported locked (R293; 16 bits; 0) -/
  peerLocked : BitVec 16 := 0
  /-- earliest start of the next bring-up attempt (R290; 0) -/
  retryAt : Nat := 0
  deriving DecidableEq, Repr

/-! ### Fabric -/

/-- A Jetur message: header fields of R304 and its body. -/
structure Msg where
  type : Nat
  flags : Nat
  src : Nat
  dst : Nat
  conn : Nat
  seq : Nat
  stamp : Nat
  job : Nat
  crReq : Nat
  crRsp : Nat
  body : List Byte
  deriving DecidableEq, Repr

/-- A reassembly slot (R314). -/
structure Slot where
  total : Nat
  /-- received cells: offset and length -/
  got : List (Nat × Nat) := []
  bytes : Mem := []
  opened : Nat
  deriving DecidableEq, Repr

/-- A posted receive buffer (R311). -/
structure RecvBuf where
  region : Nat
  off : Nat
  len : Nat
  tag : Nat
  deriving DecidableEq, Repr

/-- One channel of a connection (R307, R313, R316). -/
structure Chan where
  /-- own grant to the peer in units (R313; 14 bits) -/
  grant : Nat := 0
  /-- units held for sending (R307; 14 bits; 0) -/
  held : Nat := 0
  /-- the peer's first grant (R307; 14 bits; 0) -/
  heldMax : Nat := 0
  /-- units owed to the peer (R313; 14 bits; 0) -/
  owed : Nat := 0
  /-- next sequence to send (R304; 32 bits; 0) -/
  next : Nat := 0
  /-- next sequence expected (R316; 32 bits; 0) -/
  expect : Nat := 0
  slots : Tbl Slot := []
  /-- complete messages awaiting delivery: message and completion time (R316) -/
  ready : Tbl (Msg × Nat) := []
  /-- messages waiting for units, with the request they carry (R313; empty) -/
  wait : List (Msg × Option Nat) := []
  deriving DecidableEq, Repr

/-- A connection (R307). -/
structure Conn where
  state : ConnState := .closed
  peer : Nat := 0
  peerConn : Nat := 0
  pd : Nat := 0
  portMask : Nat := 0
  stages : Nat := 0
  hash : Bool := false
  /-- completion timeout in µs (R317; 32 bits; 1,000) -/
  timeoutUs : Nat := 1000
  /-- a GRANT has been received since CONN_OPEN (R307; 1 bit; 0) -/
  granted : Bool := false
  req : Chan := {}
  rsp : Chan := {}
  /-- delivered messages awaiting their processing, oldest first (R316; empty) -/
  inbox : List Msg := []
  bufs : List RecvBuf := []
  lost : Rate := 0
  lastSent : Nat := 0
  lastGrant : Nat := 0
  closeAt : Nat := 0
  deriving DecidableEq, Repr

/-- What an outstanding request is for (R317). -/
inductive Purpose where
  | memIssue (m : Nat)
  | sendPost (m : Nat)
  | remoteWaiter
  | version (txn : Nat)
  | coherent (line : Nat) (member : Nat)
  | tier3 (obj unit : Nat) (retry : Bool)
  | pool3 (obj unit : Nat)
  | move (r ctx : Nat)
  deriving DecidableEq, Repr

/-- A request that awaits its answer (R317). -/
structure Req where
  conn : Nat
  node : Nat
  type : Nat
  tag : Nat
  /-- package time at which it was issued, or sent once it had its units (R317) -/
  sent : Nat
  /-- sequence of its message, none while that waits for units -/
  mseq : Option Nat := none
  purpose : Purpose
  deriving DecidableEq, Repr

/-- A write or atomic to be answered, waiting for subscribers' answers (R323). -/
structure VersionTxn where
  conn : Nat
  tag : Nat
  body : List Byte
  waiting : Nat
  /-- the region, and the traffic class of the message (R335) -/
  rid : Nat := 0
  cls : Nat := 0
  deriving DecidableEq, Repr

/-- The backing of a region (R310). -/
inductive Backing where
  | host | device | signal
  deriving DecidableEq, Repr

/-- A registered region (R310). -/
structure Region where
  off : Nat
  size : Nat
  pd : Nat
  backing : Backing
  rights : Nat
  flags : Nat
  dir : Nat
  hostAddr : Nat
  /-- subscribers: node and connection (R323; up to 16; none) -/
  subs : List (Nat × Nat) := []
  /-- versions by granule, 1 when absent (R323; 32 bits) -/
  versions : Tbl Nat := []
  /-- the mailbox of a REGION_DEREGISTER that waits for accesses in progress (R331; model; none) -/
  closing : Option Nat := none
  deriving DecidableEq, Repr

/-- A coherence line's state (R325). -/
inductive LineState where
  | uncached
  | shared (members : List Nat)
  | exclusive (owner : Nat)
  deriving DecidableEq, Repr

/-- A request waiting on a coherence line (R326). -/
structure LineReq where
  conn : Nat
  node : Nat
  msg : Msg
  /-- its number in the order of arrival (R321; model; 0) -/
  no : Nat := 0
  deriving DecidableEq, Repr

/-- A coherence line (R326). -/
structure Line where
  state : LineState := .uncached
  /-- the transaction in progress and the members whose answers it awaits -/
  busy : Option (LineReq × List Nat) := none
  /-- a write-back is awaited after WB_SENT -/
  wbWait : Bool := false
  queue : List LineReq := []
  deriving DecidableEq, Repr

/-- A HOST access, or a command, whose PCIe read is outstanding (R435). -/
inductive ReadFor where
  | region (conn tag cls version rid : Nat)
  | sendPost (m conn cls tag rid : Nat)
  | indexLoad (m idx : Nat)
  | cfgLoad (m : Nat)
  | fwLoad (m : Nat)
  deriving DecidableEq, Repr

/-- A read of a COMBINE region that waits for host memory, and the identical ones combined with it (R322). -/
structure ReadJoin where
  rid : Nat
  op : Nat
  off : Nat
  len : Nat
  /-- nothing has been written to its bytes since it was issued, so that a later read may still join it (R321) -/
  open_ : Bool := true
  /-- connection, request tag and traffic class of each read combined with it -/
  more : List (Nat × Nat × Nat) := []
  deriving DecidableEq, Repr

/-- Messaging and memory semantics. -/
structure Fabric where
  conns : Tbl Conn := []
  /-- protection domains: client, 255 none (R310; 1,024; none) -/
  pds : Tbl Nat := []
  regions : Tbl Region := []
  /-- skew tolerance in µs (R315; 32 bits; 1,000) -/
  skewUs : Nat := 1000
  reqs : Tbl Req := []
  nextReq : Nat := 0
  txns : Tbl VersionTxn := []
  nextTxn : Nat := 0
  /-- other nodes of the coherent domain (R325; up to 3; none) -/
  domain : List Nat := []
  lines : Tbl Line := []
  /-- dead nodes (R328; none) -/
  dead : List Nat := []
  /-- package time of the last message from a node (R328; none) -/
  heard : Tbl Nat := []
  /-- PCIe reads outstanding -/
  reads : Tbl (ReadFor × Nat) := []
  /-- those of COMBINE regions, by the number of the PCIe read (R322; none) -/
  joins : Tbl ReadJoin := []
  /-- number of the next request that waits on a line (R321; model; 0) -/
  nextLineReq : Nat := 0
  /-- lines of other homes, by state address, for which a WRITEBACK has been sent since they were last read (R326; none) -/
  writtenBack : List Nat := []
  deriving DecidableEq, Repr

/-! ### Telemetry, lifetime, self-test, power -/

/-- The work on whose behalf a queue entry or a mesh transfer is sent (R22, R26). -/
inductive Work where
  /-- slice `k` of an item's layer (R186) -/
  | slice (item k : Nat)
  /-- Ridge unit `k` of an item's layer (R210) -/
  | unit (item k : Nat)
  /-- a page copied between tiers (R99, R240) -/
  | page (obj : Nat)
  /-- the append of an item's layer (R182, R208) -/
  | append (item : Nat)
  /-- a block that Luna scans (R259), or a copy that a patrol of warm memory reads (R414) -/
  | scan (crest : Nat)
  /-- cells of messages, and lookups of the request tables (R24, R312) -/
  | cells
  /-- package time sent to a die (R29) -/
  | time (die : Nat)
  /-- mesh transfer `n` (R18) -/
  | transfer (n : Nat)
  deriving DecidableEq, Repr

/-- Entries that a producer has ready for a queue on behalf of one piece of work (R22). -/
structure QEntry where
  /-- the producer (R24) -/
  prod : Nat
  work : Work
  /-- entries sent, each with a credit -/
  sent : Nat := 0
  /-- entries that wait at the producer for a credit -/
  wait : Nat := 0
  deriving DecidableEq, Repr

/-- A queue instance of R24 or R332. -/
structure QInst where
  /-- entries by producer and work, oldest first (R22, R24; empty) -/
  entries : List QEntry := []
  /-- package time since which some producer lacks a credit (R25; none) -/
  starveSince : Option Nat := none
  deriving DecidableEq, Repr

/-- What a mesh transfer carries (R19). -/
inductive Cargo where
  | descriptor | readRequest | readData | write | result | correction | cells
  deriving DecidableEq, Repr

/-- A transfer between two dies over the bridge mesh (R18 to R21). -/
structure Transfer where
  src : Nat
  dst : Nat
  cls : MeshClass
  cargo : Cargo
  work : Work
  /-- 256-byte transfer units it is made of (R19) -/
  units : Nat
  /-- units that have not yet crossed the first link of `route` -/
  left : Nat
  /-- links still to cross, each with its direction, in order; none once it is at its destination (R18) -/
  route : List (Nat × Nat)
  /-- its next unit failed the check and is to be replayed from the link's replay buffer (R21; 1 bit; 0) -/
  replay : Bool := false
  deriving DecidableEq, Repr

/-- A watermark's record (R404, R405). -/
structure Wm where
  /-- enabled (R404; 1 bit; 1) -/
  on : Bool := true
  /-- threshold and clear level when WATERMARK_SET has set them (R406; 2 × 32 bits; none) -/
  set : Option (Nat × Nat) := none
  /-- LEVEL (R403; 1 bit; 0) -/
  level : Bool := false
  /-- CROSSED (R403; 1 bit; 0) -/
  crossed : Bool := false
  /-- the value last evaluated (R405) -/
  value : Nat := 0
  deriving DecidableEq, Repr

/-- One die's lifetime record (R410). -/
structure LifeRec where
  /-- items by item × 2^16 + bin or sub-counter (R410; 48 bits each; 0) -/
  items : Tbl Lifetime := []
  /-- item 0x0D: the last 16 results: time, kind, result (R410; empty) -/
  log : List (Nat × Nat × Nat) := []
  /-- item 0x0E: retired frames (R410; up to 4,096; empty) -/
  retired : List Nat := []
  /-- LOST (R411; 1 bit; 0) -/
  lost : Bool := false
  deriving DecidableEq, Repr

/-- One die's self-test record (R400). -/
structure DieTest where
  /-- 0 idle, 1 draining to fence, 2 under test, 3 failed, 4 absent (R400; 8 bits; 0) -/
  state : Nat := 0
  /-- last result (R400; 8 bits; 2) -/
  last : Nat := 2
  /-- slices done in the present pass (R400; 32 bits; 0) -/
  slices : Nat := 0
  /-- passes completed since start-up (R400; 32 bits; 0) -/
  passes : Nat := 0
  /-- last pass ended (R400; 64 bits; 0) -/
  lastEnd : Nat := 0
  /-- repaired rows (R400; rate; 0) -/
  repaired : Rate := 0
  /-- the slice began at (R395; model; 0) -/
  began : Nat := 0
  /-- mailboxes whose SELFTEST_RUN waits (R400; model; empty) -/
  runners : List Nat := []
  deriving DecidableEq, Repr

/-- Telemetry, lifetime records and in-service self-test. -/
structure Telem where
  /-- counters by the key of `Ctr` (R401; 40 bits each; 0) -/
  ctrs : Tbl Rate := []
  /-- queue instances by ID × 2^16 + instance (R24, R403) -/
  queues : Tbl QInst := []
  /-- the TELEMETRY registers as last refreshed: starvation and depth (R403; 0) -/
  shown : Tbl (Rate × Nat) := []
  /-- package time of the last refresh of them (R403; model; 0) -/
  refreshed : Nat := 0
  /-- the last multiple of 1,000 ns at which the egress queues were sampled, in µs (R344; model; 0) -/
  sampled : Nat := 0
  /-- watermarks by ID that differ from their default (R404) -/
  wms : Tbl Wm := []
  /-- COUNTER_SNAPSHOTs waiting for their instant: mailbox, queue, first instance, time (R418; none) -/
  snaps : List (Nat × Nat × Nat × Nat) := []
  /-- working values of the lifetime records by die (R410, R411) -/
  life : Tbl LifeRec := []
  /-- lifetime store: newest written copy, primary and mirror, with its write sequence (R411; none) -/
  lifePrimary : Tbl (LifeRec × Nat) := []
  lifeMirror : Tbl (LifeRec × Nat) := []
  /-- the working values have been loaded from the store (R411; model; false) -/
  lifeLoaded : Bool := false
  /-- a write of the store runs (R418; 1 bit; 0) -/
  lifeBusy : Bool := false
  /-- mailboxes of LIFETIME_FLUSH that wait, and when the write began (R418; none) -/
  flush : List Nat := []
  lifeBegan : Nat := 0
  /-- in-service self-test enabled (R386; 1 bit; 1) -/
  testOn : Bool := true
  /-- self-test period in s (R386; 32 bits; 86,400) -/
  testPeriod : Nat := 86400
  tests : Tbl DieTest := []
  /-- the first job fault (R416; none) -/
  firstFault : Option JobFault := none
  /-- mesh transfers on their way, by number, in the order sent (R20; none) -/
  mesh : Tbl Transfer := []
  /-- number of the next mesh transfer (model; 0) -/
  nextTransfer : Nat := 0
  deriving DecidableEq, Repr

/-- Power, temperature and clocks. -/
structure Power where
  /-- last reading of each rail: mV and mA (R425; 0) -/
  rails : List (Nat × Nat) := List.replicate 11 (0, 0)
  /-- samples in a row each rail gave no reading (R425; 0) -/
  missing : List Nat := List.replicate 11 0
  /-- the last 10 samples of package power in W, newest first (R159; empty) -/
  samples : List Nat := []
  /-- samples taken since JOB_BIND, to 10 (R393; model; 0) -/
  sinceBind : Nat := 0
  /-- junction temperatures by die in °C (R429; DESIGN CHOICE 0) -/
  temps : Tbl Nat := []
  /-- clock in sixteenths that the thermal trigger of each die sets: its own for a Crest die, its quadrant's for another (R430; 16);
  the clocks that the TDP and current triggers set (R430; 16) -/
  thermal : Tbl Nat := []
  tdp : Nat := 16
  current : Nat := 16
  /-- rails that went over their limit and have not been released, with the package time since which each has stayed below 90 % of
  it (R430; none) -/
  over_ : Tbl Nat := []
  /-- THROTTLE_STATUS.DROOP (R432; 1 bit; 0) -/
  droop : Bool := false
  /-- AVS rail targets in mV: VCORE_C, VCORE_U, OPT_CORE (R424; 800) -/
  avs : List Nat := [800, 800, 800]
  /-- package time of the last AVS step per rail (R424; model; 0) -/
  avsAt : List Nat := [0, 0, 0]
  /-- package time of the last temperature sample and of the last power sample (R425, R429; model; 0) -/
  tempAt : Nat := 0
  powerAt : Nat := 0
  /-- worst droop of each die in the present second, in mV (R410, R426; 0) -/
  worst : Tbl Nat := []
  /-- whole seconds of powered time counted (R410; model; 0) -/
  secs : Nat := 0
  /-- package time at which throttled time was last counted (R432; model; 0) -/
  throttleAt : Nat := 0
  deriving DecidableEq, Repr

/-! ### The whole -/

/-- Everything but package time, the device state and the command queue. -/
structure Core where
  host : HostIf := {}
  /-- the bound job (R6; none) -/
  job : Option Job := none
  /-- settings as last accepted, and as in force since the last boundary (R114, R152) -/
  pset : Params := {}
  pact : Params := {}
  clients : Tbl Client := []
  ctxs : Tbl Ctx := []
  summits : Tbl Summit := []
  tiers : Tiers := {}
  syncs : Tbl SyncObj := []
  /-- move records (R116; 1,024 per Summit; none) -/
  moves : Tbl Move := []
  nextMove : Nat := 0
  /-- move IDs of this node whose records went with their job, and when their moves ended (R116; none) -/
  usedIds : List (Nat × Nat) := []
  /-- stall timer in µs (R136; 32 bits; 200) -/
  stallUs : Nat := 200
  sched : Sched := {}
  search : Search := {}
  ports : Tbl Port := []
  fabric : Fabric := {}
  telem : Telem := {}
  power : Power := {}
  /-- what the block has put out, oldest first (model; empty) -/
  out : List Out := []
  /-- free choices taken so far, the index of the next free value (model; DESIGN CHOICE 0) -/
  nonce : Nat := 0
  deriving DecidableEq, Repr

/-- The SZ864: the waiting commands, the device and its start-up, and everything else. -/
structure State where
  /-- commands waiting, first in, first out (model; empty) -/
  pending : List Instr
  top : Top
  core : Core
  deriving DecidableEq, Repr

/-- The reasons a step can stop with a fault: none. The manual gives every command of the table an effect or an answer
in every state, so the closed type of faults has no constructor. -/
inductive Fault where
  deriving DecidableEq, Repr

/-- The reasons a command can have no meaning. -/
inductive Refusal where
  /-- Raised by exec's arm of a command that has no meaning yet; safe, since the machine stops. -/
  | notModelled (mnemonic : String)
  deriving DecidableEq, Repr

/-- The SZ864 right after reset (R378, R379): BOOT phase 1, package time 0, every register at its reset value, no job,
no context, nothing in memory. -/
def State.reset : State := { pending := [], top := {}, core := {} }

end Sys2Proof.Machine
end

