-- ==== Sys2Proof/Machine/Operands.lean ====
section
/-! DEFINITION. Operands: command headers (R360) and their rules (R369, R370), handles (R46), message headers (R304), die
numbers (R14, R15) and register addresses (R348). -/

namespace Sys2Proof.Machine

/-! ### Commands -/

/-- The command header of R360 with its argument bytes, read from a mailbox's command area. -/
def Cmd.ofArea (area : Mem) : Cmd :=
  let h := area.readN 0 32
  let len := rd h 4 4
  { opcode := rd h 0 2, tag := rd h 2 2, length := len, handle := rd h 8 4, flags := rd h 12 4, vector := rd h 16 2,
    args := area.readN 32 (min len 4048) }

/-- `n` argument bytes at an offset, as a number. -/
def Cmd.arg (c : Cmd) (off n : Nat) : Nat := rd c.args off n

/-- MSIX of the header's flags (R360). -/
def Cmd.msix (c : Cmd) : Bool := bit c.flags 0

/-- EVENT of the header's flags (R360). -/
def Cmd.event (c : Cmd) : Bool := bit c.flags 1

/-- Context index of a handle (R46). -/
def hIndex (h : Nat) : Nat := h / 2 ^ 15

/-- Generation of a handle (R46). -/
def hGen (h : Nat) : Nat := h % 2 ^ 15

/-- The handle of a context index and generation (R46). -/
def mkHandle (i gen : Nat) : Nat := i * 2 ^ 15 + gen

/-- The argument bytes that a command's table gives it, a variable part left out; none for an opcode that R371 and the
chapters do not list (R11). -/
def fixedLen (op : Nat) : Option Nat :=
  match op with
  | 0x0101 => some 0 | 0x0102 => some 0 | 0x0103 => some 864 | 0x0104 => some 4 | 0x0105 => some 4 | 0x0106 => some 4
  | 0x0201 => some 16 | 0x0202 => some 0 | 0x0203 => some 2 | 0x0204 => some 0 | 0x0205 => some 4 | 0x0206 => some 0
  | 0x0207 => some 0 | 0x0208 => some 8
  | 0x0301 => some 1 | 0x0302 => some 24 | 0x0303 => some 2 | 0x0304 => some 8 | 0x0305 => some 136 | 0x0306 => some 20
  | 0x0307 => some 16 | 0x0308 => some 4
  | 0x0401 => some 40 | 0x0402 => some 4 | 0x0403 => some 4 | 0x0404 => some 4 | 0x0405 => some 8
  | 0x0501 => some 32 | 0x0502 => some 0 | 0x0503 => some 8 | 0x0504 => some 1 | 0x0505 => some 8 | 0x0506 => some 1
  | 0x0507 => some 1 | 0x0508 => some 0 | 0x0509 => some 8
  | 0x0601 => some 840 | 0x0602 => some 0 | 0x0603 => some 4 | 0x0604 => some 0 | 0x0605 => some 16 | 0x0606 => some 8
  | 0x0607 => some 4
  | 0x0701 => some 0 | 0x0702 => some 4 | 0x0703 => some 1 | 0x0704 => some 132 | 0x0705 => some 4 | 0x0706 => some 4
  | 0x0801 => some 40 | 0x0802 => some 32 | 0x0803 => some 1 | 0x0804 => some 12 | 0x0805 => some 1 | 0x0806 => some 1
  | 0x0807 => some 8 | 0x0808 => some 4
  | 0x0901 => some 1 | 0x0902 => some 8 | 0x0903 => some 4 | 0x0904 => some 4 | 0x0905 => some 1
  | 0x0A01 => some 4 | 0x0A02 => some 2 | 0x0A03 => some 32 | 0x0A04 => some 2 | 0x0A05 => some 20 | 0x0A06 => some 2
  | 0x0A07 => some 2 | 0x0A08 => some 24 | 0x0A09 => some 24 | 0x0A0A => some 40 | 0x0A0B => some 6 | 0x0A0C => some 8
  | 0x0A0D => some 4 | 0x0A0E => some 4
  | 0x0B01 => some 12 | 0x0B02 => some 4 | 0x0B03 => some 16 | 0x0B04 => some 4 | 0x0B05 => some 4 | 0x0B06 => some 4
  | 0x0C01 => some 4 | 0x0C02 => some 0 | 0x0C03 => some 4 | 0x0C04 => some 16 | 0x0C05 => some 4 | 0x0C06 => some 8
  | 0x0C07 => some 0 | 0x0C08 => some 4 | 0x0C09 => some 4 | 0x0C0A => some 0
  | 0x0D01 => some 0 | 0x0D02 => some 16 | 0x0D03 => some 4 | 0x0D04 => some 16 | 0x0D05 => some 8 | 0x0D06 => some 4
  | 0x0D07 => some 4
  | 0x0E01 => some 12 | 0x0E02 => some 2 | 0x0E03 => some 12 | 0x0E04 => some 8 | 0x0E05 => some 24 | 0x0E06 => some 2
  | 0x0E07 => some 4
  | _ => none

/-- What a command's request handle must be (step 4 of R369). -/
inductive HandleRule where
  | zero      -- must be zero
  | ctx       -- names a context
  | optional  -- names a context, or is zero
  | any       -- not looked at: the command's type is refused by its body
  deriving DecidableEq, Repr

/-- The handle rule of a command, by opcode and arguments (R61, R74, R112, R147, R173, R201). -/
def handleRule (c : Cmd) : HandleRule :=
  match c.opcode with
  | 0x0202 | 0x0203 | 0x0204 | 0x0205 | 0x0206 | 0x0207 | 0x0308 | 0x0508 | 0x0605 => .ctx
  | 0x0401 => if c.arg 0 1 = 4 then .zero else if c.arg 0 1 = 0 || 5 < c.arg 0 1 then .any else .ctx
  | 0x0E05 => .optional
  | _ => .zero

/-- Whether a command is legal in a device state (R370 with R330, R345, R400 and R418). REGION_REGISTER reads its
backing here. -/
def legalIn (c : Cmd) (d : DevState) : Bool :=
  let bound := d == .bound
  let ready := d == .ready
  let drain := d == .draining
  let fault := d == .faulted
  if d == .off then false else
  match c.opcode / 256 with
  | 0x01 => match c.opcode with
    | 0x0101 | 0x0102 | 0x0106 => true
    | 0x0103 => ready
    | _ => bound
  | 0x03 => bound || (ready && c.opcode == 0x0301)
  | 0x06 => bound || (ready && c.opcode == 0x0601)
  | 0x07 => bound || (ready && (c.opcode == 0x0701 || c.opcode == 0x0704 || c.opcode == 0x0705))
  | 0x09 => ready || bound || ((drain || fault) && (c.opcode == 0x0901 || c.opcode == 0x0904))
  | 0x0A =>
    if c.opcode == 0x0A0B || c.opcode == 0x0A0C || (c.opcode == 0x0A03 && (c.arg 18 1 == 2 || c.arg 18 1 == 3))
    then bound else ready || bound || drain
  | 0x0B => ready || bound || drain || (fault && (c.opcode == 0x0B02 || c.opcode == 0x0B04 || c.opcode == 0x0B06))
  | 0x0C => match c.opcode with
    | 0x0C08 => ready || bound || drain
    | 0x0C09 => bound || drain
    | _ => true
  | 0x0D => match c.opcode with
    | 0x0D02 | 0x0D04 => ready || bound || drain || fault
    | 0x0D05 | 0x0D06 => ready || bound
    | _ => true
  | _ => bound

/-- The commands that R363 applies one at a time in the order taken. -/
def isSerial (op : Nat) : Bool := op == 0x0103 || op == 0x0104 || op == 0x0105

/-! ### Answers -/

/-- A refusal: status and detail (R367). -/
abbrev Refuse := Status × Nat

/-- A check that may refuse. -/
abbrev Chk (α : Type) := Except Refuse α

/-- One check: it passes, or refuses with a status and a detail. -/
def need (ok : Bool) (st : Status) (d : Nat := 0) : Chk Unit := if ok then .ok () else .error (st, d)

/-- BAD_ARG unless the check passes; the detail names the argument's offset (R368). -/
def needArg (ok : Bool) (off : Nat) : Chk Unit := need ok .badArg off

/-- The kinds of state a STATE_REJECT detail names (R368). -/
inductive StateKind where
  | device | context | sync | move | index | port
  deriving DecidableEq, Repr

/-- The detail of a STATE_REJECT (R368). -/
def stateDetail (k : StateKind) (code : Nat) : Nat :=
  let n := match k with
    | .device => 0 | .context => 1 | .sync => 2 | .move => 3 | .index => 4 | .port => 5
  n * 2 ^ 20 + code % 16

/-- The status byte and detail of a response (R361). -/
def statusBytes (st : Status) (d : Nat) : List Byte := le 1 st.code ++ le 3 d

/-- The value of a check, or none. -/
def Chk.get? {α : Type} : Chk α → Option α
  | .ok a => some a
  | .error _ => none

/-! ### Dies and blocks -/

/-- Die number of Crest i (R14, R15). -/
def crestDie (i : Nat) : Nat := 16 * (i / 8) + i % 8

/-- Die number of Saddle s. -/
def saddleDie (s : Nat) : Nat := 16 * (s / 4) + 8 + s % 4

/-- Die number of optical port p. -/
def portDie (p : Nat) : Nat := 16 * (p / 2) + 12 + p % 2

/-- Die number of Pass q. -/
def passDie (q : Nat) : Nat := 16 * q + 14

/-- Die number of Summit q. -/
def summitDie (q : Nat) : Nat := 16 * q + 15

/-- The types of die (R13). -/
inductive DieType where
  | crest | saddle | port | pass | summit
  deriving DecidableEq, Repr

/-- Type and package-wide index of a die (R14, R15). -/
def dieType (d : Nat) : DieType × Nat :=
  let q := d / 16
  let k := d % 16
  if k < 8 then (.crest, 8 * q + k)
  else if k < 12 then (.saddle, 4 * q + (k - 8))
  else if k < 14 then (.port, 2 * q + (k - 12))
  else if k = 14 then (.pass, q)
  else (.summit, q)

/-! ### Mesh links -/

/-- The pair of an index from 0 to 5, in the order of R403. -/
def pairOf (k : Nat) : Nat × Nat := ([(0, 1), (0, 2), (0, 3), (1, 2), (1, 3), (2, 3)] : List (Nat × Nat)).getD k (0, 1)

/-- The index of a pair, lower number first. -/
def pairNum (a b : Nat) : Nat := (([(0, 1), (0, 2), (0, 3), (1, 2), (1, 3), (2, 3)] : List (Nat × Nat)).zipIdx.find? (fun e => e.1 == (a, b))).map
  Prod.snd |>.getD 0

/-- The link and direction that a pair gives, `base` being the number of the first link of its group: direction 0 leads from the lower
number to the higher (R403). -/
def pairLink (base a b : Nat) : Nat × Nat := if a < b then (base + pairNum a b, 0) else (base + pairNum b a, 1)

/-- The dies at the two ends of a mesh link (R403), lower end first; which of a quartet's four dies a quartet link ends on, the manual
does not say. -/
def linkEnds (l : Nat) : Nat × Nat :=
  if l < 96 then
    let (a, b) := pairOf (l % 6)
    (4 * (l / 6) + a, 4 * (l / 6) + b)
  else if l < 120 then
    let (a, b) := pairOf ((l - 96) % 6)
    (16 * ((l - 96) / 6) + 4 * a + Config.quartetEnd l 0 % 4, 16 * ((l - 96) / 6) + 4 * b + Config.quartetEnd l 1 % 4)
  else
    let (a, b) := ([(0, 1), (2, 3), (0, 2), (1, 3)] : List (Nat × Nat)).getD (l - 120) (0, 1)
    (passDie a, passDie b)

/-- The die that receives on a mesh link in a direction. -/
def linkTo (l dir : Nat) : Nat := if dir = 0 then (linkEnds l).2 else (linkEnds l).1

/-- The links from a die to another of its quadrant (R18): the die link of a quartet, or the quartet link, and at the far quartet a
die link unless the transfer has come to its die. -/
def quadRoute (a b : Nat) : List (Nat × Nat) :=
  if a = b then []
  else if a / 4 = b / 4 then [pairLink (6 * (a / 4)) (a % 4) (b % 4)]
  else
    let (l, d) := pairLink (96 + 6 * (a / 16)) (a / 4 % 4) (b / 4 % 4)
    let m := linkTo l d
    if m = b then [(l, d)] else [(l, d), pairLink (6 * (b / 4)) (m % 4) (b % 4)]

/-- The quadrant link between two quadrants that have one. -/
def quadLink (p q : Nat) : Nat × Nat :=
  let k := if min p q = 0 then (if max p q = 1 then 120 else 122) else if min p q = 1 then 123 else 121
  (k, if p < q then 0 else 1)

/-- The quadrant links from one quadrant to another (R18): across the halves first, to quadrant q XOR 2, then to quadrant q XOR 1. -/
def crossRoute (p q : Nat) : List (Nat × Nat) :=
  let m := if p / 2 = q / 2 then p else Nat.xor p 2
  (if m = p then [] else [quadLink p m]) ++ (if m = q then [] else [quadLink m q])

/-- The one route from a die to another (R18): every link with the direction in which it is crossed. -/
def meshRoute (a b : Nat) : List (Nat × Nat) :=
  if a / 16 = b / 16 then quadRoute a b
  else quadRoute a (passDie (a / 16)) ++ crossRoute (a / 16) (b / 16) ++ quadRoute (passDie (b / 16)) b

/-- The blocks of BAR0 (R348). -/
inductive Block where
  | top | time | summit (q : Nat) | crest (i : Nat) | saddle (s : Nat) | oport (p : Nat) | pass (q : Nat)
  | hostBlk | cxl (c : Nat) | telemetry
  deriving DecidableEq, Repr

/-- A block's number in the model's tables: the far blocks are 6 to 67. -/
def Block.num : Block → Nat
  | .top => 0 | .time => 1 | .summit q => 2 + q | .crest i => 6 + i | .saddle s => 38 + s | .oport p => 54 + p
  | .pass q => 62 + q | .cxl c => 66 + c | .hostBlk => 68 | .telemetry => 69

/-- The block of a number. -/
def Block.ofNum (n : Nat) : Option Block :=
  if n = 0 then some .top else if n = 1 then some .time
  else if n < 6 then some (.summit (n - 2)) else if n < 38 then some (.crest (n - 6))
  else if n < 54 then some (.saddle (n - 38)) else if n < 62 then some (.oport (n - 54))
  else if n < 66 then some (.pass (n - 62)) else if n < 68 then some (.cxl (n - 66))
  else if n = 68 then some .hostBlk else if n = 69 then some .telemetry else none

/-- The die that holds a block (R17, R348): the PCIe endpoint is on Pass 0, the CXL root ports on Pass 1 and 2. -/
def Block.die : Block → Option Nat
  | .crest i => some (crestDie i) | .saddle s => some (saddleDie s) | .oport p => some (portDie p)
  | .pass q => some (passDie q) | .cxl c => some (passDie (c + 1)) | .summit q => some (summitDie q)
  | .hostBlk => some (passDie 0)
  | _ => none

/-- Far blocks (R348). -/
def Block.far : Block → Bool
  | .crest _ | .saddle _ | .oport _ | .pass _ | .cxl _ => true
  | _ => false

/-- The block of a BAR0 offset and the offset within it (R348). -/
def blockAt (a : Nat) : Option (Block × Nat) :=
  if a < 0x00100000 then some (.top, a)
  else if a < 0x00110000 then some (.time, a - 0x00100000)
  else if a < 0x01000000 then none
  else if a < 0x01100000 ∧ (a - 0x01000000) / 0x40000 < 4 then
    some (.summit ((a - 0x01000000) / 0x40000), (a - 0x01000000) % 0x40000)
  else if a < 0x04000000 then none
  else if a < 0x06000000 then some (.crest ((a - 0x04000000) / 0x100000), (a - 0x04000000) % 0x100000)
  else if a < 0x07000000 then some (.saddle ((a - 0x06000000) / 0x100000), (a - 0x06000000) % 0x100000)
  else if a < 0x07800000 then some (.oport ((a - 0x07000000) / 0x100000), (a - 0x07000000) % 0x100000)
  else if a < 0x08000000 then some (.pass ((a - 0x07800000) / 0x200000), (a - 0x07800000) % 0x200000)
  else if a < 0x08400000 then some (.hostBlk, a - 0x08000000)
  else if a < 0x08C00000 then some (.cxl ((a - 0x08400000) / 0x400000), (a - 0x08400000) % 0x400000)
  else if a < 0x09000000 then none
  else if a < 0x10000000 then some (.telemetry, a - 0x09000000)
  else none

/-! ### Messages -/

/-- Bit 0 of a message's flags: the response channel (R304). -/
def Msg.rsp (m : Msg) : Bool := bit m.flags 0

/-- The traffic class of a message (R304). -/
def Msg.cls (m : Msg) : Nat := bits m.flags 3 1

/-- CONNLESS (R304). -/
def Msg.connless (m : Msg) : Bool := bit m.flags 4

/-- A field of a message's body. -/
def Msg.arg (m : Msg) (off n : Nat) : Nat := rd m.body off n

/-- Total length T of a message, header included (R312). -/
def Msg.total (m : Msg) : Nat := 32 + m.body.length

/-- 4 KiB units of a message (R313). -/
def Msg.units (m : Msg) : Nat := ceilDiv m.total 4096

/-- The bytes of a message (R304). -/
def Msg.bytes (m : Msg) : List Byte :=
  le 1 m.type ++ le 1 m.flags ++ le 2 m.src ++ le 2 m.dst ++ le 2 m.conn ++ le 4 m.seq ++ le 4 m.stamp ++ le 4 m.job ++
  le 2 m.crReq ++ le 2 m.crRsp ++ le 4 m.body.length ++ zeros 4 ++ m.body

/-- The message that bytes spell (R304); the body length of the header bounds the body. -/
def Msg.ofBytes (bs : List Byte) : Msg :=
  { type := rd bs 0 1, flags := rd bs 1 1, src := rd bs 2 2 % 2 ^ 14, dst := rd bs 4 2 % 2 ^ 14, conn := rd bs 6 2,
    seq := rd bs 8 4, stamp := rd bs 12 4, job := rd bs 16 4, crReq := rd bs 20 2, crRsp := rd bs 22 2,
    body := (bs.drop 32).take (rd bs 24 4) }

/-- The message types of R447, with their answers (R305): the answer's type where one is expected. -/
def answerType (type kind : Nat) (ack : Bool) : Option Nat :=
  match type with
  | 0x10 => some 0x11
  | 0x20 => some 0x21
  | 0x30 => if kind = 4 then none else some 0x32
  | 0x31 => some 0x32
  | 0x33 => if kind = 1 then some 0x33 else if kind = 3 then some 0x32 else none
  | 0x40 => some 0x41
  | 0x50 | 0x52 | 0x54 => some 0x53
  | 0x51 => if ack then some 0x53 else none
  | 0x60 => some 0x61
  | _ => none

/-- Whether a type code is one of R447. -/
def knownType (t : Nat) : Bool :=
  [0x10, 0x11, 0x20, 0x21, 0x30, 0x31, 0x32, 0x33, 0x40, 0x41, 0x50, 0x51, 0x52, 0x53, 0x54, 0x60, 0x61, 0x70, 0x7F].contains t

/-- `a` is above `b` in 32-bit sequence order (R118's rule applied to 32 bits). -/
def seqAbove32 (a b : Nat) : Bool := let d := (a + 2 ^ 32 - b % 2 ^ 32) % 2 ^ 32; 0 < d && d < 2 ^ 31

/-- `a` is above `b` in 16-bit serial order (R118, R282). -/
def seqAbove16 (a b : Nat) : Bool := let d := (a + 2 ^ 16 - b % 2 ^ 16) % 2 ^ 16; 0 < d && d < 2 ^ 15

/-- The 32-bit stamp of a package time (R30). -/
def stampOf (t : Nat) : Nat := bits t 35 4

/-- Node field of a state address (R75). -/
def addrNode (a : Nat) : Nat := bits a 63 50

/-- Local offset of a state address (R75). -/
def addrLocal (a : Nat) : Nat := a % 2 ^ 50

/-- A number as a two's-complement field of `n` bytes. -/
def leInt (n : Nat) (v : Int) : List Byte := le n (v % (2 ^ (8 * n) : Nat)).toNat

/-- The signed reading of an `n`-bit number. -/
def sext (n v : Nat) : Int := if v ≥ 2 ^ (n - 1) then (v : Int) - (2 ^ n : Nat) else v

end Sys2Proof.Machine
end

