-- ==== Sys2Proof/Machine/Ops.lean ====
section
/-! DEFINITION. The shared operations: parts of the state read and changed, counters (R401), events and their queue
(R365, R366, R409), watermarks (R404 to R406), mailbox commands checked and answered (R359 to R369), package time. -/

namespace Sys2Proof.Machine

/-! ### Parts of the state -/

/-- The device has power and its clocks run: it is not OFF (R380), and THERMTRIP_N has not stopped it (R430). -/
def Top.live (t : Top) : Bool := t.dev != .off && !t.thermtrip

/-- A meaning that changes everything but the queue of commands, package time and the device's own state. A device that is
not live does nothing. -/
def State.onCore (f : Top → Core → Core) (s : State) : State := if s.top.live then { s with core := f s.top s.core } else s

/-- A meaning that changes everything but the queue of commands. -/
def State.onBoth (f : Top → Core → Top × Core) (s : State) : State :=
  if s.top.live then { s with top := (f s.top s.core).1, core := (f s.top s.core).2 } else s

/-- The time block changed. -/
def Top.onTime (f : TimeBlk → TimeBlk) (t : Top) : Top := { t with time := f t.time }

/-- Package time (R28). -/
def Top.now (t : Top) : Nat := t.time.now

def Core.onHost (f : HostIf → HostIf) (c : Core) : Core := { c with host := f c.host }
def Core.onTiers (f : Tiers → Tiers) (c : Core) : Core := { c with tiers := f c.tiers }
def Core.onSched (f : Sched → Sched) (c : Core) : Core := { c with sched := f c.sched }
def Core.onSearch (f : Search → Search) (c : Core) : Core := { c with search := f c.search }
def Core.onFabric (f : Fabric → Fabric) (c : Core) : Core := { c with fabric := f c.fabric }
def Core.onTelem (f : Telem → Telem) (c : Core) : Core := { c with telem := f c.telem }
def Core.onPower (f : Power → Power) (c : Core) : Core := { c with power := f c.power }

/-- What the block puts out next. -/
def Core.emit (o : Out) (c : Core) : Core := { c with out := c.out ++ [o] }

/-- A mailbox. -/
def Core.mbox (c : Core) (m : Nat) : Mbox := c.host.mboxes.getD m {}
/-- A mailbox changed. -/
def Core.updMbox (m : Nat) (f : Mbox → Mbox) (c : Core) : Core :=
  c.onHost (fun h => { h with mboxes := h.mboxes.set m (f (h.mboxes.getD m {})) })
/-- A context; one never written is FREE with generation 0 (R47). -/
def Core.ctx (c : Core) (i : Nat) : Ctx := c.ctxs.getD i {}
/-- A context changed. -/
def Core.updCtx (i : Nat) (f : Ctx → Ctx) (c : Core) : Core := { c with ctxs := c.ctxs.set i (f (c.ctx i)) }
/-- A connection; one never opened is CLOSED. -/
def Core.conn (c : Core) (n : Nat) : Conn := c.fabric.conns.getD n {}
/-- A connection changed. -/
def Core.updConn (n : Nat) (f : Conn → Conn) (c : Core) : Core :=
  c.onFabric (fun b => { b with conns := b.conns.set n (f (b.conns.getD n {})) })
/-- A port. -/
def Core.port (c : Core) (p : Nat) : Port := c.ports.getD p {}
/-- A port changed; there are eight. -/
def Core.updPort (p : Nat) (f : Port → Port) (c : Core) : Core :=
  if p < 8 then { c with ports := c.ports.set p (f (c.port p)) } else c
/-- A page object. -/
def Core.page (c : Core) (o : Nat) : Option PageObj := c.tiers.pages.get? o
/-- A page object changed. -/
def Core.updPage (o : Nat) (f : PageObj → PageObj) (c : Core) : Core :=
  c.onTiers (fun t => { t with pages := t.pages.upd o f })
/-- A client's settings that act at once. -/
def Core.client (c : Core) (k : Nat) : Client := c.clients.getD k {}
/-- A move record changed. -/
def Core.updMove (r : Nat) (f : Move → Move) (c : Core) : Core := { c with moves := c.moves.upd r f }
/-- A work item changed. -/
def Core.updItem (i : Nat) (f : Item → Item) (c : Core) : Core :=
  c.onSched (fun s => { s with items := s.items.upd i f })
/-- A Summit die's lists. -/
def Core.summit (c : Core) (q : Nat) : Summit := c.summits.getD q {}
/-- A Summit die's lists changed. -/
def Core.updSummit (q : Nat) (f : Summit → Summit) (c : Core) : Core := { c with summits := c.summits.set q (f (c.summit q)) }

/-- The next free choice (a value that nothing constrains), and the state with the choice counted. -/
def Core.pick (c : Core) : Nat × Core := (Config.pick c.nonce, { c with nonce := c.nonce + 1 })

/-- A free ID: one of the numbers below `limit` that are not in `used` (rising), chosen freely. -/
def Core.pickFree (used : List Nat) (limit : Nat) (c : Core) : Option (Nat × Core) :=
  let n := limit - used.length
  if n = 0 then none
  else
    let (v, c) := c.pick
    some (nthFree used 0 (v % n), c)

/-! ### Dies -/

/-- A die that failed or does not exist (R352). -/
def Top.gone (t : Top) (d : Nat) : Bool := t.absent.getLsbD d

/-- Crest dies in service. -/
def Top.crests (t : Top) : List Nat := (List.range 32).filter (fun i => !t.gone (crestDie i))

/-- Summit dies in service. -/
def Top.summitsUp (t : Top) : List Nat := (List.range 4).filter (fun q => !t.gone (summitDie q))

/-- A port that the capability record counts (R392, R399). -/
def Top.hasPort (t : Top) (p : Nat) : Bool := p < 8 && !t.gone (portDie p)

/-- Physical stacks in service, ascending: in-service stack k is the k-th (R83). -/
def Top.stackList (t : Top) : List Nat := (List.range 16).filter (fun s => t.stackMask.getLsbD s)

/-- The primary Summit die has failed (R43, R364). -/
def Top.primaryDown (t : Top) : Bool := t.allFailed || t.gone (summitDie t.primary)

/-- The die of the primary Summit. -/
def Top.primaryDie (t : Top) : Nat := summitDie t.primary

/-- A die under test: fenced for its slice (R395). -/
def Core.fenced (c : Core) (d : Nat) : Bool := (c.telem.tests.getD d {}).state == 2

/-- A die draining to its fence or under test (R397). -/
def Core.underTest (c : Core) (d : Nat) : Bool :=
  let s := (c.telem.tests.getD d {}).state
  s == 1 || s == 2

/-- Time left in a die's slice in µs, rounded up, or 200 while it still drains (R397). A slice lasts at most 200 µs. -/
def Core.testLeft (t : Top) (c : Core) (d : Nat) : Nat :=
  let r := c.telem.tests.getD d {}
  if r.state = 1 then 200 else min 200 (Config.busyUs d t.now)

/-- BUSY_TEST for a command aimed at a die under test (R397). -/
def Core.needFree (t : Top) (c : Core) (d : Nat) : Chk Unit := need (!c.underTest d) .busyTest (c.testLeft t d)

/-! ### Counters -/

/-- A counter's place in the table: the kind of counter above, its coordinates below. -/
def Ctr.key : Ctr → Nat
  | .summit s k => 2 ^ 60 + s * 256 + k
  | .pass p k => 2 * 2 ^ 60 + p * 256 + k
  | .port p k => 3 * 2 ^ 60 + p * 256 + k
  | .lane p dir l k => 4 * 2 ^ 60 + ((p * 2 + dir) * 16 + l) * 256 + k
  | .egress p q k => 5 * 2 ^ 60 + (p * 8 + q) * 256 + k
  | .hawk i k => 6 * 2 ^ 60 + i * 256 + k
  | .chrys i k => 7 * 2 ^ 60 + i * 256 + k
  | .luna i k => 8 * 2 ^ 60 + i * 256 + k
  | .client n k => 9 * 2 ^ 60 + n * 256 + k
  | .event n k => 10 * 2 ^ 60 + n * 256 + k
  | .starve q i => 11 * 2 ^ 60 + q * 65536 + i
  | .cross id => 12 * 2 ^ 60 + id
  | .mesh l => 13 * 2 ^ 60 + l
  | .dev k => 14 * 2 ^ 60 + k

/-- A counter's value (R401). -/
def Core.ctr (c : Core) (k : Ctr) : Rate := c.telem.ctrs.getD k.key 0

/-- A counter raised (R401). -/
def Core.bump (k : Ctr) (n : Nat := 1) (c : Core) : Core :=
  if n = 0 then c else c.onTelem (fun t => { t with ctrs := t.ctrs.set k.key ((t.ctrs.getD k.key 0).up n) })

/-- A counter zeroed. -/
def Core.clearCtrs (p : Nat → Bool) (c : Core) : Core :=
  c.onTelem (fun t => { t with ctrs := t.ctrs.filter (fun e => !p e.1) })

/-- Counters in the 8-byte form of R173, in order. -/
def Core.ctrBytes (c : Core) (ks : List Ctr) : List Byte := ks.flatMap (fun k => (c.ctr k).bytes)

/-! ### Events -/

/-- Records the event queue holds (R365). -/
def HostIf.evqLen (h : HostIf) : Nat := 2 ^ h.evqSize

/-- Records waiting in the event queue: the value of EVQ_FILL (R404). -/
def HostIf.evqFill (h : HostIf) : Nat := (h.evqTail + h.evqLen - h.evqHead % h.evqLen) % h.evqLen

/-- The record of R365. -/
def evqRecord (code src : Nat) (phase lost : Bool) (subject time : Nat) (detail : List Byte) : List Byte :=
  le 2 code ++ le 1 src ++ le 1 (b2n phase + 2 * b2n lost) ++ le 4 subject ++ le 8 time ++ fit 16 detail

/-- An MSI-X vector raised, 0 to 2,047 (R362, R435); a larger number names none. -/
def Core.msix (v : Nat) (c : Core) : Core := if v < 2048 then c.emit (.msix v) else c

/-- One event (R365, R366, R409): counted for its class; not written while masked; lost to a full or disabled queue;
otherwise written before EVQ_TAIL advances, with the vector raised into an empty queue. -/
def Core.evWrite (t : Top) (code src subject : Nat) (detail : List Byte) (c : Core) : Core :=
  if t.primaryDown then c else
  let cls := code / 256
  let c := c.bump (.event cls 0)
  let h := c.host
  if bit h.evMask cls then c.bump (.event cls 1)
  else if !h.evqEnable || (h.evqTail + 1) % h.evqLen == h.evqHead then
    (c.bump (.dev 6)).onHost (fun h => { h with lostBefore := true })
  else
    let rec_ := evqRecord code src h.evqPhase h.lostBefore subject t.now detail
    let c := c.emit (.hostWrite (h.evqBase / 4096 * 4096 + 32 * h.evqTail) rec_)
    let tail := (h.evqTail + 1) % h.evqLen
    let c := c.onHost (fun h => { h with evqTail := tail, lostBefore := false, evqPhase := if tail = 0 then !h.evqPhase else h.evqPhase })
    if h.evqVectorEn && h.evqHead == h.evqTail then c.msix h.evqVector else c

/-- The watermark record of an ID, with its default enabled and clear. -/
def Core.wm (c : Core) (id : Nat) : Wm := c.telem.wms.getD id {}

/-- A watermark record stored. -/
def Core.setWm (id : Nat) (w : Wm) (c : Core) : Core := c.onTelem (fun t => { t with wms := t.wms.set id w })

/-- LEVEL after a value has been evaluated (R405). -/
def wmLevel (up : Bool) (thr clr v : Nat) (level : Bool) : Bool :=
  if up then (if v ≥ thr then true else if v < clr then false else level)
  else (if v ≤ thr then true else if v > clr then false else level)

/-- A watermark evaluated at a value (R405): the state, and whether an event is to be raised. -/
def Core.wmStep (id : Nat) (up : Bool) (thr clr v : Nat) (c : Core) : Core × Bool :=
  let w := c.wm id
  let lvl := wmLevel up thr clr v w.level
  let crossing := lvl && !w.level && w.on
  let raised := crossing && !w.crossed
  let c := c.setWm id { w with level := lvl, value := v, crossed := w.crossed || crossing }
  (if crossing then c.bump (.cross id) else c, raised)

/-- The threshold and clear level in force: what WATERMARK_SET set, else the default (R404, R406). -/
def Wm.levels (w : Wm) (dflt : Nat × Nat) : Nat × Nat := w.set.getD dflt

/-- ID of the EVQ_FILL watermark (R404). -/
def wmEvq : Nat := 6 * 2 ^ 24

/-- The event queue's fill evaluated, and its own WATERMARK event written (R405). -/
def Core.evqWatch (t : Top) (c : Core) : Core :=
  let (thr, clr) := (c.wm wmEvq).levels (c.host.evqLen * 7 / 8, c.host.evqLen / 2)
  let (c1, ev) := c.wmStep wmEvq true thr clr c.host.evqFill
  if ev then
    let c2 := c1.evWrite t 0x0C01 0xFF wmEvq (le 4 (c1.wm wmEvq).value)
    c2.setWm wmEvq { c2.wm wmEvq with value := c2.host.evqFill }
  else c1

/-- An event raised (R408, R409). -/
def Core.raise (t : Top) (code src subject : Nat) (detail : List Byte) (c : Core) : Core :=
  (c.evWrite t code src subject detail).evqWatch t

/-- A watermark evaluated, and its event raised (R405). -/
def Core.watch (t : Top) (id : Nat) (up : Bool) (dflt : Nat × Nat) (v : Nat) (src : Nat) (c : Core) : Core :=
  let (thr, clr) := (c.wm id).levels dflt
  let (c, ev) := c.wmStep id up thr clr v
  if ev then c.raise t 0x0C01 src id (le 4 v) else c

/-! ### Lifetime counters -/

/-- Item and sub-counter of a lifetime record (R410). -/
def lifeKey (item sub : Nat) : Nat := item * 2 ^ 16 + sub

/-- A lifetime counter raised (R401, R410): a failed die's working values no longer advance; reaching the limit raises
COUNTER_SATURATED once. -/
def Core.life (t : Top) (die item sub : Nat) (n : Nat := 1) (c : Core) : Core :=
  if t.gone die then c else
  let r := c.telem.life.getD die {}
  let old := r.items.getD (lifeKey item sub) {}
  let new := old.up n
  let c := c.onTelem (fun x => { x with life := x.life.set die { r with items := r.items.set (lifeKey item sub) new } })
  if new.sat && !old.sat then c.raise t 0x0C02 die die (le 2 item) else c

/-! ### Queues and credits -/

/-- Depth of a queue (R24, R332). -/
def qDepth (id : Nat) : Nat :=
  match id with
  | 0x01 => 1024 | 0x02 => 512 | 0x03 => 1024 | 0x04 => 256 | 0x05 => 128 | 0x06 => 256 | 0x07 => 512 | 0x08 => 512
  | 0x09 => 512 | 0x0A => 4096 | 0x0B => 4096 | 0x0C => 1024 | 0x0D => 48 | 0x0E => 64 | 0x0F => 8 | 0x10 => 512
  | _ => 0

/-- Instances of a queue (R24, R403); none for an unknown queue ID. -/
def qCount (id : Nat) : Nat :=
  match id with
  | 0x01 => 32 | 0x02 => 16 | 0x03 => 32 | 0x04 => 32 | 0x05 => 32 | 0x06 => 4 | 0x07 => 4 | 0x08 => 32 | 0x09 => 4
  | 0x0A => 8 | 0x0B => 8 | 0x0C => 2 | 0x0D => 248 | 0x0E => 248 | 0x0F => 248 | 0x10 => 64
  | _ => 0

/-- Credits of a producer (R24, R332). The producer is a die number; for MEM_READ it is 0 Hawkmoth, 1 Ridge, 2 Chrysalis,
3 Luna, for MEM_WRITE 0 Chrysalis, 1 the Crest store, and for MEM_RETURN, whose slots are reserved by the reads, and for a mesh link 0. -/
def qCredits (id prod : Nat) : Nat :=
  match id with
  | 0x01 => match prod with | 0 => 640 | 1 => 192 | 2 => 128 | 3 => 64 | _ => 0
  | 0x02 => 16
  | 0x03 => 1024
  | 0x04 => match prod with | 0 => 192 | 1 => 64 | _ => 0
  | 0x05 => 32
  | 0x06 => 8
  | 0x07 => if (dieType prod).1 = .pass then 32 else 12
  | 0x08 => 128
  | 0x09 => 16
  | 0x0A => 4096 | 0x0B => 4096 | 0x0C => 32 | 0x0D => 48 | 0x0E => 64 | 0x0F => 8 | 0x10 => 512
  | _ => 0

/-- The die that consumes a queue instance, the holder of its watermark (R24, R403): the Saddle of a memory link takes its reads and
writes, and a mesh link's classes are taken at the end that receives. -/
def qDie (id inst : Nat) : Nat :=
  match id with
  | 0x01 | 0x04 => saddleDie (inst / 2)
  | 0x03 | 0x05 | 0x08 => crestDie inst
  | 0x02 => saddleDie inst
  | 0x06 | 0x07 => summitDie inst
  | 0x09 => passDie inst
  | 0x0A => portDie inst
  | 0x0B => passDie (inst / 2)
  | 0x0C => passDie (inst + 1)
  | 0x0D | 0x0E | 0x0F => linkTo (inst / 2) (inst % 2)
  | 0x10 => passDie (inst / 16)
  | _ => 0xFF

/-- Key of a queue instance. -/
def qKey (id inst : Nat) : Nat := id * 65536 + inst

/-- A queue instance. -/
def Core.queue (c : Core) (id inst : Nat) : QInst := c.telem.queues.getD (qKey id inst) {}

/-- Entries in a queue instance (R403). -/
def QInst.depth (q : QInst) : Nat := sumL (q.entries.map QEntry.sent)

/-- Credits that a producer has taken (R22). -/
def QInst.used (q : QInst) (p : Nat) : Nat := sumL ((q.entries.filter (fun e => e.prod == p)).map QEntry.sent)

/-- Ready entries of a producer that lack a credit (R22, R25). -/
def QInst.waiting (q : QInst) (p : Nat) : Nat := sumL ((q.entries.filter (fun e => e.prod == p)).map QEntry.wait)

/-- ID of a queue instance's depth watermark (R404). -/
def wmQueue (id inst : Nat) : Nat := 2 ^ 24 + id * 65536 + inst

/-- A consumer grants its credits (R26, R392): start-up self-test has passed its die, which has not failed since. -/
def Top.grants (t : Top) (d : Nat) : Bool := t.phase = 0 && !t.gone d

/-- Entries that a producer may send now (R22): its credits not taken, while the consumer grants them. A memory read also needs a
free slot of MEM_RETURN on its link, which it reserves, so that data sent back always finds one (R24). -/
def Core.qRoom (t : Top) (c : Core) (id inst prod : Nat) : Nat :=
  if !t.grants (qDie id inst) then 0
  else
    let q := c.queue id inst
    let n := qCredits id prod - q.used prod
    match id with
    | 0x01 => min n (1024 - (q.depth + (c.queue 0x03 inst).depth))
    | _ => n

/-- A queue instance's entries stored: what is neither sent nor waiting goes, its starvation is counted up to now when it ends and
begins when a producer comes to lack a credit (R25), and its depth watermark is evaluated (R405). -/
def Core.putQueue (t : Top) (id inst : Nat) (es : List QEntry) (c : Core) : Core :=
  let es := es.filter (fun e => 0 < e.sent + e.wait)
  let since := (c.queue id inst).starveSince
  let starved := es.any (fun e => 0 < e.wait)
  let c := if starved then c else c.bump (.starve id inst) ((since.map (t.now - ·)).getD 0)
  let q : QInst := { entries := es, starveSince := if starved then some (since.getD t.now) else none }
  (c.onTelem (fun x => { x with queues := x.queues.set (qKey id inst) q })).watch t (wmQueue id inst) true
    (qDepth id, qDepth id / 2) q.depth (qDie id inst)

/-- The last entries of a list joined by more of the same producer and work, or followed by them. -/
def addEntry (e : QEntry) : List QEntry → List QEntry
  | [] => [e]
  | [x] => if x.prod = e.prod ∧ x.work = e.work then [{ x with sent := x.sent + e.sent, wait := x.wait + e.wait }] else [x, e]
  | x :: xs => x :: addEntry e xs

/-- `n` entries that a producer has ready for a queue on behalf of some work (R22): as many as it holds credits for are sent, and the
others wait with it. -/
def Core.qSend (t : Top) (id inst prod n : Nat) (w : Work) (c : Core) : Core :=
  if n = 0 then c
  else
    let k := min (c.qRoom t id inst prod) n
    c.putQueue t id inst (addEntry { prod := prod, work := w, sent := k, wait := n - k } (c.queue id inst).entries)

/-- The first entry that passes changed. -/
def updFirst {α : Type} (p : α → Bool) (f : α → α) : List α → List α
  | [] => []
  | x :: xs => if p x then f x :: xs else x :: updFirst p f xs

/-- Entries that wait take the credits that are free, oldest first (R22). -/
def Core.qRefill (t : Top) (id inst : Nat) (c : Core) : Core :=
  (c.queue id inst).entries.foldl (fun c e =>
    if e.wait = 0 then c
    else
      let k := min (c.qRoom t id inst e.prod) e.wait
      if k = 0 then c
      else c.putQueue t id inst (updFirst (fun x => x.prod == e.prod && x.work == e.work && x.wait == e.wait)
        (fun x => { x with sent := x.sent + k, wait := x.wait - k }) (c.queue id inst).entries)) c

/-- A credit returned lets the oldest waiting entry of a producer be sent (R22). -/
def QInst.give (q : QInst) (p : Nat) : List QEntry :=
  updFirst (fun e => e.prod == p && 0 < e.wait) (fun e => { e with sent := e.sent + 1, wait := e.wait - 1 }) q.entries

/-- One entry of a producer freed: the oldest that `ready` lets go. -/
def QInst.take1 (q : QInst) (p : Nat) (ready : QEntry → Bool) : Option (QEntry × QInst) :=
  let ok := fun (e : QEntry) => e.prod == p && 0 < e.sent && ready e
  (q.entries.find? ok).map (fun e => (e, { q with entries := updFirst ok (fun e => { e with sent := e.sent - 1 }) q.entries }))

/-- The consumer frees one entry of a producer and returns its credit (R22), which lets one that waits be sent. A Saddle that frees a
read puts its data into the slot reserved for it; a read that waits is sent once it has a credit and a slot (R24). -/
def Core.qReturn (t : Top) (id inst prod : Nat) (ready : QEntry → Bool) (c : Core) : Core :=
  match (c.queue id inst).take1 prod ready with
  | none => c
  | some (e, q) => match id with
    | 0x01 => ((c.putQueue t id inst q.entries).putQueue t 0x03 inst
        (addEntry { prod := 0, work := e.work, sent := 1 } (c.queue 0x03 inst).entries)).qRefill t 0x01 inst
    | 0x03 => (c.putQueue t id inst q.entries).qRefill t 0x01 inst
    | _ => c.putQueue t id inst (if 0 < q.waiting prod then q.give prod else q.entries)

/-- The entries of finished or abandoned work freed from a queue instance (R22). -/
def Core.qEnd (t : Top) (id inst : Nat) (p : Work → Bool) (c : Core) : Core :=
  if (c.queue id inst).entries.any (fun e => p e.work) then
    (c.putQueue t id inst ((c.queue id inst).entries.filter (fun e => !p e.work))).qRefill t id inst
  else c

/-- The entries of finished or abandoned work freed from every instance of the queues that pass. -/
def Core.qEndAll (t : Top) (ids : Nat → Bool) (p : Work → Bool) (c : Core) : Core :=
  ((c.telem.queues.keys.filter (fun k => ids (k / 65536))).foldl (fun c k => c.qEnd t (k / 65536) (k % 65536) p) c)

/-! ### The bridge mesh -/

/-- The queue of a mesh class (R19, R24). -/
def meshQueue (cls : MeshClass) : Nat :=
  match cls with
  | .request => 0x0D | .response => 0x0E | .control => 0x0F

/-- A transfer sent from one die to another (R18, R19): its units take credits of the first link of its route. -/
def Core.meshSend (t : Top) (src dst : Nat) (cls : MeshClass) (cargo : Cargo) (w : Work) (units : Nat) (c : Core) : Core :=
  match meshRoute src dst with
  | [] => c
  | (l, d) :: rest =>
    let n := c.telem.nextTransfer
    let x : Transfer := { src := src, dst := dst, cls := cls, cargo := cargo, work := w, units := units, left := units, route := (l, d) :: rest }
    (c.onTelem (fun y => { y with mesh := y.mesh.set n x, nextTransfer := n + 1 })).qSend t (meshQueue cls) (2 * l + d) 0 units (.transfer n)

/-- Transfers ended: they leave the mesh, and what they hold of its links is freed. -/
def Core.meshEnd (t : Top) (p : Transfer → Bool) (c : Core) : Core :=
  let ns := Tbl.keys (c.telem.mesh.filter (fun e => p e.2))
  if ns.isEmpty then c
  else (c.onTelem (fun y => { y with mesh := y.mesh.filter (fun e => !p e.2) })).qEndAll t (fun id => 0x0D ≤ id && id ≤ 0x0F) (fun w => match w with
    | .transfer n => ns.contains n
    | _ => false)

/-- No earlier transfer of the same source, destination and class is still on its way (R20). -/
def Core.meshInOrder (c : Core) (n : Nat) : Bool :=
  match c.telem.mesh.get? n with
  | none => true
  | some x => c.telem.mesh.all (fun e => n ≤ e.1 || e.2.src != x.src || e.2.dst != x.dst || e.2.cls != x.cls || e.2.route.isEmpty)

/-- The transfer that carries something on behalf of some work, if one is on its way or has come to its destination. -/
def Core.meshFind (c : Core) (cargo : Cargo) (w : Work) : Option (Nat × Transfer) :=
  c.telem.mesh.find? (fun e => e.2.cargo == cargo && e.2.work == w)

/-- The row that takes what a transfer brings may act (R20): nothing was sent before it that is still on its way. -/
def Core.meshDue (c : Core) (cargo : Cargo) (w : Work) : Bool := ((c.meshFind cargo w).map (fun e => c.meshInOrder e.1)).getD true

/-! ### Mailbox commands -/

/-- The response of a started command decided (R359). -/
def Core.stage (m : Nat) (st : Status) (d : Nat) (p : List Byte) (c : Core) : Core :=
  c.updMbox m (fun b => if b.taken.isSome && b.result.isNone then { b with result := some ⟨st, d, p⟩ } else b)

/-- What a command's body answers: a refusal, or a next state with the response, or none while it waits (R363). -/
abbrev Ans := Chk (Core × Option Resp)

/-- OK with a payload. -/
def ok (c : Core) (p : List Byte := []) : Ans := .ok (c, some ⟨.ok, 0, p⟩)

/-- Completed with a status, a detail and a payload of its own. -/
def answer (c : Core) (st : Status) (d : Nat := 0) (p : List Byte := []) : Ans := .ok (c, some ⟨st, d, p⟩)

/-- Accepted; the command completes later. -/
def waits (c : Core) : Ans := .ok (c, none)

/-- A stale handle (R51). -/
def Core.stale (t : Top) (c : Core) (h : Nat) : Bool :=
  let i := hIndex h
  i == 0 || t.gone (summitDie (i / 32768)) || (c.ctx i).gen != hGen h || (c.ctx i).state == .free

/-- A command that is legal only while a job is bound (R370). -/
def jobOnly (cmd : Cmd) : Bool := legalIn cmd .bound && !([DevState.boot, .ready, .draining, .faulted].any (legalIn cmd))

/-- Step 3 of R369: the device state in which a command is not legal. For JOB_BIND, JOB_RELEASE and ROLE_SET it is the present one,
for any other the one in force when it was taken (R363); and from the first step of JOB_RELEASE a command that is legal only while a job
is bound is refused in the present one too (R376). -/
def illegalState (cmd : Cmd) (takenIn now : DevState) : Option DevState :=
  if isSerial cmd.opcode then (if legalIn cmd now then none else some now)
  else if !legalIn cmd takenIn then some takenIn
  else if jobOnly cmd && (now = .draining || now = .ready) then some now
  else none

/-- Steps 1 to 4 of R369. -/
def precheck (t : Top) (c : Core) (m : Nat) (cmd : Cmd) : Chk Unit := do
  match fixedLen cmd.opcode with
  | none => .error (.notSupported, 0)
  | some n =>
    need (cmd.length ≤ 4048 && n ≤ cmd.length) .badArg 0xFFFFFF
    match illegalState cmd (c.mbox m).takenIn t.dev with
    | some d => .error (.stateReject, stateDetail .device d.code)
    | none => pure ()
    match handleRule cmd with
    | .zero => need (cmd.handle == 0) .badArg 0xFFFFFE
    | .ctx => need (!c.stale t cmd.handle) .staleHandle
    | .optional => need (cmd.handle == 0 || !c.stale t cmd.handle) .staleHandle
    | .any => pure ()

/-- Mailbox m holds a command with the opcode, taken and not yet started; a serial command must be the oldest (R363). -/
def Core.ready (c : Core) (m op : Nat) : Option Cmd :=
  match (c.mbox m).taken with
  | some cmd =>
    if cmd.opcode = op && !(c.mbox m).started && (c.mbox m).result.isNone && (!isSerial op || c.host.serial.head? == some m)
    then some cmd else none
  | none => none

/-- A command started: its row has run. -/
def Core.start (m : Nat) (c : Core) : Core :=
  (c.updMbox m (fun b => { b with started := true })).onHost (fun h => { h with serial := h.serial.filter (· != m) })

/-- A command's run once it has passed or failed its checks: a refusal has no side effect but the response (R369). -/
def Core.finish (m : Nat) (c : Core) (a : Ans) : Core :=
  match a with
  | .error (st, d) => (c.start m).stage m st d []
  | .ok (c', some r) => (c'.start m).stage m r.status r.detail r.payload
  | .ok (c', none) => c'.start m

/-- A Tsuvar command run by its body (R369). A row that names a mailbox with no such command taken has no effect. -/
def runCommand (m op : Nat) (body : Top → Core → Nat → Cmd → Ans) (s : State) : State :=
  match s.core.ready m op with
  | none => s
  | some cmd =>
    s.onCore (fun t c => c.finish m (do
      precheck t c m cmd
      body t c m cmd))

/-- A Tsuvar command whose body also changes the device's own state. -/
def runTop (m op : Nat) (body : Top → Core → Nat → Cmd → Chk (Top × Core × Option Resp)) (s : State) : State :=
  match s.core.ready m op with
  | none => s
  | some cmd =>
    s.onBoth (fun t c => match (do
        precheck t c m cmd
        body t c m cmd) with
      | .error e => (t, c.finish m (.error e))
      | .ok (t', c', r) => (t', c.finish m (.ok (c', r))))

/-! ### Package time -/

/-- The rate correction that the servo takes from a measured offset: a free value within ±200 ppm (R31). -/
def TimeBlk.servoRate (b : TimeBlk) (off : Int) : Int := max (-200000) (min 200000 (Config.servoRate b.servo off))

/-- A die's own copy of package time (R29): within ±5 ns of the master, and never going back (R28). -/
def TimeBlk.dieTime (b : TimeBlk) (d : Nat) : Nat :=
  match b.copies.get? d with
  | none => b.now
  | some x => max x.least ((b.now : Int) + max (-5) (min 5 x.off)).toNat

/-- Package time on a die (R29, R41): the master on the primary Summit, the die's copy on any other. -/
def Top.dieTime (t : Top) (d : Nat) : Nat := if d = t.primaryDie then t.now else t.time.dieTime d

/-- A die's copy loaded at start-up, its distribution delay measured, and how far it is off a free choice `k` (R29). -/
def TimeBlk.loadCopy (b : TimeBlk) (d k : Nat) : TimeBlk :=
  { b with copies := b.copies.set d { delay := Config.timeDelay d, off := ((k % 11 : Nat) : Int) - 5, least := b.now } }

/-- A die's copy corrected (R28, R29): from then on it is off by another free choice `k`, and never below what it showed. -/
def TimeBlk.correctCopy (b : TimeBlk) (d k : Nat) : TimeBlk :=
  { b with copies := b.copies.upd d (fun x => { x with off := ((k % 11 : Nat) : Int) - 5, least := b.dieTime d }) }

/-- One nanosecond slewed back (R31): once package time is no longer ahead, AHEAD clears and the servo sets the rate. -/
def TimeBlk.slewed (b : TimeBlk) : TimeBlk :=
  if b.ahead && b.slew ≤ 1 then { b with ahead := false, slew := 0, rate := b.servoRate 0, servo := b.servo + 1 }
  else { b with slew := b.slew - 1 }

/-- One nanosecond of package time: the tick of R29, with the rate correction of R31 in parts per 10^9 built up until
it makes a whole nanosecond. Package time does not run in OFF. -/
def TimeBlk.tick (b : TimeBlk) : TimeBlk :=
  let f := b.frac + b.rate
  if f ≥ 1000000000 then { b with now := b.now + 2, frac := f - 1000000000 }
  else if f ≤ -1000000000 then { b.slewed with frac := f + 1000000000 }
  else { b with now := b.now + 1, frac := f }

/-- What a step does with no command waiting: package time advances, unless PERST_N holds the boot ROM back (R28, R436). -/
def idleTick (s : State) : State :=
  if s.top.live && !s.top.perst then { s with top := s.top.onTime TimeBlk.tick } else s

end Sys2Proof.Machine
end

