-- ==== Sys2Proof/Machine/Attn.lean ====
section
/-! DEFINITION. The model shape record (R174 to R176) and the arithmetic of attention: rotary codes (R184, R185), masks
(R183), slice plans (R186), Hawkmoth slices and merging (R188 to R190, R196), Ridge units (R210 to R214). -/

namespace Sys2Proof.Machine

/-! ### The shape record -/

/-- Layers L of a shape record (R174). -/
def shLayers (s : List Byte) : Nat := rd s 4 2
/-- Query heads Hq. -/
def shHq (s : List Byte) : Nat := rd s 6 2
/-- Key/value heads H. -/
def shH (s : List Byte) : Nat := rd s 8 2
/-- Head dimension D. -/
def shD (s : List Byte) : Nat := rd s 10 2
/-- Maximum sequence length. -/
def shMax (s : List Byte) : Nat := rd s 12 4
/-- Layer-group size G. -/
def shG (s : List Byte) : Nat := rd s 16 2
/-- Tier-1 storage format. -/
def shFmt (s : List Byte) : Fmt := (Fmt.ofCode (rd s 18 1)).getD .bf16
/-- Ridge input format. -/
def shComp (s : List Byte) : Fmt := (Fmt.ofCode (rd s 19 1)).getD .bf16
/-- The window of a layer's mask record, 0 for none. -/
def shWindow (s : List Byte) (l : Nat) : Nat := bits (rd s (200 + 4 * l) 4) 20 0
/-- DOC of a layer's mask record. -/
def shDoc (s : List Byte) (l : Nat) : Bool := bit (rd s (200 + 4 * l) 4) 21
/-- Layer groups NG (R148). -/
def shNG (s : List Byte) : Nat := ceilDiv (shLayers s) (shG s)
/-- The layer order of the record (R174). -/
def shOrder (s : List Byte) : List Nat :=
  if rd s 35 1 = 2 then (List.range (shLayers s)).map (fun i => rd s (40 + i) 1) else List.range (shLayers s)
/-- The layers of group g (R148). -/
def shGroup (s : List Byte) (g : Nat) : List Nat :=
  (List.range (shLayers s)).filter (fun l => l / shG s == g)
/-- The frame size F of a shape (R81). -/
def shFrame (s : List Byte) : Nat := frameBytes (shFmt s) (shH s) (shD s)
/-- The metadata slot of a shape (R82). -/
def shSlot (s : List Byte) : Nat := slotBytes (shH s) (shD s)
/-- Bytes of a STEP_QUERY body (R177). -/
def shStepBytes (s : List Byte) : Nat := 32 + 2 * shD s * (shHq s + 2 * shH s)
/-- Bytes of a CHUNK_SUBMIT body of p tokens (R204). -/
def shPartBytes (s : List Byte) (p : Nat) : Nat := 104 + 2 * shD s * p * (shHq s + 2 * shH s)

/-- A finite FP32 value not below `b`, or above it. -/
def okF32 (w : Nat) (b : F32) (strict : Bool) : Bool :=
  let x : F32 := BitVec.ofNat 32 w
  !x.special && (if strict then b.lt x else !x.lt b)

/-- The first failing check of a list of checks with their details. -/
def firstBad (cs : List (Nat × Bool)) : Option Nat := (cs.find? (fun c => !c.2)).map Prod.fst

/-- A layer order's bytes beyond its L entries are zero (R174). The table belongs to order kind 0x2; what it holds under kind 0x1 is not checked,
as the manual states nothing of it there (log 172). -/
def orderTail (s : List Byte) : Bool := rd s 35 1 != 2 || ((List.range 160).all (fun i => i < shLayers s || rd s (40 + i) 1 == 0))

/-- The checks of a shape record in the order of R175. -/
def shapeCheck (s : List Byte) : Chk Unit := do
  need (rd s 0 1 == 1) .badArg 0
  let att := rd s 1 1
  let pos := rd s 2 1
  need (!(2 ≤ att && att ≤ 5) && !(pos == 2 || pos == 3)) .notSupported
  let l := shLayers s
  let hq := shHq s
  let h := shH s
  let d := shD s
  match firstBad [(4, 1 ≤ l && l ≤ 160), (6, 1 ≤ hq && hq ≤ 128), (8, 1 ≤ h && h ≤ 16 && hq % h == 0),
      (10, d == 64 || d == 128 || d == 256), (12, 1 ≤ shMax s && shMax s ≤ 1048576), (1, att == 1), (2, pos == 1)] with
  | some o => .error (.badArg, o)
  | none =>
    let share := rd s 3 1
    let dr := rd s 32 2
    match firstBad ([(3, (share == 1 && h == hq) || (share == 2 && 1 < h && h < hq) || (share == 3 && h == 1)),
        (16, 1 ≤ shG s && shG s ≤ l), (18, (Fmt.ofCode (rd s 18 1)).isSome),
        (19, ((Fmt.ofCode (rd s 19 1)).map Fmt.compute).getD false),
        (20, rd s 20 4 == 0 || okF32 (rd s 20 4) 0#32 true), (24, okF32 (rd s 24 4) F32.one true),
        (28, rd s 28 4 == 0 || okF32 (rd s 28 4) F32.one false), (32, dr % 2 == 0 && 2 ≤ dr && dr ≤ d),
        (34, rd s 34 1 == 1 || rd s 34 1 == 2), (35, rd s 35 1 == 1 || rd s 35 1 == 2),
        (40, (List.range l).all (fun i => (shOrder s).contains i) && orderTail s)] ++
        (List.range 160).map (fun i => (200 + 4 * i, if i < l then decide (shWindow s i ≤ 1048576) else rd s (200 + 4 * i) 4 == 0))) with
    | some o => .error (.badArg, o)
    | none => .ok ()

/-! ### Rotary codes -/

/-- What attention uses of a shape record. -/
structure Att where
  h : Nat
  hq : Nat
  d : Nat
  /-- rotary pairs (R174, R176) -/
  pairs : List (Nat × Nat)
  /-- 64-bit frequencies by pair (R184) -/
  freqs : List Nat
  scale : F32
  comp : Fmt

/-- Query heads that share one key/value head (R176). -/
def Att.g (a : Att) : Nat := a.hq / a.h

/-- f_j = round(2^64 · ω_j / 2π) with ω_j = θ^(−2j/Dr) over the linear scaling factor (R176, R184). -/
def ropeFreq (theta lin : F32) (dr j : Nat) : Nat :=
  let (v, k) := fxExpNeg (fxLnF32 theta * (2 * j) / dr)
  let s := (if lin = 0#32 then F32.one else lin).dy
  let num := v * 2 ^ 64 * 2 ^ (-s.e).toNat
  let den := 2 * fxPi * 2 ^ k * s.m * 2 ^ s.e.toNat
  (2 * num + den) / (2 * den)

/-- The attention parts of a shape record; a score scale of 0 means 1/√D rounded to FP32 (R174). -/
def Att.ofShape (s : List Byte) : Att :=
  let dr := rd s 32 2
  let half := dr / 2
  let sc : F32 := BitVec.ofNat 32 (rd s 20 4)
  { h := shH s, hq := shHq s, d := shD s,
    pairs := (List.range half).map (fun j => if rd s 34 1 = 1 then (j, j + half) else (2 * j, 2 * j + 1)),
    freqs := (List.range half).map (ropeFreq (BitVec.ofNat 32 (rd s 24 4)) (BitVec.ofNat 32 (rd s 28 4)) dr),
    scale := if sc ≠ 0#32 then sc else if shD s = 64 then 0x3E000000#32 else if shD s = 256 then 0x3D800000#32 else 0x3DB504F3#32,
    comp := shComp s }

/-- The phase of R184: δ·f mod 2^64. -/
def ropePhase (f : Nat) (delta : Int) : Nat := ((delta * f) % (2 ^ 64 : Nat)).toNat

/-- Sine or cosine of 2π·t/2^32 in FP32, within 1 unit in the last place (R184): the value itself where FP32 holds it,
else one of its two neighbours. -/
def trig32 (sine : Bool) (t : Nat) : F32 :=
  let v := fxTrig sine t
  let (k, q) := roundDown 24 (-149) v.natAbs (-320)
  if k * 2 ^ (q + 320).toNat = v.natAbs then (F32.pack (v < 0) k q).1
  else if Config.trigUp t sine then (F32.pack (v < 0) (k + 1) q).1
  else (F32.pack (v < 0) k q).1

/-- Cosine and sine of every pair at a relative distance (R184). -/
def Att.cs (a : Att) (delta : Int) : List (F32 × F32) :=
  a.freqs.map (fun f => let t := ropePhase f delta / 2 ^ 32; (trig32 false t, trig32 true t))

/-- A head vector rotated (R185), with the BF16 rounding or, for Ridge, without it (R212). -/
def Att.rotate (a : Att) (q : List F32) (cs : List (F32 × F32)) (toBf : Bool) : Num (List F32) :=
  (a.pairs.zip cs).foldlM (fun u (p, (c, s)) => do
    let x := q.getD p.1 0#32
    let y := q.getD p.2 0#32
    let t1 ← fp32Mul y s
    let ua ← fp32Fma x c t1.neg
    let t2 ← fp32Mul y c
    let ub ← fp32Fma x s t2
    let ua ← (if toBf then bf16 ua else pure ua)
    let ub ← (if toBf then bf16 ub else pure ub)
    return (u.set p.1 ua).set p.2 ub) q

/-! ### Masks and plans -/

/-- The lowest admitted position of a query at n (R183). -/
def admitLo (s : List Byte) (layer n doc : Nat) : Nat :=
  let w := shWindow s layer
  max (if w = 0 then 0 else n + 1 - w) (if shDoc s layer then doc else 0)

/-- Admitted positions of page p, as slots (R183). -/
def admitSlots (p lo n : Nat) : List Nat :=
  (List.range 256).filter (fun i => lo ≤ 256 * p + i && 256 * p + i ≤ n)

/-- cap_buf of R186. -/
def capBuf (scoreBytes hq : Nat) : Nat := scoreBytes / (8 * 256 * hq * 4)

/-- The slice plan of R186 from pages and their stacks, in ascending page index: stack and pages of each slice. -/
def slicePlan (pages : List (Nat × Nat)) (target scoreBytes hq : Nat) : List (Nat × List Nat) :=
  let cap := min target (capBuf scoreBytes hq)
  (List.range 16).flatMap (fun st =>
    let run := (pages.filter (fun p => p.2 == st)).map Prod.fst
    (chunksOf cap run.length run).map (fun ps => (st, ps)))

/-! ### Hawkmoth -/

/-- What a computation reads of a page: its index, format, BASE_POS, data and summary. -/
structure PView where
  idx : Nat
  fmt : Fmt
  base : Nat
  data : Mem
  sum : List Byte

/-- Pairwise sums until one value is left (R189); `fuel` bounds the rounds. -/
def pairSum : Nat → List F32 → Num F32
  | 0, xs => return xs.headD 0#32
  | fuel + 1, xs =>
    if xs.length ≤ 1 then return xs.headD 0#32
    else do
      let ys ← (chunksOf 2 xs.length xs).mapM (fun p => fp32Add (p.headD 0#32) (p.getD 1 0#32))
      pairSum fuel ys

/-- The key dot product of R189: pairwise within each block, then across blocks in ascending order. -/
def hawkDot (u : List F32) (k : List (List F32 × F32)) : Num F32 :=
  k.zipIdx.foldlM (fun total (b, i) => do
    let x ← (((u.drop (32 * i)).take 32).zip b.1).mapM (fun p => fp32Mul p.1 p.2)
    let x ← pairSum 6 x
    let y ← fp32Mul x b.2
    fp32Add total y) 0#32

/-- Scores of every query head at one key position (R188 pass 1). -/
def Att.scores (a : Att) (q : List (List F32)) (delta : Int) (keys : List (List (List F32 × F32))) : Num (List F32) :=
  let cs := a.cs delta
  q.zipIdx.mapM (fun (qh, h) => do
    let u ← a.rotate qh cs true
    let s ← hawkDot u (keys.getD (h / a.g) [])
    fp32Mul s a.scale)

/-- The maximum of a list of scores. -/
def maxF32 : List F32 → F32
  | [] => 0#32
  | x :: xs => xs.foldl F32.max x

/-- Passes 2 and 3 of R188 for one head, over scores and decoded values. -/
def softmaxPass (d : Nat) (ss : List F32) (vs : List (List (List F32 × F32))) : Num HeadPart := do
  let m := maxF32 ss
  let ps ← ss.mapM (fun s => do let x ← fp32Sub s m; bf16 (expFp32 x))
  let l ← ps.foldlM fp32Add 0#32
  let o ← (ps.zip vs).foldlM (fun o (p, v) => do
    let terms ← v.mapM (fun (b : List F32 × F32) => b.1.mapM (fun e => do let x ← fp32Mul p e; fp32Mul x b.2))
    (o.zip terms.flatten).mapM (fun z => fp32Add z.1 z.2)) (List.replicate d 0#32)
  return { m := m, l := l, o := o }

/-- A Hawkmoth slice (R188): the partials of every query head over the admitted positions of its pages. -/
def Att.slice (a : Att) (q : List (List F32)) (rq : Int) (pages : List PView) (lo n : Nat) : Num (List HeadPart) := do
  let rows ← pages.flatMapM (fun p => (admitSlots p.idx lo n).mapM (fun i => do
    let keys ← (List.range a.h).mapM (readVec p.fmt a.h a.d p.data 0 i)
    let vals ← (List.range a.h).mapM (readVec p.fmt a.h a.d p.data 1 i)
    let ss ← a.scores q (rq - ((p.base + i : Nat) : Int)) keys
    return (ss, vals)))
  (List.range a.hq).mapM (fun h =>
    softmaxPass a.d (rows.map (fun r => r.1.getD h 0#32)) (rows.map (fun r => r.2.getD (h / a.g) [])))

/-- The Skipper partial of R196 over summarised pages. -/
def Att.skipper (a : Att) (q : List (List F32)) (rq : Int) (pages : List PView) (lo n : Nat) : Num (List HeadPart) := do
  let key := fun (p : PView) (kv : Nat) (h : Nat) => summaryVec a.h a.d p.sum kv h
  let ss ← pages.mapM (fun p =>
    a.scores q (rq - ((p.base + 128 : Nat) : Int))
      ((List.range a.h).map (fun h => (chunksOf 32 a.d (key p 0 h)).map (fun b => (b, F32.one)))))
  (List.range a.hq).mapM (fun h => do
    let sh := ss.map (fun r => r.getD h 0#32)
    let m := maxF32 sh
    let (l, o) ← (pages.zip sh).foldlM (fun (acc : F32 × List F32) (p, s) => do
      let x ← fp32Sub s m
      let e ← bf16 (expFp32 x)
      let w ← fp32Mul (F32.ofInt (admitSlots p.idx lo n).length) e
      let l ← fp32Add acc.1 w
      let o ← (acc.2.zip (key p 1 (h / a.g))).mapM (fun z => do let y ← fp32Mul w z.2; fp32Add z.1 y)
      return (l, o)) (0#32, List.replicate a.d 0#32)
    return { m := m, l := l, o := o })

/-! ### Merging -/

/-- combine of R190. -/
def combine (a b : HeadPart) : Num HeadPart := do
  let m := a.m.max b.m
  let xa ← fp32Sub a.m m
  let xb ← fp32Sub b.m m
  let ca := expFp32 xa
  let cb := expFp32 xb
  let la ← fp32Mul a.l ca
  let lb ← fp32Mul b.l cb
  let l ← fp32Add la lb
  let o ← (a.o.zip b.o).mapM (fun (x, y) => do
    let u ← fp32Mul x ca
    let v ← fp32Mul y cb
    fp32Add u v)
  return { m := m, l := l, o := o }

/-- One level of the tree of R190. -/
def mergeLevel : List HeadPart → Num (List HeadPart)
  | a :: b :: rest => do
    let c ← combine a b
    let cs ← mergeLevel rest
    return c :: cs
  | xs => return xs

/-- The tree of R190; `fuel` bounds its depth. -/
def mergeTree : Nat → List HeadPart → Num (List HeadPart)
  | 0, xs => return xs
  | fuel + 1, xs => if xs.length ≤ 1 then return xs else do
    let ys ← mergeLevel xs
    mergeTree fuel ys

/-- merge of R190: the BF16 output of one head. -/
def mergeParts (ps : List HeadPart) : Num (List F32) := do
  match ← mergeTree ps.length ps with
  | [] => return []
  | p :: _ => p.o.mapM (fun x => do let y ← fp32Div x p.l; bf16 y)

/-! ### Ridge -/

/-- Rounding of 32 FP32 values into a compute format: element values and the scale (R236). -/
def toCompute (f : Fmt) (v : List F32) : Num (List F32 × F32) := do
  match f with
  | .bf16 =>
    let es ← v.mapM bf16
    return (es, F32.one)
  | f =>
    let (s, cs) ← mxQuantise f v
    let es ← cs.mapM (decodeElem f)
    return (es, (decodeScale f s).getD 0#32)

/-- The format of the value pass (R212). -/
def Att.valueFmt (a : Att) : Fmt := if a.comp = .bf16 then .bf16 else .e4m3

/-- A vector in blocks of 32 of the score pass's format. -/
def Att.blocks (a : Att) (v : List F32) : Num (List (List F32 × F32)) :=
  (chunksOf 32 v.length v).mapM (toCompute a.comp)

/-- One head's query at its own rotary position (R212). -/
def Att.ridgeQuery (a : Att) (q : List F32) (r : Nat) : Num (List (List F32 × F32)) := do
  let u ← a.rotate q (a.cs r) false
  a.blocks u

/-- A stored key, decoded and rotated at its own rotary position (R212). -/
def Att.ridgeKey (a : Att) (p : PView) (slot kh : Nat) : Num (List (List F32 × F32)) := do
  let bs ← readVec p.fmt a.h a.d p.data 0 slot kh
  let k ← bs.mapM blockValues
  let u ← a.rotate k.flatten (a.cs ((p.base + slot : Nat) : Int)) false
  a.blocks u

/-- The value block of 32 key positions of a page, by dimension (R212). -/
def Att.ridgeValues (a : Att) (p : PView) (slot0 kh : Nat) : Num (List (List F32 × F32)) := do
  let vs ← (List.range 32).mapM (fun i => do
    let bs ← readVec p.fmt a.h a.d p.data 1 (slot0 + i) kh
    let v ← bs.mapM blockValues
    return v.flatten)
  (List.range a.d).mapM (fun d => toCompute a.valueFmt (vs.map (fun v => v.getD d 0#32)))

/-- Products summed in ascending order (R213). -/
def dotUp (x y : List F32) : Num F32 :=
  (x.zip y).foldlM (fun s p => do let z ← fp32Mul p.1 p.2; fp32Add s z) 0#32

/-- ridge_dot of R213. -/
def ridgeDot (u k : List (List F32 × F32)) : Num F32 :=
  (u.zip k).foldlM (fun total (b, c) => do
    let x ← dotUp b.1 c.1
    let s ← fp32Mul b.2 c.2
    let y ← fp32Mul x s
    fp32Add total y) 0#32

/-- One active row of a Ridge unit (R213): query head, position n and lowest admitted position, over the segment's pages
in ascending index; none when the segment admits no position of the row. -/
def Att.ridgeRow (a : Att) (q : List F32) (head n lo posOff : Nat) (pages : List PView) : Num (Option HeadPart) := do
  let kh := head / a.g
  let uq ← a.ridgeQuery q (n + posOff)
  let ss ← pages.flatMapM (fun p => (admitSlots p.idx lo n).mapM (fun i => do
    let k ← a.ridgeKey p i kh
    let x ← ridgeDot uq k
    let s ← fp32Mul x a.scale
    return (256 * p.idx + i, s)))
  if ss.isEmpty then return none
  let m := maxF32 (ss.map Prod.snd)
  let ps ← ss.mapM (fun (t, s) => do let x ← fp32Sub s m; let p ← bf16 (expFp32 x); return (t, p))
  let l ← (ps.map Prod.snd).foldlM fp32Add 0#32
  let o ← (pages.flatMap (fun p => (List.range 8).map (fun b => (p, b)))).foldlM (fun o (p, b) => do
    let base := 256 * p.idx + 32 * b
    if !ps.any (fun x => base ≤ x.1 && x.1 < base + 32) then return o
    let pc ← toCompute a.valueFmt ((List.range 32).map (fun i => (Tbl.get? ps (base + i)).getD 0#32))
    let vc ← a.ridgeValues p (32 * b) kh
    (o.zip vc).mapM (fun (x, v) => do
      let y ← dotUp pc.1 v.1
      let s ← fp32Mul pc.2 v.2
      let z ← fp32Mul y s
      fp32Add x z)) (List.replicate a.d 0#32)
  return some { m := m, l := l, o := o }

/-- Query heads of a token in a body: BF16, head-major (R177). -/
def headsOf (bs : List Byte) (off n d : Nat) : List (List F32) :=
  (List.range n).map (fun h => bf16List bs (off + 2 * h * d) d)

/-- BF16 bytes of output vectors, head-major. -/
def outBytes (o : List (List F32)) : List Byte := o.flatten.flatMap (fun w => le 2 (bf16Bits w))

/-- Any BF16 word of a part of a body is NaN or infinite (R179). -/
def anySpecial (bs : List Byte) (off n : Nat) : Bool :=
  (List.range n).any (fun j => (rd bs (off + 2 * j) 2 / 2 ^ 7) % 2 ^ 8 == 255)

end Sys2Proof.Machine
end

