-- ==== Sys2Proof/Machine/Wire.lean ====
section
/-! DEFINITION. What goes over a Jetur fibre: flits and their slots (R276, R277), frames (R278), LINK flits (R280) and LINK_CTRL
messages (R299), and how LINK flits and express frames cut into frames in progress (R281, R286). -/

namespace Sys2Proof.Machine

/-! ### Lanes and slots -/

/-- The lanes of a map, ascending. -/
def maskLanes (m : BitVec 16) : List Nat := (List.range 16).filter m.getLsbD

/-- Lanes of a map. -/
def laneCount (m : BitVec 16) : Nat := (maskLanes m).length

/-- Flits of a frame with a payload of some bytes (R278). -/
def frameFlits (len : Nat) : Nat := ceilDiv (len + 12) 60

/-- The lanes that carry a port's flits: those of its transmit map, or every lane while it has none (R276, R293). -/
def Port.onLanes (x : Port) : List Nat := if x.txMap = 0 then List.range 16 else maskLanes x.txMap

/-- The first flit slot that begins at or after a package time (R276, R279: n lanes carry 25n bytes a ns). -/
def Port.slotAt (x : Port) (t : Nat) : Nat := ceilDiv ((t - x.mapAt) * 25 * x.onLanes.length) 64

/-- The first whole package time at or after the beginning of a flit slot. -/
def Port.slotTime (x : Port) (k : Nat) : Nat := x.mapAt + ceilDiv (64 * k) (25 * x.onLanes.length)

/-- Flits with the lane that each goes on (R276): flit k on the (k mod n)-th lane of the map. -/
def Port.wire (x : Port) (slots : List Nat) (flits : List (List Byte)) : List (Nat × List Byte) :=
  (slots.zip flits).map (fun f => (x.onLanes.getD (f.1 % x.onLanes.length) 0, f.2))

/-! ### Flits -/

/-- The control word of a flit (R276): TYPE, CLASS, FIRST, LAST, INDEX and STRIPE. -/
def controlWord (type : Nat) (express first last : Bool) (index slot : Nat) : List Byte :=
  le 4 (type + 4 * b2n express + 8 * b2n first + 16 * b2n last + 32 * index + 65536 * (slot % 65536))

/-- The control word of a received flit. -/
def flitWord (f : Flit) : Nat := rd f.bytes 0 4

/-- An IDLE flit (R277). -/
def idleFlit (slot : Nat) : List Byte := controlWord 0 false false false 0 slot ++ zeros 60

/-- A port that has light and is enabled: it sends flits, and answers LINK_CTRL (R277, R387). -/
def Port.talks (x : Port) : Bool := x.state != .disabled && x.state != .dark

/-- The IDLE flit of a slot on a lane (R277): on a lane outside the transmit map, or in a slot that nothing takes. -/
def Port.idle (x : Port) (lane slot : Nat) : Option (List Byte) :=
  if x.talks && (!x.txMap.getLsbD lane || x.slot ≤ slot) then some (idleFlit slot) else none

/-- The flits of a frame in their slots (R278): header, payload, padding and CRC-32C over every byte before it. -/
def flitsOf (kind : Nat) (express rsp : Bool) (seq : BitVec 16) (payload : List Byte) (slots : List Nat) : List (List Byte) :=
  let n := frameFlits payload.length
  let data := le 2 seq.toNat ++ le 2 payload.length ++ le 1 kind ++ le 1 (b2n rsp) ++ zeros 2 ++ payload ++ zeros (60 * n - 12 - payload.length)
  let all := (chunksOf 60 n data).zipIdx.flatMap (fun (d, i) => controlWord 1 express (i == 0) (i + 1 == n) i (slots.getD i 0) ++ d)
  chunksOf 64 n (all ++ le 4 (crc32c all).toNat)

/-- A frame's flits on their lanes. -/
def Air.wire (x : Port) (express : Bool) (a : Air) : List (Nat × List Byte) :=
  x.wire a.slots (flitsOf a.kind express a.rsp a.seq a.payload a.slots)

/-- LANE_REQ, LANE_MAP and DOWN are sent on every lane of the present map (R280). -/
def replicated (kind : Nat) : Bool := kind == 3 || kind == 4 || kind == 5

/-- The data area of a LINK flit (R280). -/
def linkArea (kind : Nat) (f : LinkFlit) : List Byte :=
  let b := le 1 kind ++ le 1 (b2n (replicated kind)) ++ le 2 f.normalAck.toNat ++ le 2 f.expressAck.toNat ++ le 2 f.reqCredits ++ le 2 f.rspCredits ++
    le 2 f.laneMask.toNat ++ le 1 (b2n f.nakExpress) ++ le 1 f.cause ++ le 1 f.calLane ++ le 1 f.hold ++ zeros 40
  b ++ le 4 (crc32c b).toNat

/-- The kind and the fields that a LINK flit's data area spells, and whether its check holds (R280). -/
def readLinkArea (b : List Byte) : Nat × LinkFlit :=
  (rd b 0 1, {
    checkOk := (crc32c (b.take 56)).toNat == rd b 56 4, normalAck := BitVec.ofNat 16 (rd b 2 2), expressAck := BitVec.ofNat 16 (rd b 4 2),
    reqCredits := rd b 6 2, rspCredits := rd b 8 2, laneMask := BitVec.ofNat 16 (rd b 10 2), nakExpress := rd b 12 1 == 1,
    cause := rd b 13 1, calLane := rd b 14 1, hold := rd b 15 1 })

/-- A LINK flit in its slot. -/
def linkBytes (kind : Nat) (f : LinkFlit) (slot : Nat) : List Byte := controlWord 2 false false false 0 slot ++ linkArea kind f

/-- The body of a LINK_CTRL message (R299). -/
def ctrlBody (kind : Nat) (m : LinkCtrl) : List Byte :=
  le 1 kind ++ le 1 m.major ++ le 1 m.minor ++ le 1 m.port ++ le 2 m.node ++ le 1 m.minLanes ++ zeros 1 ++ le 4 m.session.toNat ++
  le 4 m.peerSession.toNat ++ le 2 m.normalExpected.toNat ++ le 2 m.expressExpected.toNat ++ zeros 4 ++ le 8 m.t1 ++ le 8 m.t2 ++ le 8 m.t3

/-- The kind and the fields that a LINK_CTRL message's body spells (R299). -/
def readCtrlBody (b : List Byte) : Nat × LinkCtrl :=
  (rd b 0 1, {
    major := rd b 1 1, minor := rd b 2 1, port := rd b 3 1, node := rd b 4 2, minLanes := rd b 6 1, session := BitVec.ofNat 32 (rd b 8 4),
    peerSession := BitVec.ofNat 32 (rd b 12 4), normalExpected := BitVec.ofNat 16 (rd b 16 2), expressExpected := BitVec.ofNat 16 (rd b 18 2),
    t1 := rd b 24 8, t2 := rd b 32 8, t3 := rd b 40 8 })

/-! ### Frames in progress -/

/-- The first slot after a frame's last flit. -/
def Air.after (a : Air) : Nat := ((a.slots.getLast?).map (· + 1)).getD 0

/-- A frame whose flits from slot k on give way to m others. -/
def Air.giveWay (k m : Nat) (a : Air) : Air := { a with slots := a.slots.map (fun s => if k ≤ s then s + m else s) }

/-- The frame of a class last started. -/
def Port.air (x : Port) (express : Bool) : Option Air := if express then x.expressAir else x.normalAir

/-- The end of a frame in progress, in package time. -/
def Port.airEnd (x : Port) (express : Bool) : Nat :=
  max (if express then x.expressEnd else x.normalEnd) ((x.air express).map (fun a => x.slotTime a.after) |>.getD 0)

/-- m slots taken from slot k on, ahead of the flits of frames in progress (R281, R286). -/
def Port.take (k m : Nat) (x : Port) : Port :=
  let y := { x with slot := max x.slot k + m, normalAir := x.normalAir.map (Air.giveWay k m), expressAir := x.expressAir.map (Air.giveWay k m) }
  { y with normalEnd := y.airEnd false, expressEnd := y.airEnd true }

/-- m slots of a port taken from slot k on; the frames that gave way go out in their new slots. -/
def Core.cutIn (p k m : Nat) (c : Core) : Core :=
  let c := c.updPort p (Port.take k m)
  let x := c.port p
  [false, true].foldl (fun c e => match x.air e with
    | some a => if k + m < a.after then c.emit (.restriped p e a.seq.toNat (a.wire x e)) else c
    | none => c) c

/-- A frame's first free slot (R286): an express frame waits for LINK flits and the express frame before it, a normal one for
everything that is on its way. -/
def Port.frameSlot (x : Port) (express : Bool) (now : Nat) : Nat :=
  max (x.slotAt now) (if express then max x.linkSlot ((x.expressAir.map Air.after).getD 0) else x.slot)

/-- A frame put into its slots; the port's state, and the frame as it goes out. -/
def Core.fly (p : Nat) (express : Bool) (a : Air) (now : Nat) (c : Core) : Core × List (Nat × List Byte) :=
  let n := frameFlits a.payload.length
  let k := (c.port p).frameSlot express now
  let a := { a with slots := (List.range n).map (k + ·) }
  let c := c.cutIn p k n
  let c := c.updPort p (fun x =>
    let x := if express then { x with expressAir := some a } else { x with normalAir := some a }
    { x with normalEnd := x.airEnd false, expressEnd := x.airEnd true })
  (c, a.wire (c.port p) express)

/-- A LINK flit put out at the next flit boundary (R280, R281, R286), or after a hold (R298). -/
def Core.putLink (p kind : Nat) (f : LinkFlit) (now : Nat) (c : Core) : Core :=
  let x := c.port p
  let k := max (x.slotAt now) x.linkSlot
  let m := if replicated kind then x.onLanes.length else 1
  let slots := (List.range m).map (k + ·)
  let c := (c.cutIn p k m).updPort p (fun x => { x with linkSlot := k + m })
  c.emit (.link p kind f (x.wire slots (slots.map (linkBytes kind f))))

/-- The slots begin again at 0 with a new transmit map (R276, R288), once the LANE_MAP has gone out on the old one. -/
def Port.remap (m : BitVec 16) (now : Nat) (x : Port) : Port :=
  { x with txMap := m, mapAt := max now (x.slotTime x.slot), slot := 0, linkSlot := 0, normalAir := none, expressAir := none, mapWant := none }

/-- Received flits in the order in which they were sent (R276): by STRIPE, counted from the one expected next. -/
def Port.deskew (x : Port) (fs : List Flit) : List Flit :=
  let key := fun (f : Flit) => (bits (flitWord f) 31 16 + 65536 - x.rxStripe % 65536) % 65536
  if fs.any Flit.bad then fs else sortBy (fun a b => key a < key b) fs

/-- STRIPE expected after some flits. -/
def Port.stripeAfter (x : Port) (fs : List Flit) : Nat :=
  ((((x.deskew fs).filter (fun f => !f.bad)).getLast?).map (fun f => (bits (flitWord f) 31 16 + 1) % 65536)).getD x.rxStripe

end Sys2Proof.Machine
end

