-- ==== Sys2Proof/Machine/Egress.lean ====
section
/-! DEFINITION. Egress queues, shapers and time gates (12_traffic_gates_and_shapers.md), bonded groups (R300) and the
0x0Bxx commands. -/

namespace Sys2Proof.Machine

/-! ### Groups and maps -/

/-- The ports of a mask, ascending. -/
def portsOf (mask : Nat) : List Nat := (List.range 8).filter (bit mask)

/-- The port whose queue set serves a port: the lowest-numbered member of its group, or itself (R336). -/
def Core.head (c : Core) (p : Nat) : Nat :=
  match portsOf (c.port p).group with
  | h :: _ => h
  | [] => p

/-- The members served by a port's queue set. -/
def Core.members (c : Core) (p : Nat) : List Nat :=
  if (c.port p).group = 0 then [p] else portsOf (c.port p).group

/-- A port that carries frames of its queue set: UP, and a member that has rejoined (R300, R301). -/
def Port.carries (x : Port) : Bool := x.state == .up && x.rejoin == 0

/-- Free entries of PORT_TX (R24, R300). -/
def Core.txFree (c : Core) (p : Nat) : Nat := 4096 - (c.queue 0x0A p).depth

/-- Of some ports, the one with the most free PORT_TX entries, ties to the lower number (R300, R308). -/
def Core.freest (c : Core) (ps : List Nat) : Option Nat :=
  ps.foldl (fun b p => match b with
    | none => some p
    | some q => if c.txFree p > c.txFree q then some p else some q) none

/-- The guard band of R341 on `n` mapped lanes. -/
def guardBand (n : Nat) : Nat := if n = 0 then 0 else ceilDiv 4096 (25 * n)

/-! ### Shapers -/

/-- Fabric-clock cycles of 0.8 ns that have passed at a package time (R337). -/
def fabricCycles (t : Nat) : Nat := 5 * t / 4

/-- A shaper with the tokens accrued up to a package time (R337, R338): at the rate R while its queue holds a frame, none
while it is empty; never above B. Tokens are in 1/65,536 byte, and R MB/s adds 52.4288 R of them a cycle. -/
def Shaper.accrue (now : Nat) (busy : Bool) (s : Shaper) : Shaper :=
  if !s.on || !busy then { s with at_ := now }
  else
    let add := s.rate * 524288 * (fabricCycles now - fabricCycles s.at_) + s.rem
    let tok := s.tokens + add / 10000
    if tok ≥ s.burst * 65536 then { s with tokens := s.burst * 65536, rem := 0, at_ := now }
    else { s with tokens := tok, rem := add % 10000, at_ := now }

/-- A shaper whose queue is empty: tokens above the lesser of B and 4,096 bytes are discarded (R338). -/
def Shaper.idle (s : Shaper) : Shaper := { s with tokens := min s.tokens (min s.burst 4096 * 65536) }

/-- A shaper's tokens suffice for a frame of some bytes on the fibre (R337); a disabled one's always do. -/
def Shaper.enough (s : Shaper) (bytes : Nat) : Bool := !s.on || s.tokens ≥ bytes * 65536

/-- A shaper charged for a frame (R337). -/
def Shaper.charge (s : Shaper) (bytes : Nat) : Shaper := if s.on then { s with tokens := s.tokens - bytes * 65536 } else s

/-- ns until tokens suffice, at least the shortfall over the rate. -/
def Shaper.waitNs (s : Shaper) (bytes : Nat) : Nat :=
  if s.enough bytes then 0 else ceilDiv ((bytes * 65536 - s.tokens) * 8000) (s.rate * 524288)

/-! ### Gates -/

/-- The cycle time C of a list (R340). -/
def GateList.cycle (g : GateList) : Nat := sumL (g.entries.map Prod.snd)

/-- Entry in force at a point of the cycle, and the time at which it ends within the cycle. -/
def gateAt : List (Nat × Nat) → Nat → Nat → Nat → Nat × Nat
  | [], i, _, acc => (i, acc)
  | (_, d) :: rest, i, x, acc => if x < acc + d then (i, acc + d) else gateAt rest (i + 1) x (acc + d)

/-- The entry in force at a package time (R340); before the base time cycle 0 has not begun and entry 0 stands. -/
def GateList.entryAt (g : GateList) (now : Nat) : Nat :=
  if g.cycle = 0 || now < g.base then 0 else (gateAt g.entries 0 ((now - g.base) % g.cycle) 0).1

/-- Gate mask in force on a port: every gate is open with no list, an empty one, or before its base time (R340, R345). -/
def gateMask (g : Option GateList) (now : Nat) : Nat :=
  match g with
  | none => 0xFF
  | some g => if g.entries.isEmpty || now < g.base then 0xFF else (g.entries.getD (g.entryAt now) (0xFF, 1)).1

/-- The next package time after `now` at which an entry ends, and the mask then in force. -/
def GateList.next (g : GateList) (now : Nat) : Nat × Nat :=
  if g.cycle = 0 then (now, 0xFF)
  else if now < g.base then (g.base, (g.entries.getD 0 (0xFF, 1)).1)
  else
    let x := (now - g.base) % g.cycle
    let (i, e) := gateAt g.entries 0 x 0
    (now - x + e, (g.entries.getD ((i + 1) % g.entries.length) (0xFF, 1)).1)

/-- The next instant after `now` at which the gate of queue q goes from open to closed, looking at most one cycle ahead. -/
def GateList.closes (g : GateList) (q : Nat) : Nat → Nat → Option Nat
  | 0, _ => none
  | fuel + 1, now =>
    let (e, m) := g.next now
    if bit (gateMask (some g) now) q && !bit m q then some e else GateList.closes g q fuel e

/-- The next instant at which queue q's gate closes under the operational list, or at the switch to the pending list
(R341, R343). -/
def Port.closes (x : Port) (q now : Nat) : Option Nat :=
  let own := match x.gates with
    | some g => g.closes q (g.entries.length + 1) now
    | none => none
  match x.gatesNext with
  | none => own
  | some (g, sw) =>
    let open0 := bit (gateMask x.gates (sw - 1)) q
    let closed1 := !bit (gateMask (some g) sw) q
    let bySwitch := if open0 && closed1 && now < sw then some sw else none
    match own, bySwitch with
    | some a, some b => some (min a b)
    | some a, none => if sw ≤ a then none else some a
    | none, b => b

/-- Queue q's gate is open and outside its guard band (R340, R341), on `n` mapped lanes. -/
def Port.gateOpen (x : Port) (q n now : Nat) : Bool :=
  bit (gateMask x.gates now) q && (match x.closes q now with
    | some e => now + guardBand n < e
    | none => true)

/-- Queue q withheld only by its guard band (R341). -/
def Port.inGuard (x : Port) (q n now : Nat) : Bool := bit (gateMask x.gates now) q && !x.gateOpen q n now

/-! ### The queue set -/

/-- Frames of an egress queue of a queue set. -/
def Port.q (x : Port) (k : Nat) : List QFrame := x.queues.getD k []

/-- Overlap of two intervals. -/
def overlap (a0 a1 b0 b1 : Nat) : Nat := min a1 b1 - max a0 b0

/-- The time counters of R346 kept for one queue over an interval in which its frames and the gate entry did not change:
shaper-held, gate-held with the guard band, and credit starvation (more than 512 frames, R332). -/
def Core.acctQueue (h t0 t1 : Nat) (x : Port) (n : Nat) (c : Core) (k : Nat) : Core :=
  match x.q k with
  | [] => c
  | f :: _ =>
    let sh := x.shapers.getD k {}
    let c := c.bump (.egress h k 2) (min (t1 - t0) (sh.waitNs (64 * frameFlits f.payload.length)))
    let mask := match x.gates with
      | some g => if g.entries.isEmpty then 0xFF else (g.entries.getD x.gateEntry (0xFF, 1)).1
      | none => 0xFF
    let gated := if !bit mask k then t1 - t0
      else match x.closes k t0 with
        | some e => overlap t0 t1 (e - guardBand n) e
        | none => 0
    let c := c.bump (.egress h k 3) gated
    if (x.q k).length > 512 then c.bump (.egress h k 6) (t1 - t0) else c

/-- The time counters of a queue set brought up to now, and its shapers' tokens with them. -/
def Core.egressAcct (t : Top) (p : Nat) (c : Core) : Core :=
  let h := c.head p
  let x := c.port h
  let n := laneCount x.txMap
  let c := (List.range 8).foldl (fun c k => c.acctQueue h x.acctAt t.now x n k) c
  c.updPort h (fun x => { x with
    acctAt := t.now,
    shapers := x.shapers.mapVal (fun k s => s.accrue t.now (!(x.q k).isEmpty)) })

/-- The depth watermark of an egress queue evaluated (R404, R405). -/
def Core.egressWatch (t : Top) (h k : Nat) (c : Core) : Core :=
  c.watch t (wmQueue 0x10 (8 * h + k)) true (512, 256) (min 512 ((c.port h).q k).length) (passDie (h / 2))

/-- The first 512 frames of an egress queue are in it; those behind wait at the cell builder, and enter as credits return (R332, R344). -/
def enter (now : Nat) (q : List QFrame) : List QFrame :=
  q.zipIdx.map (fun (f, i) => if i < 512 && f.entered.isNone then { f with entered := some now } else f)

/-- A frame put at the tail of an egress queue (R332). One that arrives in a hold window queues behind it (R294). -/
def Core.enqueue (t : Top) (p k : Nat) (f : QFrame) (c : Core) : Core :=
  let h := c.head p
  let c := c.egressAcct t h
  let c := c.updPort h (fun x => { x with
    queues := x.queues.set k (enter t.now (x.q k ++ [{ f with entered := none, until_ := x.holdUntil }])) })
  c.egressWatch t h k

/-- The egress queues changed as a whole, the shaper of each one left empty trimmed (R338). -/
def Core.setQueues (t : Top) (h : Nat) (f : Nat → List QFrame → List QFrame) (c : Core) : Core :=
  let c := c.egressAcct t h
  let c := c.updPort h (fun x => { x with
    queues := x.queues.mapVal (fun k q => enter t.now (f k q)),
    shapers := x.shapers.mapVal (fun k s => if (f k (x.q k)).isEmpty then s.idle else s) })
  (List.range 8).foldl (fun c k => c.egressWatch t h k) c

/-- The express class feeds from queue k (R333). -/
def Port.express_ (x : Port) (k : Nat) : Bool := bit x.expressMask k

/-- Queue k of a set may start a frame on a port that carries it (R334). -/
def Port.eligible (x : Port) (now n k : Nat) : Bool :=
  match x.q k with
  | [] => false
  | f :: _ => x.gateOpen k n now && ((x.shapers.getD k {}).accrue now true).enough (64 * frameFlits f.payload.length)

/-- The highest-numbered eligible queue of a class (R334). -/
def Port.bestQueue (x : Port) (now n : Nat) (express : Bool) : Option Nat :=
  ((List.range 8).reverse.filter (fun k => x.express_ k == express && x.eligible now n k)).head?

/-- Bytes of unacknowledged frames of a class in the retry buffer, on the fibre (R282). -/
def LinkClass.held (k : LinkClass) : Nat := sumL (k.unacked.map (fun f => 64 * frameFlits f.payload.length))

/-- A class may start a new frame: fewer than 32,767 unacknowledged, and room in its share of the 4 MiB retry buffer,
256 KiB of it reserved for express (R282). -/
def Port.mayStart (x : Port) (express : Bool) (bytes : Nat) : Bool :=
  let k := if express then x.express else x.normal
  k.unacked.length < 32767 &&
  (if express then x.express.held + x.normal.held + bytes ≤ 4 * 2 ^ 20
   else x.normal.held + max x.express.held (256 * 1024) + bytes ≤ 4 * 2 ^ 20)

/-- A link class of a port changed. -/
def Port.onClass (x : Port) (express : Bool) (f : LinkClass → LinkClass) : Port :=
  if express then { x with express := f x.express } else { x with normal := f x.normal }

/-- A link class of a port. -/
def Port.cls (x : Port) (express : Bool) : LinkClass := if express then x.express else x.normal

/-- A frame of a class put onto the fibre (R276, R278, R286), of an egress queue. A normal frame that sends no flit because of it, and sent
one in the slot before, is suspended: a pre-emption is counted, and a gate overrun when it now ends after its gate closes (R342). -/
def Core.occupy (t : Top) (p : Nat) (express : Bool) (q : Nat) (a : Air) (c : Core) : Core × List (Nat × List Byte) :=
  let x := c.port p
  let k := x.frameSlot express t.now
  let (c, w) := c.fly p express a t.now
  if express then
    let new := (c.port p).normalEnd
    let cut := (x.normalAir.map (fun n => n.slots.any (fun s => s + 1 == k) && k < n.after)).getD false
    let late := x.normalEnd < new && (match (c.port (c.head p)).closes x.normalQueue (x.normalEnd - 1) with
      | some e => x.normalEnd ≤ e && e < new
      | none => false)
    let c := if cut then c.bump (.port p 9) else c
    (if late then c.bump (.egress (c.head p) x.normalQueue 5) else c, w)
  else (c.updPort p (fun x => { x with normalQueue := q }), w)

/-- Retry timer of R284: the round trip plus 2 µs. -/
def Port.retryNs (x : Port) : Nat := x.rtt + 2000

/-- PORT_TX has room for the flits of a frame (R22, R24). -/
def Core.txRoom (t : Top) (c : Core) (p len : Nat) : Bool := frameFlits len ≤ c.qRoom t 0x0A p (passDie (p / 2))

/-- A frame of a class put on the fibre with its sequence. -/
def Core.sendFrame (t : Top) (p : Nat) (express : Bool) (f : TxFrame) (c : Core) : Core :=
  let c := c.bump (.port p 0)
  let c := c.qSend t 0x0A p (passDie (p / 2)) (frameFlits f.payload.length) .cells
  let (c, w) := c.occupy t p express f.queue { seq := f.seq, kind := 1, rsp := f.rsp, payload := f.payload, slots := [] }
  c.emit (.frame p express f.seq.toNat f.payload w)

/-- The first frame of queue k started in a class (R282, R334, R337). -/
def Core.startNew (t : Top) (p k : Nat) (express : Bool) (c : Core) : Core :=
  let h := c.head p
  let c := c.egressAcct t h
  match (c.port h).q k with
  | [] => c
  | f :: rest =>
    let bytes := 64 * frameFlits f.payload.length
    let c := c.updPort h (fun x => { x with
      queues := x.queues.set k (enter t.now rest),
      shapers := x.shapers.upd k (fun s => let s := s.charge bytes; if rest.isEmpty then s.idle else s) })
    let c := c.egressWatch t h k
    let x := c.port p
    let fr : TxFrame := { seq := (x.cls express).next, payload := f.payload, rsp := f.rsp, queue := k, conn := f.conn, mseq := f.mseq, until_ := f.until_ }
    let c := c.updPort p (fun x => x.onClass express (fun l => { l with
      next := l.next + 1, unacked := l.unacked ++ [fr], timerAt := some (l.timerAt.getD (t.now + x.retryNs)) }))
    let old := (c.ctr (.egress h k 7)).toNat
    let c := (c.bump (.egress h k 0)).bump (.egress h k 7) bytes
    let c := c.bump (.egress h k 1) ((old + bytes) / 4096 - old / 4096)
    c.sendFrame t p express fr

/-- The frame of a class to be replayed next (R284): those still to be replayed are its newest. -/
def LinkClass.nextReplay (l : LinkClass) : Option TxFrame := l.unacked[l.unacked.length - l.replay]?

/-- The next frame of a class to replay (R284): sequence order, unchanged. -/
def Core.startReplay (t : Top) (p : Nat) (express : Bool) (c : Core) : Core :=
  match ((c.port p).cls express).nextReplay with
  | none => c
  | some f => (c.updPort p (fun x => x.onClass express (fun l => { l with replay := l.replay - 1 }))).sendFrame t p express f

/-- The transmitter may start a frame of a class on a port: the class has none in progress, and no express frame is in
progress (R286). -/
def Port.classFree (x : Port) (express : Bool) (now : Nat) : Bool :=
  x.expressEnd ≤ now && (express || x.normalEnd ≤ now)

/-- What a port could start next in a class: a replay, or a new frame of a queue of its set (R334). -/
inductive StartWhat where
  | replay
  | new (k : Nat)
  deriving DecidableEq, Repr

/-- The next frame of a class that a port may start, if any (R334, R300): in a group only the member with the most free
PORT_TX entries starts a new frame. -/
def Core.nextStart (t : Top) (p : Nat) (express : Bool) (c : Core) : Option StartWhat :=
  let x := c.port p
  if !x.carries || !x.classFree express t.now || x.disableBy.isSome && (x.cls express).replay == 0 then none
  else if 0 < (x.cls express).replay then
    match (x.cls express).nextReplay with
    | some f => if c.txRoom t p f.payload.length then some .replay else none
    | none => none
  else
    let h := c.head p
    let carriers := (c.members p).filter (fun q => (c.port q).carries)
    if c.freest carriers != some p then none
    else
      match (c.port h).bestQueue t.now (laneCount x.txMap) express with
      | none => none
      | some k =>
        match (c.port h).q k with
        | f :: _ => if x.mayStart express (64 * frameFlits f.payload.length) && c.txRoom t p f.payload.length then some (.new k) else none
        | [] => none

/-- Frame starts withheld by a guard band alone, counted per queue (R341, R346): its tokens suffice and its gate is open. -/
def Core.countGuards (t : Top) (p : Nat) (c : Core) : Core :=
  let h := c.head p
  let x := c.port h
  let n := laneCount (c.port p).txMap
  (List.range 8).foldl (fun c k => match x.q k with
    | [] => c
    | f :: _ =>
      if x.inGuard k n t.now && ((x.shapers.getD k {}).accrue t.now true).enough (64 * frameFlits f.payload.length) then c.bump (.egress h k 4)
      else c) c

/-- The next frame started on a port: express before normal (R286), replays before queues (R334). -/
def Core.frameStart (t : Top) (p : Nat) (c : Core) : Core :=
  let c := if (c.port p).carries then c.countGuards t p else c
  let go := fun (express : Bool) (w : StartWhat) => match w with
    | .replay => c.startReplay t p express
    | .new k => c.startNew t p k express
  match c.nextStart t p true with
  | some w => go true w
  | none => match c.nextStart t p false with
    | some w => go false w
    | none => c

/-! ### Sampling and gate events -/

/-- The bin of a value (R344): 0 below `base`, k from `base`·2^(k−1), 15 from `base`·2^14. -/
def egressBin (base v : Nat) : Nat := if v < base then 0 else min 15 (Nat.log2 (v / base) + 1)

/-- Every egress queue of every port sampled (R344). -/
def Core.egressSample (t : Top) (c : Core) : Core :=
  (List.range 8).foldl (fun c p =>
    if !t.hasPort p then c else
    let c := c.egressAcct t p
    let h := c.head p
    if h ≠ p then c else
    (List.range 8).foldl (fun c k =>
      let fs := (c.port p).q k
      let delay := match fs with | f :: _ => t.now - f.entered.getD t.now | [] => 0
      (c.bump (.egress p k (8 + egressBin 1 (min 512 fs.length)))).bump (.egress p k (24 + egressBin 64 delay))) c) c

/-- The samples of R344: one for a multiple of 1,000 ns that package time has reached since the last. -/
def Core.sampleDue (t : Top) (c : Core) : Core :=
  if c.telem.sampled < t.now / 1000 then (c.onTelem (fun x => { x with sampled := t.now / 1000 })).egressSample t else c

/-! ### Settings of a group -/

/-- A port that leaves its group takes a copy of the group's shapers, express mask and gate lists, with no tokens (R336). -/
def Core.takeSettings (t : Top) (h p : Nat) (c : Core) : Core :=
  let g := c.port h
  c.updPort p (fun x => { x with
    shapers := g.shapers.mapVal (fun _ s => { s with tokens := 0, rem := 0, at_ := t.now }), expressMask := g.expressMask, gates := g.gates,
    gatesNext := g.gatesNext, gateEntry := g.gateEntry, acctAt := t.now })

/-- The frames queued on a port moved to the tails of another's queues, in their order. -/
def Core.moveQueues (t : Top) (a b : Nat) (c : Core) : Core :=
  if a = b then c else
  let qs := (c.port a).queues
  let c := c.setQueues t a (fun _ _ => [])
  qs.foldl (fun c e => e.2.foldl (fun c f =>
    let x := c.port b
    (c.updPort b (fun y => { y with queues := y.queues.set e.1 (enter t.now (x.q e.1 ++ [{ f with entered := none }])) })).egressWatch t b e.1) c)
    (c.egressAcct t b)

/-! ### Commands of the 0x0Bxx range -/

/-- A port of the capability record that is not under test (R345). -/
def Core.portArg (t : Top) (c : Core) (p : Nat) : Chk Unit := do
  needArg (t.hasPort p) 0
  c.needFree t (portDie p)

/-- SHAPER_SET (R337, R339, R345). -/
def shaperSetBody (t : Top) (c : Core) (_m : Nat) (a : Cmd) : Ans := do
  let p := a.arg 0 1
  let k := a.arg 1 1
  c.portArg t p
  needArg (k < 8) 1
  let rate := a.arg 4 4
  let burst := a.arg 8 4
  needArg (1 ≤ rate && rate ≤ 400000) 4
  needArg (4096 ≤ burst && burst ≤ 16777216) 8
  let h := c.head p
  let c := c.egressAcct t h
  let full := bit (a.arg 2 1) 1
  ok (c.updPort h (fun x =>
    let old := x.shapers.getD k {}
    let on := bit (a.arg 2 1) 0
    let changed := old.on != on || old.rate != rate || old.burst != burst
    let s : Shaper := {
      on := on, rate := rate, burst := burst, at_ := t.now,
      tokens := if changed then (if full then burst * 65536 else 0) else old.tokens, rem := if changed then 0 else old.rem }
    { x with shapers := x.shapers.set k (if (x.q k).isEmpty then s.idle else s) }))

/-- SHAPER_QUERY (R345). -/
def shaperQueryBody (t : Top) (c : Core) (_m : Nat) (a : Cmd) : Ans := do
  let p := a.arg 0 1
  c.portArg t p
  needArg (a.arg 1 1 < 8) 1
  let x := c.port (c.head p)
  let k := a.arg 1 1
  let s := (x.shapers.getD k {}).accrue t.now (!(x.q k).isEmpty)
  ok c (le 1 (b2n s.on) ++ zeros 3 ++ le 4 s.rate ++ le 4 s.burst ++ le 4 (s.tokens / 65536))

/-- The entries of a GATE_LIST_SET (R345). -/
def gateEntries (a : Cmd) (n : Nat) : List (Nat × Nat) :=
  (List.range n).map (fun i => (a.arg (16 + 8 * i) 1, a.arg (16 + 8 * i + 4) 4))

/-- The switch instant of R343: the earliest base + k × C that is at least 10 µs after now. An empty list has no cycle
and takes its base time, or 10 µs from now if that is later. -/
def switchAt (g : GateList) (now : Nat) : Nat :=
  let least := now + 10000
  if g.cycle = 0 then max g.base least
  else if least ≤ g.base then g.base else g.base + ceilDiv (least - g.base) g.cycle * g.cycle

/-- GATE_LIST_SET (R343, R345, R346). -/
def gateListSetBody (t : Top) (c : Core) (_m : Nat) (a : Cmd) : Ans := do
  let p := a.arg 0 1
  c.portArg t p
  let n := a.arg 2 2
  needArg (n ≤ 256) 2
  needArg (16 + 8 * n ≤ a.length) 2
  let es := gateEntries a n
  match es.zipIdx.find? (fun e => e.1.2 < 50 || 100000000 < e.1.2) with
  | some e => .error (.badArg, 16 + 8 * e.2 + 4)
  | none =>
    let g : GateList := { base := a.arg 8 8, entries := es }
    needArg (g.cycle ≤ 1000000000) 16
    let sw := switchAt g t.now
    ok (c.updPort (c.head p) (fun x => { x with gatesNext := some (g, sw) })) (le 8 sw)

/-- The answer of GATE_LIST_QUERY for one list (R345). -/
def gateReport (g : Option GateList) (entry : Nat) : List Byte :=
  match g with
  | none => zeros 2 ++ le 2 entry ++ zeros 20
  | some g => le 2 g.entries.length ++ le 2 entry ++ zeros 4 ++ le 8 g.base ++ le 8 g.cycle ++
      g.entries.flatMap (fun e => le 1 e.1 ++ zeros 3 ++ le 4 e.2)

/-- GATE_LIST_QUERY (R345, R346). -/
def gateListQueryBody (t : Top) (c : Core) (_m : Nat) (a : Cmd) : Ans := do
  let p := a.arg 0 1
  c.portArg t p
  needArg (a.arg 1 1 < 2) 1
  let x := c.port (c.head p)
  if a.arg 1 1 = 1 then ok c (gateReport (x.gatesNext.map Prod.fst) 0xFFFF)
  else ok c (gateReport x.gates ((x.gates.map (fun g => g.entryAt t.now)).getD 0))

/-- EGRESS_SET (R333, R345, R346). -/
def egressSetBody (t : Top) (c : Core) (_m : Nat) (a : Cmd) : Ans := do
  let p := a.arg 0 1
  c.portArg t p
  ok (c.updPort (c.head p) (fun x => { x with expressMask := a.arg 1 1 % 128 + 128 }))

/-- EGRESS_QUERY (R346). -/
def egressQueryBody (t : Top) (c : Core) (_m : Nat) (a : Cmd) : Ans := do
  let p := a.arg 0 1
  c.portArg t p
  needArg (a.arg 1 1 < 8) 1
  let k := a.arg 1 1
  let h := c.head p
  let c := c.egressAcct t h
  let x := c.port h
  let flags := b2n (x.express_ k) + 2 * b2n (bit (gateMask x.gates t.now) k) + 4 * b2n (x.shapers.getD k {}).on
  ok c (le 1 flags ++ zeros 1 ++ le 2 (min 512 (x.q k).length) ++ zeros 4 ++
    c.ctrBytes ((List.range 7).map (.egress h k)) ++ c.ctrBytes ((List.range 32).map (fun i => .egress h k (8 + i))))

/-- SHAPER_SET. -/
def execShaperSet (m : Nat) (s : State) : Host.Outcome State Fault Refusal := .next (runCommand m 0x0B01 shaperSetBody s)
/-- SHAPER_QUERY. -/
def execShaperQuery (m : Nat) (s : State) : Host.Outcome State Fault Refusal := .next (runCommand m 0x0B02 shaperQueryBody s)
/-- GATE_LIST_SET. -/
def execGateListSet (m : Nat) (s : State) : Host.Outcome State Fault Refusal := .next (runCommand m 0x0B03 gateListSetBody s)
/-- GATE_LIST_QUERY. -/
def execGateListQuery (m : Nat) (s : State) : Host.Outcome State Fault Refusal := .next (runCommand m 0x0B04 gateListQueryBody s)
/-- EGRESS_SET. -/
def execEgressSet (m : Nat) (s : State) : Host.Outcome State Fault Refusal := .next (runCommand m 0x0B05 egressSetBody s)
/-- EGRESS_QUERY. -/
def execEgressQuery (m : Nat) (s : State) : Host.Outcome State Fault Refusal := .next (runCommand m 0x0B06 egressQueryBody s)

end Sys2Proof.Machine
end

