-- ==== Sys2Proof/Machine/Flow.lean ====
section
/-! DEFINITION. What work holds of the package's queues and of the mesh (R16 to R24): reads and writes of a stack, descriptors and
completions of step work, lookups, cells between a Pass die and the message store, and requests to warm memory. The row that ends a piece of
work frees what it holds. -/

namespace Sys2Proof.Machine

/-- Entries that their consumer frees as it takes them (R22): they stay while its die is fenced, which returns no credit (R26). -/
def Core.qPass (t : Top) (id inst prod n : Nat) (w : Work) (c : Core) : Core :=
  let c := c.qSend t id inst prod n w
  if c.fenced (qDie id inst) then c else c.qEnd t id inst (· == w)

/-- Transfer `n` at its end: it leaves the mesh, and its entries are freed. -/
def Core.meshGone (t : Top) (n : Nat) (c : Core) : Core :=
  (c.onTelem (fun y => { y with mesh := y.mesh.del n })).qEndAll t (fun id => 0x0D ≤ id && id ≤ 0x0F) (fun w => w == .transfer n)

/-- A transfer that the row which sends it also sees arrive. -/
def Core.meshPass (t : Top) (src dst : Nat) (cls : MeshClass) (cargo : Cargo) (w : Work) (units : Nat) (c : Core) : Core :=
  (c.meshSend t src dst cls cargo w units).meshGone t c.telem.nextTransfer

/-- An engine of a Crest die reads some bytes of a stack (R16, R24): over the memory link of a stack of its own Saddle die, or at the mesh
port of another, from which the data come back over the mesh. -/
def Core.readStack (t : Top) (crest stack engine bytes : Nat) (w : Work) (c : Core) : Core :=
  let n := ceilDiv bytes 128
  if stack = crest / 2 then c.qSend t 0x01 crest engine n w
  else
    let c := c.qSend t 0x02 stack (crestDie crest) n w
    let c := c.meshSend t (crestDie crest) (saddleDie stack) .request .readRequest w (ceilDiv n 2)
    c.meshSend t (saddleDie stack) (crestDie crest) .response .readData w (ceilDiv bytes 256)

/-- A Crest die writes some bytes to a stack (R16, R24), as its Chrysalis engine, 0, or its Crest store, 1. -/
def Core.writeStack (t : Top) (crest stack engine bytes : Nat) (w : Work) (c : Core) : Core :=
  if stack = crest / 2 then c.qSend t 0x04 crest engine (ceilDiv bytes 128) w
  else c.meshSend t (crestDie crest) (saddleDie stack) .request .write w (ceilDiv bytes 256)

/-- Requests of a Crest die to warm memory behind a CXL port (R17, R24). -/
def Core.warmRequest (t : Top) (port crest bytes : Nat) (w : Work) (c : Core) : Core :=
  c.qSend t 0x0C port (crestDie crest) (ceilDiv bytes 64) w

/-- A step descriptor sent by a Summit die to a Crest die's sequencer (R24), over the mesh in the request class (R19, R187). -/
def Core.describe (t : Top) (summit crest : Nat) (w : Work) (c : Core) : Core :=
  (c.qSend t 0x05 crest (summitDie summit) 1 w).meshSend t (summitDie summit) (crestDie crest) .request .descriptor w 1

/-- A descriptor still waits at its Summit die for a credit (R22): its work has not begun. -/
def Core.undescribed (c : Core) (crest : Nat) (w : Work) : Bool :=
  (c.queue 0x05 crest).entries.any (fun e => e.work == w && 0 < e.wait)

/-- Work of an item's layer. -/
def Work.ofItem (i : Nat) : Work → Bool
  | .slice k _ | .unit k _ | .append k => k == i
  | _ => false

/-- What a piece of work holds of queues and mesh freed. -/
def Core.freeWork (t : Top) (w : Work → Bool) (c : Core) : Core :=
  (c.qEndAll t (fun id => id < 0x0D) w).meshEnd t (fun x => w x.work)

/-- The descriptors that a Crest die has received once one has: those that its sender sent before it came first (R20). The queue entry is freed as the
work starts. -/
def Core.descriptorTaken (t : Top) (crest : Nat) (w : Work) (c : Core) : Core :=
  let came : List Nat := match c.meshFind .descriptor w with
    | none => []
    | some (n, x) => Tbl.keys (c.telem.mesh.filter (fun e => e.1 ≤ n && e.2.src == x.src && e.2.dst == x.dst && e.2.cls == x.cls))
  let c := came.foldl (fun c k => c.meshGone t k) c
  c.qEnd t 0x05 crest (· == w)

/-- A result sent by a Crest die to the die that merges it, in the response class (R19, R187, R211): 256-byte units. -/
def Core.sendResult (t : Top) (crest merge bytes : Nat) (w : Work) (c : Core) : Core :=
  c.meshSend t (crestDie crest) (crestDie merge) .response .result w (ceilDiv bytes 256)

/-- A transfer in a class from one die to another would be overtaken by none sent before it (R20). -/
def Core.flowClear (c : Core) (src dst : Nat) (cls : MeshClass) : Bool :=
  c.telem.mesh.all (fun e => !(e.2.src == src && e.2.dst == dst && e.2.cls == cls) || e.2.route.isEmpty)

/-- A completion sent by a Crest die's sequencer to a Summit die (R24). -/
def Core.doneEntry (t : Top) (crest summit : Nat) (w : Work) (c : Core) : Core := c.qPass t 0x06 summit (crestDie crest) 1 w

/-- A lookup or update of a Summit die's request table (R24) by a die. -/
def Core.lookup (t : Top) (die summit : Nat) (c : Core) : Core := c.qPass t 0x07 summit die 1 .cells

/-- The Crest die whose part of the message store serves a connection (R313): one of its quadrant's eight, by connection number. -/
def storeCrest (cid : Nat) : Nat := 8 * (cid / 4096) + cid % 8

end Sys2Proof.Machine
end

