-- ==== Sys2Proof/Machine/Send.lean ====
section
/-! DEFINITION. Sending Jetur messages: the header of R304, credit units (R313), cells (R312), paths (R308), and the
bodies of the answers the SZ864 gives (R123, R197, R217, R262, R311, R319). -/

namespace Sys2Proof.Machine

/-! ### Paths -/

/-- The paths of a port mask, each by its lowest port: one per port, or one per bonded group (R308). -/
def Core.paths (c : Core) (mask : Nat) : List Nat := ((portsOf mask).map c.head).dedup

/-- Members of a path that carry frames now. -/
def Core.carriers (c : Core) (h : Nat) : List Nat := (c.members h).filter (fun q => (c.port q).carries)

/-- Free PORT_TX entries of a path: those of its freest member. -/
def Core.pathFree (c : Core) (h : Nat) : Nat := maxL ((c.carriers h).map c.txFree)

/-- Frames are kept for the path: a member holds them in RETRAIN or in a hold window (R290, R294). -/
def Core.pathHolds (c : Core) (h : Nat) : Bool :=
  (c.members h).any (fun q => (c.port q).state == .retrain || (c.port q).holdUntil.isSome)

/-- The path of one cell (R308): HASH on the address, else the freest with ties to the lower port; paths that are not UP
are left out. With none UP the cell waits on the first path that holds its frames, else on the first path. -/
def Core.choosePath (c : Core) (mask : Nat) (hashOf : Option Nat) : Nat :=
  let ps := c.paths mask
  let up := ps.filter (fun h => !(c.carriers h).isEmpty)
  match up with
  | [] => ((ps.filter c.pathHolds).head?).getD (ps.headD 0)
  | p0 :: rest =>
    match hashOf with
    | some a => up.getD ((crc32c (le 5 (bits a 49 12))).toNat % up.length) p0
    | none => rest.foldl (fun b h => if c.pathFree h > c.pathFree b then h else b) p0

/-! ### Cells -/

/-- The payload of a CELL frame (R312). -/
def cellBytes (m : Msg) (control : Bool) (off : Nat) (last : Bool) (data : List Byte) : List Byte :=
  le 4 m.seq ++ le 2 (m.dst + 2 ^ 14 * b2n m.rsp + 2 ^ 15 * b2n last) ++ le 2 m.src ++ le 2 m.conn ++
  le 2 (b2n control) ++ le 4 off ++ le 4 m.total ++ data

/-- A message cut into cells of 3,808 bytes (R312): offset, LAST and data. -/
def cellsOf (bs : List Byte) : List (Nat × Bool × List Byte) :=
  let ps := chunksOf 3808 (bs.length / 3808 + 1) bs
  ps.zipIdx.map (fun p => (3808 * p.2, p.2 + 1 == ps.length, p.1))

/-- A message's cells put on the paths of a connection (R308, R332): its bytes leave the message store by CELL_OUT (R24), and cells for a port
of another quadrant cross the mesh from the Pass die that serves the connection (R307). -/
def Core.putCells (t : Top) (cid : Nat) (m : Msg) (control : Bool) (c : Core) : Core :=
  let n := c.conn cid
  let hashed := n.hash && (m.type == 0x50 || m.type == 0x51 || m.type == 0x52)
  (cellsOf m.bytes).foldl (fun c (off, last, d) =>
    let p := c.choosePath n.portMask (if hashed then some (m.arg 0 8) else none)
    let f := cellBytes m control off last d
    let u := ceilDiv f.length 256
    let c := c.qPass t 0x09 (cid / 4096) (crestDie (storeCrest cid)) u .cells
    let c := c.meshPass t (passDie (cid / 4096)) (passDie (p / 2)) .request .cells .cells u
    c.enqueue t p m.cls { payload := f, rsp := m.rsp, conn := cid, mseq := m.seq }) c

/-! ### Channels -/

/-- A channel of a connection. -/
def Conn.chan (n : Conn) (rsp : Bool) : Chan := if rsp then n.rsp else n.req

/-- A channel of a connection changed. -/
def Conn.onChan (rsp : Bool) (f : Chan → Chan) (n : Conn) : Conn := if rsp then { n with rsp := f n.rsp } else { n with req := f n.req }

/-- The job ID that messages carry: the bound job's, 0 for none (R304, R306). -/
def Core.jobId (c : Core) : Nat := (c.job.map Job.id).getD 0

/-- The job is quiesced (R329). -/
def Core.quiesced (c : Core) : Bool := (c.job.map Job.quiesced).getD false

/-- A message sent now (R304): sequence and units taken, owed credits returned in its header. -/
def Core.sendNow (t : Top) (cid : Nat) (m : Msg) (req : Option Nat) (c : Core) : Core :=
  let n := c.conn cid
  let ch := n.chan m.rsp
  let m := { m with seq := ch.next, stamp := stampOf (t.dieTime (passDie (cid / 4096))), job := c.jobId, crReq := n.req.owed, crRsp := n.rsp.owed }
  let c := c.updConn cid (fun n =>
    let n := { n with req := { n.req with owed := 0 }, rsp := { n.rsp with owed := 0 }, lastSent := t.now }
    n.onChan m.rsp (fun ch => { ch with next := (ch.next + 1) % 2 ^ 32, held := ch.held - m.units }))
  let c := match req with
    | some r => c.onFabric (fun f => { f with reqs := f.reqs.upd r (fun q => { q with sent := t.now, mseq := some m.seq }) })
    | none => c
  c.putCells t cid m false

/-- Messages that wait for units sent in order while the units suffice (R313); `fuel` bounds their number. -/
def Core.flushChan (t : Top) (cid : Nat) (rsp : Bool) : Nat → Core → Core
  | 0, c => c
  | fuel + 1, c =>
    let ch := (c.conn cid).chan rsp
    match ch.wait with
    | [] => c
    | (m, r) :: rest =>
      if m.units ≤ ch.held then
        let c := c.updConn cid (Conn.onChan rsp (fun ch => { ch with wait := rest }))
        Core.flushChan t cid rsp fuel (c.sendNow t cid m r)
      else c

/-- Types that a device carries in its state on a route of so many stages (R327); a job that drains without being quiesced
still carries the messages of moves that are past cutover (R376). -/
def Core.carried (t : Top) (c : Core) (stages : Nat) (m : Msg) : Bool :=
  let messaging := m.type == 0x60 || m.type == 0x61 || m.type == 0x70
  let memory := 0x50 ≤ m.type && m.type ≤ 0x53
  match t.dev with
  | .off => false
  | .faulted => messaging
  | .bound => if c.quiesced then messaging || (memory && stages ≤ 1) else true
  | .draining =>
    messaging || (memory && stages ≤ 1) ||
    (!c.quiesced && (m.type == 0x32 || m.type == 0x33 || (m.type == 0x30 && m.arg 0 1 != 1)))
  | _ => messaging || (memory && stages ≤ 1)

/-- Loads, stores and atomics go on a connection only where its route carries them in the device's state (R327). -/
def Core.mayAsk (t : Top) (c : Core) (m : Msg) (stages : Nat) : Bool :=
  !(0x50 ≤ m.type && m.type ≤ 0x52) || c.carried t stages m

/-- A message for a connection: sent now, or after the messages that wait for units before it (R313). A closing
connection starts no new request (R307). One that exceeds the peer's grant can never be sent: it is lost and counted. -/
def Core.sendMsg (t : Top) (cid type : Nat) (rsp : Bool) (cls : Nat) (body : List Byte) (req : Option Nat) (c : Core) : Core :=
  let n := c.conn cid
  let m : Msg := {
    type := type, flags := b2n rsp + 2 * cls, src := t.nodeId, dst := n.peer, conn := n.peerConn, seq := 0,
    stamp := 0, job := 0, crReq := 0, crRsp := 0, body := body }
  let allowed := n.state == .opened || n.state == .opening || (n.state == .closing && rsp)
  if !allowed || !c.mayAsk t m n.stages then c
  else if n.granted && (n.chan rsp).heldMax < m.units then c.updConn cid (fun n => { n with lost := n.lost.up })
  else if (n.chan rsp).wait.isEmpty && m.units ≤ (n.chan rsp).held then c.sendNow t cid m req
  else c.updConn cid (Conn.onChan rsp (fun ch => { ch with wait := ch.wait ++ [(m, req)] }))

/-- A SEND_ACK CREDIT or GRANT: one cell with CONTROL set, no units and no sequence (R311, R313). -/
def Core.sendControl (t : Top) (cid kind flags crReq crRsp : Nat) (c : Core) : Core :=
  let n := c.conn cid
  let m : Msg := {
    type := 0x61, flags := 1 + 2 * 6, src := t.nodeId, dst := n.peer, conn := n.peerConn, seq := 0,
    stamp := stampOf (t.dieTime (passDie (cid / 4096))), job := c.jobId, crReq := crReq, crRsp := crRsp,
    body := le 1 kind ++ le 1 flags ++ zeros 14 }
  (c.updConn cid (fun n => { n with lastSent := t.now })).putCells t cid m true

/-- An end's full grants sent (R307). -/
def Core.sendGrant (t : Top) (cid : Nat) (seen : Bool) (c : Core) : Core :=
  (c.sendControl t cid 3 (b2n seen) (c.conn cid).req.grant (c.conn cid).rsp.grant).updConn cid
    (fun n => { n with lastGrant := t.now })

/-- Units returned by the consumer of a message, owed to the peer (R313). -/
def Core.oweUnits (cid : Nat) (rsp : Bool) (u : Nat) (c : Core) : Core :=
  c.updConn cid (Conn.onChan rsp (fun ch => { ch with owed := ch.owed + u }))

/-- Units that the peer returned (R307): added to those held, never above the first grant; waiting messages follow. -/
def Core.takeUnits (t : Top) (cid req rsp : Nat) (c : Core) : Core :=
  let add := fun (k : Nat) (ch : Chan) => { ch with held := min ch.heldMax (ch.held + k) }
  let c := c.updConn cid (fun n => { n with req := add req n.req, rsp := add rsp n.rsp })
  let c := c.flushChan t cid false (c.conn cid).req.wait.length
  c.flushChan t cid true (c.conn cid).rsp.wait.length

/-- A request registered as awaiting its answer (R317). -/
def Core.newReq (t : Top) (cid type tag : Nat) (p : Purpose) (c : Core) : Nat × Core :=
  let r := c.fabric.nextReq
  (r, c.onFabric (fun f => { f with
    nextReq := r + 1,
    reqs := f.reqs.set r { conn := cid, node := (f.conns.getD cid {}).peer, type := type, tag := tag, sent := t.now, purpose := p } }))

/-- A node declared dead (R328). -/
def Core.isDead (c : Core) (node : Nat) : Bool := c.fabric.dead.contains node

/-! ### Answers -/

/-- A STEP_RESULT body (R197): the query's own fields, status, counts and output. -/
def stepResult (q : List Byte) (st : Status) (d summarised slices admitted : Nat) (out : List Byte) : List Byte :=
  let q := fit 24 q
  q.take 12 ++ statusBytes st d ++ (q.drop 20).take 4 ++ le 2 summarised ++ le 2 slices ++ le 4 admitted ++ zeros 4 ++ out

/-- A CHUNK_RESULT body (R217). -/
def chunkResult (q : List Byte) (st : Status) (d segs admitted : Nat) (out : List Byte) : List Byte :=
  let q := fit 32 q
  q.take 12 ++ statusBytes st d ++ (q.drop 28).take 4 ++ (q.drop 16).take 1 ++ zeros 1 ++ (q.drop 14).take 2 ++ le 2 segs ++
  zeros 2 ++ le 4 admitted ++ out

/-- A SEARCH_RESULT body (R262). -/
def searchResult (q : List Byte) (st : Status) (d n lists seq gen scored : Nat) (recs : List Byte) : List Byte :=
  let q := fit 8 q
  q.take 2 ++ zeros 2 ++ (q.drop 4).take 4 ++ statusBytes st d ++ le 2 n ++ le 2 lists ++ le 8 seq ++ le 4 gen ++ zeros 4 ++
  le 8 scored ++ recs

/-- A MEM_COMPLETION body (R319). -/
def memCompletion (tag : Nat) (st : Status) (d version old : Nat) (data : List Byte) : List Byte :=
  le 4 tag ++ statusBytes st d ++ le 4 version ++ le 4 data.length ++ le 8 old ++ data

/-- The 16 bytes that begin every move message (R120). -/
def moveHead (kind type id initiator epoch src dst : Nat) : List Byte :=
  le 1 kind ++ le 1 type ++ le 2 id ++ le 2 initiator ++ le 2 epoch ++ le 4 src ++ le 4 dst

/-- A STATE_ACK body (R123), its head given. -/
def stateAck (head : List Byte) (st : Status) (d credits layer page attempt : Nat) : List Byte :=
  head ++ statusBytes st d ++ le 2 credits ++ le 2 layer ++ le 2 page ++ le 1 attempt ++ zeros 5

/-- A SEND_ACK ACK body (R311). -/
def sendAck (tag : Nat) (st : Status) (d len : Nat) : List Byte :=
  le 1 1 ++ le 1 st.code ++ zeros 2 ++ le 4 tag ++ le 4 len ++ le 4 d

/-- The answer of a request on the connection on which it arrived, in its traffic class (R309, R335). -/
def Core.answerMsg (t : Top) (cid : Nat) (q : Msg) (type : Nat) (body : List Byte) (c : Core) : Core :=
  c.sendMsg t cid type true q.cls body none

/-- The kind byte of the STATE_ACK that answers a move message (R123). -/
def ackKind (type kind : Nat) : Nat := if type = 0x30 then kind else if type = 0x33 then 6 else 7

/-- A message answered with a status alone, where its type expects an answer (R305). A DRAIN_MARK MARK has no answer that
could carry a status. -/
def Core.refuseMsg (t : Top) (cid : Nat) (q : Msg) (st : Status) (d : Nat) (c : Core) : Core :=
  let kind := q.arg 0 1
  match q.type with
  | 0x10 => c.answerMsg t cid q 0x11 (stepResult q.body st d 0 0 0 [])
  | 0x20 => c.answerMsg t cid q 0x21 (chunkResult q.body st d 0 0 [])
  | 0x30 =>
    if kind = 4 then c
    else
      let (l, p, a) := if kind = 2 then (q.arg 16 2, q.arg 18 2, q.arg 20 1) else (0, 0, 0)
      c.answerMsg t cid q 0x32 (stateAck (le 1 (ackKind 0x30 kind) ++ fit 15 (q.body.drop 1)) st d 0 l p a)
  | 0x31 =>
    let (l, p, a) := if kind = 3 then (q.arg 28 2, q.arg 30 2, q.arg 32 1) else (0, 0, 0)
    c.answerMsg t cid q 0x32 (stateAck (le 1 7 ++ fit 15 (q.body.drop 1)) st d 0 l p a)
  | 0x33 => if kind = 3 then c.answerMsg t cid q 0x32 (stateAck (le 1 6 ++ fit 15 (q.body.drop 1)) st d 0 0 0 0) else c
  | 0x40 => c.answerMsg t cid q 0x41 (searchResult q.body st d 0 0 0 0 0 [])
  | 0x50 | 0x52 | 0x54 => c.answerMsg t cid q 0x53 (memCompletion (q.arg 16 4) st d 0 0 [])
  | 0x51 => if bit (q.arg 13 1) 0 then c.answerMsg t cid q 0x53 (memCompletion (q.arg 16 4) st d 0 0 []) else c
  | 0x60 => c.answerMsg t cid q 0x61 (sendAck (q.arg 0 4) st d 0)
  | _ => c

/-- The oldest delivered message of a connection, of a type and with a kind byte where one is given. -/
def Core.headMsg (c : Core) (cid type : Nat) (kind : Option Nat) : Option Msg :=
  match (c.conn cid).inbox with
  | m :: _ => if m.type = type && (kind.isNone || kind == some (m.arg 0 1)) then some m else none
  | [] => none

/-- That message taken out of the message store: its units are owed to the peer (R313). -/
def Core.takeMsg (cid : Nat) (m : Msg) (c : Core) : Core :=
  (c.updConn cid (fun n => { n with inbox := n.inbox.tail })).oweUnits cid m.rsp m.units

/-- A message row: it acts on the connection's oldest delivered message where that is of its type. -/
def onMsg (cid type : Nat) (kind : Option Nat) (f : Top → Core → Nat → Msg → Core) (s : State) : State :=
  match s.core.headMsg cid type kind with
  | some m => s.onCore (fun t c => f t (c.takeMsg cid m) cid m)
  | none => s

end Sys2Proof.Machine
end

