-- ==== Sys2Proof/Machine/Sync.lean ====
section
/-! DEFINITION. Synchronisation objects and their waiters (R64 to R74), reference counts (R52, R53) and the 0x0Exx
commands. -/

namespace Sys2Proof.Machine

/-! ### References -/

/-- The three reference counts of a context (R52). -/
inductive RefKind where
  | msg | pin | wait
  deriving DecidableEq, Repr

/-- A reference count (R52). -/
def Ctx.refs (x : Ctx) (k : RefKind) : Nat :=
  match k with | .msg => x.msgs | .pin => x.pins | .wait => x.waits

/-- A reference count changed. -/
def Ctx.onRefs (k : RefKind) (f : Nat → Nat) (x : Ctx) : Ctx :=
  match k with
  | .msg => { x with msgs := f x.msgs }
  | .pin => { x with pins := f x.pins }
  | .wait => { x with waits := f x.waits }

/-- A reference released (R52). -/
def Core.dropRef (i : Nat) (k : RefKind) (c : Core) : Core := c.updCtx i (Ctx.onRefs k (· - 1))

/-- A reference count has room for `n` more (R53). -/
def Core.hasRef (c : Core) (i : Nat) (k : RefKind) (n : Nat := 1) : Bool := (c.ctx i).refs k + n ≤ 16777215

/-- A reference taken: none to a context in DRAINING (R54), and none beyond 24 bits (R53). -/
def Core.takeRef (i : Nat) (k : RefKind) (c : Core) : Chk Core := do
  need ((c.ctx i).state != .draining) .stateReject (stateDetail .context (c.ctx i).state.code)
  need (c.hasRef i k) .noResource
  .ok (c.updCtx i (Ctx.onRefs k (· + 1)))

/-! ### Signals and releases -/

/-- The Summit die of an object (R64). -/
def syncSummit (id : Nat) : Nat := id / 4096

/-- A signal dropped (R69). -/
def Core.staleSync (id : Nat) (c : Core) : Core := if id < 16384 then c.bump (.summit (syncSummit id) 1) else c

/-- The ceiling of a SEMAPHORE (R65). -/
def semCeiling (thr : Nat) : Nat := if thr = 0 then 0xFFFFFFFF else thr

/-- An object's value limited (R66): the greatest value of a COUNTER or BARRIER, the ceiling of a SEMAPHORE. -/
def SyncObj.limit (o : SyncObj) : Nat := if o.kind = .semaphore then semCeiling o.threshold else 0xFFFFFFFF

/-- An object at a value: beyond its limit it holds the limit, SAT is set, and the excess is to be counted (R66). -/
def SyncObj.clamp (o : SyncObj) (v : Nat) : SyncObj × Nat :=
  if v > o.limit then ({ o with value := o.limit, sat := true }, v - o.limit) else ({ o with value := v }, 0)

/-- An object stored and an excess counted on its Summit die (R66). -/
def Core.putSync (id : Nat) (o : SyncObj) (excess : Nat) (c : Core) : Core :=
  let c := { c with syncs := c.syncs.set id o }
  if excess = 0 then c else c.updSummit (syncSummit id) (fun s => { s with overflow := s.overflow.up excess })

/-- A MEM_ATOMIC add of 32 bits, as a REMOTE waiter sends it (R70, R318). -/
def atomicAddBody (addr tag operand : Nat) : List Byte :=
  le 8 addr ++ le 4 4 ++ le 1 1 ++ zeros 3 ++ le 4 tag ++ zeros 4 ++ le 8 operand ++ zeros 8

/-- A waiter's release (R70), with the object's value after it: the waiter is already off the list. -/
def Core.fire (t : Top) (w : Waiter) (value : Nat) (c : Core) : Core :=
  let c := match w.ctx with
    | some i => c.dropRef i .wait
    | none => c
  match w.kind with
  | .mailbox m => c.stage m .ok 0 (le 4 value)
  | .msix v ev =>
    let c := c.msix v
    if ev then c.raise t 0x0E01 (summitDie (syncSummit w.obj)) w.obj (le 4 value ++ le 2 w.num) else c
  | .remote addr operand conn =>
    if (c.conn conn).state = .opened && c.isDead (c.conn conn).peer then c.bump (.pass (conn / 4096) 12)
    else if (c.conn conn).state = .opened then
      let (r, c) := c.newReq t conn 0x52 c.fabric.nextReq .remoteWaiter
      c.sendMsg t conn 0x52 false 5 (atomicAddBody addr r operand) (some r)
    else c.staleSync w.obj

/-- A waiter cancelled (R54, R72, R73): a MAILBOX waiter completes with a status, another is removed without firing. -/
def Core.cancelWaiter (w : Waiter) (st : Status) (d : Nat) (c : Core) : Core :=
  let c := match w.ctx with
    | some i => c.dropRef i .wait
    | none => c
  match w.kind with
  | .mailbox m => c.stage m st d []
  | _ => c

/-- The waiters of an object, in registration order (R67). -/
def Core.waitersOf (c : Core) (id : Nat) : List Waiter := (c.summit (syncSummit id)).waiters.filter (fun w => w.obj == id)

/-- One waiter off its Summit die's list. -/
def Core.removeWaiter (w : Waiter) (c : Core) : Core :=
  c.updSummit (syncSummit w.obj) (fun s => { s with waiters := s.waiters.filter (fun v => v.num != w.num) })

/-- Waiters released in order at one value. -/
def Core.fireAll (t : Top) (value : Nat) (ws : List Waiter) (c : Core) : Core :=
  ws.foldl (fun c w => (c.removeWaiter w).fire t w value) c

/-- SEMAPHORE: one permit for each waiter released, until the value is 0 (R65, R67). -/
def Core.fireSem (t : Top) (id : Nat) : List Waiter → Core → Core
  | [], c => c
  | w :: ws, c =>
    match c.syncs.get? id with
    | none => c
    | some o =>
      if o.value = 0 then c
      else
        let c := { c with syncs := c.syncs.set id { o with value := o.value - 1 } }
        Core.fireSem t id ws ((c.removeWaiter w).fire t w (o.value - 1))

/-- The release condition evaluated after an operation, and qualifying waiters released (R67). -/
def Core.evaluate (t : Top) (id : Nat) (c : Core) : Core :=
  match c.syncs.get? id with
  | none => c
  | some o =>
    let ws := c.waitersOf id
    match o.kind with
    | .counter => if o.value ≥ o.threshold then c.fireAll t o.value ws else c
    | .event => if o.value &&& o.threshold = o.threshold then c.fireAll t o.value ws else c
    | .semaphore => c.fireSem t id ws
    | .barrier =>
      if o.threshold = 0 || o.value < o.threshold then c
      else
        let c := { c with syncs := c.syncs.set id { o with
          value := o.value % o.threshold, completions := o.completions.up (o.value / o.threshold) } }
        c.fireAll t (o.value - o.threshold) ws

/-- The signal operation of a kind with operand n (R65, R66). -/
def SyncObj.signal (o : SyncObj) (n : Nat) : SyncObj × Nat :=
  match o.kind with
  | .event => ({ o with value := o.value ||| n }, 0)
  | _ => o.clamp (o.value + n)

/-- A signal from any source but SYNC_SIGNAL (R68, R69): dropped and counted for a FREE object or a quiesced job. -/
def Core.signal (t : Top) (id n : Nat) (c : Core) : Core :=
  match c.syncs.get? id with
  | none => c.staleSync id
  | some o =>
    if c.quiesced then c.staleSync id
    else
      let (o, x) := o.signal n
      (c.putSync id o x).evaluate t id

/-- The completion object of a message or command signalled once, with operand 1; 0xFFFF names none (R68). -/
def Core.signalDone (t : Top) (id : Nat) (c : Core) : Core := if id = 0xFFFF then c else c.signal t id 1

/-- Every waiter of a set cancelled. -/
def Core.cancelWaiters (p : Waiter → Bool) (st : Status) (d : Nat) (c : Core) : Core :=
  (c.summits.vals.flatMap Summit.waiters).foldl
    (fun c w => if p w then (c.removeWaiter w).cancelWaiter w st d else c) c

/-- An object freed: its waiters are cancelled, and it joins the tail of its die's free list (R72). -/
def Core.freeSync (t : Top) (id : Nat) (st : Status) (d : Nat) (c : Core) : Core :=
  let c := c.cancelWaiters (fun w => w.obj == id) st d
  let c := { c with syncs := c.syncs.del id }
  c.updSummit (syncSummit id) (fun s => { s with syncFree := s.syncFree ++ [(id % 4096, t.now)] })

/-! ### Commands of the 0x0Exx range -/

/-- Objects of a Summit die that may be allocated, in free-list order (R72): those never allocated, then those freed at
least 1 s ago. -/
def Core.syncReady (t : Top) (c : Core) (q : Nat) : Nat × List (Nat × Nat) :=
  let s := c.summit q
  (4096 - s.syncNext, s.syncFree.filter (fun e => e.2 + 1000000000 ≤ t.now))

/-- How many objects a Summit die could allocate. -/
def Core.syncCount (t : Top) (c : Core) (q : Nat) : Nat := (c.syncReady t q).1 + (c.syncReady t q).2.length

/-- Of some Summit dies, the one with the most, ties to the lower index (R61, R74). -/
def bestSummit (f : Nat → Nat) (qs : List Nat) : Option Nat :=
  qs.foldl (fun b q => match b with
    | none => some q
    | some p => if f q > f p then some q else some p) none

/-- SYNC_ALLOC (R66, R72, R74). R67 evaluates the release condition after each operation on an object and does not say whether its allocation
is one: it is not taken as one here, so that a BARRIER allocated at or above its threshold keeps its value until the next operation
(DESIGN CHOICE, log 160). -/
def syncAllocBody (t : Top) (c : Core) (_m : Nat) (a : Cmd) : Ans := do
  match SyncKind.ofCode (a.arg 0 1) with
  | none => .error (.badArg, 0)
  | some kind =>
    let sum := a.arg 1 1
    needArg (sum == 0xFF || t.summitsUp.contains sum) 1
    let n := a.arg 2 2
    needArg (1 ≤ n && n ≤ 256) 2
    let thr := a.arg 8 4
    needArg (!(kind == .barrier && thr == 0)) 8
    match (if sum = 0xFF then bestSummit (c.syncCount t) t.summitsUp else some sum) with
    | none => .error (.noResource, 0)
    | some q =>
      need (n ≤ c.syncCount t q) .noResource
      let s := c.summit q
      let fresh := min n (4096 - s.syncNext)
      let old := (c.syncReady t q).2.take (n - fresh)
      let offs := (List.range fresh).map (s.syncNext + ·) ++ old.map Prod.fst
      let c := c.updSummit q (fun s => { s with
        syncNext := s.syncNext + fresh, syncFree := s.syncFree.filter (fun e => !old.contains e) })
      let c := offs.foldl (fun c off =>
        let (o, x) := ({ kind := kind, value := 0, threshold := thr } : SyncObj).clamp (a.arg 4 4)
        c.putSync (4096 * q + off) o x) c
      ok c (le 2 n ++ offs.flatMap (fun off => le 2 (4096 * q + off)))

/-- An object that exists, by its ID argument (R64, R42). -/
def syncExists (t : Top) (id : Nat) : Bool := id < 16384 && t.summitsUp.contains (syncSummit id)

/-- An allocated object, or BAD_ARG for an ID that does not exist and STATE_REJECT for a FREE object (R74). -/
def Core.syncArg (t : Top) (c : Core) (id : Nat) : Chk SyncObj := do
  needArg (syncExists t id) 0
  match c.syncs.get? id with
  | none => .error (.stateReject, stateDetail .sync 0)
  | some o => .ok o

/-- SYNC_FREE (R72, R74). -/
def syncFreeBody (t : Top) (c : Core) (_m : Nat) (a : Cmd) : Ans := do
  let _ ← c.syncArg t (a.arg 0 2)
  ok (c.freeSync t (a.arg 0 2) .staleHandle 0)

/-- SYNC_SET (R66, R67, R74). -/
def syncSetBody (t : Top) (c : Core) (_m : Nat) (a : Cmd) : Ans := do
  let id := a.arg 0 2
  let o ← c.syncArg t id
  let setV := bit (a.arg 2 2) 0
  let setT := bit (a.arg 2 2) 1
  needArg (!(setT && o.kind == .barrier && a.arg 8 4 == 0)) 8
  let o := if setT then { o with threshold := a.arg 8 4 } else o
  let o := if setV then { o with sat := false } else o
  let (o, x) := o.clamp (if setV then a.arg 4 4 else o.value)
  ok ((c.putSync id o x).evaluate t id)

/-- SYNC_SIGNAL (R65, R69, R73, R74): one that names a FREE object is refused, and its signal is dropped and counted. -/
def syncSignalBody (t : Top) (c : Core) (_m : Nat) (a : Cmd) : Ans := do
  let id := a.arg 0 2
  needArg (syncExists t id) 0
  match c.syncs.get? id with
  | none => answer (c.staleSync id) .stateReject (stateDetail .sync 0)
  | some o =>
    let op := a.arg 2 1
    needArg (op == 1 || (op == 2 && o.kind == .event)) 2
    if c.quiesced then answer (c.staleSync id) .jobFaulted
    else
      let n := a.arg 4 4
      let (o, x) := if op = 2 then ({ o with value := o.value &&& (0xFFFFFFFF - n) }, 0) else o.signal n
      let c := (c.putSync id o x).evaluate t id
      ok c (le 4 (((c.syncs.get? id).map SyncObj.value).getD 0))

/-- The connection that a command names for a target node, or the lowest-numbered OPEN one for 0xFFFF (R309). -/
def Core.connFor (c : Core) (named node : Nat) : Option Nat :=
  let good := fun (n : Conn) => n.state == .opened && n.peer == node
  if named = 0xFFFF then (c.fabric.conns.find? (fun e => good e.2)).map Prod.fst
  else if named < 16384 && good (c.conn named) then some named else none

/-- SYNC_WAIT (R70, R71, R73, R74). The manual gives no order among its refusals beyond R369's: the model refuses an object that does not
exist, then a FREE one, then the arguments in the order of their offsets, then a quiesced job, and last a full table (DESIGN CHOICE,
log 161). -/
def syncWaitBody (t : Top) (c : Core) (m : Nat) (a : Cmd) : Ans := do
  let id := a.arg 0 2
  let _ ← c.syncArg t id
  let kind := a.arg 2 1
  let arg := a.arg 4 4
  needArg (1 ≤ kind && kind ≤ 3) 2
  needArg (!(kind == 1 && arg > 10000000) && !(kind == 2 && arg > 2047)) 4
  let addr := a.arg 8 8
  needArg (!(kind == 3 && addrNode addr == 0x3FFF)) 8
  let conn ← (if kind = 3 then
      match c.connFor (a.arg 20 2) (addrNode addr) with
      | some n => (.ok n : Chk Nat)
      | none => .error (.badArg, 0x17)
    else .ok 0)
  need (!c.quiesced) .jobFaulted
  let q := syncSummit id
  let used := sortBy (fun x y => x < y) ((c.summit q).waiters.map Waiter.num)
  match c.pickFree used 16384 with
  | none => .error (.noResource, 0)
  | some (num, c) =>
    let c ← (if a.handle = 0 then (.ok c : Chk Core) else c.takeRef (hIndex a.handle) .wait)
    let w : Waiter := {
      num := num, obj := id,
      kind := if kind = 1 then .mailbox m else if kind = 2 then .msix arg (bit (a.arg 3 1) 0) else .remote addr (a.arg 16 4) conn,
      deadline := if kind = 1 && arg != 0 then some (t.now + 1000 * arg) else none,
      ctx := if a.handle = 0 then none else some (hIndex a.handle) }
    let c := c.updSummit q (fun s => { s with waiters := s.waiters ++ [w] })
    let c := c.evaluate t id
    if kind = 1 then waits c else ok c (le 2 num)

/-- SYNC_QUERY (R74). -/
def syncQueryBody (t : Top) (c : Core) (_m : Nat) (a : Cmd) : Ans := do
  let id := a.arg 0 2
  needArg (syncExists t id) 0
  match c.syncs.get? id with
  | none => ok c (zeros 16)
  | some o => ok c (le 1 1 ++ le 1 o.kind.code ++ le 1 (b2n o.sat) ++ zeros 1 ++ le 4 o.value ++ le 4 o.threshold ++
      le 4 (o.completions.toNat % 2 ^ 32))

/-- SYNC_CANCEL (R74). -/
def syncCancelBody (t : Top) (c : Core) (_m : Nat) (a : Cmd) : Ans := do
  let id := a.arg 0 2
  needArg (syncExists t id) 0
  match (c.waitersOf id).find? (fun w => w.num == a.arg 2 2) with
  | none => ok c
  | some w => ok ((c.removeWaiter w).cancelWaiter w .staleHandle 0)

/-- A waiter of a Summit die whose timeout has expired (R71): a timed-out waiter is removed and consumes no permit. -/
def Core.syncTimeout (t : Top) (q num : Nat) (c : Core) : Core :=
  match (c.summit q).waiters.find? (fun w => w.num == num) with
  | none => c
  | some w =>
    match w.deadline with
    | some d => if d ≤ t.now then (c.removeWaiter w).cancelWaiter w .timeout 0 else c
    | none => c

/-- SYNC_ALLOC. -/
def execSyncAlloc (m : Nat) (s : State) : Host.Outcome State Fault Refusal := .next (runCommand m 0x0E01 syncAllocBody s)
/-- SYNC_FREE. -/
def execSyncFree (m : Nat) (s : State) : Host.Outcome State Fault Refusal := .next (runCommand m 0x0E02 syncFreeBody s)
/-- SYNC_SET. -/
def execSyncSet (m : Nat) (s : State) : Host.Outcome State Fault Refusal := .next (runCommand m 0x0E03 syncSetBody s)
/-- SYNC_SIGNAL. -/
def execSyncSignal (m : Nat) (s : State) : Host.Outcome State Fault Refusal := .next (runCommand m 0x0E04 syncSignalBody s)
/-- SYNC_WAIT. -/
def execSyncWait (m : Nat) (s : State) : Host.Outcome State Fault Refusal := .next (runCommand m 0x0E05 syncWaitBody s)
/-- SYNC_QUERY. -/
def execSyncQuery (m : Nat) (s : State) : Host.Outcome State Fault Refusal := .next (runCommand m 0x0E06 syncQueryBody s)
/-- SYNC_CANCEL. -/
def execSyncCancel (m : Nat) (s : State) : Host.Outcome State Fault Refusal := .next (runCommand m 0x0E07 syncCancelBody s)
/-- SYNC_WAIT_TIMEOUT (R71). -/
def execSyncWaitTimeout (q w : Nat) (s : State) : Host.Outcome State Fault Refusal :=
  .next (s.onCore (fun t c => c.syncTimeout t q w))

end Sys2Proof.Machine
end

