-- ==== Sys2Proof/Machine/Tiers.lean ====
section
/-! DEFINITION. Where state lies (03_state_pages_and_tiers.md): frames and their stacks (R83, R107), quotas (R104 to
R106), warm space (R93), pages committed, shared and released (R83 to R90), the partitions of the Crest store (R91), Chrysalis work (R242)
and page table entries (R87). -/

namespace Sys2Proof.Machine

/-! ### The job's sizes -/

/-- The bound shape record, empty with no job. -/
def Core.shape (c : Core) : List Byte := (c.job.map Job.shape).getD []
/-- The frame size F of the job (R81). -/
def Core.frameF (c : Core) : Nat := shFrame c.shape
/-- The metadata slot size of the job (R82). -/
def Core.slotB (c : Core) : Nat := shSlot c.shape
/-- F1 (R83). -/
def Core.f1 (c : Core) : Nat := (c.job.map Job.f1).getD 0
/-- The reserve floor (R107). -/
def Core.floor (c : Core) : Nat := ceilDiv (c.f1 * 5) 1000
/-- Frames that each in-service stack holds (R83). -/
def Core.perStack (c : Core) : Nat := (c.job.map Job.framesPerStack).getD 0
/-- Bytes of the page pool with no job bound (R113): the stacks in service less the table reserve. -/
def Top.poolBytes (t : Top) : Nat := t.stackList.length * (t.stackBytes - 64 * 2 ^ 20)
/-- A client configured for the bound job (R374). -/
def Core.isClient (c : Core) (k : Nat) : Bool := k < (c.job.map Job.clientCount).getD 0
/-- Pages per layer of a context: P = ceil(Lmax / 256) (R77). -/
def Ctx.pagesP (x : Ctx) : Nat := ceilDiv x.maxLen 256
/-- Bytes of a context's region (R77). -/
def Core.regionBytes (c : Core) (maxLen : Nat) : Nat := roundUp (shLayers c.shape * ceilDiv maxLen 256 * c.frameF) (2 * 2 ^ 20)
/-- A context's page table key of a layer's page (R86). -/
def Ctx.pageKey (x : Ctx) (layer page : Nat) : Nat := layer * x.pagesP + page
/-- A context's reference to a page. -/
def Ctx.ref (x : Ctx) (layer page : Nat) : Option PageRef := if page < x.pagesP then x.pages.get? (x.pageKey layer page) else none
/-- The layer and page of a page table key. -/
def Ctx.keyOf (x : Ctx) (k : Nat) : Nat × Nat := (k / x.pagesP, k % x.pagesP)
/-- Tokens that a layer holds (R181). -/
def Ctx.held1 (x : Ctx) (l : Nat) : Nat := x.tokens.getD l 0
/-- The current length: the smallest number of tokens held by any layer (R181). -/
def Core.curLen (c : Core) (x : Ctx) : Nat :=
  match (List.range (shLayers c.shape)).map x.held1 with
  | [] => 0
  | t :: ts => minD 0 (t :: ts)

/-! ### Frames -/

/-- Units of a storage of n 64 KiB units on in-service stack k of S: placed in turn, or with HASH by CRC-32C (R83, R322). -/
def unitsOn (s k n : Nat) (hash : Bool) : Nat :=
  if hash then ((List.range n).filter (fun u => (crc32c (le 4 u)).toNat % s == k)).length
  else n / s + (if k < n % s then 1 else 0)

/-- Frames of in-service stack k taken by indexes, DEVICE regions and pool grants (R83). -/
def Core.takenOn (c : Core) (s k : Nat) : Nat :=
  let fr := fun (n : Nat) => ceilDiv (n * 65536) (c.frameF + c.slotB)
  sumL (c.search.idxs.vals.map (fun i => fr (unitsOn s k (i.budget1 / 65536) false))) +
  sumL ((c.fabric.regions.vals.filter (fun r => r.backing == .device)).map
    (fun r => fr (unitsOn s k (r.size / 65536) (bit r.flags 0)))) +
  sumL (c.tiers.grants.map (fun g => fr (g.units.filter (fun u => u % s == k)).length))

/-- A page's frame has passed to another page, which waits for the end of its write-down (R109, R110). -/
def PageObj.given (p : PageObj) : Bool := (p.down.map WriteDown.given).getD false

/-- Frames of a physical stack committed to pages. A frame that has passed to another page counts once, for that page. -/
def Core.framesUsed (c : Core) (st : Nat) : List Nat :=
  c.tiers.pages.vals.filterMap (fun p => match p.t1 with
    | some (s, f) => if s = st && !p.given then some f else none
    | none => none)

/-- Retired frames of a physical stack among those the job counts (R413). -/
def Core.framesRetired (c : Core) (st : Nat) : List Nat :=
  (c.tiers.retired.filter (fun r => r.1 == st && r.2 < c.perStack)).map Prod.snd

/-- Free frames of in-service stack k (R83). -/
def Core.stackFree (t : Top) (c : Core) (k : Nat) : Nat :=
  let st := t.stackList.getD k 0
  c.perStack - (c.framesUsed st).length - (c.framesRetired st).length - c.takenOn t.stackList.length k

/-- Free tier-1 frames. -/
def Core.freeFrames (t : Top) (c : Core) : Nat := sumL ((List.range t.stackList.length).map (c.stackFree t))

/-- F1 as it stands now (R83, R413). -/
def Core.f1Now (t : Top) (c : Core) : Nat :=
  sumL ((List.range t.stackList.length).map (fun k =>
    c.perStack - (c.framesRetired (t.stackList.getD k 0)).length - c.takenOn t.stackList.length k))

/-- The TIER1_FREE watermark evaluated (R404, R405). -/
def Core.watchFree (t : Top) (c : Core) : Core :=
  if c.job.isSome then c.watch t (2 * 2 ^ 24) false (c.floor, 2 * c.floor) (c.freeFrames t) t.primaryDie else c

/-- A frame recorded as one that the job's scrub covers (R377). -/
def Core.noteFrame (fr : Nat × Nat) (c : Core) : Core :=
  { c with job := c.job.map (fun (j : Job) => { j with everFrames := if j.everFrames.contains fr then j.everFrames else fr :: j.everFrames }) }

/-- A frame found for a page that starts at in-service stack k0 (R83): the first stack from there, wrapping, with a free
frame; the frame number within it is a free choice. -/
def Core.findFrame (t : Top) (k0 : Nat) (c : Core) : Option ((Nat × Nat) × Core) :=
  let s := t.stackList.length
  match ((List.range s).map (fun i => (k0 + i) % s)).find? (fun k => 0 < c.stackFree t k) with
  | none => none
  | some k =>
    let st := t.stackList.getD k 0
    let used := sortBy (fun a b => a < b) ((c.framesUsed st ++ c.framesRetired st).dedup)
    match c.pickFree used c.perStack with
    | none => none
    | some (f, c) => some ((st, f), c.noteFrame (st, f))

/-! ### Charges and quotas -/

/-- The client charged with a page (R90). -/
def Core.payer (c : Core) (p : PageObj) : Nat := (c.ctx p.owner).client

/-- A page's tier-1 frame counts as its own: not passed to another page. -/
def PageObj.holdsFrame (p : PageObj) : Bool := p.t1.isSome && !p.given

/-- Page data bytes in a format for the job's shape (R80). -/
def Core.bytesIn (c : Core) (f : Fmt) : Nat := pageBytes f (shH c.shape) (shD c.shape)

/-- 4 KiB units of a page's copy in a format (R93). -/
def Core.unitsIn (c : Core) (f : Fmt) : Nat := ceilDiv (c.bytesIn f) 4096

/-- Warm-space units that a page holds: its copy and a write-down in progress into tier 2 (R100). -/
def Core.warmOf (c : Core) (p : PageObj) : Nat :=
  ((p.t2.map Prod.snd).getD 0) + (match p.down with | some d => if d.tier = 2 then c.unitsIn d.fmt else 0 | none => 0)

/-- A client's domain regions and grants are charged to it while it is configured for the job (R310, R96). -/
def Core.heldBy (c : Core) (k tier : Nat) : Nat :=
  let ps := c.tiers.pages.vals.filter (fun p => c.payer p == k)
  let idx := c.search.idxs.vals.filter (fun i => i.client == k)
  if tier = 1 then
    (ps.filter PageObj.holdsFrame).length * c.frameF + sumL (idx.map Idx.budget1) +
    sumL ((c.fabric.regions.vals.filter (fun r => r.backing == .device && c.fabric.pds.get? r.pd == some k)).map Region.size) +
    sumL ((c.tiers.grants.filter (fun g => g.client == k)).map (fun g => g.units.length * 65536))
  else if tier = 2 then
    4096 * sumL (ps.map c.warmOf) + sumL (idx.map Idx.budget2)
  else 0

/-- Units of the warm space: every device contributes the capacity of the smallest, to 8 TiB in all (R93). -/
def Top.warmUnits (t : Top) : Nat :=
  match t.warmDevices with
  | [] => 0
  | d :: ds => min (minD 0 (d :: ds) * (d :: ds).length) (8 * 2 ^ 40) / 4096

/-- A tier's capacity in bytes (R104, R113). -/
def Core.tierCap (t : Top) (c : Core) (tier : Nat) : Nat :=
  if tier = 1 then c.f1 * c.frameF else if tier = 2 then t.warmUnits * 4096 else 0

/-- The limit of R105 for guarantees. -/
def Core.quotaLimit (t : Top) (c : Core) (tier : Nat) : Nat :=
  if tier = 1 then (c.f1 - c.floor) * c.frameF else c.tierCap t tier

/-- A client's settings in a set of parameters. -/
def Params.client (p : Params) (k : Nat) : ClientSet := p.clients.getD k {}

/-- A client's quota in a tier as QUOTA_SET has set it. -/
def ClientSet.quota (s : ClientSet) (tier : Nat) : Option Quota := if tier = 1 then s.q1 else s.q2

/-- A client's guarantee and ceiling in a tier under a set of parameters (R104, R112). -/
def Core.quota (t : Top) (c : Core) (p : Params) (k tier : Nat) : Nat × Nat :=
  let cap := c.tierCap t tier
  match (p.client k).quota tier with
  | some q => (q.guarantee, if q.ceiling = 2 ^ 64 - 1 then cap else q.ceiling)
  | none =>
    let pct := if tier = 2 && p.role == .prompt then 25 else 100
    let unit := if tier = 1 then c.frameF else 4096
    (0, cap * pct / 100 / unit * unit)

/-- Honoured guarantees in order of default priority, ties to the lower client (R106). -/
def Core.honouredAll (t : Top) (c : Core) (p : Params) (tier : Nat) : List (Nat × Nat) :=
  let cl := List.range ((c.job.map Job.clientCount).getD 0)
  let cl := sortBy (fun a b => (p.client a).prio > (p.client b).prio) cl
  (cl.foldl (fun (acc : Nat × List (Nat × Nat)) k =>
    let g := min (c.quota t p k tier).1 acc.1
    (acc.1 - g, acc.2 ++ [(k, g)])) (c.quotaLimit t tier, [])).2

/-- A client's honoured guarantee (R106). -/
def Core.honoured (t : Top) (c : Core) (p : Params) (k tier : Nat) : Nat :=
  (Tbl.get? (c.honouredAll t p tier) k).getD 0

/-- A client may take `n` more bytes of a tier within its ceiling in force (R107, R108). -/
def Core.within (t : Top) (c : Core) (k tier n : Nat) : Bool := c.heldBy k tier + n ≤ (c.quota t c.pact k tier).2

/-- A client holds more than its guarantee in force (R109, R110). -/
def Core.aboveGuarantee (t : Top) (c : Core) (k : Nat) : Bool := c.honoured t c.pact k 1 < c.heldBy k 1

/-! ### Warm space -/

/-- Warm-space extents in use: first unit and length, in rising order. -/
def Core.warmUsed (c : Core) : List (Nat × Nat) :=
  sortBy (fun a b => a.1 < b.1) (c.tiers.pages.vals.flatMap (fun p =>
    (match p.t2 with | some e => [e] | none => []) ++
    (match p.down with | some d => if d.tier = 2 then [(d.off, c.unitsIn d.fmt)] else [] | none => [])))

/-- Warm-space units that indexes have taken (R248). -/
def Core.warmTaken (c : Core) : Nat := sumL (c.search.idxs.vals.map (fun i => i.budget2 / 4096))

/-- The free runs between extents, up to a limit. -/
def gapsOf : List (Nat × Nat) → Nat → Nat → List (Nat × Nat)
  | [], from_, limit => if from_ < limit then [(from_, limit - from_)] else []
  | (a, n) :: rest, from_, limit =>
    if from_ < a then (from_, a - from_) :: gapsOf rest (a + n) limit else gapsOf rest (max from_ (a + n)) limit

/-- Free warm-space units. -/
def Core.warmFree (t : Top) (c : Core) : Nat := t.warmUnits - sumL (c.warmUsed.map Prod.snd) - c.warmTaken

/-- A contiguous run of n warm units, the start of a run freely chosen (R93). -/
def Core.findWarm (t : Top) (n : Nat) (c : Core) : Option (Nat × Core) :=
  if c.warmFree t < n then none
  else
    let gs := (gapsOf c.warmUsed 0 (t.warmUnits - c.warmTaken)).filter (fun g => n ≤ g.2)
    if gs.isEmpty then none
    else
      let (v, c) := c.pick
      some ((gs.getD (v % gs.length) (0, 0)).1, c)

/-! ### Page entries -/

/-- The contexts that name a page (R89), in ascending order. -/
def Core.namers (c : Core) (o : Nat) : List Nat :=
  Tbl.keys (c.ctxs.filter (fun e => e.2.pages.any (fun r => r.2.obj == o)))

/-- The share count of a page (R89). -/
def Core.shares (c : Core) (o : Nat) : Nat := (c.namers o).length

/-- A page is present in the tier. -/
def PageObj.inTier (p : PageObj) (n : Nat) : Bool := p.present.getLsbD n

/-- PRESENT of a tier set or cleared, with DIRTY of that tier. -/
def PageObj.setTier (p : PageObj) (n : Nat) (here dirty : Bool) : PageObj :=
  let m : BitVec 4 := 1#4 <<< n
  { p with present := if here then p.present ||| m else p.present &&& ~~~m,
           dirty := if here && dirty then p.dirty ||| m else p.dirty &&& ~~~m }

/-- A page present in tier 1 alone is dirty there (R98). -/
def PageObj.fixDirty (p : PageObj) : PageObj := if p.present = 2#4 then { p with dirty := 2#4 } else p

/-- A page in a tier from which a step reads it (R163); one whose frame has passed to another page no longer is. -/
def PageObj.near (p : PageObj) : Bool := (p.inTier 0 || p.inTier 1) && !p.refetch && !p.given

/-- The fastest tier that holds a page. -/
def PageObj.fastest (p : PageObj) : Nat := (([0, 1, 2, 3].filter p.inTier).head?).getD 1

/-- The 32-byte entry of R87 as one context's table stores it. -/
def Core.entryBytes (c : Core) (r : PageRef) (p : PageObj) : List Byte :=
  let (st, fr) := p.t1.getD (0, 0)
  let (cr, sl) := p.t0.getD (0, 0)
  let (ts, tof) := p.t3.getD (0, 0)
  let v := 1 + 2 * b2n p.poison + 4 * b2n (1 < c.shares r.obj) + 8 * b2n p.refetch + 2 ^ 4 * p.fmt.code + 2 ^ 8 * p.fill +
    2 ^ 17 * p.present.toNat + 2 ^ 21 * p.dirty.toNat + 2 ^ 25 * (r.base % 2 ^ 21) + 2 ^ 46 * (fr % 2 ^ 20) + 2 ^ 66 * (st % 16) +
    2 ^ 70 * (sl % 2 ^ 10) + 2 ^ 80 * (cr % 32) + 2 ^ 85 * (((p.t2.map Prod.fst).getD 0) % 2 ^ 32) + 2 ^ 117 * (ts % 2 ^ 16) +
    2 ^ 133 * (tof % 2 ^ 32)
  le 32 (v + 2 ^ 165 * (Config.entryCheck v % 2 ^ 9) + 2 ^ 192 * p.digest.toNat + 2 ^ 224 * (Config.digestCheck p.digest.toNat % 2 ^ 7))

/-- PAGE_QUERY's answer: the entry and the share count, both zero for a page that is not committed (R112, R113). -/
def Core.pageAnswer (c : Core) (x : Ctx) (layer page : Nat) : List Byte :=
  match x.ref layer page with
  | none => zeros 36
  | some r => match c.page r.obj with
    | none => zeros 36
    | some p => c.entryBytes r p ++ le 4 (c.shares r.obj)

/-! ### Commit and release -/

/-- A zeroed frame committed to page p of layer l of a context (R83, R84, R88, R90): the new page, named by the context
and charged to its client. `here` is false for a page whose data are still to arrive. -/
def Core.commitPage (t : Top) (i layer page : Nat) (here : Bool) (c : Core) : Option Core :=
  match c.findFrame t ((i + layer + page) % t.stackList.length) with
  | none => none
  | some (fr, c) =>
    let o := c.tiers.nextPage
    let p : PageObj := {
      fmt := shFmt c.shape, present := if here then 2#4 else 0#4, dirty := if here then 2#4 else 0#4,
      t1 := some fr, digest := pageDigest (shFmt c.shape) (shH c.shape) (shD c.shape) [], owner := i, appended := t.now }
    let c := c.onTiers (fun s => { s with pages := s.pages.set o p, nextPage := o + 1 })
    some (c.updCtx i (fun x => { x with pages := x.pages.set (x.pageKey layer page) { obj := o, base := 256 * page + x.posOff } }))

/-- A page's frame retired as the page releases it (R413). -/
def Core.retireFrame (t : Top) (st fr why : Nat) (c : Core) : Core :=
  let die := saddleDie st
  let r := c.telem.life.getD die {}
  let c := c.onTiers (fun s => { s with retired := (st, fr) :: s.retired })
  let c := c.onSched (fun s => { s with due := true })
  let c := if r.retired.length < 4096 && !t.gone die then
    c.onTelem (fun x => { x with life := x.life.set die { r with retired := r.retired ++ [st * 2 ^ 20 + fr] } }) else c
  c.raise t 0x0303 die st (le 4 fr ++ le 1 why)

/-- A page's tier-1 frame released: it is free, or retired (R413). -/
def Core.releaseFrame (t : Top) (o : Nat) (c : Core) : Core :=
  match c.page o with
  | none => c
  | some p =>
    let given := p.given
    let c := c.updPage o (fun p => { (p.setTier 1 false false) with t1 := none, retireWhy := 0, badTiers := p.badTiers &&& 13#4 })
    let c := c.onSched (fun s => { s with coolUntil := none })
    match p.t1 with
    | some (st, fr) =>
      if p.retireWhy = 0 then c
      else if given then
        -- the page that has taken the frame keeps it until it releases it in its turn
        c.onTiers (fun s => { s with pages := s.pages.mapVal (fun k x => if k != o && x.t1 == some (st, fr) then { x with retireWhy := p.retireWhy } else x) })
      else c.retireFrame t st fr p.retireWhy
    | none => c

/-- A page destroyed: every copy ends (R89). -/
def Core.dropPage (t : Top) (o : Nat) (c : Core) : Core :=
  let c := (c.releaseFrame t o).freeWork t (· == .page o)
  c.onTiers (fun s => { s with pages := s.pages.del o })

/-- A context's reference to one page dropped (R89, R90): the page goes with its last reference; otherwise its charge
passes to the remaining context of the lowest index when the leaving one was charged. -/
def Core.unref (t : Top) (i key : Nat) (c : Core) : Core :=
  match (c.ctx i).pages.get? key with
  | none => c
  | some r =>
    let c := c.updCtx i (fun x => { x with pages := x.pages.del key })
    match c.namers r.obj with
    | [] => c.dropPage t r.obj
    | j :: _ => c.updPage r.obj (fun p => if p.owner = i then { p with owner := j } else p)

/-- A page whose entry can no longer be trusted, with the frames that it named (R103). -/
def Core.entryLost (c : Core) (r : PageRef) : Bool := ((c.page r.obj).map PageObj.entryLost).getD false

/-- Every page of a context dropped, and its lengths zeroed (R107 stage 1); a page whose entry is untrusted keeps its frame until the context
frees (R103). -/
def Core.freePages (t : Top) (i : Nat) (c : Core) : Core :=
  let c := (Tbl.keys ((c.ctx i).pages.filter (fun e => !c.entryLost e.2))).foldl (fun c k => c.unref t i k) c
  (c.updCtx i (fun x => { x with tokens := [] })).watchFree t

/-- Every page of a context dropped as it frees, those whose entries are untrusted too (R103). -/
def Core.freeAllPages (t : Top) (i : Nat) (c : Core) : Core := (c.ctx i).pages.keys.foldl (fun c k => c.unref t i k) (c.freePages t i)

/-- The page objects of a context in the layer order of the job (R57, R128). -/
def Core.pagesInOrder (c : Core) (x : Ctx) : List (Nat × Nat × PageRef) :=
  (shOrder c.shape).flatMap (fun l => (x.pages.filter (fun e => (x.keyOf e.1).1 == l)).map (fun e => (l, (x.keyOf e.1).2, e.2)))

/-! ### Tier 0 -/

/-- The role's partitions (R91). -/
def partsOf (r : Role) : Parts :=
  match r with
  | .prompt => ⟨32, 16, 8, 8⟩
  | .generation => ⟨16, 8, 40, 0⟩
  | .cache => ⟨8, 16, 8, 32⟩

/-- MiB that the search-table partition needs (R249): with any index 1 MiB of working space, and for each PQ8 index, given
by its dimension and subspaces, its codebook and one lookup table. -/
def searchNeed (any : Bool) (pq : List (Nat × Nat)) : Nat :=
  if any then ceilDiv (2 ^ 20 + sumL (pq.map (fun p => 512 * p.1 + 1024 * p.2))) (2 ^ 20) else 0

/-- The PQ8 indexes of the job: dimension and subspaces. -/
def Core.pqIndexes (c : Core) : List (Nat × Nat) :=
  (c.search.idxs.vals.filter (fun i => i.fmt == 3)).map (fun i => (i.d, i.sub))

/-- MiB that the job's indexes need of the search-table partition (R249). -/
def Core.tableNeed (c : Core) : Nat := searchNeed (!c.search.idxs.isEmpty) c.pqIndexes

/-- A role's partitions with the search-table partition raised to a need (R91): from the hot tails, then the staging
partition down to 4 MiB, then the score buffers down to 4 MiB. -/
def Parts.raise (p : Parts) (need : Nat) : Parts :=
  let d := need - p.search
  let a := min d p.hot
  let b := min (d - a) (p.staging - 4)
  let e := min (d - a - b) (p.score - 4)
  ⟨p.score - e, p.staging - b, p.hot - a, p.search + a + b + e⟩

/-- The partitions that a set of parameters gives (R91, R113). -/
def Core.parts (c : Core) (p : Params) : Parts := p.parts.getD ((partsOf p.role).raise c.tableNeed)

/-- 64 KiB slots that a page's tier-0 copy takes. -/
def Core.slotsOf (c : Core) (p : PageObj) : Nat := ceilDiv (c.bytesIn p.fmt) 65536

/-- Slots of a Crest die's hot-tail partition in use, in rising order. -/
def Core.slotsUsed (c : Core) (crest : Nat) : List (Nat × Nat) :=
  sortBy (fun a b => a.1 < b.1) (c.tiers.pages.vals.filterMap (fun p => match p.t0 with
    | some (cr, s) => if cr = crest then some (s, c.slotsOf p) else none
    | none => none))

/-! ### Chrysalis -/

/-- The counts of a computation added to a Crest die's Chrysalis counters (R231, R230). -/
def Core.chrysCount (crest : Nat) (n : NumCount) (c : Core) : Core :=
  (c.bump (.chrys crest 8) n.sat).bump (.chrys crest 9) n.special

/-- The Crest die whose Chrysalis works on a page (R242): the one of its tier-0 copy, else one of its stack's two, else any
in service; the manual does not say which of them. -/
def Core.chrysFor (t : Top) (p : PageObj) (c : Core) : Nat × Core :=
  match p.t0, p.t1 with
  | some (cr, _), _ => (cr, c)
  | none, some (st, _) =>
    let (v, c) := c.pick
    let a := 2 * st + v % 2
    (if t.gone (crestDie a) then 2 * st + (v + 1) % 2 else a, c)
  | none, none =>
    let (v, c) := c.pick
    ((t.crests.getD (v % t.crests.length) 0), c)

/-- Bytes in and out counted in 4 KiB units: the bytes are kept at index 64 and up. -/
def Core.chrysBytes (crest k n : Nat) (c : Core) : Core :=
  let old := (c.ctr (.chrys crest (64 + k))).toNat
  (c.bump (.chrys crest (64 + k)) n).bump (.chrys crest k) ((old + n) / 4096 - old / 4096)

/-- Work of one of a Crest die's two transcoders counted (R242, R244): which of the two takes it is a free choice. -/
def Core.chrysWork (crest inB outB : Nat) (page : Bool) (c : Core) : Core :=
  let (v, c) := c.pick
  let k := 4 * (v % 2)
  let c := ((c.chrysBytes crest k inB).chrysBytes crest (k + 1) outB).bump (.chrys crest (k + 2)) (ceilDiv (max inB outB) 64)
  if page then c.bump (.chrys crest (k + 3)) else c

/-! ### Writing down and promoting -/

/-- The format in which a write-down into a tier would write a page (R237, R238, R239): narrower only where neither that tier nor a slower one
holds a copy. -/
def Core.downFmt (c : Core) (p : PageObj) (tier : Nat) : Fmt :=
  let k := c.client (c.payer p)
  match (if tier = 2 then k.narrow2 else k.narrow3) with
  | some f => if f.bits < p.fmt.bits && !(tier = 2 && p.inTier 2) && !p.inTier 3 then f else p.fmt
  | none => p.fmt

/-- A page that tier 2 would have to take on a demotion: dirty in tier 0 or 1, with no slower copy. -/
def PageObj.needsWarm (p : PageObj) : Bool := (p.inTier 0 || p.inTier 1) && !p.inTier 2 && !p.inTier 3 && p.down.isNone

/-- Pages of a context that are demoted with it: those it is charged with, or that no other context names. A page that
another running or paused context names stays for that context (R89). -/
def Core.ownPages (c : Core) (i : Nat) : List Nat :=
  (c.pagesInOrder (c.ctx i)).filterMap (fun (_, _, r) =>
    if (c.namers r.obj).all (fun j => j == i || (c.ctx j).state == .parked) then some r.obj else none)

/-- Bytes of tier 2 that a context's demotion would take (R109, R110, R239). -/
def Core.warmNeed (c : Core) (i : Nat) : Nat :=
  sumL ((c.ownPages i).map (fun o => match c.page o with
    | some p => if p.needsWarm && !p.poison then 4096 * c.unitsIn (c.downFmt p 2) else 0
    | none => 0))

/-- A context's demotion fits in tier 2 within its client's ceiling (R109, R110). -/
def Core.warmFits (t : Top) (c : Core) (i : Nat) : Bool :=
  let n := c.warmNeed i
  n ≤ 4096 * c.warmFree t && c.within t (c.ctx i).client 2 n

/-! ### Appends -/

/-- A page's data changed by a write: it goes to the fastest copy, which is then dirty, and every slower copy ends, the
tier-1 frame staying committed (R92, R98). -/
def PageObj.written (p : PageObj) (now : Nat) : PageObj :=
  if p.inTier 0 then { p with present := 1#4, dirty := 1#4, t2 := none, t3 := none, appended := now }
  else { p with present := 2#4, dirty := 2#4, t2 := none, t3 := none, appended := now }

/-- Slots written of a page with keys and values of tokens: slot, then key heads, then value heads (R182, R208). -/
def appendData (f : Fmt) (hn d : Nat) (data : Mem) (rows : List (Nat × List (List F32) × List (List F32))) : Num Mem :=
  rows.foldlM (fun data (slot, ks, vs) => do
    let data ← ks.zipIdx.foldlM (fun data (v, h) => writeVec f hn d data 0 slot h v) data
    vs.zipIdx.foldlM (fun data (v, h) => writeVec f hn d data 1 slot h v) data) data

/-- A page's data with the slots from `fill` up to `old` zeroed. -/
def cutSlots (f : Fmt) (hn d fill old : Nat) (data : Mem) : Mem :=
  let eb := 4 * f.bits
  let so := pageElems hn d * f.bits / 8
  let bs := ((List.range old).filter (fun i => fill ≤ i)).flatMap (fun i =>
    [0, 1].flatMap (fun kv => (List.range hn).flatMap (fun h => (List.range (d / 32)).map (blockIdx hn d kv i h))))
  bs.foldl (fun (m : Mem) b => (m.zero (eb * b) eb).zero (so + b * f.scaleBytes) f.scaleBytes) data

/-- Tokens of a page unwritten again when their layer does not complete (R180): slots zeroed, FILL back. -/
def Core.unappend (t : Top) (o fill : Nat) (c : Core) : Core :=
  match c.page o with
  | none => c
  | some p =>
    let hn := shH c.shape
    let d := shD c.shape
    let data := cutSlots p.fmt hn d fill p.fill p.data
    c.updPage o (fun p => { p with
      data := data, fill := fill, digest := pageDigest p.fmt hn d data, appended := t.now,
      summary := if p.fill = 256 && fill < 256 then none else p.summary })

/-- What a computation reads of a page of a context. -/
def Core.view (c : Core) (x : Ctx) (layer page : Nat) : Option PView :=
  match x.ref layer page with
  | none => none
  | some r => (c.page r.obj).map (fun p => { idx := page, fmt := p.fmt, base := r.base, data := p.data, sum := p.summary.getD [] })

/-- The page object of a context's page. -/
def Core.pageOf (c : Core) (i layer page : Nat) : Option (Nat × PageObj) :=
  match (c.ctx i).ref layer page with
  | none => none
  | some r => (c.page r.obj).map (fun p => (r.obj, p))

end Sys2Proof.Machine
end

