-- ==== Sys2Proof/Machine/Fault.lean ====
section
/-! DEFINITION. How work ends: layer messages answered (R197, R217), items failed, moves aborted (R138), contexts parked,
drained, faulted and freed (R50, R54, R57, R446), pages checked and poisoned (R102, R103), and job faults (R329, R416). -/

namespace Sys2Proof.Machine

/-! ### Messages and items -/

/-- An accepted layer message completed (R197, R217): its answer is sent, its completion object signalled, its message
reference released. -/
def Core.answerLayer (t : Top) (i : Nat) (chunk : Bool) (m : LayerMsg) (body : List Byte) (c : Core) : Core :=
  let c := c.sendMsg t m.conn (if chunk then 0x21 else 0x11) true m.cls body none
  (c.signalDone t m.obj).dropRef i .msg

/-- A layer message completed with a status that carries no output. -/
def Core.failLayer (t : Top) (i : Nat) (chunk : Bool) (st : Status) (d : Nat) (m : LayerMsg) (c : Core) : Core :=
  c.answerLayer t i chunk m (if chunk then chunkResult m.body st d 0 0 [] else stepResult m.body st d 0 0 0 [])

/-- The span for which an engine held a slice, or an array a unit, of an item noted in its step (R168). -/
def Core.stepSpan (t : Top) (n item : Nat) (ridge : Bool) (since : Nat) (c : Core) : Core :=
  c.onSched (fun s => { s with steps := s.steps.upd n (fun r =>
    if ridge then { r with ridge := r.ridge ++ [(item, since, t.now)] } else { r with hawk := r.hawk ++ [(item, since, t.now)] }) })

/-- The time at which engine classes last had work (R157). -/
def Core.useEngines (t : Top) (ns : List Nat) (c : Core) : Core :=
  c.onSched (fun s => { s with engines := s.engines.zipIdx.map (fun e => if ns.contains e.2 then (e.1.1, t.now) else e.1) })

/-- Classes that an item needs (R157). -/
def Item.needsEngines (it : Item) : List Nat := if it.chunk then [0, 3] else [1, 3]

/-- Score credits returned to a Crest die (R220). -/
def Core.freeScore (crest n : Nat) (c : Core) : Core :=
  c.onSched (fun s => { s with scoreUsed := s.scoreUsed.updD crest 0 (· - n) })

/-- Credits of a slice, in KiB (R220). -/
def Core.sliceCredits (c : Core) (s : Slice) : Nat := s.pages.length * shHq c.shape

/-- Credits of a Ridge unit of a step, in KiB (R220). -/
def Core.unitCredits (c : Core) (n : Nat) : Nat := 64 * ((c.sched.steps.get? n).map StepRec.score).getD 0

/-- An item's hold timer stopped, its time counted (R166, R168, R169). -/
def Core.endHold (t : Top) (i : Nat) (c : Core) : Core :=
  match c.sched.items.get? i with
  | none => c
  | some it => match it.holdAt with
    | none => c
    | some s =>
      let ns := t.now - s
      let c := c.updItem i (fun x => { x with holdAt := none, holdNs := x.holdNs + ns })
      c.onSched (fun sc => { sc with steps := sc.steps.upd it.step (fun r =>
        if it.chunk then { r with holdChunk := r.holdChunk + ns } else { r with holdDecode := r.holdDecode + ns }) })

/-- The engine work of an item's layer in progress taken back: score buffers, queue entries and transfers returned, and the tokens of a layer
that does not complete unwritten (R180, R207), unless the context has a new placement (R192). -/
def Core.dropRun (t : Top) (i : Nat) (c : Core) : Core :=
  match c.sched.items.get? i with
  | none => c
  | some it => match it.run with
    | none => c
    | some r =>
      let c := c.onSched (fun s => { s with waiting := s.waiting.mapVal (fun _ q => q.filter (fun w => w.item != i)) })
      let c := r.slices.foldl (fun c s =>
        if s.state = .running && !s.skipper then (c.freeScore s.crest (c.sliceCredits s)).stepSpan t it.step i false s.at_ else c) c
      let c := r.units.foldl (fun c u =>
        let c := if u.state = .running || u.state = .granted then c.freeScore u.crest (c.unitCredits it.step) else c
        if u.state = .running then c.stepSpan t it.step i true u.at_ else c) c
      let c := c.freeWork t (Work.ofItem i)
      let m := it.msgs.find? (fun m => m.layer == r.layer)
      let n := (m.map LayerMsg.pos).getD 0
      let c := if !r.started || (m.map LayerMsg.epoch) != some (c.ctx it.ctx).epoch then c
        else if it.chunk then
          ((List.range (ceilDiv (it.start + it.count) 256)).filter (fun p => it.start / 256 ≤ p && !r.appends.contains p)).foldl
            (fun c p => match c.pageOf it.ctx r.layer p with
              | some (o, _) => c.unappend t o (it.start - 256 * p)
              | none => c) c
        else match c.pageOf it.ctx r.layer (n / 256) with
          | some (o, _) => c.unappend t o (n % 256)
          | none => c
      c.updItem i (fun x => { x with run := none })

/-- A token or chunk that has failed counts as having completed every group (R150). -/
def Core.failToken (k : Nat) (c : Core) : Core := c.onSched (fun s => { s with tokens := s.tokens.del k })

/-- An item ended: every accepted message of it completes with a status, and it leaves its step (R57, R108, R110). Parts still to come of a
chunk layer of which some were accepted are refused as R207 gives. -/
def Core.failItem (t : Top) (i : Nat) (st : Status) (d : Nat) (c : Core) : Core :=
  match c.sched.items.get? i with
  | none => c
  | some it =>
    let c := (c.endHold t i).dropRun t i
    let c := if it.step = 0 then c else c.useEngines t it.needsEngines
    let c := (it.msgs.filter (fun m => !m.answered)).foldl (fun c m => c.failLayer t it.ctx it.chunk st d m) c
    let mine := c.sched.layers.filter (fun l => l.item == some i && !l.failed)
    let c := mine.foldl (fun c l => l.parts.foldl (fun c m => c.failLayer t it.ctx true st d m) c) c
    let c := c.onSched (fun s => { s with
      items := s.items.del i
      layers := s.layers.map (fun l => if l.item == some i then { l with item := none, failed := true, parts := [] } else l) })
    c.failToken it.token

/-- The items of a context. -/
def Core.itemsOf (c : Core) (x : Nat) : Tbl Item := c.sched.items.filter (fun e => e.2.ctx == x)

/-- Parts accepted for chunk layers of a context that can no longer become ready complete (R446). -/
def Core.failParts (t : Top) (x : Nat) (st : Status) (d : Nat) (c : Core) : Core :=
  let mine := c.sched.layers.filter (fun l => l.ctx == x && !l.failed)
  let c := mine.foldl (fun c l =>
    (l.parts.foldl (fun c m => c.failLayer t x true st d m) c).failToken l.token) c
  c.onSched (fun s => { s with
    layers := s.layers.map (fun l => if l.ctx == x then { l with failed := true, parts := [] } else l) })

/-- A held message of R133 completed with a status. -/
def Core.failHeld (t : Top) (x : Nat) (st : Status) (d : Nat) (h : Held) (c : Core) : Core :=
  let obj := if h.chunk then rd h.body 20 2 else rd h.body 18 2
  c.failLayer t x h.chunk st d { layer := rd h.body 6 2, conn := h.conn, cls := h.cls, epoch := h.epoch, pos := 0, len := 0, body := h.body, obj := obj, tag := 0 }

/-- Every held message of a context completed with a status. -/
def Core.failHelds (t : Top) (x : Nat) (st : Status) (d : Nat) (c : Core) : Core :=
  let hs := (c.ctx x).held
  hs.foldl (fun c h => c.failHeld t x st d h) (c.updCtx x (fun y => { y with held := [] }))

/-- The status of a fault cause (R57, R58). -/
def faultStatus (cause : Nat) : Status := if cause = 1 then .poisoned else .jobFaulted

/-- A context's handle. -/
def Core.handle (c : Core) (i : Nat) : Nat := mkHandle i (c.ctx i).gen

/-- The Summit die that holds a context (R44). -/
def ctxDie (i : Nat) : Nat := summitDie (i / 32768)

/-- The waiting CTX_PAUSEs of a context answered. -/
def Core.endPause (i : Nat) (st : Status) (d : Nat) (c : Core) : Core :=
  (c.ctx i).pauseMbox.foldl (fun c m => c.stage m st d [])
    (c.updCtx i (fun x => { x with pauseMbox := [], pauseDue := false }))

/-! ### Context states -/

/-- A context accepts no more work (R54, R132): its items that wait for a layer message, and its tokens with no item, go. -/
def Core.dropIdle (t : Top) (i : Nat) (c : Core) : Core :=
  let idle := (c.itemsOf i).filter (fun e => !e.2.done && e.2.run.isNone && e.2.msgs.all LayerMsg.answered)
  let c := idle.foldl (fun c e => c.failItem t e.1 .stateReject 0) c
  c.onSched (fun s => { s with tokens := s.tokens.filter (fun e => e.2.ctx != i || s.items.any (fun x => x.2.token == e.1)) })

/-- A context enters DRAINING (R54, R57, R446): its waiters are cancelled and no timer ends it. -/
def Core.enterDraining (t : Top) (i : Nat) (c : Core) : Core :=
  let d := stateDetail .context CtxState.draining.code
  let c := c.cancelWaiters (fun w => w.ctx == some i) .staleHandle 0
  let c := ((c.failParts t i .stateReject d).endPause i .stateReject d).dropIdle t i
  c.updCtx i (fun x => { x with state := .draining, ttlAt := none, ttlLeft := none, pauseDue := false })

/-- A context enters PARKED (R57, R100): its time to live runs from now; accepted work that has not joined a step ends. For CTX_PARK and an
eviction by age the manual does not say with what: the model completes it with STATE_REJECT for PARKED, as it would be refused from then on (DESIGN
CHOICE, log 165); a victim's ends with DEFERRED_MEMORY (R110). -/
def Core.enterParked (t : Top) (i ttl : Nat) (victim : Bool) (c : Core) : Core :=
  let n := c.tiers.parkings
  let c := c.onTiers (fun s => { s with parkings := n + 1 })
  let (st, d) := if victim then (Status.deferredMemory, 0) else (Status.stateReject, stateDetail .context CtxState.parked.code)
  let c := (c.itemsOf i).foldl (fun c e =>
    if e.2.step ≠ 0 then c
    else (if victim then c.bump (.client (c.ctx i).client 7) else c).failItem t e.1 st d) c
  let c := (c.failParts t i st d).endPause i .stateReject (stateDetail .context CtxState.parked.code)
  c.updCtx i (fun x => { x with state := .parked, ttlAt := some (t.now + ttl * 1000000000), parkedNo := n, pauseDue := false })

/-- A DRAINING context whose references are all zero enters FREE (R49, R50, R78): what is left of its items goes, its pages and its
region are released, and it joins the tail of its free list. -/
def Core.enterFree (t : Top) (i : Nat) (c : Core) : Core :=
  let c := (c.itemsOf i).foldl (fun c e => c.failItem t e.1 .stateReject (stateDetail .context CtxState.draining.code)) c
  let c := c.freeAllPages t i
  let g := (c.ctx i).gen
  let q := i / 32768
  let c := { c with ctxs := c.ctxs.set i { gen := g } }
  let c := c.onSched (fun s => { s with tokens := s.tokens.filter (fun e => e.2.ctx != i), layers := s.layers.filter (fun l => l.ctx != i) })
  c.updSummit q (fun s => { s with ctxFree := s.ctxFree ++ [(i, t.now)] })

/-! ### Moves -/

/-- References that a move's record holds: messages for pages sent and not acknowledged, and pins (R52, R142). -/
def Move.refs (m : Move) : Nat × Nat :=
  if m.ended.isSome || !m.source then (0, 0)
  else
    let un := m.sent.filter (fun s => !s.acked)
    ((un.filter (fun s => 0 < s.sent)).length, un.length)

/-- A move record changed, and the references that it holds with it. -/
def Core.setMove (r : Nat) (f : Move → Move) (c : Core) : Core :=
  match c.moves.get? r with
  | none => c
  | some m =>
    let (a, p) := m.refs
    let (a', p') := (f m).refs
    (c.updMove r f).updCtx m.ctx (fun x => { x with msgs := x.msgs + a' - a, pins := x.pins + p' - p })

/-- The epoch that a move's messages bear (R117, R120): an ATTACH changes no epoch, and its messages bear zero. -/
def Move.wire (m : Move) : Nat := if m.type = .attach then 0 else m.newEpoch

/-- The head of a move's messages (R120). -/
def Move.head (m : Move) (kind : Nat) : List Byte :=
  moveHead kind m.type.code m.id m.initiator m.wire (if m.source then m.handle else m.peerHandle)
    (if m.source then m.peerHandle else m.handle)

/-- A message of a move sent on its connection: type, kind, traffic class of R335 and the body after the head. -/
def Core.moveMsg (t : Top) (r type kind cls : Nat) (body : List Byte) (req : Option Nat) (c : Core) : Core :=
  match c.moves.get? r with
  | none => c
  | some m => c.sendMsg t m.conn type (type == 0x32) cls (m.head kind ++ body) req

/-- A message of a move that expects an answer, on a connection: it holds a message reference (R52, R317). The request's tag
is the message's kind, and above it the page key that `key` names. -/
def Core.moveAsk (t : Top) (r conn type kind key cls : Nat) (body : List Byte) (c : Core) : Core :=
  match c.moves.get? r with
  | none => c
  | some m =>
    let (q, c) := c.newReq t conn type (kind + 256 * key) (.move r m.ctx)
    let c := if m.ctx = 0 then c else c.updCtx m.ctx (Ctx.onRefs .msg (· + 1))
    c.sendMsg t conn type false cls (m.head kind ++ body) (some q)

/-- A request is one of a move's. -/
def Req.ofMove (q : Req) (r : Nat) : Bool :=
  match q.purpose with
  | .move n _ => n == r
  | _ => false

/-- The requests of a move that still await their answers. -/
def Core.moveReqs (c : Core) (r : Nat) : Tbl Req := c.fabric.reqs.filter (fun e => e.2.ofMove r)

/-- A request no longer awaited: a move's releases its reference. -/
def Core.dropReq (q : Nat) (c : Core) : Core :=
  match c.fabric.reqs.get? q with
  | none => c
  | some x =>
    let c := c.onFabric (fun f => { f with reqs := f.reqs.del q })
    match x.purpose with
    | .move _ i => if i = 0 then c else c.dropRef i .msg
    | _ => c

/-- The requests of a move of a type and tag no longer awaited. -/
def Core.answered (r type tag : Nat) (c : Core) : Core :=
  (Tbl.keys ((c.moveReqs r).filter (fun e => e.2.type == type && e.2.tag == tag))).foldl (fun c q => c.dropReq q) c

/-- A move's record ended (R134, R138): references released, the event raised where one is due, MOVE_START answered if it
still runs, and the synchronisation object of the initiator's end signalled. -/
def Core.endMove (t : Top) (r : Nat) (ph : MovePhase) (event : Bool) (st : Status) (d : Nat) (c : Core) : Core :=
  match c.moves.get? r with
  | none => c
  | some m =>
    if m.ended.isSome then c else
    let c := (c.moveReqs r).keys.foldl (fun c q => c.dropReq q) c
    let c := c.setMove r (fun m => { m with phase := ph, status := st, ended := some t.now, mbox := none })
    let det := le 2 m.id ++ le 2 m.initiator ++ le 1 m.type.code ++ le 1 (b2n (!m.source))
    let c := if !event then c
      else if ph = .done then c.raise t 0x0401 (summitDie m.summit) m.handle det
      else c.raise t 0x0402 (summitDie m.summit) m.handle (det ++ le 1 st.code)
    let c := match m.mbox with
      | some b => c.stage b st d []
      | none => c
    c.signalDone t m.syncObj

/-- A source context of a move that has ended otherwise than by completing: back to its prior state, its time to live
resumed (R138). -/
def Core.sourceBack (t : Top) (i : Nat) (c : Core) : Core :=
  c.updCtx i (fun x =>
    if x.state = .movingOut then { x with
      state := x.prior, cut := false, ttlLeft := none, ttlAt := x.ttlLeft.map (t.now + ·) } else x)

/-- A move aborted at this end (R138, R143): the source returns, the destination drains with its held messages refused, an
attaching context stays RESERVED with length 0. `tell` sends the peer an ABORT. -/
def Core.abortMove (t : Top) (r : Nat) (st : Status) (d : Nat) (tell : Bool) (c : Core) : Core :=
  match c.moves.get? r with
  | none => c
  | some m =>
    if m.ended.isSome then c else
    let c := if tell then c.moveMsg t r 0x30 4 2 (statusBytes st d) none else c
    let c := c.endMove t r .aborted true st d
    let x := c.ctx m.ctx
    if m.type = .attach then
      if m.source then c
      else (c.freePages t m.ctx).updCtx m.ctx (fun x => { x with attaching := false, posOff := 0 })
    else if m.source then c.sourceBack t m.ctx
    else if x.state = .movingIn then
      let c := c.failHelds t m.ctx .stateReject (stateDetail .context CtxState.draining.code)
      let c := (c.enterDraining t m.ctx).freePages t m.ctx
      c
    else c

/-- The moves of a context that have not ended. -/
def Core.movesOf (c : Core) (i : Nat) : Tbl Move := c.moves.filter (fun e => e.2.ctx == i && e.2.ended.isNone)

/-- A fault at one end of a move (R139): before cutover the move aborts; after cutover the source sends CUTOVER, if it has
not, and then ABORT, and the destination answers DONE with the fault's status. The faulted context stays FAULTED. -/
def Core.faultMove (t : Top) (r : Nat) (st : Status) (c : Core) : Core :=
  match c.moves.get? r with
  | none => c
  | some m =>
    if !m.cut then c.abortMove t r st 0 true
    else if m.source then
      let c := if m.cutSent then c
        else c.moveMsg t r 0x30 3 2 (le 4 m.finalLen ++ le 4 m.carried ++ le 1 m.arrival.code ++ zeros 7) none
      (c.moveMsg t r 0x30 4 2 (statusBytes st 0) none).endMove t r .aborted false st 0
    else
      let c := c.moveMsg t r 0x32 6 m.doneCls (statusBytes st 0 ++ zeros 12) none
      c.endMove t r .done false st 0

/-- The last chunk's work on a layer has completed (R128, R219): its tokens are held, and no message of the layer is open. -/
def Core.finalOn (c : Core) (i l : Nat) : Bool :=
  c.sched.tokens.vals.any (fun k => k.ctx == i && k.chunk && (match k.last with
    | some e => e ≤ (c.ctx i).held1 l
    | none => false)) &&
  !c.sched.layers.any (fun p => p.ctx == i && p.layer == l && !p.failed) &&
  !(c.itemsOf i).any (fun e => e.2.chunk && e.2.msgs.any (fun m => m.layer == l))

/-- A page of a move's source is ready (R128); an attach's partial last page is at once, as its positions do not change (R142, R143). -/
def Core.pageReady (c : Core) (m : Move) (l : Nat) (p : PageObj) : Bool :=
  if p.fill = 256 then !(p.inTier 0 && p.dirty.getLsbD 0)
  else if m.type = .attach then true
  else 0 < p.fill && ((m.cut && (c.itemsOf m.ctx).isEmpty) || (m.type == .handoff && c.finalOn m.ctx l))

/-- Pages that have become ready join their move's order, in layer order and ascending page index (R128). -/
def Core.noteReady (c : Core) : Core :=
  c.moves.foldl (fun c e =>
    let m := e.2
    if !m.source || m.ended.isSome || m.phase == .opening then c
    else
      let new := (c.pagesInOrder (c.ctx m.ctx)).filterMap (fun (l, pg, r) =>
        match c.page r.obj with
        | some p =>
          let carried := m.type != .attach || m.sent.any (fun s => s.layer == l && s.page == pg)
          if carried && c.pageReady m l p && !m.ready.contains (l, pg) then some (l, pg) else none
        | none => none)
      c.updMove e.1 (fun m => { m with ready := m.ready ++ new })) c

/-! ### Faults -/

/-- A fault reaches a context (R57): any state but FREE, DRAINING and FAULTED goes to FAULTED; steps and chunks in flight
complete with POISONED or JOB_FAULTED; its moves end under R139. -/
def Core.faultCtx (t : Top) (i cause : Nat) (c : Core) : Core :=
  let x := c.ctx i
  if x.state = .free || x.state = .draining || x.state = .faulted then c else
  let st := faultStatus cause
  let c := c.updCtx i (fun x => { x with state := .faulted, prior := x.state, cause := cause, ttlAt := none, ttlLeft := none })
  let c := (c.itemsOf i).foldl (fun c e => c.failItem t e.1 st 0) c
  let c := (c.failParts t i st 0).failHelds t i st 0
  let c := if cause = 2 then c.endPause i .jobFaulted 0 else c.endPause i .stateReject (stateDetail .context CtxState.faulted.code)
  let c := c.raise t 0x0202 (ctxDie i) (c.handle i) (le 1 cause)
  (c.movesOf i).foldl (fun c e => c.faultMove t e.1 st) c

/-- Where a context's table names a page: layer and page. -/
def Core.placeOf (c : Core) (i o : Nat) : Nat × Nat :=
  match (c.ctx i).pages.find? (fun e => e.2.obj == o) with
  | some e => (c.ctx i).keyOf e.1
  | none => (0, 0)

/-- A page poisoned (R103): every context that names it and is not DRAINING enters FAULTED with cause 1, and a
page-poisoned event is raised. -/
def Core.poisonPage (t : Top) (o tier finder : Nat) (c : Core) : Core :=
  match c.page o with
  | none => c
  | some p =>
    if p.poison then c else
    let ns := c.namers o
    let (l, pg) := c.placeOf (ns.headD 0) o
    let c := c.updPage o (fun p => { p with poison := true })
    let src := match p.t1 with | some (st, _) => saddleDie st | none => 0xFF
    let c := c.raise t 0x0301 src finder (le 2 l ++ le 2 pg ++ le 1 tier)
    ns.foldl (fun c i => c.faultCtx t i 1) c

/-- The structure of an uncorrectable page word counted in a lifetime record (R410, R412): stack memory at its Saddle,
a Crest store at its die. -/
def Core.countError (t : Top) (p : PageObj) (tier : Nat) (c : Core) : Core :=
  match tier, p.t0, p.t1 with
  | 0, some (cr, _), _ => c.life t (crestDie cr) 0x09 2
  | 1, _, some (st, _) => c.life t (saddleDie st) 0x09 0
  | 2, _, _ => c.life t (passDie 1) 0x09 1
  | _, _, _ => c

/-- A copy in a tier holds an uncorrectable word (R412): one found in it, or, once a Type-3 device has been removed, any copy in
warm memory, since each spans every device (R93, R437). -/
def PageObj.isBad (t : Top) (p : PageObj) (tier : Nat) : Bool := p.badTiers.getLsbD tier || (tier = 2 && !t.warmRemoved.isEmpty)

/-- A copy fails its check (R102, R103): another copy that passes restores it, and PAGE_RESTORED is counted; otherwise the
page is poisoned. A frame with an uncorrectable word is retired when the page releases it (R413). -/
def Core.badCopy (t : Top) (o tier finder : Nat) (c : Core) : Core :=
  match c.page o with
  | none => c
  | some p =>
    let c := if tier = 1 then c.updPage o (fun p => { p with retireWhy := 1 }) else c
    let others := [0, 1, 2, 3].filter (fun n => n ≠ tier && p.inTier n && !p.isBad t n)
    if others.isEmpty then c.poisonPage t o tier finder
    else (c.updPage o (fun p => { p with badTiers := p.badTiers &&& ~~~(1#4 <<< tier) })).bump (.dev 1)

/-- A query completed (R262, R263): its slot is free, its result sent, its completion object signalled. -/
def Core.endQuery (t : Top) (k : Nat) (st : Status) (d n lists scored : Nat) (recs : List Byte) (c : Core) : Core :=
  match c.search.queries.get? k with
  | none => c
  | some q =>
    let c := c.onSearch (fun s => { s with queries := s.queries.del k })
    let head := le 1 1 ++ le 1 q.idx ++ zeros 2 ++ le 4 q.tag
    (c.sendMsg t q.conn 0x41 true q.cls (searchResult head st d n lists q.tail q.gen scored recs) none).signalDone t q.obj

/-- A merge abandoned (R267): INDEX_MERGE completes, and its synchronisation object is signalled (R266). -/
def Core.abandonMerge (t : Top) (x : Nat) (st : Status) (d : Nat) (c : Core) : Core :=
  match (c.search.idxs.get? x).bind Idx.merge with
  | none => c
  | some m =>
    let c := c.onSearch (fun s => { s with idxs := s.idxs.upd x (fun i => { i with
      merge := none, state := if i.state = .merging then .ready else i.state }) })
    (c.stage m.mbox st d []).signalDone t m.obj

/-- A job fault (R329, R416): every one raises its event; the first is kept and quiesces the job: contexts enter FAULTED with cause 2,
MAILBOX waiters complete, other waiters are removed, and engine work ends. With no job bound there is none. A die of 0xFF is none: it
is the event's source, and the die field, which has then no use, is zero (R408). -/
def Core.jobFault (t : Top) (cause node die : Nat) (c : Core) : Core :=
  match c.job with
  | none => c
  | some j =>
    let d := if die = 0xFF then 0 else die
    let c := c.raise t 0x0103 die j.id (le 1 cause ++ zeros 1 ++ le 2 node ++ le 1 d)
    if j.quiesced then c else
    let c := c.onTelem (fun x => { x with firstFault := some ⟨cause, node, d⟩ })
    let c := { c with job := some { j with quiesced := true } }
    let c := c.ctxs.keys.foldl (fun c i => c.faultCtx t i 2) c
    let c := c.sched.items.keys.foldl (fun c i => c.failItem t i .jobFaulted 0) c
    let c := c.cancelWaiters (fun _ => true) .jobFaulted 0
    let c := c.search.queries.keys.foldl (fun c k => c.endQuery t k .jobFaulted 0 0 0 0 []) c
    c.search.idxs.keys.foldl (fun c x => c.abandonMerge t x .jobFaulted 0) c

end Sys2Proof.Machine
end

