-- ==== Sys2Proof/Machine/Copies.lean ====
section
/-! DEFINITION. Copies of pages: digest checks (R101, R102), tier-0 copies (R91, R92), write-downs into tiers 2 and 3 (R94, R99, R100, R239,
R240), promotions (R97, R99, R163, R164) and appends (R182, R208). -/

namespace Sys2Proof.Machine

/-! ### Checks and tier-0 copies -/

/-- The outcomes of a digest check of the copy in a tier (R102, R103), and whether the page is good after it: an uncorrectable DIGEST is
rewritten from the data. The transcoder's time is its caller's to count (R242). -/
def Core.checkCopy (t : Top) (o tier finder : Nat) (c : Core) : Core × Bool :=
  match c.page o with
  | none => (c, false)
  | some p =>
    if p.poison then (c, false)
    else if p.isBad t tier then
      let c := if p.badTiers.getLsbD tier then c else c.countError t p tier
      let c := c.badCopy t o tier finder
      (c, !((c.page o).map PageObj.poison).getD true)
    else if p.badDigest then
      ((c.updPage o (fun p => { p with digest := pageDigest p.fmt (shH c.shape) (shD c.shape) p.data, badDigest := false })).bump (.dev 0), true)
    else if p.digest = pageDigest p.fmt (shH c.shape) (shD c.shape) p.data then (c, true)
    else (c.poisonPage t o tier finder, false)

/-- A dirty tier-0 copy checked and written back to tier 1 (R92, R101, R242): tier 1 holds a copy again. A copy that fails its check stays where
it is; a poisoned page's is given up. -/
def Core.writeBack0 (t : Top) (o : Nat) (c : Core) : Core :=
  match c.page o with
  | none => c
  | some p => match p.t0 with
    | none => c
    | some (cr, _) =>
      if !(p.inTier 0 && p.dirty.getLsbD 0) then c
      else
        let done := fun (c : Core) => c.updPage o (fun p => (p.setTier 0 true false).setTier 1 true false)
        if p.poison then done c
        else
          let n := c.bytesIn p.fmt
          let (c, good) := (c.chrysWork cr n n true).checkCopy t o 0 (c.handle p.owner)
          if good then done ((c.writeStack t cr (cr / 2) 1 n (.page o)).freeWork t (· == .page o)) else c

/-- A digest check of the copy in a tier by a Chrysalis transcoder (R101, R102, R242); whether the page is good after it. A dirty tier-0 copy
is written back first (R92). -/
def Core.checkPage (t : Top) (o tier finder : Nat) (c : Core) : Core × Bool :=
  match c.page o with
  | none => (c, false)
  | some p =>
    if p.poison then (c, false)
    else if p.inTier 0 && p.dirty.getLsbD 0 then
      let c := c.writeBack0 t o
      (c, !((c.page o).map PageObj.poison).getD true)
    else
      let (cr, c) := c.chrysFor t p
      (c.chrysWork cr (c.bytesIn p.fmt) 0 true).checkCopy t o tier finder

/-- A tier-0 copy dropped, written back first where it is dirty (R92); a page that its check poisons gives its copy up. -/
def Core.drop0 (t : Top) (o : Nat) (c : Core) : Core :=
  ((c.writeBack0 t o).writeBack0 t o).updPage o (fun p => if p.t0.isSome then ({ (p.setTier 0 false false) with t0 := none }).fixDirty else p)

/-- Room made for n slots in a hot-tail partition of `total` slots: the least recently appended copies go (R92). -/
def Core.roomFor0 (t : Top) (crest n total : Nat) : Nat → Core → Option (Nat × Core)
  | 0, _ => none
  | fuel + 1, c =>
    match (gapsOf (c.slotsUsed crest) 0 total).find? (fun g => n ≤ g.2) with
    | some g => some (g.1, c)
    | none =>
      let mine := c.tiers.pages.filter (fun e => (e.2.t0.map Prod.fst) == some crest)
      match mine with
      | [] => none
      | e :: es =>
        let v := es.foldl (fun b e => if e.2.appended < b.2.appended then e else b) e
        Core.roomFor0 t crest n total fuel (c.drop0 t v.1)

/-- A tail page may be given a tier-0 copy on one of the two Crest dies of its stack (R92): a free choice. What the page holds is checked as
it is copied (R101). -/
def Core.tier0Choice (t : Top) (o : Nat) (c : Core) : Core :=
  match c.page o with
  | none => c
  | some p => match p.t0, p.t1 with
    | none, some (st, _) =>
      if !p.inTier 1 then c else
      let (v, c) := c.pick
      let cr := 2 * st + v % 3 - 1
      if v % 3 = 0 || t.gone (crestDie cr) then c
      else match c.roomFor0 t cr (c.slotsOf p) (16 * c.tiers.tier0.hot) (c.tiers.pages.length + 1) with
        | none => c
        | some (s, c) =>
          let (c, good) := if p.fill = 0 then (c, true) else c.checkPage t o 1 (c.handle p.owner)
          if good then c.updPage o (fun p => { (p.setTier 0 true false) with t0 := some (cr, s) }) else c
    | _, _ => c

/-- The tier-0 copies kept on a Crest die laid one after another from its partition's first slot. -/
def Core.packSlots (crest : Nat) (c : Core) : Core :=
  let mine := sortBy (fun (a b : Nat × PageObj) => (a.2.t0.map Prod.snd).getD 0 < (b.2.t0.map Prod.snd).getD 0)
    (c.tiers.pages.filter (fun e => (e.2.t0.map Prod.fst) == some crest))
  (mine.foldl (fun (acc : Core × Nat) e =>
    (acc.1.updPage e.1 (fun p => { p with t0 := some (crest, acc.2) }), acc.2 + acc.1.slotsOf e.2)) (c, 0)).1

/-- Hot-tail partitions about to be cut to a new size (R91): their dirty pages are written back, and pages that no longer fit are dropped, the
least recently appended first. -/
def Core.shrink0 (t : Top) (total : Nat) (c : Core) : Core :=
  (List.range 32).foldl (fun c cr =>
    let mine := sortBy (fun (a b : Nat × PageObj) => a.2.appended < b.2.appended)
      (c.tiers.pages.filter (fun e => (e.2.t0.map Prod.fst) == some cr))
    let c := mine.foldl (fun c e => c.writeBack0 t e.1) c
    ((mine.foldl (fun (acc : Core × Nat) e =>
      if acc.2 ≤ total then acc else (acc.1.drop0 t e.1, acc.2 - acc.1.slotsOf e.2))
      (c, sumL (mine.map (fun e => c.slotsOf e.2)))).1).packSlots cr) c

/-- TIER0_WRITE_BACK (R92, R101): a full page's dirty tier-0 copy is checked and written back to tier 1. -/
def Core.tier0Back (t : Top) (o : Nat) (c : Core) : Core :=
  if ((c.page o).map PageObj.fill) = some 256 then c.writeBack0 t o else c

/-! ### Pages lost, and units of tier 3 -/

/-- A page lost (R97): its contexts enter FAULTED with cause 3, and a page-lost event is raised. -/
def Core.losePage (t : Top) (o : Nat) (c : Core) : Core :=
  match c.page o with
  | none => c
  | some p =>
    let ns := c.namers o
    let (l, pg) := c.placeOf (ns.headD 0) o
    let src := match p.t1 with | some (st, _) => saddleDie st | none => 0xFF
    let c := (c.updPage o (fun p => { p with promoting := false, urgent := false, first := false, units3 := none, buf3 := [] })).raise t 0x0302 src
      (c.handle (ns.headD 0)) (le 2 l ++ le 2 pg)
    ns.foldl (fun c i => c.faultCtx t i 3) c

/-- The member node of a tier-3 unit, and the unit's state address (R75, R94). -/
def Core.unitAddr (c : Core) (set off u : Nat) : Nat × Nat :=
  let ms := c.tiers.stripes.getD set []
  let (node, base) := ms.getD (u % ms.length) (0x3FFF, 0)
  (node, node * 2 ^ 50 + 0x3000000000000 + base + (off + u / ms.length) * 4096)

/-- The connection to a tier-3 member (R309): none where the node is dead. -/
def Core.memberConn (c : Core) (node : Nat) : Option Nat := if c.isDead node then none else c.connFor 0xFFFF node

/-- One read of a tier-3 unit issued (R94); without a path to its member it fails as PORT_DOWN, and so does its second. A page already lost
has no reads left to issue. -/
def Core.readUnit3 (t : Top) (o u : Nat) (retry : Bool) (c : Core) : Core :=
  match c.page o with
  | none => c
  | some p => match p.t3, p.units3 with
    | some (set, toff), some _ =>
      let (node, addr) := c.unitAddr set toff u
      match c.memberConn node with
      | none => c.losePage t o
      | some n =>
        let (r, c) := c.newReq t n 0x50 c.fabric.nextReq (.tier3 o u retry)
        c.sendMsg t n 0x50 false 4 (le 8 addr ++ le 4 4096 ++ zeros 4 ++ le 4 r ++ zeros 4) (some r)
    | _, _ => c

/-- A tier-3 unit read has completed (R97): a failed one is issued again once, and the page is lost at the second. R97 names TIMEOUT, PORT_DOWN
and POISONED; a read that ends with any other status but OK, such as AUTH_FAIL, is taken the same way (DESIGN CHOICE, log 163). -/
def Core.unit3Done (t : Top) (o u : Nat) (retry : Bool) (st : Status) (data : List Byte) (c : Core) : Core :=
  match c.page o with
  | none => c
  | some p => match p.units3 with
    | none => c
    | some us =>
      if st = .ok then c.updPage o (fun p => { p with units3 := some (us.filter (· != u)), buf3 := p.buf3.writeN (4096 * u) data })
      else if retry then c.losePage t o
      else c.readUnit3 t o u true

/-- The body of a MEM_WRITE that asks for its answer (R318). -/
def writeAckBody (addr tag : Nat) (data : List Byte) : List Byte :=
  le 8 addr ++ le 4 data.length ++ zeros 1 ++ le 1 1 ++ zeros 2 ++ le 4 tag ++ zeros 20 ++ data

/-- The writes of a write-down into tier 3 that are still awaited no longer are. -/
def Core.dropPool3 (o : Nat) (c : Core) : Core :=
  c.onFabric (fun f => { f with reqs := f.reqs.filter (fun e => match e.2.purpose with
    | .pool3 p _ => p != o
    | _ => true) })

/-! ### Writing down -/

/-- A frame that has passed to another page whose old owner's write-back is not complete (R109, R110). -/
def Core.frameBusy (c : Core) (fr : Nat × Nat) : Bool := c.tiers.pages.vals.any (fun p => p.t1 == some fr && p.given)

/-- The page to which a frame has passed. -/
def Core.heir (c : Core) (fr : Nat × Nat) : Option (Nat × PageObj) := c.tiers.pages.find? (fun e => e.2.t1 == some fr && e.2.holdsFrame)

/-- A write-down abandoned because a step, chunk, transfer, pin or promotion needs the page (R240): its units are freed. Where its frame has
passed to another page, that page takes another free frame in its place; with none, the write-down runs to its end. -/
def Core.abandon (t : Top) (o : Nat) (c : Core) : Core :=
  match c.page o with
  | none => c
  | some p => match p.down with
    | none => c
    | some d =>
      let stop := fun (c : Core) =>
        (((c.updPage o (fun p => { p with down := none })).bump (.chrys d.crest 11)).dropPool3 o).freeWork t (· == .page o)
      if !d.given then stop c
      else match p.t1.bind c.heir with
        | none => stop c
        | some (h, x) =>
          let (l, pg) := c.placeOf x.owner h
          match c.findFrame t ((x.owner + l + pg) % t.stackList.length) with
          | some (fr, c) => stop (c.updPage h (fun p => { p with t1 := some fr }))
          | none => c

/-- A page's copy read for a write-down or a check by its Chrysalis, and written to warm memory (R17, R24). -/
def Core.warmPage (t : Top) (crest bytes : Nat) (w : Work) (c : Core) : Core :=
  (c.warmRequest t 0 crest (bytes - bytes / 2) w).warmRequest t 1 crest (bytes / 2) w

/-- A page demoted out of tier 1 (R99): with a slower copy its frame is released; otherwise a write-down begins, its
tier-2 units allocated and charged; otherwise it waits in tier 1, pending demotion (R100). `given` passes the frame on at
once, to a page that waits for the completion (R109, R110). A poisoned page is not written down (R239). -/
def Core.demote (t : Top) (given : Bool) (o : Nat) (c : Core) : Core :=
  let c := c.drop0 t o
  match c.page o with
  | none => c
  | some p =>
    let c := c.updPage o (fun p => { p with promoting := false, urgent := false, first := false })
    if p.t1.isNone then c
    else if p.inTier 2 || p.inTier 3 then c.releaseFrame t o
    else if !p.inTier 1 then c
    else if p.poison then c
    else match p.down with
      | some _ => if given then c.updPage o (fun p => { p with down := p.down.map (fun d => { d with given := true }) }) else c
      | none =>
        let f := c.downFmt p 2
        let n := c.unitsIn f
        if !c.within t (c.payer p) 2 (4096 * n) then c.updPage o (fun p => { p with pendingDown := true })
        else match c.findWarm t n with
          | none => c.updPage o (fun p => { p with pendingDown := true })
          | some (off, c) =>
            let (cr, c) := c.chrysFor t p
            let c := c.updPage o (fun p => { p with
              pendingDown := false, down := some { tier := 2, fmt := f, off := off, given := given, crest := cr } })
            let c := c.readStack t cr ((p.t1.map Prod.fst).getD 0) 2 (c.bytesIn p.fmt) (.page o)
            c.warmPage t cr (c.bytesIn f) (.page o)

/-- Every tier-1 copy of a context demoted (R57, R100, R109, R110). -/
def Core.demoteAll (t : Top) (given : Bool) (i : Nat) (c : Core) : Core :=
  ((c.ownPages i).foldl (fun c o => c.demote t given o) c).watchFree t

/-- Offsets of a stripe set that pages hold, or are being written to: first and length, in rising order (R94). -/
def Core.stripeUsed (c : Core) (set n : Nat) : List (Nat × Nat) :=
  sortBy (fun a b => a.1 < b.1) (c.tiers.pages.vals.flatMap (fun p =>
    (match p.t3 with | some (s, off) => if s = set then [(off, ceilDiv (c.unitsIn p.fmt) n)] else [] | none => []) ++
    (match p.down with | some d => if d.tier = 3 ∧ d.set = set then [(d.off, ceilDiv (c.unitsIn d.fmt) n)] else [] | none => [])))

/-- Pages that may be written down from tier 2 to tier 3: in tier 2 alone, of contexts that are all PARKED. -/
def Core.coldPages (c : Core) : Tbl PageObj :=
  c.tiers.pages.filter (fun e => e.2.present == 4#4 && e.2.t1.isNone && e.2.down.isNone && !e.2.promoting && !e.2.poison && !e.2.refetch &&
    (c.namers e.1).all (fun i => (c.ctx i).state == .parked))

/-- A page written down from tier 2 into a stripe set (R94, R99, R239). The manual defines the copies and their narrowing and does not say which
page goes to tier 3, when, to which set or to which offset: with a set defined, whether one does, and each of these, is a free choice
(DESIGN CHOICE, log 164). -/
def Core.begin3 (t : Top) (c : Core) : Core :=
  let sets := c.tiers.stripes.filter (fun e => !e.2.isEmpty)
  let ps := c.coldPages
  if sets.isEmpty || ps.isEmpty then c
  else
    let (v, c) := c.pick
    if v % 2 = 0 then c
    else
      let (a, c) := c.pick
      let (b, c) := c.pick
      match ps[a % ps.length]?, sets[b % sets.length]? with
      | some (o, p), some (set, ms) =>
        let f := c.downFmt p 3
        let rows := ceilDiv (c.unitsIn f) ms.length
        let gs := (gapsOf (c.stripeUsed set ms.length) 0 (2 ^ 32)).filter (fun g => rows ≤ g.2)
        if gs.isEmpty then c
        else
          let (g, c) := c.pick
          let (cr, c) := c.chrysFor t p
          let c := c.updPage o (fun p => { p with
            down := some { tier := 3, fmt := f, set := set, off := (gs.getD (g % gs.length) (0, 0)).1, crest := cr } })
          c.warmPage t cr (c.bytesIn p.fmt) (.page o)
      | _, _ => c

/-- The units of a write-down into tier 3 written (R94): MEM_WRITEs that ask for their answers. One that has no path ends it. -/
def Core.writeUnits3 (t : Top) (o : Nat) (d : WriteDown) (data : Mem) (c : Core) : Core :=
  let us := List.range (c.unitsIn d.fmt)
  let c := c.updPage o (fun p => { p with down := some { d with units := some us, data := data } })
  if us.any (fun u => (c.memberConn (c.unitAddr d.set d.off u).1).isNone) then c.abandon t o
  else us.foldl (fun c u =>
    let (node, addr) := c.unitAddr d.set d.off u
    match c.memberConn node with
    | none => c
    | some n =>
      let (r, c) := c.newReq t n 0x51 c.fabric.nextReq (.pool3 o u)
      c.sendMsg t n 0x51 false 4 (writeAckBody addr r (data.readN (4096 * u) 4096)) (some r)) c

/-- A tier-3 unit write has completed: one that failed ends the write-down, as the manual gives no other outcome (DESIGN CHOICE, log 164). -/
def Core.unit3Written (t : Top) (o u : Nat) (st : Status) (c : Core) : Core :=
  match (c.page o).bind PageObj.down with
  | none => c
  | some d => match d.units with
    | none => c
    | some us =>
      if st = .ok then c.updPage o (fun p => { p with down := some { d with units := some (us.filter (· != u)) } })
      else c.abandon t o

/-- A write-down's new copy (R239, R240): one update sets FORMAT, DIGEST and PRESENT of the slower tier and releases the faster copy. -/
def Core.wroteDown (t : Top) (o : Nat) (p : PageObj) (d : WriteDown) (data : Mem) (c : Core) : Core :=
  let c := (c.updPage o (fun p => { p with
    fmt := d.fmt, data := data, digest := if d.fmt = p.fmt then p.digest else pageDigest d.fmt (shH c.shape) (shD c.shape) data,
    badDigest := p.badDigest && d.fmt == p.fmt })).freeWork t (· == .page o)
  let c :=
    if d.tier = 2 then
      let c := c.updPage o (fun p => { (p.setTier 2 true false) with t2 := some (d.off, c.unitsIn d.fmt) })
      let c := c.onTiers (fun s => { s with warmWritten := (s.warmWritten ++ [(d.off, c.unitsIn d.fmt)]).dedup })
      if p.t1.isSome then c.releaseFrame t o else c
    else c.updPage o (fun p => { ((p.setTier 2 false false).setTier 3 true false) with
      t2 := none, t3 := some (d.set, d.off), badTiers := p.badTiers &&& 3#4 })
  (c.updPage o (fun p => { p with down := none })).watchFree t

/-- WRITE_DOWN_COMPLETE (R98, R239, R240, R242): the source is checked, a narrowed page quantised, and the new copy takes the faster one's
place; one in tier 3 when every unit has been acknowledged. A page that fails its check is not written down. -/
def Core.writeDownComplete (t : Top) (o : Nat) (c : Core) : Core :=
  match c.page o with
  | none => c
  | some p => match p.down with
    | none => c
    | some d => match d.units with
      | some [] => c.wroteDown t o p d d.data
      | some _ => c
      | none =>
        let (c, good) := c.checkCopy t o p.fastest (c.handle p.owner)
        let c := c.chrysWork d.crest (c.bytesIn p.fmt) (if good && d.fmt ≠ p.fmt then c.bytesIn d.fmt else 0) true
        if !good then
          let c := c.freeWork t (· == .page o)
          if d.given then c.updPage o (fun p => { (p.setTier 1 false false) with t1 := none, down := none })
          else c.updPage o (fun p => { p with down := none })
        else
          let (data, n) := if d.fmt = p.fmt then (p.data, ({} : NumCount)) else (narrowData p.fmt d.fmt (shH c.shape) (shD c.shape) p.data).go
          let c := (c.chrysCount d.crest n).bump (.chrys d.crest 10) (b2n (d.fmt != p.fmt))
          if d.tier = 2 then c.wroteDown t o p d data else c.writeUnits3 t o d data

/-- PENDING_DEMOTION_START (R100): of the pages pending demotion, in the order in which their contexts were parked, the
first for which there is room begins its write-down; with none, a page may go from tier 2 to tier 3. -/
def Core.pendingStart (t : Top) (c : Core) : Core :=
  let ps := c.tiers.pages.filter (fun e => e.2.pendingDown)
  let ps := sortBy (fun (a b : Nat × PageObj) => (c.ctx a.2.owner).parkedNo < (c.ctx b.2.owner).parkedNo) ps
  match ps.find? (fun e =>
    let n := c.unitsIn (c.downFmt e.2 2)
    c.within t (c.payer e.2) 2 (4096 * n) && (c.findWarm t n).isSome) with
  | some e => c.demote t false e.1
  | none => c.begin3 t

/-! ### Promotions -/

/-- A page's promotion into tier 1 started (R99), urgent where a step needs it (R163), and with `first` that of a tail page (R164): a write-down
of it is abandoned, or, where that cannot be, waited for. -/
def Core.promote (t : Top) (urgent first : Bool) (o : Nat) (c : Core) : Core :=
  let c := c.abandon t o
  match c.page o with
  | none => c
  | some p =>
    if !p.given && (p.inTier 1 || p.inTier 0 || (!p.inTier 2 && !p.inTier 3)) then c.updPage o (fun p => { p with pendingDown := false })
    else
      let c := c.updPage o (fun p => { p with
        promoting := true, urgent := p.urgent || urgent, first := p.first || first, pendingDown := false })
      if p.promoting || !p.inTier 2 then c
      else
        let (cr, c) := c.chrysFor t p
        c.warmPage t cr (c.bytesIn p.fmt) (.page o)

/-- Every page of a context promoted, in layer order (R57). -/
def Core.promoteAll (t : Top) (i : Nat) (c : Core) : Core :=
  (c.pagesInOrder (c.ctx i)).foldl (fun c (_, _, r) => c.promote t false false r.obj) c

/-- The frame for a promotion (R83, R99): an urgent one takes any free frame, another only while the floor is kept; both are
held to the ceiling. -/
def Core.promoteFrame (t : Top) (o : Nat) (p : PageObj) (c : Core) : Option ((Nat × Nat) × Core) :=
  match p.t1 with
  | some fr => some (fr, c)
  | none =>
    if !c.within t (c.payer p) 1 c.frameF || (!p.urgent && c.freeFrames t ≤ c.floor) then none
    else
      let (l, pg) := c.placeOf p.owner o
      c.findFrame t ((p.owner + l + pg) % t.stackList.length)

/-- The order of promotions: background ones, those that a step needs (R163), and ahead of every other a tail page's (R164). -/
def PageObj.rank (p : PageObj) : Nat := if p.first then 2 else if p.urgent then 1 else 0

/-- A promotion of a higher rank could issue now (R163, R164): it has its frame, and its reads of tier 3 are not already out. -/
def Core.aheadOf (t : Top) (c : Core) (p : PageObj) : Bool :=
  c.tiers.pages.any (fun e => e.2.promoting && p.rank < e.2.rank && e.2.down.isNone && ((e.2.units3.map List.isEmpty).getD true) &&
    (match c.promoteFrame t e.1 e.2 with
     | some (fr, _) => !c.frameBusy fr
     | none => false))

/-- A page no longer being promoted. -/
def PageObj.unpromote (p : PageObj) : PageObj := { p with promoting := false, urgent := false, first := false, units3 := none, buf3 := [] }

/-- A page now holds a copy in tier 1 (R99). -/
def Core.promoted (t : Top) (o : Nat) (fr : Nat × Nat) (c : Core) : Core :=
  (c.updPage o (fun p => { (p.setTier 1 true false).unpromote with t1 := some fr })).watchFree t

/-- PROMOTION_COMPLETE (R94, R97, R99, R101, R163, R164): the slower copy is checked and copied into a frame. A promotion that lacks its
frame waits, and so does one that others go ahead of. -/
def Core.promotionComplete (t : Top) (o : Nat) (c : Core) : Core :=
  match c.page o with
  | none => c
  | some p =>
    if !p.promoting || p.down.isSome || c.aheadOf t p then c
    else match c.promoteFrame t o p with
      | none => c
      | some (fr, c) =>
        let take := fun (tier : Nat) (c : Core) =>
          let (c, good) := c.checkPage t o tier (c.handle p.owner)
          let c := c.freeWork t (· == .page o)
          if good then c.promoted t o fr else c.updPage o PageObj.unpromote
        if c.frameBusy fr then c
        else if p.inTier 2 then take 2 c
        else match p.units3 with
          | none =>
            let n := c.unitsIn p.fmt
            let c := c.updPage o (fun p => { p with units3 := some (List.range n) })
            (List.range n).foldl (fun c u => c.readUnit3 t o u false) c
          | some [] => take 3 (c.updPage o (fun p => { p with data := Mem.writeN [] 0 (p.buf3.readN 0 (c.bytesIn p.fmt)) }))
          | some _ => c

/-! ### Appends -/

/-- Tokens appended to a page (R182, R208, R241): data in the page's present format, FILL, DIGEST, and with FILL 256 the
page summary. -/
def Core.appendPage (t : Top) (o crest : Nat) (rows : List (Nat × List (List F32) × List (List F32))) (c : Core) : Core :=
  let c := c.abandon t o
  match c.page o with
  | none => c
  | some p =>
    let hn := shH c.shape
    let d := shD c.shape
    let (data, n1) := (appendData p.fmt hn d p.data rows).go
    let fill := max p.fill (maxL (rows.map (fun r => r.1 + 1)))
    let (sum, n2) := if fill = 256 then
        (let (s, n) := (pageSummary p.fmt hn d data).go; (some s, n))
      else (p.summary, ({} : NumCount))
    let c := c.updPage o (fun p =>
      { (p.written t.now) with data := data, fill := fill, digest := pageDigest p.fmt hn d data, badDigest := false, summary := sum })
    let c := (c.chrysCount crest n1).chrysCount crest n2
    c.chrysWork crest (4 * hn * d * rows.length) (c.bytesIn p.fmt / 256 * rows.length) (fill = 256)

end Sys2Proof.Machine
end

