-- ==== Sys2Proof/Machine/TierCmd.lean ====
section
/-! DEFINITION. The 0x03xx commands (R112 to R114), and the rows of copies between tiers (R92, R99, R100, R240). -/

namespace Sys2Proof.Machine

/-! ### Settings of a boundary -/

/-- A setting accepted: it acts from the next step boundary (R114, R445). -/
def Core.setNext (f : Params → Params) (c : Core) : Core :=
  { c with pset := f c.pset, sched := { c.sched with due := true } }

/-- A client's accepted settings changed. -/
def Params.onClient (k : Nat) (f : ClientSet → ClientSet) (p : Params) : Params :=
  { p with clients := p.clients.set k (f (p.client k)) }

/-- A client configured for the job, by its argument's offset (R173). -/
def Core.clientArg (c : Core) (k off : Nat) : Chk Unit := needArg (c.isClient k) off

/-! ### Commands -/

/-- TIER_QUERY's answer: capacity, granule, total and free units, floor, pending units, honoured guarantees (R112). -/
def tierRecord (cap gran total free floor pend hon : Nat) : List Byte :=
  le 8 cap ++ le 4 gran ++ zeros 4 ++ le 8 total ++ le 8 free ++ le 4 floor ++ le 4 pend ++ le 8 hon

/-- Pages counted as pending demotion (R100). -/
def Core.pendingPages (c : Core) : Nat := (c.tiers.pages.vals.filter PageObj.pendingDown).length

/-- The tier-2 units that those pages will take (R112). DEDUCED. -/
def Core.pendingUnits (c : Core) : Nat :=
  sumL ((c.tiers.pages.vals.filter PageObj.pendingDown).map (fun p => c.unitsIn (c.downFmt p 2)))

/-- Honoured guarantees of all clients in a tier, in force (R106). -/
def Core.honouredSum (t : Top) (c : Core) (tier : Nat) : Nat := sumL (Tbl.vals (c.honouredAll t c.pact tier))

/-- TIER_QUERY (R112, R113). What the cache nodes have granted of tier 3 is not known to this node: free values. -/
def tierQueryBody (t : Top) (c : Core) (_m : Nat) (a : Cmd) : Ans := do
  let n := a.arg 0 1
  needArg (n < 4) 0
  let bound := c.job.isSome
  if n = 0 then
    if !bound then ok c (tierRecord 0 0 0 0 0 0 0)
    else
      let total := 16 * c.tiers.tier0.hot * t.crests.length
      let used := sumL (t.crests.map (fun cr => sumL ((c.slotsUsed cr).map Prod.snd)))
      ok c (tierRecord (65536 * total) 65536 total (total - used) 0 0 0)
  else if n = 1 then
    if !bound then ok c (tierRecord t.poolBytes 0 0 0 0 0 0)
    else ok c (tierRecord (c.f1 * c.frameF) c.frameF c.f1 (c.freeFrames t) c.floor c.pendingPages (c.honouredSum t 1))
  else if n = 2 then
    ok c (tierRecord (t.warmUnits * 4096) 4096 t.warmUnits (c.warmFree t) 0 (if bound then c.pendingUnits else 0)
      (if bound then c.honouredSum t 2 else 0))
  else
    let (v, c) := c.pick
    let (w, c) := c.pick
    let total := v % 2 ^ 52
    ok c (tierRecord (4096 * total) 4096 total (w % (total + 1)) 0 0 0)

/-- QUOTA_SET (R104 to R106, R114). -/
def quotaSetBody (t : Top) (c : Core) (_m : Nat) (a : Cmd) : Ans := do
  let k := a.arg 0 1
  let tier := a.arg 1 1
  c.clientArg k 0
  needArg (tier == 1 || tier == 2) 1
  let g := a.arg 8 8
  let ceil := a.arg 16 8
  needArg (g ≤ (if ceil = 2 ^ 64 - 1 then c.tierCap t tier else ceil)) 8
  let others := (List.range ((c.job.map Job.clientCount).getD 0)).filter (· != k)
  let sum := g + sumL (others.map (fun j => (c.quota t c.pset j tier).1))
  need (bit (a.arg 2 2) 0 || sum ≤ c.quotaLimit t tier) .quotaOvercommit
  ok (c.setNext (Params.onClient k (fun s =>
    if tier = 1 then { s with q1 := some ⟨g, ceil⟩ } else { s with q2 := some ⟨g, ceil⟩ })))

/-- QUOTA_QUERY (R112, R114). -/
def quotaQueryBody (t : Top) (c : Core) (_m : Nat) (a : Cmd) : Ans := do
  let k := a.arg 0 1
  let tier := a.arg 1 1
  c.clientArg k 0
  needArg (tier == 1 || tier == 2) 1
  let (g, ceil) := c.quota t c.pset k tier
  let h := c.honoured t c.pset k tier
  ok c (le 8 g ++ le 8 h ++ le 8 ceil ++ le 8 (c.heldBy k tier) ++ le 8 (g - h))

/-- TIER0_SET (R91, R113). -/
def tier0SetBody (_t : Top) (c : Core) (_m : Nat) (a : Cmd) : Ans := do
  if bit (a.arg 4 4) 0 then ok (c.setNext (fun p => { p with parts := none, partsNo := p.partsNo + 1 }))
  else
    let p : Parts := ⟨a.arg 0 1, a.arg 1 1, a.arg 2 1, a.arg 3 1⟩
    needArg (p.score + p.staging + p.hot + p.search == 64) 0
    needArg (4 ≤ p.score) 0
    needArg (4 ≤ p.staging) 1
    needArg (c.tableNeed ≤ p.search) 3
    ok (c.setNext (fun q => { q with parts := some p, partsNo := q.partsNo + 1 }))

/-- STRIPE_SET (R95, R113). -/
def stripeSetBody (t : Top) (c : Core) (_m : Nat) (a : Cmd) : Ans := do
  let set := a.arg 0 2
  let n := a.arg 2 1
  needArg (1 ≤ n && n ≤ 8) 2
  let ms := (List.range n).map (fun i => (a.arg (8 + 16 * i) 2, a.arg (16 + 16 * i) 8))
  match ms.zipIdx.find? (fun e => e.1.1 == t.nodeId || 0x3FFF ≤ e.1.1) with
  | some e => .error (.badArg, 8 + 16 * e.2)
  | none =>
    need (!c.tiers.pages.vals.any (fun p => (p.t3.map Prod.fst) == some set || p.down.any (fun d => d.tier == 3 && d.set == set))) .busy
    ok (c.onTiers (fun s => { s with stripes := s.stripes.set set ms }))

/-- Size of the pool window (R76). -/
def poolWindow : Nat := 2 ^ 47

/-- POOL_GRANT (R96, R113). A size of zero, of which the manual does not speak, is refused as a bad argument (DESIGN CHOICE, log 162). -/
def poolGrantBody (t : Top) (c : Core) (_m : Nat) (a : Cmd) : Ans := do
  let off := a.arg 0 8
  let size := a.arg 8 8
  let k := a.arg 16 1
  let pd := a.arg 18 2
  needArg (off % 65536 == 0 && off < poolWindow) 0
  needArg (size % 65536 == 0 && 0 < size && off + size ≤ poolWindow) 8
  needArg (!c.tiers.grants.any (fun g => off < g.off + g.size && g.off < off + size)) 0
  c.clientArg k 16
  needArg (c.fabric.pds.get? pd).isSome 18
  need (size ≤ (c.quota t c.pact k 1).2) .noResource
  ok (c.onTiers (fun s => { s with
    grants := s.grants ++ [{ off := off, size := size, client := k, pd := pd, origin := off }],
    revoked := s.revoked.flatMap (fun r =>
      [(r.1, min r.2 (off - r.1)), (max r.1 (off + size), r.1 + r.2 - max r.1 (off + size))].filter (fun x => 0 < x.2)) }))

/-- The part of a grant from `lo` to `hi` in the pool window, if it is not empty. -/
def Grant.part (g : Grant) (lo hi : Nat) : List Grant :=
  if lo < hi then
    let us := g.units.filter (fun u => lo ≤ g.origin + 65536 * u && g.origin + 65536 * u < hi)
    [{ g with off := lo, size := hi - lo, units := us }]
  else []

/-- What is left of a grant once a range of the pool has been taken from it: up to two grants. -/
def Grant.without (g : Grant) (off size : Nat) : List Grant :=
  g.part g.off (min (g.off + g.size) off) ++ g.part (max g.off (off + size)) (g.off + g.size)

/-- The grants cover a range of the pool whole. -/
def covered (gs : List Grant) (off size : Nat) : Bool :=
  sumL (gs.map (fun g => min (g.off + g.size) (off + size) - max g.off off)) == size

/-- POOL_REVOKE (R76, R96): the range's storage is freed; a later read of it is POISONED. A size of zero is refused as in POOL_GRANT (DESIGN
CHOICE, log 162). -/
def poolRevokeBody (_t : Top) (c : Core) (_m : Nat) (a : Cmd) : Ans := do
  let off := a.arg 0 8
  let size := a.arg 8 8
  needArg (off % 65536 == 0) 0
  needArg (size % 65536 == 0 && 0 < size) 8
  needArg (covered c.tiers.grants off size) 0
  let base := 0x3000000000000 + off
  ok ((c.onTiers (fun s => { s with
    grants := s.grants.flatMap (fun g => g.without off size),
    revoked := s.revoked ++ [(off, size)],
    mem := s.mem.zero base size })).onSched (fun s => { s with due := true }))

/-- PAGE_QUERY (R112, R113). -/
def pageQueryBody (_t : Top) (c : Core) (_m : Nat) (a : Cmd) : Ans := do
  let x := c.ctx (hIndex a.handle)
  needArg (a.arg 0 2 < shLayers c.shape) 0
  needArg (a.arg 2 2 < x.pagesP) 2
  ok c (c.pageAnswer x (a.arg 0 2) (a.arg 2 2))

/-- TIER_QUERY. -/
def execTierQuery (m : Nat) (s : State) : Host.Outcome State Fault Refusal := .next (runCommand m 0x0301 tierQueryBody s)
/-- QUOTA_SET. -/
def execQuotaSet (m : Nat) (s : State) : Host.Outcome State Fault Refusal := .next (runCommand m 0x0302 quotaSetBody s)
/-- QUOTA_QUERY. -/
def execQuotaQuery (m : Nat) (s : State) : Host.Outcome State Fault Refusal := .next (runCommand m 0x0303 quotaQueryBody s)
/-- TIER0_SET. -/
def execTier0Set (m : Nat) (s : State) : Host.Outcome State Fault Refusal := .next (runCommand m 0x0304 tier0SetBody s)
/-- STRIPE_SET. -/
def execStripeSet (m : Nat) (s : State) : Host.Outcome State Fault Refusal := .next (runCommand m 0x0305 stripeSetBody s)
/-- POOL_GRANT. -/
def execPoolGrant (m : Nat) (s : State) : Host.Outcome State Fault Refusal := .next (runCommand m 0x0306 poolGrantBody s)
/-- POOL_REVOKE. -/
def execPoolRevoke (m : Nat) (s : State) : Host.Outcome State Fault Refusal := .next (runCommand m 0x0307 poolRevokeBody s)
/-- PAGE_QUERY. -/
def execPageQuery (m : Nat) (s : State) : Host.Outcome State Fault Refusal := .next (runCommand m 0x0308 pageQueryBody s)
/-- WRITE_DOWN_COMPLETE. -/
def execWriteDownComplete (obj : Nat) (s : State) : Host.Outcome State Fault Refusal :=
  .next (s.onCore (fun t c => c.writeDownComplete t obj))
/-- PENDING_DEMOTION_START. -/
def execPendingDemotionStart (s : State) : Host.Outcome State Fault Refusal := .next (s.onCore (fun t c => c.pendingStart t))
/-- TIER0_WRITE_BACK. -/
def execTier0WriteBack (obj : Nat) (s : State) : Host.Outcome State Fault Refusal :=
  .next (s.onCore (fun t c => (c.tier0Back t obj).noteReady))

end Sys2Proof.Machine
end

