-- ==== Sys2Proof/Machine/MemOps.lean ====
section
/-! DEFINITION. Remote memory at its target: windows and regions (R76, R310), loads, stores and atomics (R318 to R321), the
signal window (R68), versions (R323), the coherent domain (R325, R326), and the protection and region commands (R330, R331). -/

namespace Sys2Proof.Machine

/-! ### Windows, regions and grants -/

/-- First offset of the pool window (R76). -/
def poolBase : Nat := 0x3000000000000
/-- First offset of the registered window (R76). -/
def regBase : Nat := 0x3C00000000000
/-- SYNC_SIGNAL_BASE: first offset of the signal window, and the end of the registered one (R76). -/
def signalBase : Nat := 0x3FFFFFFFE0000

/-- What an access names (R310): a region, or a pool grant. -/
inductive MemTarget where
  | region (rid : Nat) (r : Region)
  | grant (g : Grant)
  deriving DecidableEq, Repr

/-- The protection domain of a target. -/
def MemTarget.pd : MemTarget → Nat
  | .region _ r => r.pd
  | .grant g => g.pd

/-- The rights of a target: a grant may be read and written (R310). -/
def MemTarget.rights : MemTarget → Nat
  | .region _ r => r.rights
  | .grant _ => 3

/-- The region or grant in which an access lies whole (R310). A region being deregistered takes no more accesses but those in
progress, for which `old` is set (R331). -/
def Core.memTarget (c : Core) (off n : Nat) (old : Bool) : Option MemTarget :=
  match c.fabric.regions.find? (fun e => (old || e.2.closing.isNone) && e.2.off ≤ off && off + n ≤ e.2.off + e.2.size) with
  | some (rid, r) => some (.region rid r)
  | none =>
    if poolBase ≤ off then
      (c.tiers.grants.find? (fun g => poolBase + g.off ≤ off && off + n ≤ poolBase + g.off + g.size)).map .grant
    else none

/-- A range of the pool window touches one that POOL_REVOKE has freed (R96). -/
def Core.inRevoked (c : Core) (off n : Nat) : Bool :=
  c.tiers.revoked.any (fun r => poolBase + r.1 < off + n && off < poolBase + r.1 + r.2)

/-- A 64-byte granule that the range touches holds an uncorrectable word (R319, R412). -/
def Core.memPoisoned (c : Core) (off n : Nat) : Bool :=
  c.tiers.poisoned.any (fun g => g * 64 < off + n && off < g * 64 + 64)

/-- Bytes stored in local memory: a granule written whole is poisoned no longer (R412). -/
def Core.memStore (off : Nat) (data : List Byte) (c : Core) : Core :=
  c.onTiers (fun s => { s with
    mem := s.mem.writeN off data,
    poisoned := s.poisoned.filter (fun g => !(off ≤ g * 64 && g * 64 + 64 ≤ off + data.length)) })

/-- Frames that more 64 KiB units take on each in-service stack fit in what is free there (R83): units already placed and
units to place, by stack. -/
def Core.framesFit (t : Top) (c : Core) (old new : Nat → Nat) : Bool :=
  let fr := fun (n : Nat) => ceilDiv (n * 65536) (c.frameF + c.slotB)
  (List.range t.stackList.length).all (fun k => fr (old k + new k) - fr (old k) ≤ c.stackFree t k)

/-- Tier-1 storage taken or returned: its bytes are to be scrubbed with the job, and F1 and the reserve floor are recomputed
at the next boundary (R83, R377). -/
def Core.tookUnits (t : Top) (bytes : Nat) (c : Core) : Core :=
  let c := { c with job := c.job.map (fun (j : Job) => { j with everBytes := j.everBytes + bytes }) }
  (c.onSched (fun s => { s with due := true })).watchFree t

/-- The units of a grant that a write touches and nothing has committed yet (R96). -/
def Grant.fresh (g : Grant) (off n : Nat) : List Nat :=
  let first := (off - poolBase - g.origin) / 65536
  let last := (off + n - 1 - poolBase - g.origin) / 65536
  ((List.range (last + 1 - first)).map (first + ·)).filter (fun u => !g.units.contains u)

/-- Storage of a grant committed for a write (R96), or none where the client's quota or the free frames do not allow it. -/
def Core.commitGrant (t : Top) (g : Grant) (off n : Nat) (c : Core) : Option Core :=
  let us := g.fresh off n
  let s := t.stackList.length
  let on := fun (l : List Nat) (k : Nat) => (l.filter (fun u => u % s == k)).length
  if us.isEmpty then some c
  else if c.within t g.client 1 (65536 * us.length) && c.framesFit t (on g.units) (on us) then
    some ((c.onTiers (fun x => { x with
      grants := x.grants.map (fun h => if h.off == g.off then { h with units := h.units ++ us } else h) })).tookUnits t (65536 * us.length))
  else none

/-! ### Atomics -/

/-- The value that an atomic of R320 stores, for a word of `w` bits; none for a reserved code. -/
def atomicOp (op w old x cmp : Nat) : Option Nat :=
  let x := x % 2 ^ w
  match op with
  | 1 => some ((old + x) % 2 ^ w)
  | 2 => some (if sext w x < sext w old then x else old)
  | 3 => some (min old x)
  | 4 => some (if sext w x > sext w old then x else old)
  | 5 => some (max old x)
  | 6 => some (if old = cmp % 2 ^ w then x else old)
  | _ => none

/-! ### Answers and invalidations -/

/-- The MEM_COMPLETION that answers a request (R319); a write without ACK has no answer (R305). -/
def Core.memAnswer (t : Top) (cid : Nat) (q : Msg) (st : Status) (d ver old : Nat) (data : List Byte) (c : Core) : Core :=
  if q.type = 0x51 && !bit (q.arg 13 1) 0 then c
  else c.answerMsg t cid q 0x53 (memCompletion (q.arg 16 4) st d ver old data)

/-- A refusal for want of a region, domain or right (R310): counted at the connection's Pass die. -/
def Core.memDenied (t : Top) (cid : Nat) (q : Msg) (c : Core) : Core :=
  (c.memAnswer t cid q .authFail 0 0 0 []).bump (.pass (cid / 4096) 3)

/-- An INVALIDATE sent to a node (R324) and registered as awaiting its answer. -/
def Core.sendInvalidate (t : Top) (cid node off len kind ver : Nat) (p : Purpose) (c : Core) : Core :=
  let (r, c) := c.newReq t cid 0x54 c.fabric.nextReq p
  let c := c.onFabric (fun f => { f with reqs := f.reqs.upd r (fun x => { x with node := node }) })
  let body := le 8 (t.nodeId * 2 ^ 50 + off) ++ le 4 len ++ le 1 kind ++ zeros 3 ++ le 4 r ++ le 4 ver
  (c.sendMsg t cid 0x54 false 5 body (some r)).bump (.pass (cid / 4096) 10)

/-- The granules of 4 KiB that a range touches. -/
def granules (off n : Nat) : List Nat := (List.range ((off + n - 1) / 4096 + 1 - off / 4096)).map (off / 4096 + ·)

/-- A write or atomic applied to a COHERENT_READ region (R323): the versions of its granules rise, and every subscriber is
sent INVALIDATE VERSION; `txn` names the write that waits for the answers. The count of those sent is given back. -/
def Core.newVersions (t : Top) (rid off n txn : Nat) (c : Core) : Nat × Core :=
  match c.fabric.regions.get? rid with
  | none => (0, c)
  | some r =>
    if !bit r.flags 2 then (0, c)
    else
      (granules off n).foldl (fun (k, c) g =>
        let v := ((((c.fabric.regions.get? rid).map Region.versions).getD []).getD (g - r.off / 4096) 1 + 1) % 2 ^ 32
        let c := c.onFabric (fun f => { f with regions := f.regions.upd rid (fun r => { r with
          versions := r.versions.set (g - r.off / 4096) v }) })
        (k + r.subs.length,
          r.subs.foldl (fun c (node, cid) => c.sendInvalidate t cid node (g * 4096) 4096 1 v (.version txn)) c)) (0, c)

/-- A write that nothing waits for has been applied (R323): a write-back, a recalled line's data, or the data of a SEND. -/
def Core.wrote (t : Top) (rid off n : Nat) (c : Core) : Core :=
  let txn := c.fabric.nextTxn
  let (k, c) := c.newVersions t rid off n txn
  if k = 0 then c else c.onFabric (fun f => { f with nextTxn := txn + 1 })

/-- A write has been applied (R321, R323): with ACK it is answered, once every subscriber has answered where there are any. -/
def Core.writeDone (t : Top) (cid : Nat) (q : Msg) (rid off n : Nat) (c : Core) : Core :=
  let txn := c.fabric.nextTxn
  let (k, c) := c.newVersions t rid off n txn
  if k = 0 then c.memAnswer t cid q .ok 0 0 0 []
  else
    let c := c.onFabric (fun f => { f with nextTxn := txn + 1 })
    if bit (q.arg 13 1) 0 then
      c.onFabric (fun f => { f with txns := f.txns.set txn {
        conn := cid, tag := q.arg 16 4, body := memCompletion (q.arg 16 4) .ok 0 0 0 [], waiting := k,
        rid := rid, cls := q.cls } })
    else c

/-- A REGION_DEREGISTER that waits completes once no access to its region is in progress (R331). -/
def Core.closeRegion (rid : Nat) (c : Core) : Core :=
  match c.fabric.regions.get? rid with
  | none => c
  | some r => match r.closing with
    | none => c
    | some m =>
      let reading := c.fabric.reads.vals.any (fun e => match e.1 with
        | .region _ _ _ _ k => k == rid
        | .sendPost _ _ _ _ k => k == rid
        | _ => false)
      let waiting := c.fabric.txns.vals.any (fun x => x.rid == rid)
      let line := c.fabric.lines.any (fun e => r.off ≤ 64 * e.1 && 64 * e.1 < r.off + r.size && (e.2.busy.isSome || !e.2.queue.isEmpty))
      if reading || waiting || line then c
      else
        let c := c.onFabric (fun f => { f with
          regions := f.regions.del rid,
          lines := f.lines.filter (fun e => !(r.off ≤ 64 * e.1 && 64 * e.1 < r.off + r.size)) })
        let c := if r.backing = .device then
            (c.onTiers (fun s => { s with
              mem := s.mem.zero r.off r.size, poisoned := s.poisoned.filter (fun g => !(r.off ≤ 64 * g && 64 * g < r.off + r.size)) })).onSched
              (fun s => { s with due := true })
          else c
        c.stage m .ok 0 []

/-- The same for the region that holds an offset. -/
def Core.closeAt (off : Nat) (c : Core) : Core :=
  match c.fabric.regions.find? (fun e => e.2.closing.isSome && e.2.off ≤ off && off < e.2.off + e.2.size) with
  | some (rid, _) => c.closeRegion rid
  | none => c

/-- One answer to an INVALIDATE VERSION, or its loss (R323). -/
def Core.versionAnswered (t : Top) (txn : Nat) (c : Core) : Core :=
  match c.fabric.txns.get? txn with
  | none => c
  | some x =>
    if x.waiting ≤ 1 then
      let c := c.onFabric (fun f => { f with txns := f.txns.del txn })
      (c.sendMsg t x.conn 0x53 true x.cls x.body none).closeRegion x.rid
    else c.onFabric (fun f => { f with txns := f.txns.set txn { x with waiting := x.waiting - 1 } })

/-! ### Coherence lines -/

/-- A node of the coherent domain (R325): this one, or one that COH_DOMAIN_SET named. -/
def Core.inDomain (t : Top) (c : Core) (node : Nat) : Bool := node == t.nodeId || c.fabric.domain.contains node

/-- A read that takes a copy of a line: READ_SHARED or READ_EXCL (R318). -/
def Msg.takesLine (q : Msg) : Bool := q.type == 0x50 && (q.arg 12 1 == 1 || q.arg 12 1 == 2)

/-- A WRITEBACK (R318). -/
def Msg.isWriteback (q : Msg) : Bool := q.type == 0x51 && q.arg 12 1 == 1

/-- What the home must do to a line before a request can be served (R326): the kind of INVALIDATE, the members it goes to,
and the line's state once they have answered. -/
def lineNeeds (s : LineState) (q : Msg) : Option (Nat × List Nat × LineState) :=
  let op := q.arg 12 1
  match s with
  | .uncached => none
  | .shared ms =>
    if q.type = 0x50 then
      let others := ms.filter (· != q.src)
      if op = 2 && !others.isEmpty then some (2, others, .shared (ms.filter (· == q.src))) else none
    else if ms.isEmpty then none else some (2, ms, .uncached)
  | .exclusive o =>
    if q.type = 0x50 && op ≠ 2 then some (4, [o], .shared [o]) else some (3, [o], .uncached)

/-- A line's state once a request has been served (R326). -/
def lineAfter (s : LineState) (q : Msg) : LineState :=
  if q.type = 0x50 then
    match q.arg 12 1 with
    | 1 => match s with
      | .shared ms => .shared (if ms.contains q.src then ms else ms ++ [q.src])
      | _ => .shared [q.src]
    | 2 => .exclusive q.src
    | _ => s
  else .uncached

/-- A line. -/
def Core.line (c : Core) (l : Nat) : Line := c.fabric.lines.getD l {}
/-- A line changed. -/
def Core.updLine (l : Nat) (f : Line → Line) (c : Core) : Core :=
  c.onFabric (fun b => { b with lines := b.lines.set l (f (b.lines.getD l {})) })

/-- The lines of 64 bytes that a range touches. -/
def linesOf (off n : Nat) : List Nat := (List.range ((off + n - 1) / 64 + 1 - off / 64)).map (off / 64 + ·)

/-- The INVALIDATE of a line sent to a member, on the lowest-numbered open connection with it (R326). -/
def Core.callMember (t : Top) (l kind node : Nat) (c : Core) : Core :=
  c.sendInvalidate t ((c.connFor 0xFFFF node).getD 0xFFFF) node (64 * l) 64 kind 0 (.coherent l node)

/-- A request that waits on a line touches a line. -/
def LineReq.touches (q : LineReq) (l : Nat) : Bool := (linesOf (addrLocal (q.msg.arg 0 8)) (q.msg.arg 8 4)).contains l

/-- A request that arrived before number `no` and touches a line still waits, on that line or on another of its own (R321). -/
def Core.lineAhead (c : Core) (no l : Nat) : Bool :=
  c.fabric.lines.vals.any (fun x => (x.queue ++ (x.busy.map (fun b => [b.1])).getD []).any (fun q => q.no < no && q.touches l))

/-- A request to a COHERENT_FULL region meets its lines (R321, R326): it is given back where every line can serve it; it waits at the first
line that is busy or that an earlier request waits for; else the home calls on the holders of the first line that needs it. `no` is the
request's number in the order of arrival. -/
def Core.meetLines (t : Top) (cid : Nat) (q : Msg) (off n no : Nat) (c : Core) : Bool × Core :=
  let stops := (linesOf off n).find? (fun l =>
    let x := c.line l
    x.busy.isSome || c.lineAhead no l || (lineNeeds x.state q).isSome)
  let me : LineReq := { conn := cid, node := q.src, msg := q, no := no }
  match stops with
  | none => (true, c)
  | some l =>
    let x := c.line l
    if x.busy.isSome || c.lineAhead no l then (false, c.updLine l (fun x => { x with queue := insertBy (fun a b => a.no < b.no) me x.queue }))
    else match lineNeeds x.state q with
      | none => (true, c)
      | some (kind, ms, _) =>
        let c := c.updLine l (fun x => { x with busy := some (me, ms), wbWait := false })
        (false, ms.foldl (fun c node => c.callMember t l kind node) c)

/-! ### Accesses -/

/-- Bytes of a region stored: local memory, or host memory by PCIe writes (R310). -/
def Core.storeAt (r : Option Region) (off : Nat) (data : List Byte) (c : Core) : Core :=
  match r with
  | some r =>
    if r.backing = .host then
      (c.onFabric (fun f => { f with joins := f.joins.mapVal (fun _ j =>
        if j.off < off + data.length && off < j.off + j.len then { j with open_ := false } else j) })).emit
          (.hostWrite (r.hostAddr + (off - r.off)) data)
    else c.memStore off data
  | none => c.memStore off data

/-- A PCIe read of host memory issued for a region access, a SEND_POST or a command (R435). -/
def Core.readHost (p : ReadFor) (addr n : Nat) (c : Core) : Core :=
  let k := c.host.nextRead
  ((c.onHost (fun h => { h with nextRead := k + 1 })).onFabric (fun f => { f with reads := f.reads.set k (p, n) })).emit (.hostRead k addr n)

/-- A read served (R319, R323). An identical read of a COMBINE region that waits for host memory serves it too (R322); local memory answers
at once, so nothing waits for it that could be combined. -/
def Core.serveRead (t : Top) (cid : Nat) (q : Msg) (rid : Nat) (r : Option Region) (off n : Nat) (c : Core) : Core :=
  let versioned := q.arg 12 1 = 3
  let coh := (r.map (fun r => bit r.flags 2)).getD false
  if versioned && !coh then c.memAnswer t cid q .notSupported 0 0 0 []
  else if versioned && off / 4096 ≠ (off + n - 1) / 4096 then c.memAnswer t cid q .badArg 8 0 0 []
  else
    let ver := if versioned then (r.map (fun r => r.versions.getD (off / 4096 - r.off / 4096) 1)).getD 0 else 0
    let host := (r.map (fun r => r.backing == .host)).getD false
    if host then
      let combine := (r.map (fun r => bit r.flags 1)).getD false
      let op := q.arg 12 1
      let same := fun (j : ReadJoin) => j.open_ && j.rid == rid && j.op == op && j.off == off && j.len == n
      match (c.fabric.joins.filter (fun e => combine && same e.2)).head? with
      | some (k, _) =>
        (c.onFabric (fun f => { f with joins := f.joins.upd k (fun j => { j with more := j.more ++ [(cid, q.arg 16 4, q.cls)] }) })).bump
          (.pass (cid / 4096) 8)
      | none =>
        let k := c.host.nextRead
        let c := c.readHost (.region cid (q.arg 16 4) q.cls ver rid) ((r.map (fun r => r.hostAddr + (off - r.off))).getD 0) n
        if combine then c.onFabric (fun f => { f with joins := f.joins.set k { rid := rid, op := op, off := off, len := n } }) else c
    else if c.memPoisoned off n then c.memAnswer t cid q .poisoned 0 0 0 []
    else c.memAnswer t cid q .ok 0 ver 0 (c.tiers.mem.readN off n)

/-- An atomic served (R320, R321). -/
def Core.serveAtomic (t : Top) (cid : Nat) (q : Msg) (rid : Nat) (r : Option Region) (off n : Nat) (c : Core) : Core :=
  let old := rd (c.tiers.mem.readN off n) 0 n
  match atomicOp (q.arg 12 1) (8 * n) old (q.arg 24 8) (q.arg 32 8) with
  | none => c.memAnswer t cid q .notSupported 0 0 0 []
  | some v =>
    if (r.map (fun r => r.backing == .host)).getD false then c.memAnswer t cid q .notSupported 0 0 0 []
    else if c.memPoisoned off n then c.memAnswer t cid q .poisoned 0 0 0 []
    else
      let c := (c.memStore off (le n v)).memAnswer t cid q .ok 0 0 old []
      let txn := c.fabric.nextTxn
      let (_, c) := c.newVersions t rid off n txn
      c.onFabric (fun f => { f with nextTxn := txn + 1 })

/-- An access that may be applied now (R319 to R321). -/
def Core.serveMem (t : Top) (cid : Nat) (q : Msg) (m : MemTarget) (off n : Nat) (c : Core) : Core :=
  let (rid, r) : Nat × Option Region := match m with
    | .region rid r => (rid, some r)
    | .grant _ => (16384, none)
  let c := match r with
    | some r => if bit r.flags 3 then (linesOf off n).foldl (fun (c : Core) l => c.updLine l (fun x => { x with state := lineAfter x.state q })) c else c
    | none => c
  match q.type with
  | 0x50 => c.serveRead t cid q rid r off n
  | 0x52 => c.serveAtomic t cid q rid r off n
  | _ =>
    let data := (q.body.drop 40).take n
    match m with
    | .grant g =>
      match c.commitGrant t g off n with
      | none => c.memAnswer t cid q .noResource 0 0 0 []
      | some c => (c.memStore off data).memAnswer t cid q .ok 0 0 0 []
    | .region _ r => (c.storeAt (some r) off data).writeDone t cid q rid off n

/-- An access to the signal window (R68, R69): a read of value and threshold, and the 32-bit ADD. -/
def Core.serveSignal (t : Top) (cid : Nat) (q : Msg) (off n : Nat) (c : Core) : Core :=
  let id := (off - signalBase) / 8
  let at8 := (off - signalBase) % 8 = 0
  let live := (c.syncs.get? id).filter (fun _ => !c.quiesced)
  if q.type = 0x50 && q.arg 12 1 = 0 && n = 8 && at8 then
    match live with
    | none => c.memAnswer t cid q .staleHandle 0 0 0 []
    | some o => c.memAnswer t cid q .ok 0 0 0 (le 4 o.value ++ le 4 o.threshold)
  else if q.type = 0x52 && q.arg 12 1 = 1 && n = 4 && at8 then
    match live with
    | none => (c.staleSync id).memAnswer t cid q .staleHandle 0 0 0 []
    | some o => (c.signal t id (q.arg 24 4)).memAnswer t cid q .ok 0 0 o.value []
  else c.memAnswer t cid q .notSupported 0 0 0 []

/-- The right that a request needs (R310): bit of the rights byte. -/
def memRight (type : Nat) : Nat := if type = 0x50 then 0 else if type = 0x51 then 1 else 2

/-- The op codes that R318 and R320 give a request type. -/
def memOpKnown (type op : Nat) : Bool :=
  if type = 0x50 then op ≤ 3 else if type = 0x51 then op ≤ 1 else 1 ≤ op && op ≤ 6

/-- A WRITEBACK (R326): from the recorded owner it is applied on arrival, and the line it leaves becomes UNCACHED. -/
def Core.writeback (t : Top) (cid : Nat) (q : Msg) (rid : Nat) (r : Region) (off n : Nat) (c : Core) : Bool × Core :=
  let l := off / 64
  if (c.line l).state = .exclusive q.src then
    let c := ((c.storeAt (some r) off ((q.body.drop 40).take n)).wrote t rid off n).memAnswer t cid q .ok 0 0 0 []
    (true, c.updLine l (fun x => { x with state := .uncached }))
  else (false, c.memAnswer t cid q .stateReject 0 0 0 [])

/-- A MEM_READ, MEM_WRITE or MEM_ATOMIC at its target (R318 to R326), up to the service of a line that it ends the wait of:
that line is given back. -/
def Core.memRequest (t : Top) (cid : Nat) (q : Msg) (no : Option Nat) (c : Core) : Option Nat × Core :=
  let addr := q.arg 0 8
  let off := addrLocal addr
  let n := q.arg 8 4
  let op := q.arg 12 1
  let bad := fun (d : Nat) => (none, c.memAnswer t cid q .badArg d 0 0 [])
  if addrNode addr ≠ q.dst then bad 0
  else if q.type = 0x52 && n ≠ 4 && n ≠ 8 then bad 8
  else if n = 0 || 65536 < n then bad 8
  else if q.type = 0x52 && off % n ≠ 0 then bad 0
  else if q.type = 0x51 && (q.body.drop 40).length < n then bad 8
  else if 2 ^ 50 < off + n then bad 0
  else
    match c.memTarget off n no.isSome with
    | none =>
      if q.type = 0x50 && c.inRevoked off n then (none, c.memAnswer t cid q .poisoned 0 0 0 [])
      else (none, c.memDenied t cid q)
    | some m =>
      if m.pd ≠ (c.conn cid).pd || !bit m.rights (memRight q.type) then (none, c.memDenied t cid q)
      else if (q.takesLine || q.isWriteback) && !c.inDomain t q.src then (none, c.memAnswer t cid q .authFail 0 0 0 [])
      else match m with
        | .grant _ =>
          if q.takesLine || q.isWriteback || !memOpKnown q.type op then (none, c.memAnswer t cid q .notSupported 0 0 0 [])
          else (none, c.serveMem t cid q m off n)
        | .region rid r =>
          if r.backing = .signal then (none, c.serveSignal t cid q off n)
          else if !memOpKnown q.type op || ((q.takesLine || q.isWriteback) && !bit r.flags 3) then
            (none, c.memAnswer t cid q .notSupported 0 0 0 [])
          else if q.type = 0x52 && r.backing = .host then (none, c.memAnswer t cid q .notSupported 0 0 0 [])
          else if (q.takesLine || q.isWriteback) && !(off % 64 == 0 && n == 64) then bad 8
          else if q.isWriteback then
            let (done, c) := c.writeback t cid q rid r off n
            (if done && (c.line (off / 64)).wbWait then some (off / 64) else none, c)
          else if bit r.flags 3 then
            let k := no.getD c.fabric.nextLineReq
            let c := if no.isSome then c else c.onFabric (fun f => { f with nextLineReq := k + 1 })
            let (go, c) := c.meetLines t cid q off n k
            (none, if go then c.serveMem t cid q m off n else c)
          else (none, c.serveMem t cid q m off n)

/-- A line's transaction has every answer it needs (R326): the line takes its new state and the request is served, or goes on
to the next line that stops it. -/
def Core.lineReady (t : Top) (l : Nat) (c : Core) : Core :=
  let x := c.line l
  match x.busy with
  | none => c
  | some (q, ms) =>
    if !ms.isEmpty || (x.wbWait && x.state ≠ .uncached) then c
    else
      let next := match lineNeeds x.state q.msg with
        | some (_, _, s) => s
        | none => x.state
      let c := c.updLine l (fun x => { x with busy := none, wbWait := false, state := next })
      (c.memRequest t q.conn q.msg (some q.no)).2.closeAt (64 * l)

/-- A request from the fabric, and the transaction that a WRITEBACK lets go on (R326). -/
def Core.memArrives (t : Top) (cid : Nat) (q : Msg) (c : Core) : Core :=
  match c.memRequest t cid q none with
  | (some l, c) => c.lineReady t l
  | (none, c) => c

/-- A member has answered INV, RECALL or DOWNGRADE (R326): its data are written, and with WB_SENT the home waits for the
write-back unless it has come already. -/
def Core.memberAnswered (t : Top) (l node d : Nat) (data : List Byte) (c : Core) : Core :=
  let x := c.line l
  match x.busy with
  | none => c
  | some (q, ms) =>
    let c := if data.isEmpty then c
      else match c.memTarget (64 * l) 64 true with
        | some (.region rid r) => (c.storeAt (some r) (64 * l) (data.take 64)).wrote t rid (64 * l) 64
        | _ => c
    let wb := bit d 0 && data.isEmpty && x.state == .exclusive node
    let c := c.updLine l (fun x => { x with busy := some (q, ms.filter (· != node)), wbWait := x.wbWait || wb })
    c.lineReady t l

/-- The home's transactions on a line when a member is dead (R326, R328): loads and atomics complete with POISONED, others
with TIMEOUT. -/
def Core.lineDead (t : Top) (l node : Nat) (c : Core) : Core :=
  let x := c.line l
  let qs := (match x.busy with | some (q, _) => [q] | none => []) ++ x.queue
  let c := c.updLine l (fun x => { x with busy := none, wbWait := false, queue := [], state := match x.state with
    | .exclusive o => if o = node then .uncached else .exclusive o
    | .shared ms => .shared (ms.filter (· != node))
    | .uncached => .uncached })
  (qs.foldl (fun c q => c.memAnswer t q.conn q.msg (if q.msg.type = 0x51 then .timeout else .poisoned) 0 0 0 []) c).closeAt (64 * l)

/-- The home sends the INVALIDATE of a line again to a member that has not answered (R326). -/
def Core.lineAgain (t : Top) (l node : Nat) (c : Core) : Core :=
  match (c.line l).busy with
  | none => c
  | some (q, ms) =>
    match lineNeeds (c.line l).state q.msg with
    | some (kind, _, _) => if ms.contains node then c.callMember t l kind node else c
    | none => c.memberAnswered t l node 0 []

/-- A line that is free takes the next request waiting for it (R326), once none that arrived earlier waits elsewhere for a line of its own
(R321). -/
def Core.lineNext (t : Top) (l : Nat) (c : Core) : Core :=
  let x := c.line l
  match x.busy, x.queue with
  | none, q :: rest =>
    if c.lineAhead q.no l then c
    else ((c.updLine l (fun x => { x with queue := rest })).memRequest t q.conn q.msg (some q.no)).2.closeAt (64 * l)
  | _, _ => c

/-! ### Commands -/

/-- PD_ALLOC (R310, R331). -/
def pdAllocBody (t : Top) (c : Core) (_m : Nat) (a : Cmd) : Ans := do
  let k := a.arg 0 1
  needArg (k == 0xFF || (t.dev == .bound && c.isClient k)) 0
  match c.pickFree c.fabric.pds.keys 1024 with
  | none => .error (.noResource, 0)
  | some (d, c) => ok (c.onFabric (fun f => { f with pds := f.pds.set d (if k = 0xFF then 255 else k) })) (le 2 d)

/-- PD_FREE (R331). -/
def pdFreeBody (_t : Top) (c : Core) (_m : Nat) (a : Cmd) : Ans := do
  let d := a.arg 0 2
  needArg (c.fabric.pds.get? d).isSome 0
  let used := c.fabric.conns.vals.any (fun n => n.state != .closed && n.pd == d) || c.fabric.regions.vals.any (fun r => r.pd == d) ||
    c.tiers.grants.any (fun g => g.pd == d)
  need (!used) .busy
  ok (c.onFabric (fun f => { f with pds := f.pds.del d }))

/-- The client that a domain names, if it is configured for the bound job (R310). -/
def Core.pdClient (c : Core) (d : Nat) : Option Nat := (c.fabric.pds.get? d).filter (fun k => k < 255 && c.isClient k)

/-- The window of a backing (R310): first offset and end. -/
def Backing.window : Backing → Nat × Nat
  | .signal => (signalBase, 2 ^ 50)
  | _ => (regBase, signalBase)

/-- The backing of a code (R330). -/
def Backing.ofCode : Nat → Option Backing
  | 1 => some .host | 2 => some .device | 3 => some .signal | _ => none

/-- REGION_REGISTER (R310, R323, R325, R331). -/
def regionRegisterBody (t : Top) (c : Core) (_m : Nat) (a : Cmd) : Ans := do
  let off := a.arg 0 8
  let size := a.arg 8 8
  let pd := a.arg 16 2
  let flags := a.arg 20 2
  needArg (off % 65536 == 0) 0
  needArg (0 < size && size % 65536 == 0) 8
  needArg (c.fabric.pds.get? pd).isSome 16
  match Backing.ofCode (a.arg 18 1) with
  | none => .error (.badArg, 18)
  | some b =>
    needArg (b.window.1 ≤ off && off < b.window.2) 18
    needArg (off + size ≤ b.window.2 && !c.fabric.regions.vals.any (fun r => off < r.off + r.size && r.off < off + size)) 0
    let full := bit flags 3
    needArg (!(full && c.fabric.domain.isEmpty)) 20
    needArg (!full || a.arg 22 1 < 4) 22
    let lines := sumL ((c.fabric.regions.vals.filter (fun r => bit r.flags 3 && r.dir == a.arg 22 1)).map (fun r => r.size / 64))
    need (!full || lines + size / 64 ≤ 1048576) .noResource
    let s := t.stackList.length
    let frames := sumL ((List.range s).map (fun k => ceilDiv (unitsOn s k (size / 65536) (bit flags 0) * 65536) (c.frameF + c.slotB)))
    need (b != .device || ((match c.pdClient pd with
        | some k => c.within t k 1 size
        | none => frames ≤ c.freeFrames t - c.floor) &&
      c.framesFit t (fun _ => 0) (fun k => unitsOn s k (size / 65536) (bit flags 0)))) .noResource
    match c.pickFree c.fabric.regions.keys 16384 with
    | none => .error (.noResource, 0)
    | some (rid, c) =>
      let r : Region := {
        off := off, size := size, pd := pd, backing := b, rights := a.arg 19 1 % 8, flags := flags % 16, dir := a.arg 22 1,
        hostAddr := a.arg 24 8 }
      let c := c.onFabric (fun f => { f with regions := f.regions.set rid r })
      ok (if b = .device then c.tookUnits t size else c) (le 2 rid)

/-- REGION_DEREGISTER (R331): accesses in progress end first. -/
def regionDeregisterBody (_t : Top) (c : Core) (m : Nat) (a : Cmd) : Ans := do
  let rid := a.arg 0 2
  match c.fabric.regions.get? rid with
  | none => .error (.badArg, 0)
  | some r =>
    needArg r.closing.isNone 0
    waits ((c.onFabric (fun f => { f with regions := f.regions.upd rid (fun r => { r with closing := some m }) })).closeRegion rid)

/-- DEVICE and SIGNAL regions and subscriptions removed at JOB_RELEASE (R331): a write that waited for subscribers' answers completes. -/
def Core.dropJobRegions (t : Top) (c : Core) : Core :=
  let c := c.onTiers (fun s => { s with mem := [], poisoned := [] })
  let c := c.fabric.txns.vals.foldl (fun c x => c.sendMsg t x.conn 0x53 true x.cls x.body none) c
  c.onFabric (fun f => { f with
    regions := Tbl.mapVal (f.regions.filter (fun e => e.2.backing == .host)) (fun _ r => { r with subs := [] }),
    lines := f.lines.filter (fun e => f.regions.vals.any (fun r => r.backing == .host && r.off ≤ 64 * e.1 && 64 * e.1 < r.off + r.size)),
    txns := [] })

/-- COH_SUBSCRIBE (R323). -/
def cohSubscribeBody (_t : Top) (c : Core) (_m : Nat) (a : Cmd) : Ans := do
  let rid := a.arg 0 2
  let cid := a.arg 4 2
  match c.fabric.regions.get? rid with
  | none => .error (.badArg, 0)
  | some r =>
    needArg (bit r.flags 2 && r.closing.isNone) 0
    needArg (a.arg 2 1 == 1 || a.arg 2 1 == 2) 2
    needArg (cid < 16384 && (c.conn cid).state == .opened) 4
    let node := (c.conn cid).peer
    let rest := r.subs.filter (fun s => s.1 != node)
    if a.arg 2 1 = 2 then
      ok (c.onFabric (fun f => { f with regions := f.regions.upd rid (fun r => { r with subs := rest }) }))
    else
      need (rest.length < 16) .noResource
      ok (c.onFabric (fun f => { f with regions := f.regions.upd rid (fun r => { r with subs := rest ++ [(node, cid)] }) }))

/-- COH_DOMAIN_SET (R325, R331). -/
def cohDomainSetBody (t : Top) (c : Core) (_m : Nat) (a : Cmd) : Ans := do
  let n := a.arg 0 1
  needArg (n ≤ 3) 0
  let nodes := (List.range n).map (fun i => a.arg (2 + 2 * i) 2)
  (List.range n).forM (fun i =>
    let x := nodes.getD i 0
    needArg (x < 0x3FFF && x != t.nodeId && !(nodes.take i).contains x) (2 + 2 * i))
  need (!c.fabric.regions.vals.any (fun r => bit r.flags 3)) .busy
  ok (c.onFabric (fun f => { f with domain := nodes }))

/-! ### Rows -/

/-- PD_ALLOC (R310). -/
def execPdAlloc (m : Nat) (s : State) : Host.Outcome State Fault Refusal := .next (runCommand m 0x0A01 pdAllocBody s)
/-- PD_FREE (R331). -/
def execPdFree (m : Nat) (s : State) : Host.Outcome State Fault Refusal := .next (runCommand m 0x0A02 pdFreeBody s)
/-- REGION_REGISTER (R310). -/
def execRegionRegister (m : Nat) (s : State) : Host.Outcome State Fault Refusal := .next (runCommand m 0x0A03 regionRegisterBody s)
/-- REGION_DEREGISTER (R331). -/
def execRegionDeregister (m : Nat) (s : State) : Host.Outcome State Fault Refusal := .next (runCommand m 0x0A04 regionDeregisterBody s)
/-- COH_SUBSCRIBE (R323). -/
def execCohSubscribe (m : Nat) (s : State) : Host.Outcome State Fault Refusal := .next (runCommand m 0x0A0B cohSubscribeBody s)
/-- COH_DOMAIN_SET (R325). -/
def execCohDomainSet (m : Nat) (s : State) : Host.Outcome State Fault Refusal := .next (runCommand m 0x0A0C cohDomainSetBody s)
/-- MEM_READ (R318, R319). -/
def execMemRead (cid : Nat) (s : State) : Host.Outcome State Fault Refusal :=
  .next (onMsg cid 0x50 none (fun t c cid q => c.memArrives t cid q) s)
/-- MEM_WRITE (R318, R321). -/
def execMemWrite (cid : Nat) (s : State) : Host.Outcome State Fault Refusal :=
  .next (onMsg cid 0x51 none (fun t c cid q => c.memArrives t cid q) s)
/-- MEM_ATOMIC (R320). -/
def execMemAtomic (cid : Nat) (s : State) : Host.Outcome State Fault Refusal :=
  .next (onMsg cid 0x52 none (fun t c cid q => c.memArrives t cid q) s)
/-- COHERENT_REQUEST (R326). -/
def execCoherentRequest (line : Nat) (s : State) : Host.Outcome State Fault Refusal :=
  .next (s.onCore (fun t c => c.lineNext t line))
/-- INVALIDATE (R323, R326): the SZ864 keeps no copy of remote data, so it answers at once, with WB_SENT where it has sent a WRITEBACK for the
line. -/
def execInvalidate (cid : Nat) (s : State) : Host.Outcome State Fault Refusal :=
  .next (onMsg cid 0x54 none (fun t c cid q =>
    let sent := q.arg 12 1 ≠ 1 && c.fabric.writtenBack.contains (q.arg 0 8)
    c.answerMsg t cid q 0x53 (memCompletion (q.arg 16 4) .ok (b2n sent) 0 0 [])) s)

end Sys2Proof.Machine
end

