-- ==== Sys2Proof/Machine/CtxCmd.lean ====
section
/-! DEFINITION. Admission (R49, R60, R78), the 0x02xx commands (R58 to R63), time to live (R57, R144) and the end of a
context (R50). -/

namespace Sys2Proof.Machine

/-! ### Admission -/

/-- First context index of a Summit die (R44): index 0 is never allocated. -/
def ctxFirst (q : Nat) : Nat := if q = 0 then 1 else 32768 * q

/-- Contexts of a Summit die that may be allocated (R44). -/
def ctxTotal (q : Nat) : Nat := if q = 0 then 32767 else 32768

/-- A context that entered FREE at a time may be taken again (R49). -/
def freeLongEnough (t : Top) (at_ : Nat) : Bool := at_ + 1000000000 ≤ t.now

/-- Admissible contexts of a Summit die (R49): those free since reset entered FREE at package time 0. -/
def Core.admissible (t : Top) (c : Core) (q : Nat) : Nat :=
  let s := c.summit q
  (if freeLongEnough t 0 then ctxTotal q - s.ctxNext else 0) + (s.ctxFree.filter (fun e => freeLongEnough t e.2)).length

/-- The first context of a die's free list, if it may be taken, and the state with it off the list (R49). -/
def Core.popCtx (t : Top) (q : Nat) (c : Core) : Option (Nat × Core) :=
  let s := c.summit q
  if s.ctxNext < ctxTotal q then
    if freeLongEnough t 0 then some (ctxFirst q + s.ctxNext, c.updSummit q (fun s => { s with ctxNext := s.ctxNext + 1 })) else none
  else match s.ctxFree with
    | (i, at_) :: rest => if freeLongEnough t at_ then some (i, c.updSummit q (fun s => { s with ctxFree := rest })) else none
    | [] => none

/-- Size of the sequence window (R76). -/
def seqWindow : Nat := 0x3000000000000

/-- Regions reserved, by base and bytes, in rising order (R78). -/
def Core.regionsUsed (c : Core) : List (Nat × Nat) :=
  sortBy (fun a b => a.1 < b.1)
    ((c.ctxs.vals.filter (fun x => x.state != .free)).map (fun x => (x.base, c.regionBytes x.maxLen)))

/-- The lowest 2 MiB-aligned offset where a region fits whole (R78): regions are multiples of 2 MiB. -/
def Core.findRegion (c : Core) (maxLen : Nat) : Option Nat :=
  ((gapsOf c.regionsUsed 0 seqWindow).find? (fun g => c.regionBytes maxLen ≤ g.2)).map Prod.fst

/-- A context taken out of FREE (R47, R57, R60): its generation raised, its region reserved. -/
def Core.takeCtx (t : Top) (q : Nat) (new : Ctx) (c : Core) : Chk (Nat × Core) :=
  match c.popCtx t q with
  | none => .error (.noResource, 2)
  | some (i, c') =>
    match c.findRegion new.maxLen with
    | none => .error (.noResource, 1)
    | some base => .ok (i, c'.updCtx i (fun x =>
        { new with gen := (x.gen + 1) % 32768, base := base, admitted := t.now, prioAct := new.prio, clsAct := new.cls }))

/-- CTX_ADMIT (R57, R59 to R61). -/
def ctxAdmitBody (t : Top) (c : Core) (_m : Nat) (a : Cmd) : Ans := do
  let k := a.arg 0 1
  let pr := a.arg 1 1
  let cl := a.arg 2 1
  let sum := a.arg 3 1
  let len := a.arg 4 4
  c.clientArg k 0
  needArg (pr < 8 || pr == 0xFF) 1
  needArg (cl < 16 || cl == 0xFF) 2
  needArg (sum == 0xFF || t.summitsUp.contains sum) 3
  needArg (1 ≤ len && len ≤ shMax c.shape) 4
  match (if sum = 0xFF then bestSummit (c.admissible t) t.summitsUp else some sum) with
  | none => .error (.noResource, 2)
  | some q =>
    let d := c.pact.client k
    let (i, c) ← c.takeCtx t q {
      state := .reserved, client := k, prio := if pr = 0xFF then d.prio else pr, cls := if cl = 0xFF then d.cls else cl, maxLen := len }
    ok c (le 4 (c.handle i))

/-! ### Commands -/

/-- A state that refuses a command of the 0x02xx range (R58). -/
def refuseState (x : Ctx) : Refuse := (.stateReject, stateDetail .context x.state.code)

/-- Frames committed in stack memory for a context (R62). -/
def Core.framesOf (c : Core) (x : Ctx) : Nat :=
  (x.pages.vals.filter (fun r => ((c.page r.obj).map PageObj.holdsFrame).getD false)).length

/-- CTX_QUERY (R62). -/
def ctxQueryBody (_t : Top) (c : Core) (_m : Nat) (a : Cmd) : Ans :=
  let x := c.ctx (hIndex a.handle)
  ok c (le 4 a.handle ++ le 1 (x.state.code + 16 * x.prior.code) ++ le 1 x.client ++ le 1 (x.prio + 16 * x.cls) ++ le 1 x.cause ++
    le 8 x.base ++ le 4 x.maxLen ++ le 4 (c.curLen x) ++ le 2 x.epoch ++ zeros 2 ++ le 4 (c.framesOf x) ++ le 4 x.msgs ++
    le 4 x.pins ++ le 4 x.waits ++ zeros 4 ++ le 8 x.admitted ++ le 8 x.stepped)

/-- CTX_SET (R58, R61, R152): the new values act from the next boundary. -/
def ctxSetBody (_t : Top) (c : Core) (_m : Nat) (a : Cmd) : Ans := do
  let i := hIndex a.handle
  let x := c.ctx i
  if x.state = .draining || x.state = .faulted then .error (refuseState x)
  else
    let pr := a.arg 0 1
    let cl := a.arg 1 1
    needArg (pr < 8 || pr == 0xFF) 0
    needArg (cl < 16 || cl == 0xFF) 1
    ok ((c.updCtx i (fun x => { x with
      prio := if pr = 0xFF then x.prio else pr, cls := if cl = 0xFF then x.cls else cl })).onSched (fun s => { s with due := true }))

/-- CTX_PAUSE (R57, R58): accepted in GENERATE; it acts at the next boundary and completes later. -/
def ctxPauseBody (_t : Top) (c : Core) (m : Nat) (a : Cmd) : Ans :=
  let i := hIndex a.handle
  let x := c.ctx i
  if x.state = .paused then ok c
  else if x.state = .generate then
    waits ((c.updCtx i (fun x => { x with pauseMbox := x.pauseMbox ++ [m], pauseDue := true })).onSched (fun s => { s with due := true }))
  else .error (refuseState x)

/-- A CTX_PAUSE that has acted completes once no step of the context is in flight (R57). -/
def Core.pauseCheck (i : Nat) (c : Core) : Core :=
  let x := c.ctx i
  if x.pauseDue || x.pauseMbox.isEmpty || (c.itemsOf i).any (fun e => e.2.step != 0) then c else c.endPause i .ok 0

/-- CTX_PARK (R57, R58, R100): completes at once. -/
def ctxParkBody (t : Top) (c : Core) (_m : Nat) (a : Cmd) : Ans := do
  let i := hIndex a.handle
  let x := c.ctx i
  if x.state = .paused || x.state = .parked then
    let ttl := a.arg 0 4
    needArg (ttl ≤ 86400) 0
    if x.state = .parked then ok c
    else ok ((c.enterParked t i (if ttl = 0 then (c.client x.client).ttl else ttl) false).demoteAll t false i)
  else .error (refuseState x)

/-- CTX_RESUME (R57, R58): promotion begins in layer order. -/
def ctxResumeBody (t : Top) (c : Core) (_m : Nat) (a : Cmd) : Ans :=
  let i := hIndex a.handle
  let x := c.ctx i
  if x.state = .paused then ok c
  else if x.state = .parked then ok ((c.updCtx i (fun x => { x with state := .paused, ttlAt := none })).promoteAll t i)
  else .error (refuseState x)

/-- CTX_RETIRE (R54, R57, R58). -/
def ctxRetireBody (t : Top) (c : Core) (_m : Nat) (a : Cmd) : Ans :=
  let i := hIndex a.handle
  let x := c.ctx i
  if x.state = .draining then ok c
  else if x.state = .movingOut || x.state = .movingIn then .error (refuseState x)
  else ok (c.enterDraining t i)

/-- CTX_LIST (R61, R63): ascending indices from the start index. -/
def ctxListBody (t : Top) (c : Core) (_m : Nat) (a : Cmd) : Ans := do
  let mask := a.arg 0 2
  let k := a.arg 2 1
  let all := bit (a.arg 3 1) 0
  needArg (all || c.isClient k) 2
  let es := c.ctxs.filter (fun e => a.arg 4 4 ≤ e.1 && !t.gone (ctxDie e.1) && e.2.state != .free && bit mask e.2.state.code &&
    (all || e.2.client == k))
  let now := es.take 1020
  let next := ((es.drop 1020).head?.map Prod.fst).getD 0
  ok c (le 4 now.length ++ le 4 next ++ now.flatMap (fun e => le 4 (mkHandle e.1 e.2.gen)))

/-! ### Timers -/

/-- TTL_EXPIRY (R57, R144): pages are freed at every tier, and the expiry event raised. -/
def Core.ttlExpiry (t : Top) (i : Nat) (c : Core) : Core :=
  let x := c.ctx i
  match x.state, x.ttlAt with
  | .parked, some d =>
    if d ≤ t.now then
      let c := c.raise t 0x0201 (ctxDie i) (c.handle i) (le 1 x.client)
      (c.enterDraining t i).freePages t i
    else c
  | _, _ => c

/-- CONTEXT_FREED (R50): a DRAINING context whose three counts are zero. The frees of one that left in a step come first, at
the next boundary (R57, R153). -/
def Core.contextFreed (t : Top) (i : Nat) (c : Core) : Core :=
  let c := if (c.ctx i).state = .draining then c.dropIdle t i else c
  let x := c.ctx i
  if x.state = .draining && !x.leaving && x.msgs = 0 && x.pins = 0 && x.waits = 0 then c.enterFree t i else c

/-- CTX_ADMIT. -/
def execCtxAdmit (m : Nat) (s : State) : Host.Outcome State Fault Refusal := .next (runCommand m 0x0201 ctxAdmitBody s)
/-- CTX_QUERY. -/
def execCtxQuery (m : Nat) (s : State) : Host.Outcome State Fault Refusal := .next (runCommand m 0x0202 ctxQueryBody s)
/-- CTX_SET. -/
def execCtxSet (m : Nat) (s : State) : Host.Outcome State Fault Refusal := .next (runCommand m 0x0203 ctxSetBody s)
/-- CTX_PAUSE. -/
def execCtxPause (m : Nat) (s : State) : Host.Outcome State Fault Refusal := .next (runCommand m 0x0204 ctxPauseBody s)
/-- CTX_PARK. -/
def execCtxPark (m : Nat) (s : State) : Host.Outcome State Fault Refusal := .next (runCommand m 0x0205 ctxParkBody s)
/-- CTX_RESUME. -/
def execCtxResume (m : Nat) (s : State) : Host.Outcome State Fault Refusal := .next (runCommand m 0x0206 ctxResumeBody s)
/-- CTX_RETIRE. -/
def execCtxRetire (m : Nat) (s : State) : Host.Outcome State Fault Refusal := .next (runCommand m 0x0207 ctxRetireBody s)
/-- CTX_LIST. -/
def execCtxList (m : Nat) (s : State) : Host.Outcome State Fault Refusal := .next (runCommand m 0x0208 ctxListBody s)
/-- TTL_EXPIRY. -/
def execTtlExpiry (ctx : Nat) (s : State) : Host.Outcome State Fault Refusal := .next (s.onCore (fun t c => c.ttlExpiry t ctx))
/-- CONTEXT_FREED. -/
def execContextFreed (ctx : Nat) (s : State) : Host.Outcome State Fault Refusal :=
  .next (s.onCore (fun t c => c.contextFreed t ctx))

end Sys2Proof.Machine
end

