-- ==== Sys2Proof/Machine/Work.lean ====
section
/-! DEFINITION. Work as it arrives and moves through its layers: STEP_QUERY and CHUNK_SUBMIT accepted, held or refused (R149,
R150, R158, R161, R179, R204 to R207, R133), a member's layer entered (R163, R164), hold timers (R166), and layers that
complete (R180, R197, R217, R219). -/

namespace Sys2Proof.Machine

/-! ### Settings in force -/

/-- The role's default of SCHED_SET field n (R157, R173). -/
def schedDefault (r : Role) (n : Nat) : Nat :=
  match n, r with
  | 0, .generation => 8192 | 0, _ => 1024
  | 1, .prompt => 32768 | 1, _ => 4096
  | 2, .prompt => 1024 | 2, _ => 256
  | 3, .prompt => 20000 | 3, .generation => 500 | 3, .cache => 1000
  | 4, _ => 2000 | 5, _ => 1250 | 6, _ => 30 | 7, _ => 4 | 8, _ => 16 | _, _ => 8

/-- SCHED_SET field n under a set of parameters (R157, R173): A_min is never above A_max. -/
def Params.field (p : Params) (n : Nat) : Nat :=
  let v := fun k => ((p.sched[k]?).getD none).getD (schedDefault p.role k)
  if n = 2 then min (v 2) (v 1) else v n

/-! ### Layers and items -/

/-- Tokens that a layer of a context would hold once all its accepted messages have completed: its expected position
(R179, R206). -/
def Core.expected (c : Core) (i l : Nat) : Nat :=
  (c.ctx i).held1 l +
  sumL ((c.itemsOf i).vals.map (fun it =>
    if it.chunk then (if it.msgs.any (fun m => m.layer == l) then it.count else 0)
    else (it.msgs.filter (fun m => m.layer == l)).length)) +
  sumL ((c.sched.layers.filter (fun p => p.ctx == i && p.layer == l && !p.failed)).map PartLayer.count)

/-- The layer group of a layer (R148). -/
def Core.groupOf (c : Core) (l : Nat) : Nat := l / shG c.shape

/-- Last layer of group g. -/
def Core.groupLast (c : Core) (g : Nat) : Nat := min (shG c.shape * (g + 1)) (shLayers c.shape) - 1

/-- The open item of a context whose next message is for a layer (R149). -/
def Core.itemFor (c : Core) (i l : Nat) (chunk : Bool) : Option (Nat × Item) :=
  (c.itemsOf i).find? (fun e => e.2.chunk == chunk && e.2.next == l && l ≤ c.groupLast e.2.group)

/-- The token or chunk of a context at a position that has begun exactly g groups (R150). -/
def Core.tokenAt (c : Core) (i : Nat) (chunk : Bool) (pos g : Nat) : Option Nat :=
  (c.sched.tokens.find? (fun e => e.2.ctx == i && e.2.chunk == chunk && e.2.pos == pos && e.2.begun == g)).map Prod.fst

/-- The token or chunk that a group's first message belongs to, begun anew where it has no earlier group here (R150, R158,
R161); its start, budget and chunk size are read when it begins. -/
def Core.beginToken (t : Top) (i : Nat) (chunk : Bool) (pos g : Nat) (c : Core) : Nat × Core :=
  match c.tokenAt i chunk pos g with
  | some k => (k, c.onSched (fun s => { s with tokens := s.tokens.upd k (fun x => { x with begun := g + 1 }) }))
  | none =>
    let k := c.sched.nextToken
    let x := c.ctx i
    let tok : Token := {
      ctx := i, chunk := chunk, pos := pos, t0 := t.now, budget := c.pact.budgets.getD x.clsAct 0, chunkC := (c.client x.client).chunk,
      begun := g + 1, groups := g }
    (k, c.onSched (fun s => { s with nextToken := k + 1, tokens := s.tokens.set k tok }))

/-- A new item pending (R149, R445). -/
def Core.newItem (it : Item) (c : Core) : Nat × Core :=
  let k := c.sched.nextItem
  (k, c.onSched (fun s => { s with nextItem := k + 1, items := s.items.set k { it with born := it.since }, coolUntil := none }))

/-- An item is in a step. -/
def Item.inStep (it : Item) : Bool := it.step != 0

/-- The layer at the head of an item: the one in progress or next to be entered. -/
def Item.headLayer (it : Item) : Option Nat := it.msgs.head?.map LayerMsg.layer

/-- Messages of an item for the layer at its head: one for decode, the parts of a chunk layer. -/
def Item.headMsgs (it : Item) : List LayerMsg :=
  match it.headLayer with
  | some l => it.msgs.filter (fun m => m.layer == l)
  | none => []

/-! ### What a layer reads -/

/-- Separator positions of a part, by its body and first position (R204). -/
def partSeps (body : List Byte) (first : Nat) : List Nat := (List.range (rd body 17 1)).map (fun k => first + rd body (40 + 2 * k) 2)

/-- The document start of the query at position n (R177, R204). -/
def LayerMsg.docStart (m : LayerMsg) (chunk : Bool) (n : Nat) : Nat :=
  if chunk then (((partSeps m.body m.pos).filter (· ≤ n)).getLast?).getD (rd m.body 32 4) else rd m.body 12 4

/-- The lowest admitted position of a query at n of a message (R183). -/
def Core.lowOf (c : Core) (chunk : Bool) (m : LayerMsg) (n : Nat) : Nat := admitLo c.shape m.layer n (m.docStart chunk n)

/-- First and last page that some messages of an item's layer attend to (R183). -/
def Core.attendedBy (c : Core) (it : Item) (ms : List LayerMsg) : Nat × Nat :=
  (minD 0 (ms.map (fun m => c.lowOf it.chunk m m.pos)) / 256, maxL (ms.map (fun m => m.pos + m.len - 1)) / 256)

/-- First and last attended page of an item's head layer (R183). -/
def Core.attended (c : Core) (it : Item) : Nat × Nat := c.attendedBy it it.headMsgs

/-- A context's page is present where a step reads it: in tier 0 or 1, not marked REFETCH (R163). -/
def Core.pageNear (c : Core) (i l p : Nat) : Bool := ((c.pageOf i l p).map (fun e => e.2.near)).getD false

/-- An attended page can be summarised (R163, R164): its slot holds its summary, it is not poisoned, and it is not the tail. -/
def Core.canSum (c : Core) (i l p tail : Nat) : Bool :=
  p != tail && ((c.pageOf i l p).map (fun e => e.2.summary.isSome && !e.2.poison)).getD false

/-- The client of a context allows Skipper (R162, R173). -/
def Core.skipperOk (c : Core) (i : Nat) : Bool := (c.pact.client (c.ctx i).client).skipper

/-- The token budget of an item in µs, 0 for none (R161). -/
def Core.budgetOf (c : Core) (it : Item) : Nat := if it.chunk then 0 else ((c.sched.tokens.get? it.token).map Token.budget).getD 0

/-- Pages that an item's head layer waits for (R163, R164): attended, not summarised, not present. -/
def Core.awaited (c : Core) (it : Item) (summed : List Nat) : List Nat :=
  match it.headLayer with
  | none => []
  | some l =>
    let (a, b) := c.attended it
    ((List.range (b + 1)).filter (fun p => a ≤ p && !summed.contains p && !c.pageNear it.ctx l p &&
      -- a page that holds nothing of the sequence yet is not waited for once its frame is committed
      !((c.ctx it.ctx).held1 l ≤ 256 * p && (c.pageOf it.ctx l p).isSome)))

/-! ### Hold timers -/

/-- A member waits on something outside the engines (R166): its next message, or an absent page. -/
def Core.waitsOutside (c : Core) (it : Item) : Bool :=
  it.inStep && !it.done && (match it.run with
    | none => it.msgs.isEmpty
    | some r => !r.started && !(c.awaited it r.summarised).isEmpty)

/-- A member's hold timer started or stopped as its wait stands (R166). -/
def Core.holdCheck (t : Top) (k : Nat) (c : Core) : Core :=
  match c.sched.items.get? k with
  | none => c
  | some it =>
    if c.waitsOutside it then
      if it.holdAt.isNone then c.updItem k (fun x => { x with holdAt := some t.now }) else c
    else c.endHold t k

/-- A detached item whose awaited arrival has come is pending again, continuing (R166). -/
def Core.repend (t : Top) (k : Nat) (c : Core) : Core :=
  (c.updItem k (fun x => { x with detached := false, since := t.now })).onSched (fun s => { s with coolUntil := none })

/-- The pages that an item's head layer summarises, as they were fixed when its message was accepted into a step (R165). -/
def Item.plan (it : Item) : List Nat × Bool := (it.headLayer.bind it.plans.get?).getD ([], false)

/-- A page may have arrived: hold timers of members, and items detached while they waited for pages (R166). -/
def Core.holdAll (t : Top) (c : Core) : Core :=
  c.sched.items.foldl (fun c e =>
    if e.2.detached then
      if !e.2.msgs.isEmpty && (c.awaited e.2 e.2.plan.1).isEmpty then c.repend t e.1 else c
    else c.holdCheck t e.1) c

/-! ### Entering a layer -/

/-- A layer's message accepted into its member's step (R163 to R165): the summarised set is fixed, promotions of absent pages are issued ahead
of background ones, the tail's ahead of every other, and write-downs of pages that the layer reads are abandoned (R240). -/
def Core.planLayer (t : Top) (k l : Nat) (c : Core) : Core :=
  match c.sched.items.get? k with
  | none => c
  | some it =>
      if !it.inStep then c else
      let (a, b) := c.attendedBy it (it.msgs.filter (fun m => m.layer == l))
      let ps := (List.range (b + 1)).filter (a ≤ ·)
      let absent := ps.filter (fun p => !c.pageNear it.ctx l p)
      let bySum := fun p => !it.chunk && c.canSum it.ctx l p b
      let w := c.pact.field 9
      let dead := if it.late then ps.filter (fun p => p + w < b + 1 && bySum p) else []
      let late := if c.budgetOf it ≠ 0 && c.skipperOk it.ctx then absent.filter bySum else []
      let summed := ps.filter (fun p => dead.contains p || late.contains p)
      let c := (ps.filter (fun p => !dead.contains p)).foldl (fun c p =>
        match c.pageOf it.ctx l p with
        | some (o, _) => if absent.contains p then c.promote t true (p == b) o else c.abandon t o
        | none => c) c
      c.updItem k (fun x => { x with plans := x.plans.set l (summed, !late.isEmpty) })

/-- A member's next layer entered where its message has come (R163 to R165), as it was planned. -/
def Core.enterLayer (t : Top) (k : Nat) (c : Core) : Core :=
  match c.sched.items.get? k with
  | none => c
  | some it =>
    match it.run, it.headLayer with
    | none, some l =>
      if !it.inStep then c
      else ((c.endHold t k).updItem k (fun x => { x with
        run := some { layer := l, summarised := x.plan.1, absentSum := x.plan.2 } })).holdCheck t k
    | _, _ => c.holdCheck t k

/-- A message for an item has arrived (R166): a member may enter its layer; a detached item that waited for it is pending. -/
def Core.itemArrived (t : Top) (k l : Nat) (waited : Bool) (c : Core) : Core :=
  match c.sched.items.get? k with
  | none => c
  | some it =>
    if it.detached then (if waited then c.repend t k else c)
    else if it.inStep then (c.planLayer t k l).enterLayer t k
    else c

/-- The state of R57 that a context's work finds and turns: in MOVING_OUT, the state recorded. -/
def Ctx.standing (x : Ctx) : CtxState := if x.state = .movingOut then x.prior else x.state

/-- That state changed. -/
def Ctx.stand (s : CtxState) (x : Ctx) : Ctx := if x.state = .movingOut then { x with prior := s } else { x with state := s }

/-- A context that an item it begins turns when it joins (R57): RESERVED or PAUSED. -/
def Ctx.turns (x : Ctx) : Bool := x.standing == .reserved || x.standing == .paused

/-! ### Acceptance -/

/-- A message refused (R197, R198, R217): answered with a status, its completion object signalled (R68). -/
def Core.rejectWork (t : Top) (cid : Nat) (m : Msg) (st : Status) (d : Nat) (c : Core) : Core :=
  let obj := m.arg (if m.type = 0x20 then 20 else 18) 2
  let c := c.refuseMsg t cid m st d
  if obj < 16384 then c.signal t obj 1 else c

/-- A connection recorded as used by a context (R134). -/
def Ctx.noteConn (n : Nat) (x : Ctx) : Ctx :=
  if x.conns.contains n then x
  else if x.conns.length < 16 then { x with conns := x.conns ++ [n] }
  else { x with connsOver := true }

/-- The field checks of R179 for a STEP_QUERY, in order: the first failing detail. -/
def Core.stepBad (c : Core) (i : Nat) (m : Msg) : Option Nat :=
  let s := c.shape
  let l := m.arg 6 2
  let n := m.arg 8 4
  let obj := m.arg 18 2
  firstBad [
    (7, m.body.length == shStepBytes s && m.arg 24 2 == shHq s && m.arg 26 2 == shD s),
    (9, decide (l < shLayers s)),
    (0xA, obj < 16384 || obj == 0xFFFF),
    (4, l % shG s == 0 || (c.itemFor i l false).isSome),
    (6, n == c.expected i l),
    (3, decide (n < (c.ctx i).maxLen)),
    (8, !shDoc s l || m.arg 12 4 ≤ n),
    (0xB, !anySpecial m.body 32 ((shHq s + 2 * shH s) * shD s))]

/-- An accepted STEP_QUERY as a layer message. -/
def stepMsg (cid : Nat) (m : Msg) : LayerMsg :=
  { layer := m.arg 6 2, conn := cid, cls := m.cls, epoch := m.arg 4 2, pos := m.arg 8 4, len := 1, body := m.body, obj := m.arg 18 2, tag := m.arg 20 4 }

/-- Checks 4 and 5 of R179 made, and the message accepted: it begins an item, or joins the one whose next layer it is for
(R149, R178). -/
def Core.acceptStep (t : Top) (i cid : Nat) (m : Msg) (c : Core) : Core :=
  match c.stepBad i m with
  | some d => c.rejectWork t cid m .badArg d
  | none => match c.takeRef i .msg with
    | .error (st, d) => c.rejectWork t cid m st d
    | .ok c =>
      let lm := stepMsg cid m
      let g := c.groupOf lm.layer
      if lm.layer % shG c.shape = 0 then
        let (k, c) := c.beginToken t i false lm.pos g
        let leaving := bit (m.arg 16 2) 0 && g + 1 == shNG c.shape
        (c.newItem { ctx := i, chunk := false, group := g, token := k, since := t.now, leaving := leaving, start := lm.pos,
                     next := lm.layer + 1, msgs := [lm], turns := (c.ctx i).turns }).2
      else match c.itemFor i lm.layer false with
        | none => c
        | some (k, it) =>
          let waited := it.msgs.isEmpty
          (c.updItem k (fun x => { x with next := lm.layer + 1, msgs := x.msgs ++ [lm] })).itemArrived t k lm.layer waited

/-- A chunk layer of a context that is not ready (R205). -/
def Core.partLayer (c : Core) (i l : Nat) : Option PartLayer := c.sched.layers.find? (fun p => p.ctx == i && p.layer == l)

/-- Separators strictly ascending within 1 to p − 1 (R206). -/
def sepsOk (body : List Byte) (p : Nat) : Bool :=
  let ss := (List.range (rd body 17 1)).map (fun k => rd body (40 + 2 * k) 2)
  rd body 17 1 ≤ 32 && ss.all (fun x => 1 ≤ x && x < p) && (ss.zip ss.tail).all (fun x => x.1 < x.2)

/-- The field checks of R206 for a CHUNK_SUBMIT part, in order: the first failing detail. -/
def Core.chunkBad (c : Core) (i cid : Nat) (m : Msg) : Option Nat :=
  let s := c.shape
  let l := m.arg 6 2
  let start := m.arg 8 4
  let n := m.arg 12 2
  let p := m.arg 14 2
  let k := m.arg 16 1
  let fin := bit (m.arg 18 2) 0
  let obj := m.arg 20 2
  let pl := c.partLayer i l
  let failed := (pl.map PartLayer.failed).getD false
  let inOrder := if k = 0 then (pl.isNone || failed) && (l % shG s == 0 || (c.itemFor i l true).isSome)
    else match pl with
      | some q => q.failed || q.parts.length == k
      | none => false
  let same := if k = 0 then
      (l % shG s == 0 || (match c.itemFor i l true with
        | some (_, it) => it.start == start && it.count == n && it.tag == m.arg 28 4 && it.final == fin
        | none => false))
    else match pl with
      | some q => !q.failed && q.start == start && q.count == n && q.tag == m.arg 28 4 && q.final == fin && q.conn == cid
      | none => false
  let began := if k = 0 && l % shG s == 0 then c.tokenAt i true start (c.groupOf l)
    else match pl, c.itemFor i l true with
      | some q, _ => some q.token
      | none, some (_, it) => some it.token
      | none, none => none
  let most := match began with
    | some b => ((c.sched.tokens.get? b).map Token.chunkC).getD (c.client (c.ctx i).client).chunk
    | none => (c.client (c.ctx i).client).chunk
  firstBad [
    (7, m.body.length == shPartBytes s p && m.arg 22 2 == shHq s && m.arg 24 2 == shD s),
    (9, decide (l < shLayers s)),
    (0xA, obj < 16384 || obj == 0xFFFF),
    (4, inOrder),
    (0xC, 256 * k < n && p == min 256 (n - 256 * k) && same),
    (5, 1 ≤ n && n ≤ most && (fin || n % 256 == 0)),
    (6, k != 0 || start == c.expected i l),
    (3, decide (start + n ≤ (c.ctx i).maxLen)),
    (8, !shDoc s l || m.arg 32 4 ≤ start + 256 * k),
    (0xD, !shDoc s l || sepsOk m.body p),
    (0xB, !anySpecial m.body 104 (p * (shHq s + 2 * shH s) * shD s))]

/-- An accepted part as a layer message. -/
def partMsg (cid : Nat) (m : Msg) : LayerMsg :=
  { layer := m.arg 6 2, conn := cid, cls := m.cls, epoch := m.arg 4 2, pos := m.arg 8 4 + 256 * m.arg 16 1, len := m.arg 14 2,
    part := m.arg 16 1, body := m.body, obj := m.arg 20 2, tag := m.arg 28 4 }

/-- A chunk layer that has its last part is ready (R205): it begins its item, or is its item's next layer. -/
def Core.layerReady (t : Top) (p : PartLayer) (c : Core) : Core :=
  let c := c.onSched (fun s => { s with layers := s.layers.filter (fun q => !(q.ctx == p.ctx && q.layer == p.layer)) })
  match p.item with
  | none =>
    (c.newItem { ctx := p.ctx, chunk := true, group := c.groupOf p.layer, token := p.token, since := t.now, start := p.start, count := p.count,
                 tag := p.tag, final := p.final, next := p.layer + 1, msgs := p.parts, turns := (c.ctx p.ctx).turns }).2
  | some k =>
    let waited := ((c.sched.items.get? k).map (fun it => it.msgs.isEmpty)).getD false
    (c.updItem k (fun x => { x with next := p.layer + 1, msgs := x.msgs ++ p.parts })).itemArrived t k p.layer waited

/-- The part put with its layer, which part 0 begins (R205, R206); a member that waits for the next part waits anew (R166). -/
def Core.addPart (t : Top) (i cid : Nat) (m : Msg) (c : Core) : Core :=
  let lm := partMsg cid m
  let l := lm.layer
  let (pl, c) : PartLayer × Core :=
    if lm.part = 0 then
      let mk := fun (tok : Nat) (item : Option Nat) => ({
        ctx := i, layer := l, conn := cid, epoch := lm.epoch, start := m.arg 8 4, count := m.arg 12 2, tag := lm.tag,
        final := bit (m.arg 18 2) 0, token := tok, item := item, parts := [lm] } : PartLayer)
      if l % shG c.shape = 0 then
        let (k, c) := c.beginToken t i true (m.arg 8 4) (c.groupOf l)
        let c := if bit (m.arg 18 2) 0 then
          c.onSched (fun s => { s with tokens := s.tokens.upd k (fun x => { x with last := some (m.arg 8 4 + m.arg 12 2) }) }) else c
        (mk k none, c)
      else match c.itemFor i l true with
        | some (k, it) => (mk it.token (some k), c)
        | none => (mk 0 none, c)
    else match c.partLayer i l with
      | some q => ({ q with parts := q.parts ++ [lm] }, c)
      | none => ({ ctx := i, layer := l, conn := cid, epoch := 0, start := 0, count := 0, tag := 0, final := false, token := 0, item := none }, c)
  let c := c.onSched (fun s => { s with layers := s.layers.filter (fun q => !(q.ctx == i && q.layer == l)) ++ [pl] })
  let c := c.updCtx i (fun x => if x.standing = .generate then x.stand .prompt else x)
  if pl.parts.length = ceilDiv pl.count 256 then c.layerReady t pl
  else match pl.item with
    | some k => (c.endHold t k).holdCheck t k
    | none => c

/-- Checks 4 and 5 of a part made, and the part accepted (R205, R206, R57). -/
def Core.acceptPart (t : Top) (i cid : Nat) (m : Msg) (c : Core) : Core :=
  match c.chunkBad i cid m with
  | some d => c.rejectWork t cid m .badArg d
  | none => match c.takeRef i .msg with
    | .error (st, d) => c.rejectWork t cid m st d
    | .ok c => c.addPart t i cid m

/-- A layer message accepted by its checks 4 and 5. -/
def Core.acceptWork (t : Top) (i cid : Nat) (m : Msg) (c : Core) : Core :=
  if m.type = 0x20 then c.acceptPart t i cid m else c.acceptStep t i cid m

/-- Held messages of R133 as they count: the held parts of one chunk layer are one (R205). -/
def heldCount (hs : List Held) : Nat :=
  (hs.filter (fun h => !h.chunk)).length + ((hs.filter Held.chunk).map (fun h => (rd h.body 6 2, rd h.body 8 4))).dedup.length

/-- A message for a MOVING_IN context before CUTOVER: held, or refused where 4 are held (R133). -/
def Core.holdWork (t : Top) (i cid : Nat) (m : Msg) (c : Core) : Core :=
  let h : Held := { conn := cid, cls := m.cls, chunk := m.type == 0x20, epoch := m.arg 4 2, body := m.body, at_ := t.now }
  if 4 < heldCount ((c.ctx i).held ++ [h]) then c.rejectWork t cid m .stateReject (stateDetail .context CtxState.movingIn.code)
  else match c.takeRef i .msg with
    | .error (st, d) => c.rejectWork t cid m st d
    | .ok c => c.updCtx i (fun x => { x with held := x.held ++ [h] })

/-- What a context's state makes of a STEP_QUERY or CHUNK_SUBMIT (R58). -/
inductive WorkFate where
  | accept
  | hold
  | refuse (st : Status) (d : Nat)
  deriving DecidableEq, Repr

/-- The row of R58 for STEP_QUERY and CHUNK_SUBMIT. -/
def Ctx.workFate (x : Ctx) (chunk : Bool) : WorkFate :=
  let sr := WorkFate.refuse .stateReject (stateDetail .context x.state.code)
  match x.state with
  | .reserved | .generate | .paused => .accept
  | .prompt => if chunk then .accept else sr
  | .movingOut => if x.cut then sr else .accept
  | .movingIn => if x.cut then .accept else .hold
  | .faulted => .refuse (faultStatus x.cause) 0
  | .parked | .draining | .free => sr

/-- The Summit counter of a message dropped for its handle or epoch (R51, R119). -/
def Core.countStale (i k : Nat) (c : Core) : Core := c.bump (.summit (i / 32768) k)

/-- A STEP_QUERY or CHUNK_SUBMIT that has arrived: checks 1 to 3 of R179, then its fate (R51, R58, R119, R133). -/
def Core.workArrives (t : Top) (cid : Nat) (m : Msg) (c : Core) : Core :=
  let h := m.arg 0 4
  let i := hIndex h
  if t.dev ≠ .bound then c.rejectWork t cid m .stateReject (stateDetail .device t.dev.code)
  else if c.quiesced then c.rejectWork t cid m .jobFaulted 0
  else if c.stale t h then (c.countStale i 0).rejectWork t cid m .staleHandle 0
  else if m.arg 4 2 ≠ (c.ctx i).epoch then (c.countStale i 2).rejectWork t cid m .staleHandle 0
  else
    let c := (c.updCtx i (Ctx.noteConn cid)).lookup t (crestDie (storeCrest cid)) (i / 32768)
    match (c.ctx i).workFate (m.type == 0x20) with
    | .accept => c.acceptWork t i cid m
    | .hold => c.holdWork t i cid m
    | .refuse st d => c.rejectWork t cid m st d

/-- Held messages of a context join in arrival order once CUTOVER has come (R133). -/
def Core.joinHeld (t : Top) (i : Nat) (c : Core) : Core :=
  let hs := (c.ctx i).held
  hs.foldl (fun c h =>
    let m : Msg := { type := if h.chunk then 0x20 else 0x10, flags := 2 * h.cls, src := 0, dst := 0, conn := h.conn, seq := 0, stamp := 0,
                     job := 0, crReq := 0, crRsp := 0, body := h.body }
    (c.dropRef i .msg).acceptWork t i h.conn m) (c.updCtx i (fun x => { x with held := [] }))

/-- HELD_MESSAGE_TIMEOUT (R133): the oldest held message that has waited 500 ms completes. -/
def Core.heldTimeout (t : Top) (i : Nat) (c : Core) : Core :=
  match (c.ctx i).held.find? (fun h => h.at_ + 500000000 ≤ t.now) with
  | some h =>
    (c.updCtx i (fun x => { x with held := x.held.erase h })).failHeld t i .stateReject (stateDetail .context CtxState.movingIn.code) h
  | none => c

/-! ### Layers that complete -/

/-- The last step of an item: its last layer has completed (R169). -/
def Core.itemDone (t : Top) (k : Nat) (c : Core) : Core := c.updItem k (fun x => { x with done := true, lastResult := t.now, holdAt := none })

/-- A context that accepts no more STEP_QUERY or CHUNK_SUBMIT (R54, R132). -/
def Ctx.closed (x : Ctx) : Bool := x.state == .draining || (x.state == .movingOut && x.cut)

/-- The head layer of an item is over: its messages leave, and the next layer is entered, or the group is complete. An item whose next message
can no longer be accepted goes. -/
def Core.nextLayer (t : Top) (k l : Nat) (c : Core) : Core :=
  let c := c.updItem k (fun x => { x with run := none, msgs := x.msgs.filter (fun m => m.layer != l), plans := x.plans.del l })
  match c.sched.items.get? k with
  | none => c
  | some it =>
    let c := if l = c.groupLast it.group then c.itemDone t k else c.enterLayer t k
    if (c.ctx it.ctx).closed then c.dropIdle t it.ctx else c

/-- An item's head layer completes with a status that carries no output (R180, R207): nothing of it is appended, its token
counts as having completed every group, and the item passes on. -/
def Core.layerFails (t : Top) (k : Nat) (st : Status) (d : Nat) (c : Core) : Core :=
  match c.sched.items.get? k with
  | none => c
  | some it => match it.headLayer with
    | none => c
    | some l =>
      let c := (c.endHold t k).dropRun t k
      let c := (it.headMsgs.filter (fun m => !m.answered)).foldl (fun c m => c.failLayer t it.ctx it.chunk st d m) c
      (c.failToken it.token).nextLayer t k l

/-- The cutover of a move at its source (R115, R132, R446): no more work is accepted, parts of a chunk layer that is not ready complete, and
items whose next message would now be refused go. -/
def Core.cutMove (t : Top) (r : Nat) (c : Core) : Core :=
  match c.moves.get? r with
  | none => c
  | some m =>
    if m.cut || m.ended.isSome then c else
    let c := (c.setMove r (fun m => { m with cut := true, phase := .tail })).updCtx m.ctx (fun x => { x with cut := true })
    (c.failParts t m.ctx .stateReject (stateDetail .context CtxState.movingOut.code)).dropIdle t m.ctx

/-- A move whose cutover awaits the next step boundary (R115, R445). -/
def Core.cutReady (c : Core) (m : Move) : Bool :=
  m.source && !m.cut && m.ended.isNone && m.phase != .opening &&
  (match m.type with
   | .handoff | .park => (c.ctx m.ctx).prior == .generate
   | .migrate => m.phase == .bulk && m.sent.all SentPage.acked &&
      -- every full page has been acknowledged
      ((c.ctx m.ctx).pages.all (fun e =>
        let (l, p) := (c.ctx m.ctx).keyOf e.1
        ((c.page e.2.obj).map (fun pg => pg.fill != 256)).getD true || m.sent.any (fun s => s.layer == l && s.page == p && s.acked)))
   | _ => false)

/-- A chunk marked final has completed (R57, R115, R219): its context enters GENERATE; a HANDOFF from PROMPT reaches its
cutover. -/
def Core.finalDone (t : Top) (i : Nat) (c : Core) : Core :=
  let c := c.updCtx i (fun x => if x.standing = .prompt then x.stand .generate else x)
  (c.movesOf i).foldl (fun c e => if e.2.source && e.2.type = .handoff && e.2.phase ≠ .opening then c.cutMove t e.1 else c) c

/-- STEP_QUERY. -/
def execStepQuery (cid : Nat) (s : State) : Host.Outcome State Fault Refusal := .next (onMsg cid 0x10 none (fun t c n m => c.workArrives t n m) s)
/-- CHUNK_SUBMIT. -/
def execChunkSubmit (cid : Nat) (s : State) : Host.Outcome State Fault Refusal := .next (onMsg cid 0x20 none (fun t c n m => c.workArrives t n m) s)
/-- HELD_MESSAGE_TIMEOUT. -/
def execHeldMessageTimeout (ctx : Nat) (s : State) : Host.Outcome State Fault Refusal := .next (s.onCore (fun t c => c.heldTimeout t ctx))
/-- PROMOTION_COMPLETE. -/
def execPromotionComplete (obj : Nat) (s : State) : Host.Outcome State Fault Refusal :=
  .next (s.onCore (fun t c => (c.promotionComplete t obj).holdAll t))

end Sys2Proof.Machine
end

