-- ==== Sys2Proof/Machine/Moves.lean ====
section
/-! DEFINITION. Moves between pools (04_state_movement.md): opening and accepting (R115 to R127), the page stream (R128 to
R131), cutover and drain markers (R132 to R135), stalls and lost pages (R136, R137), collisions (R141), prefix attach
(R142, R143) and the 0x04xx commands (R146, R147). -/

namespace Sys2Proof.Machine

/-! ### Records -/

/-- Records that a Summit die keeps (R116). -/
def Core.moveCount (c : Core) (q : Nat) : Nat := (c.moves.vals.filter (fun m => m.summit == q)).length

/-- A Summit die with a free record (R116). -/
def Core.moveRoom (c : Core) (q : Nat) : Bool := c.moveCount q < 1024

/-- The record of an initiator node and move ID (R119). -/
def Core.findMove (c : Core) (initiator id : Nat) : Option (Nat × Move) :=
  c.moves.find? (fun e => e.2.initiator == initiator && e.2.id == id)

/-- A record put into the table. -/
def Core.addMove (m : Move) (c : Core) : Nat × Core :=
  (c.nextMove, { c with moves := c.moves.set c.nextMove m, nextMove := c.nextMove + 1 })

/-- A move ID of this node's choosing (R116): none that a record still bears, which it does for 1 s after its move ended, nor one whose move ended
within 1 s with its job. -/
def Core.newMoveId (t : Top) (c : Core) : Option (Nat × Core) :=
  let used := ((c.moves.vals.filter (fun m => m.initiator == t.nodeId)).map Move.id ++
    (c.usedIds.filter (fun e => t.now < e.2 + 1000000000)).map Prod.fst).dedup
  c.pickFree (sortBy (fun a b => a < b) used) 65536

/-- Epoch a is higher than epoch b (R118). -/
def epochHigher (a b : Nat) : Bool := seqAbove16 a b

/-- A collision's decision for this node (R141): the higher source epoch wins; else the lower node ID. -/
def localWins (mine theirs me them : Nat) : Bool :=
  if epochHigher mine theirs then true else if epochHigher theirs mine then false else me < them

/-- Source states of a move type (R115). -/
def MoveType.from_ (y : MoveType) : List CtxState :=
  match y with
  | .handoff => [.prompt, .generate]
  | .migrate => [.reserved, .prompt, .generate, .paused, .parked]
  | .park => [.generate, .paused, .parked]
  | .resume => [.paused, .parked]
  | .attach => [.paused, .parked, .generate]

/-- Types whose initiator is the source (R115). -/
def MoveType.push (y : MoveType) : Bool := y == .handoff || y == .migrate || y == .park

/-- The answer of MOVE_START (R127, R146). -/
def Core.moveAnswer (c : Core) (m : Move) : List Byte :=
  le 2 m.id ++ zeros 2 ++ le 4 (if m.source then m.peerHandle else c.handle m.ctx) ++ le 2 m.newEpoch ++ zeros 2

/-- MOVE_START completed with OK (R127). -/
def Core.moveStarted (r : Nat) (c : Core) : Core :=
  match c.moves.get? r with
  | none => c
  | some m => match m.mbox with
    | none => c
    | some b => (c.updMove r (fun m => { m with mbox := none })).stage b .ok 0 (c.moveAnswer m)

/-! ### Opening at the source -/

/-- The body of a STATE_PUSH OPEN after its head (R121). -/
def Core.openBody (c : Core) (m : Move) (ttl : Nat) : List Byte :=
  let x := c.ctx m.ctx
  le 8 m.tag ++ le 4 c.jobId ++ le 1 m.client ++ le 1 (x.prio + 16 * x.cls) ++ le 1 m.arrival.code ++ le 1 (shLayers c.shape) ++
  le 4 x.maxLen ++ le 4 (c.curLen x) ++ le 4 m.expected ++ le 4 x.posOff ++ le 4 ttl ++ le 2 m.oldEpoch ++ zeros 2 ++
  le 4 x.pages.length

/-- A push begins (R57, R115, R117, R138): the source context enters MOVING_OUT, its time to live is suspended, and the OPEN goes out. The time
that remains to a MIGRATE from PARKED (R144) is carried in whole seconds, rounded up; none left reads at the destination as its client's setting. R121
gives the field in seconds and no rounding (DESIGN CHOICE, log 168). -/
def Core.startPush (t : Top) (r : Nat) (c : Core) : Core :=
  match c.moves.get? r with
  | none => c
  | some m =>
    let i := m.ctx
    let x := c.ctx i
    let left := x.ttlAt.map (· - t.now)
    let arrival := match m.type with
      | .handoff => CtxState.generate
      | .migrate => x.state
      | .resume => .paused
      | _ => m.arrival
    let ttl := if arrival ≠ .parked then 0 else if m.type = .park then m.ttl else ceilDiv (left.getD 0) 1000000000
    let c := c.updCtx i (fun x => Ctx.noteConn m.conn
      { x with state := .movingOut, prior := x.state, cut := false, ttlAt := none, ttlLeft := left })
    let m := { m with
      arrival := arrival, handle := c.handle i, oldEpoch := x.epoch, newEpoch := (x.epoch + 1) % 65536, phase := .opening,
      client := if m.client = 0xFF then x.client else m.client, carried := x.pages.length, started := x.state,
      expected := if m.expected = 0 then c.curLen x else m.expected }
    let c := c.updMove r (fun _ => m)
    c.moveAsk t r m.conn 0x30 1 0 2 (c.openBody m ttl)

/-! ### Frames at the destination -/

/-- Pages per layer of a length (R125). -/
def pagesOf (len : Nat) : Nat := ceilDiv len 256

/-- The join test of R125: `n` frames above the reserve floor within the client's tier-1 ceiling, or, for arrival in
PARKED, their bytes in tier 2 within its tier-2 ceiling. -/
def Core.fitsMove (t : Top) (c : Core) (k n : Nat) (parked : Bool) : Bool :=
  if parked then
    let u := n * c.unitsIn (shFmt c.shape)
    u ≤ c.warmFree t && c.within t k 2 (4096 * u)
  else n = 0 || (c.floor + n ≤ c.freeFrames t && c.within t k 1 (n * c.frameF))

/-- Room in the warm space committed to a page that arrives in PARKED (R125). -/
def Core.commitWarm (t : Top) (i layer page : Nat) (c : Core) : Option Core :=
  let f := shFmt c.shape
  let n := c.unitsIn f
  match c.findWarm t n with
  | none => none
  | some (off, c) =>
    let o := c.tiers.nextPage
    let p : PageObj := { fmt := f, t2 := some (off, n), digest := pageDigest f (shH c.shape) (shD c.shape) [], owner := i }
    let c := c.onTiers (fun s => { s with
      pages := s.pages.set o p, nextPage := o + 1, warmWritten := (s.warmWritten ++ [(off, n)]).dedup })
    some (c.updCtx i (fun x => { x with pages := x.pages.set (x.pageKey layer page) { obj := o, base := 256 * page + x.posOff } }))

/-- A page of a context committed for data still to arrive. -/
def Core.commitFor (t : Top) (i : Nat) (parked : Bool) (l p : Nat) (c : Core) : Option Core :=
  if parked then c.commitWarm t i l p else c.commitPage t i l p false

/-- Frames committed for the first pages of every layer (R125); none where one of them finds no room. -/
def Core.commitAll (t : Top) (i n : Nat) (parked : Bool) (c : Core) : Option Core :=
  (List.range (shLayers c.shape)).foldl (fun (c : Option Core) l =>
    (List.range n).foldl (fun (c : Option Core) p => c.bind (fun c => c.commitFor t i parked l p)) c) (some c)

/-! ### Accepting an OPEN -/

/-- A refused OPEN (R125): answered, and the RESUME that waits for it ends. -/
def Core.refuseOpen (t : Top) (cid : Nat) (q : Msg) (mine : Option Nat) (st : Status) (d : Nat) (c : Core) : Core :=
  let c := c.refuseMsg t cid q st d
  match mine with
  | some r => c.endMove t r .aborted false st d
  | none => c

/-- The checks of an OPEN's fields (R121, R125): the client's detail is R125's; the others are the field's offset. -/
def Core.openBad (c : Core) (q : Msg) (client : Nat) : Option Nat :=
  let len := q.arg 32 4
  let cur := q.arg 36 4
  let exp := q.arg 40 4
  if !c.isClient client then some 0x000013
  else firstBad [(1, (MoveType.ofCode (q.arg 1 1)).isSome && q.arg 1 1 ≠ 5),
    (30, ((CtxState.ofCode (q.arg 30 1)).map (fun x =>
      x == .reserved || x == .prompt || x == .generate || x == .paused || x == .parked)).getD false),
    (31, q.arg 31 1 == shLayers c.shape), (32, 1 ≤ len && len ≤ shMax c.shape), (36, decide (cur ≤ exp)),
    (40, decide (exp ≤ len)), (44, decide (len + q.arg 44 4 ≤ 2097152))]

/-- The context that an accepted OPEN fills (R57, R117): a free one, or the loser's own of R141. -/
def Core.moveCtx (t : Top) (own : Option Nat) (q : Nat) (new : Ctx) (c : Core) : Chk (Nat × Core) :=
  match own with
  | none => c.takeCtx t q new
  | some i =>
    let x := c.ctx i
    .ok (i, c.updCtx i (fun _ => { new with
      gen := x.gen, base := if new.maxLen = x.maxLen then x.base else (c.findRegion new.maxLen).getD x.base, admitted := x.admitted,
      prioAct := new.prio, clsAct := new.cls, msgs := x.msgs, pins := x.pins, waits := x.waits }))

/-- Summit dies with a record to spare. -/
def Core.moveSummits (t : Top) (c : Core) : List Nat := t.summitsUp.filter c.moveRoom

/-- An OPEN taken through the tests of R125: `own` is the context of a collision's loser, `mine` a RESUME's record. -/
def Core.acceptOpen (t : Top) (cid : Nat) (q : Msg) (own mine : Option Nat) (c : Core) : Core :=
  let rec_ := mine.bind (fun r => c.moves.get? r)
  let client := match rec_ with
    | some m => if m.client = 0xFF then q.arg 28 1 else m.client
    | none => q.arg 28 1
  let drain := fun (c : Core) => match own with
    | some i =>
      let c := (c.itemsOf i).foldl (fun c e => c.failItem t e.1 .staleHandle 0) c
      (c.enterDraining t i).freePages t i
    | none => c
  match c.openBad q client with
  | some d => drain (c.refuseOpen t cid q mine .badArg d)
  | none =>
    let arrival := (CtxState.ofCode (q.arg 30 1)).getD .generate
    let parked := arrival == .parked
    let n := pagesOf (q.arg 40 4)
    if !c.fitsMove t client (shLayers c.shape * n) parked then
      drain ((c.bump (.client client 6)).refuseOpen t cid q mine .deferredMemory 0)
    else
      let sum := match rec_, own with
        | some m, _ => some m.summit
        | none, some i => some (i / 32768)
        | none, none => bestSummit (c.admissible t) (c.moveSummits t)
      let new : Ctx := {
        state := .movingIn, client := client, prio := q.arg 29 1 % 8, cls := bits (q.arg 29 1) 7 4, maxLen := q.arg 32 4,
        epoch := q.arg 6 2, posOff := q.arg 44 4, conns := [cid] }
      match sum with
      | none => c.refuseOpen t cid q mine .noResource 0
      | some s =>
        if mine.isNone && !c.moveRoom s then drain (c.refuseOpen t cid q mine .noResource 0) else
        match c.moveCtx t own s new with
        | .error (st, d) => c.refuseOpen t cid q mine st d
        | .ok (i, c1) => match c1.commitAll t i n parked with
          | none => drain ((c.bump (.client client 6)).refuseOpen t cid q mine .deferredMemory 0)
          | some c =>
            let m : Move := {
              initiator := q.arg 4 2 % 2 ^ 14, id := q.arg 2 2, type := (MoveType.ofCode (q.arg 1 1)).getD .migrate, source := false,
              phase := .bulk, ctx := i, handle := c.handle i, peerNode := q.src, peerHandle := q.arg 8 4, oldEpoch := q.arg 52 2,
              newEpoch := q.arg 6 2, tag := q.arg 16 8, conn := cid, client := client, arrival := arrival, expected := q.arg 40 4,
              ttl := q.arg 48 4, carried := q.arg 56 4, summit := s }
            let (r, c) := match mine, rec_ with
              | some r, some old => (r, c.updMove r (fun _ => { m with mbox := old.mbox, syncObj := old.syncObj }))
              | _, _ => c.addMove m
            let c := if mine.isSome then c.answered r 0x31 1 else c
            let c := c.answerMsg t cid q 0x32 (stateAck (m.head 1) .ok 0 32 0 0 0)
            (c.moveStarted r).watchFree t

/-- The loser of a collision (R141, R192): its push ends, MOVE_START completes with BUSY, its frames go, and its context is free to receive. Its
accepted work ends with STALE_HANDLE: a layer that has started once its partials have come, the rest at once. -/
def Core.loseMove (t : Top) (r i : Nat) (c : Core) : Core :=
  let c := c.endMove t r .aborted false .busy 0x000001
  let idle := (c.itemsOf i).filter (fun e => !((e.2.run.map LayerRun.started).getD false))
  let c := idle.foldl (fun c e => c.failItem t e.1 .staleHandle 0) c
  let c := (c.failParts t i .staleHandle 0).freePages t i
  c.updCtx i (fun x => { x with state := .movingIn, prior := .free, cut := false, ttlAt := none, ttlLeft := none })

/-- STATE_PUSH OPEN (R117, R125, R140, R141). -/
def Core.pushOpen (t : Top) (cid : Nat) (q : Msg) (c : Core) : Core :=
  if t.dev ≠ .bound then c.refuseMsg t cid q .stateReject (stateDetail .device t.dev.code)
  else if q.arg 24 4 ≠ c.jobId then c.refuseMsg t cid q .authFail 0
  else if c.quiesced then c.refuseMsg t cid q .jobFaulted 0
  else
    let mine := c.findMove (q.arg 4 2 % 2 ^ 14) (q.arg 2 2)
    let waits := fun (m : Move) => m.type == .resume && !m.source && m.ctx == 0 && m.ended.isNone
    if (mine.map (fun e => !waits e.2)).getD false then c.refuseMsg t cid q .busy 0
    else
      let mine := mine.map Prod.fst
      let tag := q.arg 16 8
      let other := c.moves.find? (fun e => tag ≠ 0 && e.2.tag == tag && e.2.ended.isNone && some e.1 != mine && e.2.ctx != 0)
      match other with
      | none => c.acceptOpen t cid q none mine
      | some (r, m) =>
        let x := c.ctx m.ctx
        if x.state = .movingOut && m.source && m.phase = .opening && m.peerNode = q.src then
          if localWins m.oldEpoch (q.arg 52 2) t.nodeId q.src then
            c.refuseOpen t cid q mine .stateReject (stateDetail .context CtxState.movingOut.code)
          else (c.loseMove t r m.ctx).acceptOpen t cid q (some m.ctx) mine
        else if x.state = .faulted then c.refuseOpen t cid q mine (faultStatus x.cause) 0
        else if x.state = .movingOut || x.state = .movingIn || x.state = .draining then
          c.refuseOpen t cid q mine .stateReject (stateDetail .context x.state.code)
        else c.acceptOpen t cid q none mine

/-! ### The page stream at the source -/

/-- Bytes of summary that begin a page's stream (R82, R129). -/
def Core.sumBytes (c : Core) : Nat := 4 * shH c.shape * shD c.shape

/-- What a move sends of a page (R128, R129, R142): fill, digest and data; an attach's partial last page carries positions
below N only. -/
def Core.pageToSend (c : Core) (m : Move) (pg : Nat) (p : PageObj) : Nat × BitVec 32 × Mem :=
  if m.type = .attach && m.prefixLen < 256 * pg + p.fill then
    let n := m.prefixLen - 256 * pg
    let data := cutSlots p.fmt (shH c.shape) (shD c.shape) n p.fill p.data
    (n, pageDigest p.fmt (shH c.shape) (shD c.shape) data, data)
  else (p.fill, p.digest, p.data)

/-- A page's stream (R129): the summary, zero for a tail page, and then the page data. -/
def Core.streamOf (c : Core) (p : PageObj) (fill : Nat) (data : Mem) : List Byte :=
  (if fill = 256 then fit c.sumBytes (p.summary.getD []) else zeros c.sumBytes) ++ data.readN 0 (c.bytesIn p.fmt)

/-- A SentPage changed. -/
def Move.onSent (m : Move) (l pg : Nat) (f : SentPage → SentPage) : Move :=
  { m with sent := m.sent.map (fun s => if s.layer == l && s.page == pg then f s else s) }

/-- Stream bytes of a page. -/
def Core.streamLen (c : Core) (p : PageObj) : Nat := c.sumBytes + c.bytesIn p.fmt

/-- A page of a move has been sent from: an attach's donor notes every page, pinned, from the COPY on (R142). -/
def Move.begun (m : Move) (s : SentPage) : Bool := m.type != .attach || 0 < s.sent || 0 < s.attempt || s.acked

/-- The next page of a move's order to send from (R128): a page in progress or asked for again comes first. -/
def Core.nextToSend (c : Core) (m : Move) : Option SentPage :=
  let open_ := fun (s : SentPage) => match c.pageOf m.ctx s.layer s.page with
    | some (_, p) => m.begun s && !s.acked && s.sent < c.streamLen p
    | none => false
  match m.sent.find? open_ with
  | some s => some s
  | none => ((m.ready.filter (fun k => !m.sent.any (fun s => s.layer == k.1 && s.page == k.2 && m.begun s))).head?).map
      (fun k => (m.sent.find? (fun s => s.layer == k.1 && s.page == k.2)).getD { layer := k.1, page := k.2, attempt := 0, sent := 0, at_ := 0 })

/-- The body of a STATE_PUSH PAGE after its head (R121). -/
def pageBody (s : SentPage) (poison : Bool) (p : PageObj) (fill : Nat) (digest : BitVec 32) (total : Nat) (frag : List Byte) :
    List Byte :=
  le 2 s.layer ++ le 2 s.page ++ le 1 s.attempt ++ le 1 (b2n poison) ++ le 1 p.fmt.code ++ zeros 1 ++ le 2 fill ++ zeros 2 ++
  le 4 digest.toNat ++ le 4 total ++ le 4 s.sent ++ le 4 frag.length ++ zeros 4 ++ frag

/-- One fragment sent (R53, R92, R101, R128 to R130): before its first, the page is written back where its tier-0 copy is dirty, and its digest is
checked; a page that reads poisoned goes with POISON set and no data. With no room for its references it waits. -/
def Core.sendFragment (t : Top) (r : Nat) (m : Move) (s : SentPage) (c : Core) : Core :=
  match c.pageOf m.ctx s.layer s.page with
  | none => c
  | some (o, p) =>
    let counted := m.sent.any (fun x => x.layer == s.layer && x.page == s.page)
    if s.sent = 0 && (!c.hasRef m.ctx .msg || (!counted && !c.hasRef m.ctx .pin)) then c else
    let c := c.abandon t o
    let note := fun (n : Nat) (c : Core) => c.setMove r (fun m =>
      let m := { m with credits := m.credits - 1 }
      if m.sent.any (fun x => x.layer == s.layer && x.page == s.page) then
        m.onSent s.layer s.page (fun x => { x with sent := n, at_ := t.now })
      else { m with sent := m.sent ++ [{ s with sent := n, at_ := t.now }] })
    let checked := if s.sent = 0 then c.checkPage t o p.fastest m.handle else (c, !p.poison)
    if checked.2 then
      let c := checked.1
      let (fill, dig, data) := c.pageToSend m s.page p
      let st := c.streamOf p fill data
      let frag := (st.drop s.sent).take 65536
      (note (s.sent + frag.length) c).moveMsg t r 0x30 2 2 (pageBody s false p fill dig st.length frag) none
    else
      let c := (note (c.streamLen p) c).moveMsg t r 0x30 2 2 (pageBody s true p p.fill p.digest 0 []) none
      (c.checkPage t o p.fastest m.handle).1

/-- The connections of a move's old placement (R134). -/
def Core.markConns (c : Core) (m : Move) : List Nat :=
  let x := c.ctx m.ctx
  if x.connsOver then Tbl.keys (c.fabric.conns.filter (fun e => e.2.state == .opened)) else (x.conns ++ [m.conn]).dedup

/-- DRAIN_MARK MARK on every connection of the old placement (R134): one that carries nothing counts as drained. -/
def Core.sendMarks (t : Top) (r : Nat) (m : Move) (c : Core) : Core :=
  let all := c.markConns m
  let up := all.filter (fun n => (c.conn n).state == .opened || (c.conn n).state == .opening)
  let c := c.updMove r (fun m => { m with marked := true, paths := all.length, phase := .drain })
  up.foldl (fun c n => c.moveAsk t r n 0x33 1 0 5 (le 2 m.oldEpoch ++ le 2 n ++ zeros 4)) c

/-- COMPLETE once every used connection is drained (R134). -/
def Core.drainCheck (t : Top) (r : Nat) (c : Core) : Core :=
  match c.moves.get? r with
  | none => c
  | some m =>
    if m.ended.isSome || !m.marked || m.completeSent || (c.moveReqs r).vals.any (fun q => q.type == 0x33) then c
    else (c.updMove r (fun m => { m with completeSent := true })).moveMsg t r 0x33 3 5
      (le 2 m.oldEpoch ++ zeros 2 ++ le 2 m.paths ++ zeros 2) none

/-- CUTOVER sent (R121, R132): MIGRATE arrives in the source's state. -/
def Core.sendCutover (t : Top) (r : Nat) (c : Core) : Core :=
  match c.moves.get? r with
  | none => c
  | some m =>
    let x := c.ctx m.ctx
    let arrival := if m.type = .migrate then x.prior else m.arrival
    let c := c.updMove r (fun m => { m with
      cutSent := true, arrival := arrival, finalLen := c.curLen x, carried := m.sent.length })
    c.moveAsk t r m.conn 0x30 3 0 2 (le 4 (c.curLen x) ++ le 4 m.sent.length ++ le 1 arrival.code ++ zeros 7)

/-- Every page that holds tokens is in its move's order: none awaits a write-back (R128, R132). -/
def Core.allReady (c : Core) (m : Move) : Bool :=
  (c.pagesInOrder (c.ctx m.ctx)).all (fun (l, pg, r) => ((c.page r.obj).map PageObj.fill).getD 0 == 0 || m.ready.contains (l, pg))

/-- MOVE_PAGE_PUSH (R128, R130, R132, R134): the next fragment while a credit is held; with no page left after cutover,
CUTOVER and the drain markers, with room for their references (R53). -/
def Core.pagePush (t : Top) (r : Nat) (c : Core) : Core :=
  let c := c.noteReady
  match c.moves.get? r with
  | none => c
  | some m =>
    if !m.source || m.ended.isSome || m.phase = .opening then c
    else match c.nextToSend m with
      | some s => if m.credits = 0 then c else c.sendFragment t r m s
      | none =>
        if m.cut && !m.cutSent && (c.itemsOf m.ctx).isEmpty && c.allReady m && c.hasRef m.ctx .msg (1 + (c.markConns m).length) then
          ((c.sendCutover t r).sendMarks t r m).drainCheck t r
        else c

/-! ### The source's end -/

/-- A move complete at its source (R134): the context drains and its pages are freed. -/
def Core.sourceDone (t : Top) (r : Nat) (event : Bool) (st : Status) (c : Core) : Core :=
  match c.moves.get? r with
  | none => c
  | some m =>
    let c := c.endMove t r .done event st 0
    if (c.ctx m.ctx).state = .movingOut then (c.enterDraining t m.ctx).freePages t m.ctx else c

/-- A page lost at the source after all its attempts (R137): before cutover the move aborts; after it the destination is told,
and the move ends here as though complete. -/
def Core.sourceLost (t : Top) (r l pg : Nat) (c : Core) : Core :=
  match c.moves.get? r with
  | none => c
  | some m =>
    if !m.cut then c.abortMove t r .stalled 0 true
    else
      let c := c.raise t 0x0302 (ctxDie m.ctx) m.handle (le 2 l ++ le 2 pg)
      let c := if m.cutSent then c else c.sendCutover t r
      (c.moveMsg t r 0x30 4 2 (statusBytes .stalled 0) none).sourceDone t r true .ok

/-- An attach's donor has had every page acknowledged (R142). -/
def Core.donorCheck (t : Top) (r : Nat) (c : Core) : Core :=
  match c.moves.get? r with
  | none => c
  | some m => if m.type = .attach && m.source && m.sent.all SentPage.acked then c.endMove t r .done true .ok 0 else c

/-! ### The destination's end -/

/-- An acknowledgement of a page with the credits owed (R123, R130). -/
def Core.ackPage (t : Top) (r : Nat) (st : Status) (l pg attempt : Nat) (c : Core) : Core :=
  match c.moves.get? r with
  | none => c
  | some m =>
    (c.updMove r (fun m => { m with owed := 0 })).moveMsg t r 0x32 2 m.pageCls
      (statusBytes st 0 ++ le 2 (min 32 m.owed) ++ le 2 l ++ le 2 pg ++ le 1 attempt ++ zeros 5) none

/-- Credits returned once 8 fragments have been written since the last return (R130). -/
def Core.ackCredits (t : Top) (r : Nat) (c : Core) : Core :=
  match c.moves.get? r with
  | none => c
  | some m =>
    if m.owed < 8 then c
    else (c.updMove r (fun m => { m with owed := 0 })).moveMsg t r 0x32 5 m.pageCls (statusBytes .ok 0 ++ le 2 (min 32 m.owed) ++ zeros 10) none

/-- A context enters the state that its move carries (R57, R134, R144). -/
def Core.arrive (t : Top) (m : Move) (c : Core) : Core :=
  let i := m.ctx
  if m.arrival = .parked then
    let c := c.updCtx i (fun x => { x with state := .paused, cut := false })
    c.enterParked t i (if m.ttl = 0 then (c.client (c.ctx i).client).ttl else m.ttl) false
  else c.updCtx i (fun x => { x with
    state := m.arrival, cut := false, joining := m.arrival == .prompt || m.arrival == .generate })

/-- An attach complete at the attacher (R57, R142, R143). -/
def Core.attachDone (t : Top) (r : Nat) (m : Move) (c : Core) : Core :=
  let toks := (List.range (shLayers c.shape)).map (fun l => (l, m.prefixLen))
  let c := c.updCtx m.ctx (fun x => { x with attaching := false, tokens := toks })
  ((c.moveStarted r).endMove t r .done true .ok 0).onSched (fun s => { s with coolUntil := none })

/-- The destination's completion (R134): COMPLETE has come and every page is acknowledged. -/
def Core.finishMove (t : Top) (r : Nat) (c : Core) : Core :=
  match c.moves.get? r with
  | none => c
  | some m =>
    let have_ := (m.recv.filter RecvPage.complete).length
    if m.source || m.ended.isSome || have_ < m.carried then c
    else if m.type = .attach then c.attachDone t r m
    else if m.complete && m.cut && (c.ctx m.ctx).state = .movingIn then
      let c := c.arrive t m
      let c := c.moveMsg t r 0x32 6 m.doneCls (statusBytes .ok 0 ++ zeros 12) none
      c.endMove t r .done true .ok 0
    else c

/-- A page lost at the destination (R137). -/
def Core.destLost (t : Top) (r l pg : Nat) (c : Core) : Core :=
  match c.moves.get? r with
  | none => c
  | some m =>
    if !m.cut then c.abortMove t r .stalled 0 true
    else (c.raise t 0x0302 (ctxDie m.ctx) m.handle (le 2 l ++ le 2 pg)).faultCtx t m.ctx 3

/-- A received page changed. -/
def Move.onRecv (m : Move) (l pg : Nat) (f : RecvPage → RecvPage) : Move :=
  { m with recv := m.recv.map (fun s => if s.layer == l && s.page == pg then f s else s) }

/-- The received page of a move. -/
def Move.recvOf (m : Move) (l pg : Nat) : Option RecvPage := m.recv.find? (fun s => s.layer == l && s.page == pg)

/-- A page key for a request's tag. -/
def tagKey (l pg : Nat) : Nat := l * 4096 + pg

/-- A partial or bad page discarded and asked for again (R136, R137); without room for the reference that asking takes (R53) it is lost. -/
def Core.refetch (t : Top) (r l pg : Nat) (st : Status) (c : Core) : Core :=
  match c.moves.get? r with
  | none => c
  | some m => match m.recvOf l pg with
    | none => c
    | some p =>
      let c := match c.pageOf m.ctx l pg with
        | some (o, _) => c.updPage o (fun x => { x with refetch := true })
        | none => c
      let c := c.updMove r (fun m => ({ m with stalls := m.stalls + 1 } : Move).onRecv l pg (fun x => { x with
        attempt := p.attempt + 1, got := [], bytes := [], stallAt := none }))
      let c := c.ackPage t r st l pg p.attempt
      if 3 ≤ p.attempt || !c.hasRef m.ctx .msg then c.destLost t r l pg
      else c.moveAsk t r m.conn 0x31 3 (tagKey l pg) 2 (zeros 12 ++ le 2 l ++ le 2 pg ++ le 1 (p.attempt + 1) ++ zeros 3)

/-- A page whose stream has arrived (R129): the digest is checked, the page written, and the page acknowledged. -/
def Core.pageArrived (t : Top) (r l pg : Nat) (c : Core) : Core :=
  match c.moves.get? r with
  | none => c
  | some m => match m.recvOf l pg, c.pageOf m.ctx l pg with
    | some p, some (o, _) =>
      let hn := shH c.shape
      let d := shD c.shape
      let data := Mem.writeN [] 0 ((p.bytes.readN 0 p.total).drop c.sumBytes)
      let fmt := Fmt.ofCode p.fmt
      let good := if p.poison then true else match fmt with
        | some f => p.total = c.sumBytes + pageBytes f hn d && pageDigest f hn d data = p.digest
        | none => false
      if !good then c.refetch t r l pg .checkFail
      else
        let tier := if m.arrival = .parked && (c.pageOf m.ctx l pg).any (fun e => e.2.t2.isSome && e.2.t1.isNone) then 2 else 1
        let c := c.updPage o (fun x => { (x.setTier tier true true) with
          fmt := fmt.getD x.fmt, fill := p.fill, data := if p.poison then [] else data,
          digest := if p.poison then x.digest else p.digest, poison := p.poison, refetch := false, badTiers := 0, appended := t.now,
          summary := if p.fill = 256 && !p.poison then some (p.bytes.readN 0 c.sumBytes) else none })
        let c := c.updCtx m.ctx (fun x =>
          if m.type = .attach then x else { x with tokens := x.tokens.set l (max (x.held1 l) (256 * pg + p.fill)) })
        let c := c.updMove r (fun m => ({ m with acked := m.acked + 1 } : Move).onRecv l pg (fun x => { x with
          complete := true, bytes := [], got := [], stallAt := none }))
        ((c.ackPage t r .ok l pg p.attempt).finishMove t r).holdAll t
    | _, _ => c

/-- A fragment that is dropped: counted as LATE_FRAGMENT, its credit returned (R137, R130). -/
def Core.lateFragment (t : Top) (r : Nat) (c : Core) : Core :=
  match c.moves.get? r with
  | none => c
  | some m => ((c.countStale m.ctx 3).updMove r (fun m => { m with late := m.late + 1, owed := m.owed + 1 })).ackCredits t r

/-- A fragment written (R129, R136). -/
def Core.writeFragment (t : Top) (r : Nat) (q : Msg) (c : Core) : Core :=
  let l := q.arg 16 2
  let pg := q.arg 18 2
  let off := q.arg 36 4
  let frag := (q.body.drop 48).take (q.arg 40 4)
  match c.moves.get? r with
  | none => c
  | some m =>
    let base : RecvPage := match m.recvOf l pg with
      | some p => p
      | none => { layer := l, page := pg, attempt := 0, total := 0, fmt := 0, fill := 0, digest := 0 }
    let p := { base with
      attempt := q.arg 20 1, got := base.got ++ [(off, frag.length)], bytes := base.bytes.writeN off frag, total := q.arg 32 4,
      fmt := q.arg 22 1, fill := q.arg 24 2, digest := BitVec.ofNat 32 (q.arg 28 4), poison := bit (q.arg 21 1) 0,
      stallAt := some (t.now + 1000 * c.stallUs) }
    let c := c.updMove r (fun m => { m with
      owed := m.owed + 1, recv := m.recv.filter (fun x => !(x.layer == l && x.page == pg)) ++ [p] })
    let c := c.answered r 0x31 (3 + 256 * tagKey l pg)
    -- the summary of a full page serves from fragment 0 on
    let c := if off = 0 && p.fill = 256 && !p.poison && c.sumBytes ≤ frag.length then
        (match c.pageOf m.ctx l pg with
         | some (o, _) => c.updPage o (fun x => { x with summary := some (frag.take c.sumBytes) })
         | none => c)
      else c
    if p.total ≤ sumL (p.got.map Prod.snd) then c.pageArrived t r l pg else c.ackCredits t r

/-- STATE_PUSH PAGE at the destination (R126, R129, R136, R137). A page outside the context is discarded and counted. A fragment of the present attempt
that repeats an offset, lies at none of R121's or goes beyond its stream is dropped and counted as LATE_FRAGMENT: the manual does not say what becomes
of one (DESIGN CHOICE, log 169). -/
def Core.pushPage (t : Top) (r : Nat) (m : Move) (q : Msg) (c : Core) : Core :=
  let l := q.arg 16 2
  let pg := q.arg 18 2
  let att := q.arg 20 1
  let off := q.arg 36 4
  let len := q.arg 40 4
  let x := c.ctx m.ctx
  if m.source || m.ended.isSome then c
  else if shLayers c.shape ≤ l || x.pagesP ≤ pg || 3 < att then c.bump (.pass (m.conn / 4096) 14)
  else
    let c := (c.answered r 0x31 2).updMove r (fun m => { m with pageCls := q.cls })
    let old := m.recvOf l pg
    let present := (old.map RecvPage.attempt).getD 0
    let done := (old.map RecvPage.complete).getD false
    if done then
      if present < att && off = 0 then
        ((c.countStale m.ctx 3).updMove r (fun m => ({ m with late := m.late + 1, owed := m.owed + 1 } : Move).onRecv l pg (fun p => { p with attempt := att }))).ackPage t r .ok l pg att
      else c.lateFragment t r
    else if att < present then c.lateFragment t r
    else
      -- the source has sent the page again after its own timeout
      let c := if present < att then c.updMove r (fun m => m.onRecv l pg (fun p => { p with attempt := att, got := [], bytes := [] })) else c
      let old := ((c.moves.get? r).bind (fun m => m.recvOf l pg))
      if (old.map (fun p => p.got.any (fun g => g.1 == off))).getD false || off % 65536 ≠ 0 || q.arg 32 4 < off + len then
        c.lateFragment t r
      else if (c.pageOf m.ctx l pg).isSome then c.writeFragment t r q
      else
        let parked := m.arrival == .parked
        match (if c.fitsMove t x.client 1 parked then c.commitFor t m.ctx parked l pg else none) with
        | some c => (c.watchFree t).writeFragment t r q
        | none => (c.ackPage t r .deferredMemory l pg att).abortMove t r .deferredMemory 0 true

/-- STATE_PUSH CUTOVER at the destination (R121, R133). -/
def Core.pushCutover (t : Top) (cid r : Nat) (m : Move) (q : Msg) (c : Core) : Core :=
  if m.source || m.ended.isSome || m.type = .attach then c
  else
    let len := q.arg 16 4
    let toks := (List.range (shLayers c.shape)).map (fun l => (l, len))
    let c := c.updMove r (fun m => { m with
      cut := true, phase := .tail, finalLen := len, carried := q.arg 20 4, arrival := (CtxState.ofCode (q.arg 24 1)).getD m.arrival })
    let c := c.updCtx m.ctx (fun x => { x with cut := true, joining := true, tokens := toks.filter (fun e => 0 < e.2) })
    let c := c.answerMsg t cid q 0x32 (stateAck (m.head 3) .ok 0 0 0 0 0)
    (c.joinHeld t m.ctx).finishMove t r

/-- The first page, in layer order, that a destination still lacks. -/
def Core.firstLacking (c : Core) (m : Move) : Nat × Nat :=
  (((c.pagesInOrder (c.ctx m.ctx)).map (fun (l, pg, _) => (l, pg))).find? (fun k => !((m.recvOf k.1 k.2).map RecvPage.complete).getD false)).getD (0, 0)

/-- STATE_PUSH ABORT (R134, R137 to R139): after cutover a destination has lost pages; a COMPLETE already here is answered, and where the source has
lost a page a page-lost event is raised here too, for the first page that is lacking, as the ABORT does not name it (DESIGN CHOICE, log 173). An ABORT
from a destination that has not seen CUTOVER finds a source past its own cutover: the manual does not say whose cutover counts, and the source returns
to its prior state and does not drain (DESIGN CHOICE, log 170). -/
def Core.pushAbort (t : Top) (r : Nat) (m : Move) (q : Msg) (c : Core) : Core :=
  let st := (Status.ofCode (q.arg 16 1)).getD .ok
  if m.ended.isSome then c
  else if !m.source && m.cut then
    let c := if m.complete then c.moveMsg t r 0x32 6 m.doneCls (statusBytes (faultStatus 3) 0 ++ zeros 12) none else c
    let c := if st = .stalled then
        (let k := c.firstLacking m; c.raise t 0x0302 (ctxDie m.ctx) m.handle (le 2 k.1 ++ le 2 k.2)) else c
    let c := c.endMove t r .aborted false st (q.arg 17 3)
    c.faultCtx t m.ctx 3
  else c.abortMove t r st (q.arg 17 3) false

/-- DRAIN_MARK COMPLETE at the destination (R134). -/
def Core.markComplete (t : Top) (r : Nat) (m : Move) (q : Msg) (c : Core) : Core :=
  if m.source || m.ended.isSome then c
  else (c.updMove r (fun m => { m with complete := true, phase := .drain, doneCls := q.cls })).finishMove t r

/-! ### Messages that name a record -/

/-- A move message that names no record, or bears another epoch (R119): counted as EPOCH_STALE on the die of the local handle
that it bears, and answered where an answer is due. -/
def Core.staleMove (t : Top) (cid : Nat) (q : Msg) (h : Nat) (c : Core) : Core :=
  (c.countStale (hIndex h) 2).refuseMsg t cid q .staleHandle 0

/-- What R51 and R58 make of a message of a move that names a local context: a stale handle is counted and refused, and STATE_PUSH, STATE_PULL and
DRAIN_MARK to a context in DRAINING or FAULTED are refused. An ABORT is answered by nothing, and one sent before the OPEN was accepted names no handle. -/
def Core.moveRefused (t : Top) (cid h : Nat) (q : Msg) (c : Core) : Option Core :=
  let x := c.ctx (hIndex h)
  let abort := q.type == 0x30 && q.arg 0 1 == 4
  if abort && h = 0 then none
  else if c.stale t h then some ((c.countStale (hIndex h) 0).refuseMsg t cid q .staleHandle 0)
  else if abort || q.type = 0x32 then none
  else if x.state = .draining then some (c.refuseMsg t cid q .stateReject (stateDetail .context x.state.code))
  else if x.state = .faulted then some (c.refuseMsg t cid q (faultStatus x.cause) 0)
  else none

/-- A message matched to its record by initiator and move ID, bearing the move's epoch (R51, R58, R119). -/
def onMove (src : Bool) (f : Top → Core → Nat → Nat → Move → Msg → Core) (t : Top) (c : Core) (cid : Nat) (q : Msg) : Core :=
  let local_ := if src then q.arg 8 4 else q.arg 12 4
  match c.moveRefused t cid local_ q with
  | some c => c
  | none => match c.findMove (q.arg 4 2 % 2 ^ 14) (q.arg 2 2) with
  | some (r, m) => if q.arg 6 2 = m.wire && m.source = src then f t c cid r m q else c.staleMove t cid q local_
  | none => c.staleMove t cid q local_

/-- STATE_PULL OPEN at the source (R127, R140). -/
def Core.pullOpen (t : Top) (cid : Nat) (q : Msg) (c : Core) : Core :=
  let h := q.arg 8 4
  let i := hIndex h
  let x := c.ctx i
  if t.dev ≠ .bound then c.refuseMsg t cid q .stateReject (stateDetail .device t.dev.code)
  else if c.stale t h then (c.countStale i 0).refuseMsg t cid q .staleHandle 0
  else if x.state = .faulted then c.refuseMsg t cid q (faultStatus x.cause) 0
  else if !MoveType.resume.from_.contains x.state then c.refuseMsg t cid q .stateReject (stateDetail .context x.state.code)
  else if (c.findMove (q.arg 4 2 % 2 ^ 14) (q.arg 2 2)).isSome then c.refuseMsg t cid q .busy 0
  else if !c.moveRoom (i / 32768) || !c.hasRef i .msg then c.refuseMsg t cid q .noResource 0
  else
    let m : Move := {
      initiator := q.arg 4 2 % 2 ^ 14, id := q.arg 2 2, type := .resume, source := true, phase := .opening, ctx := i, handle := h,
      peerNode := q.src, oldEpoch := x.epoch, newEpoch := (x.epoch + 1) % 65536, tag := q.arg 16 8, conn := cid, client := 0xFF,
      arrival := .paused, summit := i / 32768 }
    let (r, c) := c.addMove m
    (c.answerMsg t cid q 0x32 (stateAck (m.head 7) .ok 0 0 0 0 0)).startPush t r

/-- STATE_PULL COPY at the donor (R53, R142): each page of the prefix is pinned, which abandons a write-down of it (R240), and pushed as it becomes
ready (R128); the first pages carry 32 credits. -/
def Core.pullCopy (t : Top) (cid : Nat) (q : Msg) (c : Core) : Core :=
  let h := q.arg 8 4
  let i := hIndex h
  let x := c.ctx i
  let n := q.arg 24 4
  if t.dev ≠ .bound then c.refuseMsg t cid q .stateReject (stateDetail .device t.dev.code)
  else if c.stale t h then (c.countStale i 0).refuseMsg t cid q .staleHandle 0
  else if x.state = .faulted then c.refuseMsg t cid q (faultStatus x.cause) 0
  else if !MoveType.attach.from_.contains x.state then c.refuseMsg t cid q .stateReject (stateDetail .context x.state.code)
  else if n = 0 || c.curLen x < n then c.refuseMsg t cid q .badArg 24
  else if (c.findMove (q.arg 4 2 % 2 ^ 14) (q.arg 2 2)).isSome then c.refuseMsg t cid q .busy 0
  else if !c.moveRoom (i / 32768) || !c.hasRef i .pin (shLayers c.shape * pagesOf n) then c.refuseMsg t cid q .noResource 0
  else
    let ps := (shOrder c.shape).flatMap (fun l => (List.range (pagesOf n)).map (fun p => (l, p)))
    let m : Move := {
      initiator := q.arg 4 2 % 2 ^ 14, id := q.arg 2 2, type := .attach, source := true, phase := .bulk, ctx := i, handle := h,
      peerNode := q.src, peerHandle := q.arg 12 4, oldEpoch := x.epoch, newEpoch := x.epoch, conn := cid, prefixLen := n,
      credits := 32, carried := ps.length, summit := i / 32768 }
    let c := ps.foldl (fun c k => match c.pageOf i k.1 k.2 with
      | some (o, _) => c.abandon t o
      | none => c) c
    let (r, c) := (c.updCtx i (Ctx.noteConn cid)).addMove m
    (c.setMove r (fun m => { m with sent := ps.map (fun k => { layer := k.1, page := k.2, attempt := 0, sent := 0, at_ := t.now }) })).noteReady

/-- STATE_PULL PAGE at the source (R136): the page is sent again with the attempt asked for. -/
def Core.pullPage (r : Nat) (m : Move) (q : Msg) (c : Core) : Core :=
  if m.ended.isSome || 3 < q.arg 32 1 then c
  else c.setMove r (fun m => m.onSent (q.arg 28 2) (q.arg 30 2) (fun s => { s with attempt := q.arg 32 1, sent := 0, acked := false }))

/-- A move whose cutover now awaits a boundary makes one due (R445). -/
def Core.cutDue (r : Nat) (c : Core) : Core :=
  match c.moves.get? r with
  | some m => if c.cutReady m then c.onSched (fun s => { s with due := true }) else c
  | none => c

/-- STATE_ACK OPEN at the source (R115, R125, R127, R130): accepted, the bulk begins with 32 credits, and a context that need
not wait for a boundary is cut over at once; refused, the context keeps its state. -/
def Core.ackOpen (t : Top) (r : Nat) (m : Move) (q : Msg) (c : Core) : Core :=
  if m.ended.isSome || m.phase ≠ .opening then c
  else
    let c := c.answered r 0x30 1
    let st := (Status.ofCode (q.arg 16 1)).getD .ok
    if st = .ok then
      let c := c.updMove r (fun m => { m with peerHandle := q.arg 12 4, credits := q.arg 20 2, phase := .bulk })
      let c := c.moveStarted r
      let prior := (c.ctx m.ctx).prior
      let now : Bool := match m.type with
        | .park | .resume => prior != .generate
        | .handoff => m.started == .prompt && prior == .generate
        | _ => false
      ((if now then c.cutMove t r else c).noteReady).cutDue r
    else
      let c := c.endMove t r .aborted false st (q.arg 17 3)
      c.sourceBack t m.ctx

/-- STATE_ACK PULL at the initiator (R127, R142): a refusal ends the move. -/
def Core.ackPull (t : Top) (q : Msg) (c : Core) : Core :=
  match c.findMove (q.arg 4 2 % 2 ^ 14) (q.arg 2 2) with
  | none => c.countStale (hIndex (q.arg 12 4)) (if q.arg 12 4 ≠ 0 && c.stale t (q.arg 12 4) then 0 else 2)
  | some (r, m) =>
    if m.ctx ≠ 0 && c.stale t (q.arg 12 4) then c.countStale (hIndex (q.arg 12 4)) 0 else
    let st := (Status.ofCode (q.arg 16 1)).getD .ok
    let asked := (c.moveReqs r).vals.any (fun x => x.type == 0x31 && (x.tag == 1 || x.tag == 2))
    let c := (c.answered r 0x31 1).answered r 0x31 2
    if st = .ok || m.source || m.ended.isSome || !asked then c
    else if m.type = .attach then c.abortMove t r st (q.arg 17 3) false
    else if m.ctx = 0 then c.endMove t r .aborted false st (q.arg 17 3)
    else c

/-- STATE_ACK PAGE at the source (R129, R130, R136, R137). -/
def Core.ackPageIn (t : Top) (r : Nat) (m : Move) (q : Msg) (c : Core) : Core :=
  if m.ended.isSome then c
  else
    let l := q.arg 22 2
    let pg := q.arg 24 2
    let att := q.arg 26 1
    let st := (Status.ofCode (q.arg 16 1)).getD .ok
    let c := c.updMove r (fun m => { m with credits := m.credits + q.arg 20 2 })
    match m.sent.find? (fun s => s.layer == l && s.page == pg) with
    | none => c
    | some s =>
      if st = .ok then
        if s.acked then c
        else
          let c := c.setMove r (fun m => ({ m with acked := m.acked + 1 } : Move).onSent l pg (fun s => { s with acked := true }))
          (c.cutDue r).donorCheck t r
      else if (st = .stalled || st = .checkFail) && 3 ≤ att && m.cut then
        (c.updMove r (fun m => { m with lost := true })).raise t 0x0302 (ctxDie m.ctx) m.handle (le 2 l ++ le 2 pg)
      else c

/-- STATE_ACK CREDIT at the source (R130). -/
def Core.ackCredit (r : Nat) (m : Move) (q : Msg) (c : Core) : Core :=
  if m.ended.isSome then c else c.updMove r (fun m => { m with credits := m.credits + q.arg 20 2 })

/-- STATE_ACK DONE at the source (R134, R137, R139). -/
def Core.ackDone (t : Top) (r : Nat) (m : Move) (q : Msg) (c : Core) : Core :=
  if m.ended.isSome || !m.cut then c
  else
    let st := if m.lost then .ok else (Status.ofCode (q.arg 16 1)).getD .ok
    c.sourceDone t r (st = .ok) st

/-- DRAIN_MARK ECHO (R134): the connection on which it comes is drained. -/
def Core.markEcho (t : Top) (cid : Nat) (q : Msg) (c : Core) : Core :=
  if c.stale t (q.arg 8 4) then c.countStale (hIndex (q.arg 8 4)) 0
  else match c.findMove (q.arg 4 2 % 2 ^ 14) (q.arg 2 2) with
  | none => c.countStale (hIndex (q.arg 8 4)) 2
  | some (r, m) =>
    if q.arg 6 2 ≠ m.wire || !m.source then c.countStale m.ctx 2
    else
      let ks := Tbl.keys ((c.moveReqs r).filter (fun e => e.2.type == 0x33 && e.2.conn == cid))
      (ks.foldl (fun c k => c.dropReq k) c).drainCheck t r

/-- DRAIN_MARK MARK (R135): every earlier message of the connection has been delivered when this one is, and it is echoed. Where this node holds the
move's destination, its handle, the state of its context and its epoch are tested as R51, R58 and R119 give; an ECHO carries no status, so a MARK that fails
is discarded with none. A node without the record, which only the connection concerns, echoes it (log 174). -/
def Core.markArrives (t : Top) (cid : Nat) (q : Msg) (c : Core) : Core :=
  let echo := c.answerMsg t cid q 0x33 (le 1 2 ++ fit 21 (q.body.drop 1) ++ zeros 2)
  match c.findMove (q.arg 4 2 % 2 ^ 14) (q.arg 2 2) with
  | none => echo
  | some (_, m) =>
    if m.source then echo
    else match c.moveRefused t cid (q.arg 12 4) q with
      | some c => c
      | none => if q.arg 6 2 = m.wire then echo else c.staleMove t cid q (q.arg 12 4)

/-! ### Requests that fail -/

/-- A move's request that ends without its answer (R134, R136, R138, R317): an OPEN or a pull that opens aborts the move; a
page asked for again fails its attempt; a marked connection counts as drained. -/
def Core.moveReqFails (t : Top) (r : Nat) (x : Req) (st : Status) (c : Core) : Core :=
  match c.moves.get? r with
  | none => c
  | some m =>
    if m.ended.isSome then c
    else if (x.type = 0x30 && x.tag = 1) || (x.type = 0x31 && (x.tag = 1 || x.tag = 2)) then c.abortMove t r st 0 true
    else if x.type = 0x31 then
      let k := x.tag / 256
      c.refetch t r (k / 4096) (k % 4096) .stalled
    else if x.type = 0x33 then (if st = .timeout then c.countStale m.ctx 4 else c).drainCheck t r
    else c

/-- A page whose acknowledgement has not come within the completion timeout (R136, R137). -/
def Core.pageUnacked (t : Top) (r l pg : Nat) (c : Core) : Core :=
  match c.moves.get? r with
  | none => c
  | some m => match m.sent.find? (fun s => s.layer == l && s.page == pg) with
    | none => c
    | some s =>
      if 3 ≤ s.attempt then c.sourceLost t r l pg
      else c.setMove r (fun m => m.onSent l pg (fun s => { s with attempt := s.attempt + 1, sent := 0 }))

/-- STALL_TIMER_EXPIRY (R136). -/
def Core.stallExpiry (t : Top) (r l pg : Nat) (c : Core) : Core :=
  match (c.moves.get? r).bind (fun m => if m.ended.isSome then none else m.recvOf l pg) with
  | some p => match p.stallAt with
    | some e => if e ≤ t.now && !p.complete then c.refetch t r l pg .stalled else c
    | none => c
  | none => c

/-! ### Prefix attach on one node -/

/-- The partial last page of an attach on the same node (R89, R142): copied into a new frame of the attaching context. -/
def Core.copyTail (t : Top) (i j n l : Nat) (c : Core) : Option Core :=
  let pg := n / 256
  match c.pageOf j l pg with
  | none => some c
  | some (o, _) =>
    let c := c.abandon t o
    let (c, _) := match c.page o with
      | some p => c.checkPage t o p.fastest (c.handle i)
      | none => (c, false)
    match c.page o, c.commitPage t i l pg true with
    | some p, some c =>
      let data := cutSlots p.fmt (shH c.shape) (shD c.shape) (n % 256) p.fill p.data
      match c.pageOf i l pg with
      | some (o', _) => some (c.updPage o' (fun x => { x with
          fmt := p.fmt, fill := n % 256, data := data, digest := pageDigest p.fmt (shH c.shape) (shD c.shape) data, poison := p.poison }))
      | none => some c
    | _, _ => none

/-- A prefix attached from a donor of the same node (R89, R142): its full pages are shared, its partial pages copied. -/
def Core.attachHere (t : Top) (i j n delta : Nat) (c : Core) : Option Core :=
  let c := c.updCtx i (fun x => { x with posOff := delta })
  let x := c.ctx i
  let y := c.ctx j
  let refs := (List.range (shLayers c.shape)).flatMap (fun l => (List.range (n / 256)).filterMap (fun p =>
    (y.ref l p).map (fun r => (x.pageKey l p, ({ obj := r.obj, base := 256 * p + delta } : PageRef)))))
  let c := c.updCtx i (fun x => { x with
    pages := refs.foldl (fun ps e => Tbl.set ps e.1 e.2) x.pages, tokens := (List.range (shLayers c.shape)).map (fun l => (l, n)) })
  if n % 256 = 0 then some c
  else (List.range (shLayers c.shape)).foldl (fun (c : Option Core) l => c.bind (fun c => c.copyTail t i j n l)) (some c)

/-! ### Commands -/

/-- A sequence tag that no record of a move still in progress bears (R140). -/
def Core.needTag (c : Core) (tag : Nat) : Chk Unit := need (tag == 0 || !c.moves.vals.any (fun x => x.tag == tag && x.ended.isNone)) .busy

/-- MOVE_START of ATTACH (R53, R140, R142, R143, R147). -/
def attachBody (t : Top) (c : Core) (m i peer n delta obj tag named : Nat) (a : Cmd) : Ans := do
  let x := c.ctx i
  need (x.state == .reserved && c.curLen x == 0 && !x.attaching) .stateReject (stateDetail .context x.state.code)
  needArg (1 ≤ n && n ≤ x.maxLen) 24
  needArg (delta ≤ 1048576 && x.maxLen + delta ≤ 2097152) 28
  if peer = t.nodeId then
    let h := a.arg 4 4
    let j := hIndex h
    let y := c.ctx j
    need (!c.stale t h) .staleHandle
    need (MoveType.attach.from_.contains y.state) .stateReject (stateDetail .context y.state.code)
    needArg (n ≤ c.curLen y) 24
    c.needTag tag
    need (c.moveRoom (i / 32768)) .noResource
    need (c.fitsMove t x.client (if n % 256 = 0 then 0 else shLayers c.shape) false) .deferredMemory
    match c.newMoveId t with
    | none => .error (.noResource, 0)
    | some (id, c) =>
      let mv : Move := {
        initiator := t.nodeId, id := id, type := .attach, source := false, phase := .bulk, ctx := i, handle := a.handle, peerNode := peer,
        peerHandle := h, oldEpoch := x.epoch, newEpoch := x.epoch, tag := tag, conn := 0xFFFF, syncObj := obj, prefixLen := n,
        summit := i / 32768 }
      match c.attachHere t i j n delta with
      | none => .error (.deferredMemory, 0)
      | some c =>
        let (r, c) := c.addMove mv
        ok ((c.endMove t r .done true .ok 0).watchFree t) (c.moveAnswer mv)
  else
    match c.connFor named peer with
    | none => .error (.badArg, 0x17)
    | some cid =>
      let pages := shLayers c.shape * pagesOf n
      c.needTag tag
      need (c.moveRoom (i / 32768) && c.hasRef i .msg) .noResource
      need (c.fitsMove t x.client pages false) .deferredMemory
      match c.newMoveId t with
      | none => .error (.noResource, 0)
      | some (id, c) =>
        let c := c.updCtx i (fun x => Ctx.noteConn cid { x with attaching := true, posOff := delta })
        match c.commitAll t i (pagesOf n) false with
        | none => .error (.deferredMemory, 0)
        | some c =>
          let (r, c) := c.addMove {
            initiator := t.nodeId, id := id, type := .attach, source := false, phase := .bulk, ctx := i, handle := a.handle,
            peerNode := peer, peerHandle := a.arg 4 4, oldEpoch := x.epoch, newEpoch := x.epoch, tag := tag, conn := cid, mbox := some m,
            syncObj := obj, prefixLen := n, carried := pages, summit := i / 32768 }
          waits ((c.moveAsk t r cid 0x31 2 0 2 (zeros 8 ++ le 4 n ++ zeros 8)).watchFree t)

/-- MOVE_START of RESUME (R127, R147): its record waits for the source's OPEN. -/
def resumeBody (t : Top) (c : Core) (m peer obj client tag named : Nat) (a : Cmd) : Ans := do
  need (!c.quiesced) .jobFaulted
  needArg (client == 0xFF || c.isClient client) 34
  match c.connFor named peer with
  | none => .error (.badArg, 0x17)
  | some cid =>
    c.needTag tag
    match bestSummit (c.admissible t) (c.moveSummits t), c.newMoveId t with
    | some s, some (id, c) =>
      let (r, c) := c.addMove {
        initiator := t.nodeId, id := id, type := .resume, source := false, phase := .opening, ctx := 0, handle := 0, peerNode := peer,
        peerHandle := a.arg 4 4, oldEpoch := 0, newEpoch := 0, tag := tag, conn := cid, mbox := some m, syncObj := obj, client := client,
        arrival := .paused, summit := s }
      waits (c.moveAsk t r cid 0x31 1 0 2 (le 8 tag ++ zeros 12))
    | _, _ => .error (.noResource, 0)

/-- MOVE_START of a push type (R115, R127, R147). -/
def pushBody (t : Top) (c : Core) (m : Nat) (y : MoveType) (peer arr obj client tag named : Nat) (a : Cmd) : Ans := do
  let i := hIndex a.handle
  let x := c.ctx i
  let exp := if y = .park then 0 else a.arg 16 4
  needArg (exp == 0 || (c.curLen x ≤ exp && exp ≤ x.maxLen)) 16
  match c.connFor named peer with
  | none => .error (.badArg, 0x17)
  | some cid =>
    c.needTag tag
    need (c.moveRoom (i / 32768) && c.hasRef i .msg) .noResource
    match c.newMoveId t with
    | none => .error (.noResource, 0)
    | some (id, c) =>
      let (r, c) := c.addMove {
        initiator := t.nodeId, id := id, type := y, source := true, phase := .opening, ctx := i, handle := a.handle, peerNode := peer,
        oldEpoch := x.epoch, newEpoch := (x.epoch + 1) % 65536, tag := tag, conn := cid, mbox := some m, syncObj := obj, client := client,
        arrival := (CtxState.ofCode arr).getD .generate, expected := exp, ttl := a.arg 20 4, summit := i / 32768 }
      waits (c.startPush t r)

/-- MOVE_START (R115, R116, R140, R146, R147): the type, the context's state, then the arguments in offset order. -/
def moveStartBody (t : Top) (c : Core) (m : Nat) (a : Cmd) : Ans := do
  match MoveType.ofCode (a.arg 0 1) with
  | none => .error (.badArg, 0)
  | some y =>
    let i := hIndex a.handle
    let x := c.ctx i
    need (!y.push || y.from_.contains x.state) .stateReject (stateDetail .context x.state.code)
    need (y != .attach || x.state == .reserved) .stateReject (stateDetail .context x.state.code)
    let arr := a.arg 1 1
    let peer := a.arg 2 2
    let tag := a.arg 8 8
    let obj := a.arg 32 2
    let client := a.arg 34 1
    needArg (if y = .park then arr == 4 || arr == 5 else arr == 0) 1
    needArg (peer < 0x3FFF && !(y.push && peer == t.nodeId)) 2
    needArg (obj < 16384 || obj == 0xFFFF) 32
    match y with
    | .attach => attachBody t c m i peer (a.arg 24 4) (a.arg 28 4) obj tag (a.arg 36 2) a
    | .resume => resumeBody t c m peer obj client tag (a.arg 36 2) a
    | y => pushBody t c m y peer arr obj client tag (a.arg 36 2) a

/-- The record that a command names (R147). -/
def Core.moveArg (c : Core) (a : Cmd) : Chk (Nat × Move) :=
  match c.findMove (a.arg 2 2) (a.arg 0 2) with
  | some e => .ok e
  | none => .error (.badArg, 0)

/-- MOVE_ABORT (R138): only before cutover; MOVE_START, if it still runs, ends with the move's phase. -/
def moveAbortBody (t : Top) (c : Core) (_m : Nat) (a : Cmd) : Ans := do
  let (r, m) ← c.moveArg a
  need (m.ended.isNone && !m.cut) .stateReject (stateDetail .move m.phase.code)
  let c := match m.mbox with
    | some b => c.stage b .stateReject (stateDetail .move MovePhase.aborted.code) []
    | none => c
  ok (c.abortMove t r .ok 0 true)

/-- MOVE_QUERY (R146, R147). -/
def moveQueryBody (_t : Top) (c : Core) (_m : Nat) (a : Cmd) : Ans := do
  let (_, m) ← c.moveArg a
  ok c (le 1 m.type.code ++ le 1 (b2n (!m.source)) ++ le 1 m.phase.code ++ le 1 m.status.code ++ le 4 m.carried ++ le 4 m.acked ++
    le 4 m.stalls ++ le 4 m.late ++ le 2 m.peerNode ++ le 2 m.newEpoch ++ le 4 m.peerHandle ++ le 4 m.handle)

/-- MOVE_PARAM_SET (R136, R146). -/
def moveParamSetBody (_t : Top) (c : Core) (_m : Nat) (a : Cmd) : Ans := do
  let v := a.arg 0 4
  needArg (v == 0 || (10 ≤ v && v ≤ 100000)) 0
  ok { c with stallUs := if v = 0 then 200 else v }

/-- PARK_TTL_SET (R144, R146). -/
def parkTtlSetBody (_t : Top) (c : Core) (_m : Nat) (a : Cmd) : Ans := do
  let k := a.arg 0 1
  let v := a.arg 4 4
  c.clientArg k 0
  needArg (v ≤ 86400) 4
  ok { c with clients := c.clients.set k { c.client k with ttl := if v = 0 then 600 else v } }

/-! ### Rows -/

/-- MOVE_START. -/
def execMoveStart (m : Nat) (s : State) : Host.Outcome State Fault Refusal := .next (runCommand m 0x0401 moveStartBody s)
/-- MOVE_ABORT. -/
def execMoveAbort (m : Nat) (s : State) : Host.Outcome State Fault Refusal := .next (runCommand m 0x0402 moveAbortBody s)
/-- MOVE_QUERY. -/
def execMoveQuery (m : Nat) (s : State) : Host.Outcome State Fault Refusal := .next (runCommand m 0x0403 moveQueryBody s)
/-- MOVE_PARAM_SET. -/
def execMoveParamSet (m : Nat) (s : State) : Host.Outcome State Fault Refusal := .next (runCommand m 0x0404 moveParamSetBody s)
/-- PARK_TTL_SET. -/
def execParkTtlSet (m : Nat) (s : State) : Host.Outcome State Fault Refusal := .next (runCommand m 0x0405 parkTtlSetBody s)
/-- STATE_PUSH_OPEN. -/
def execStatePushOpen (cid : Nat) (s : State) : Host.Outcome State Fault Refusal :=
  .next (onMsg cid 0x30 (some 1) (fun t c n q => c.pushOpen t n q) s)
/-- STATE_PUSH_PAGE. -/
def execStatePushPage (cid : Nat) (s : State) : Host.Outcome State Fault Refusal :=
  .next (onMsg cid 0x30 (some 2) (onMove false (fun t c _ r m q => c.pushPage t r m q)) s)
/-- STATE_PUSH_CUTOVER. -/
def execStatePushCutover (cid : Nat) (s : State) : Host.Outcome State Fault Refusal :=
  .next (onMsg cid 0x30 (some 3) (onMove false (fun t c n r m q => c.pushCutover t n r m q)) s)
/-- STATE_PUSH_ABORT: either end may send it. -/
def execStatePushAbort (cid : Nat) (s : State) : Host.Outcome State Fault Refusal :=
  .next (onMsg cid 0x30 (some 4) (fun t c n q =>
    let src := (c.findMove (q.arg 4 2 % 2 ^ 14) (q.arg 2 2)).any (fun e => e.2.source)
    onMove src (fun t c _ r m q => c.pushAbort t r m q) t c n q) s)
/-- STATE_PULL_OPEN. -/
def execStatePullOpen (cid : Nat) (s : State) : Host.Outcome State Fault Refusal :=
  .next (onMsg cid 0x31 (some 1) (fun t c n q => c.pullOpen t n q) s)
/-- STATE_PULL_COPY. -/
def execStatePullCopy (cid : Nat) (s : State) : Host.Outcome State Fault Refusal :=
  .next (onMsg cid 0x31 (some 2) (fun t c n q => c.pullCopy t n q) s)
/-- STATE_PULL_PAGE. -/
def execStatePullPage (cid : Nat) (s : State) : Host.Outcome State Fault Refusal :=
  .next (onMsg cid 0x31 (some 3) (onMove true (fun _ c _ r m q => c.pullPage r m q)) s)
/-- STATE_ACK_OPEN. -/
def execStateAckOpen (cid : Nat) (s : State) : Host.Outcome State Fault Refusal :=
  .next (onMsg cid 0x32 (some 1) (onMove true (fun t c _ r m q => c.ackOpen t r m q)) s)
/-- STATE_ACK_PULL. -/
def execStateAckPull (cid : Nat) (s : State) : Host.Outcome State Fault Refusal :=
  .next (onMsg cid 0x32 (some 7) (fun t c _ q => c.ackPull t q) s)
/-- STATE_ACK_PAGE. -/
def execStateAckPage (cid : Nat) (s : State) : Host.Outcome State Fault Refusal :=
  .next (onMsg cid 0x32 (some 2) (onMove true (fun t c _ r m q => c.ackPageIn t r m q)) s)
/-- STATE_ACK_CREDIT. -/
def execStateAckCredit (cid : Nat) (s : State) : Host.Outcome State Fault Refusal :=
  .next (onMsg cid 0x32 (some 5) (onMove true (fun _ c _ r m q => c.ackCredit r m q)) s)
/-- STATE_ACK_CUTOVER. -/
def execStateAckCutover (cid : Nat) (s : State) : Host.Outcome State Fault Refusal :=
  .next (onMsg cid 0x32 (some 3) (onMove true (fun _ c _ r _ _ => c.answered r 0x30 3)) s)
/-- STATE_ACK_DONE. -/
def execStateAckDone (cid : Nat) (s : State) : Host.Outcome State Fault Refusal :=
  .next (onMsg cid 0x32 (some 6) (onMove true (fun t c _ r m q => c.ackDone t r m q)) s)
/-- DRAIN_MARK_MARK. -/
def execDrainMarkMark (cid : Nat) (s : State) : Host.Outcome State Fault Refusal :=
  .next (onMsg cid 0x33 (some 1) (fun t c n q => c.markArrives t n q) s)
/-- DRAIN_MARK_ECHO. -/
def execDrainMarkEcho (cid : Nat) (s : State) : Host.Outcome State Fault Refusal :=
  .next (onMsg cid 0x33 (some 2) (fun t c n q => c.markEcho t n q) s)
/-- DRAIN_MARK_COMPLETE. -/
def execDrainMarkComplete (cid : Nat) (s : State) : Host.Outcome State Fault Refusal :=
  .next (onMsg cid 0x33 (some 3) (onMove false (fun t c _ r m q => c.markComplete t r m q)) s)
/-- MOVE_PAGE_PUSH. -/
def execMovePagePush (r : Nat) (s : State) : Host.Outcome State Fault Refusal := .next (s.onCore (fun t c => c.pagePush t r))
/-- STALL_TIMER_EXPIRY. -/
def execStallTimerExpiry (r l pg : Nat) (s : State) : Host.Outcome State Fault Refusal :=
  .next (s.onCore (fun t c => c.stallExpiry t r l pg))
/-- MOVE_RECORD_EXPIRY (R147). -/
def execMoveRecordExpiry (r : Nat) (s : State) : Host.Outcome State Fault Refusal :=
  .next (s.onCore (fun t c => match (c.moves.get? r).bind Move.ended with
    | some e => if e + 1000000000 ≤ t.now then { c with moves := c.moves.del r } else c
    | none => c))

end Sys2Proof.Machine
end

