-- ==== Sys2Proof/Machine/Fabric.lean ====
section
/-! DEFINITION. Messages over the fabric: cells and reassembly (R312 to R314), delivery and its checks (R306, R315, R316,
R327), requests that fail and dead nodes (R317, R328), SEND (R311), connections (R307) and the connection commands (R330). -/

namespace Sys2Proof.Machine

/-! ### Requests that end without an answer -/

/-- A request that completes without its answer (R317): what waits for it gets a status. -/
def Core.reqFails (t : Top) (q : Nat) (st : Status) (c : Core) : Core :=
  match c.fabric.reqs.get? q with
  | none => c
  | some x =>
    let c := (c.dropReq q).updConn x.conn (Conn.onChan false (fun ch => { ch with wait := ch.wait.filter (fun w => w.2 != some q) }))
    let c := if st = .poisoned then c.bump (.pass (x.conn / 4096) 12) else c
    match x.purpose with
    | .memIssue m => c.stage m st 0 []
    | .sendPost m => c.stage m st 0 []
    | .remoteWaiter => c
    | .version txn => (if st = .timeout then c.bump (.pass (x.conn / 4096) 11) else c).versionAnswered t txn
    | .coherent l node => if c.isDead node then c.lineDead t l node else c.lineAgain t l node
    | .tier3 o u retry => c.unit3Done t o u retry st []
    | .pool3 o u => c.unit3Written t o u st
    | .move r _ => c.moveReqFails t r x st

/-- A node declared dead (R328): loads and atomics outstanding to it complete with POISONED, its other requests with TIMEOUT,
and a job fault is raised. -/
def Core.declareDead (t : Top) (node : Nat) (c : Core) : Core :=
  let c := if c.isDead node then c else c.onFabric (fun f => { f with dead := f.dead ++ [node] })
  let qs := c.fabric.reqs.filter (fun e => e.2.node == node)
  let c := qs.foldl (fun c e => c.reqFails t e.1 (if e.2.type = 0x50 || e.2.type = 0x52 then .poisoned else .timeout)) c
  c.jobFault t 1 node 0xFF

/-- Every path of every connection to a node is DOWN and past its hold window (R328): a port that went dark while DOWN, or was disabled, too. -/
def Core.unreachable (c : Core) (node : Nat) : Bool :=
  let cs := c.fabric.conns.vals.filter (fun n => n.peer == node && n.state != .closed)
  let lost := fun (q : Nat) =>
    let x := c.port q
    (x.state == .down || x.state == .flapHold || x.state == .disabled || (x.state == .dark && x.beforeDark == .down)) && x.holdUntil.isNone
  !cs.isEmpty && cs.all (fun n => (portsOf n.portMask).all lost)

/-- A node is declared dead when it has become unreachable (R328). -/
def Core.checkNode (t : Top) (node : Nat) (c : Core) : Core :=
  if c.unreachable node && !c.isDead node then c.declareDead t node else c

/-- The nodes with a connection over a port, looked at when that port is lost (R328). -/
def Core.checkNodes (t : Top) (p : Nat) (c : Core) : Core :=
  ((c.fabric.conns.vals.filter (fun n => bit n.portMask p && n.state != .closed)).map Conn.peer).dedup.foldl (fun c n => c.checkNode t n) c

/-- A request has reached its completion timeout (R317, R328): its node is dead where nothing has arrived from it since the
request was sent. -/
def Core.reqTimesOut (t : Top) (q : Nat) (c : Core) : Core :=
  match c.fabric.reqs.get? q with
  | none => c
  | some x =>
    let silent := x.mseq.isSome && (match c.fabric.heard.get? x.node with
      | some h => h < x.sent
      | none => true)
    if silent then c.declareDead t x.node else c.reqFails t q .timeout

/-- The completion timeout of a request has passed (R317). -/
def Core.reqDue (t : Top) (c : Core) (x : Req) : Bool := x.sent + (c.conn x.conn).timeoutUs * 1000 ≤ t.now

/-- The requests whose timeout has a row of its own: INVALIDATE (R323, R326). -/
def Purpose.invalidates : Purpose → Bool
  | .version _ => true
  | .coherent _ _ => true
  | _ => false

/-- A move's request whose timeout has a row of its own: OPEN, the pulls that open, and MARK (R134, R138). -/
def Req.movesAlone (x : Req) : Bool :=
  match x.purpose with
  | .move _ _ => (x.type == 0x30 && x.tag == 1) || (x.type == 0x31 && (x.tag == 1 || x.tag == 2)) || x.type == 0x33
  | _ => false

/-! ### Cells -/

/-- The fields of a CELL payload (R312). -/
structure Cell where
  id : Nat
  dst : Nat
  rsp : Bool
  last : Bool
  src : Nat
  conn : Nat
  control : Bool
  off : Nat
  total : Nat
  data : List Byte
  deriving DecidableEq, Repr

/-- A cell read from a frame's payload. -/
def Cell.ofBytes (bs : List Byte) : Cell :=
  { id := rd bs 0 4, dst := rd bs 4 2 % 2 ^ 14, rsp := bit (rd bs 4 2) 14, last := bit (rd bs 4 2) 15, src := rd bs 6 2 % 2 ^ 14,
    conn := rd bs 8 2, control := bit (rd bs 10 2) 0, off := rd bs 12 4, total := rd bs 16 4, data := bs.drop 20 }

/-- Offset, length, LAST and total agree with R312. -/
def Cell.consistent (x : Cell) : Bool :=
  32 ≤ x.total && x.total ≤ 33554432 && x.off % 3808 == 0 && x.off < x.total &&
  x.data.length == min 3808 (x.total - x.off) && x.last == (x.off + x.data.length == x.total)

/-- The message that complete bytes spell, keyed by its cells (R304, R314). -/
def Cell.msg (x : Cell) (bs : List Byte) : Msg :=
  { Msg.ofBytes bs with src := x.src, dst := x.dst, conn := x.conn, seq := x.id, flags := bits (rd bs 1 1) 7 1 * 2 + b2n x.rsp }

/-- A whole message of a type that R447 reserves: check 1 of R306 comes before the others (R11). -/
def Cell.reserved (x : Cell) : Bool := x.off == 0 && x.last && !knownType (rd x.data 0 1)

/-! ### The checks of R306 -/

/-- The age of a stamp makes a message stale (R315). -/
def staleStamp (at_ stamp skewUs : Nat) : Bool :=
  let a := sext 32 ((stampOf at_ + 2 ^ 32 - stamp % 2 ^ 32) % 2 ^ 32)
  a == -2147483648 || a > 62500000 || a * 16 < -((skewUs * 1000 : Nat) : Int)

/-- A discarded message counted (R306). -/
def Core.discard (cid k : Nat) (c : Core) : Core := c.bump (.pass (cid / 4096) k)

/-- A message whose connection has passed check 3 of R306: its sender is not dead (R328), the connection opens (R307), and the
credits that its header returns are taken (R313), but for those of a control cell. -/
def Core.admitted (t : Top) (cid : Nat) (m : Msg) (credits : Bool) (c : Core) : Core :=
  let c := c.onFabric (fun f => { f with dead := f.dead.filter (· != m.src), heard := f.heard.set m.src t.now })
  let c := if (c.conn cid).state = .opening then c.updConn cid (fun n => { n with state := .opened }) else c
  if credits then c.takeUnits t cid m.crReq m.crRsp else c

/-- Checks 2 to 5 of R306 and R327 on a completed message: none for one discarded or answered, which the state given shows. A control cell
acts only once it has passed them all (R313): a CREDIT then returns the units of its header, and a GRANT's are for its row. -/
def Core.admitMsg (t : Top) (cid : Nat) (m : Msg) (at_ : Nat) (c : Core) : Bool × Core :=
  let n := c.conn cid
  let control := m.type == 0x61 && m.arg 0 1 != 1
  if m.connless then (false, c.discard cid 14)
  else if n.state = .closed || n.peer ≠ m.src then (false, c.discard cid 1)
  else
    let c := c.admitted t cid m (!control)
    if m.type ≠ 0x70 && staleStamp at_ m.stamp c.fabric.skewUs then (false, c.discard cid 0)
    else if m.type ≠ 0x60 && m.type ≠ 0x61 && m.type ≠ 0x70 && m.job ≠ c.jobId then
      (false, (c.refuseMsg t cid m .authFail 0).discard cid 2)
    else if control then (true, if m.arg 0 1 == 2 then c.takeUnits t cid m.crReq m.crRsp else c)
    else if c.carried t n.stages m then (true, c)
    else if t.dev = .bound && (m.type = 0x10 || m.type = 0x20 || m.type = 0x40) then (false, c.refuseMsg t cid m .jobFaulted 0)
    else
      let answers := (answerType m.type (m.arg 0 1) (bit (m.arg 13 1) 0)).isSome
      (false, if answers then c.refuseMsg t cid m .stateReject (stateDetail .device t.dev.code) else c.discard cid 14)

/-- Messages delivered in sequence (R316) to their connection's inbox, each after the checks of R306; `fuel` bounds them. -/
def Core.deliver (t : Top) (cid : Nat) (rsp : Bool) : Nat → Core → Core
  | 0, c => c
  | fuel + 1, c =>
    let ch := (c.conn cid).chan rsp
    match ch.ready.get? ch.expect with
    | none => c
    | some (m, at_) =>
      let c := c.updConn cid (Conn.onChan rsp (fun ch => { ch with expect := (ch.expect + 1) % 2 ^ 32, ready := ch.ready.del ch.expect }))
      let c := if !knownType m.type then c.updConn cid (fun n => { n with inbox := n.inbox ++ [m] })
        else match c.admitMsg t cid m at_ with
          | (true, c) => c.updConn cid (fun n => { n with inbox := n.inbox ++ [m] })
          | (false, c) => c.oweUnits cid m.rsp m.units
      Core.deliver t cid rsp fuel c

/-- A control cell (R313): it is acted on as soon as it passes the checks, ahead of what the connection has delivered. -/
def Core.controlCell (t : Top) (x : Cell) (c : Core) : Core :=
  let m := x.msg x.data
  if !(x.consistent && x.last && x.off == 0 && m.type == 0x61 && (m.arg 0 1 == 2 || m.arg 0 1 == 3)) then c.discard x.conn 13
  else match c.admitMsg t x.conn m (t.dieTime (passDie (x.conn / 4096))) with
    | (true, c) => c.updConn x.conn (fun n =>
        let ctl := n.inbox.takeWhile (fun q => q.type == 0x61 && q.arg 0 1 != 1)
        { n with inbox := ctl ++ [m] ++ n.inbox.drop ctl.length })
    | (false, c) => c

/-- The units of a slot that is given up return to the peer (R316). -/
def Core.dropSlot (cid : Nat) (rsp : Bool) (id : Nat) (c : Core) : Core :=
  match ((c.conn cid).chan rsp).slots.get? id with
  | none => c
  | some s => (c.oweUnits cid rsp (ceilDiv s.total 4096)).updConn cid (Conn.onChan rsp (fun ch => { ch with slots := ch.slots.del id }))

/-- A cell checked and written into its slot (R314). -/
def Core.cell (t : Top) (x : Cell) (c : Core) : Core :=
  let n := c.conn x.conn
  let ch := n.chan x.rsp
  let slot := ch.slots.get? x.id
  let ahead := (x.id + 2 ^ 32 - ch.expect) % 2 ^ 32
  if n.state = .closed || n.peer ≠ x.src || (n.state = .closing && slot.isNone) then
    if !x.last then c
    else if x.reserved then c.bump (.dev 2)
    else c.discard x.conn 1
  else
    let c := c.onFabric (fun f => { f with heard := f.heard.set x.src t.now })
    if x.control then c.controlCell t x
    else if !x.consistent || (slot.map (fun s => s.total != x.total)).getD false then c.discard x.conn 13
    else if (ch.ready.get? x.id).isSome || (slot.map (fun s => s.got.any (fun g => g.1 == x.off))).getD false then c.discard x.conn 5
    else if seqAbove32 ch.expect x.id || (seqAbove32 x.id ch.expect && 8192 < ahead) then c.discard x.conn 5
    else if ch.grant < ceilDiv x.total 4096 then c.discard x.conn 4
    else
      let s : Slot := slot.getD { total := x.total, opened := t.now }
      let s := { s with got := s.got ++ [(x.off, x.data.length)], bytes := s.bytes.writeN x.off x.data }
      if sumL (s.got.map Prod.snd) = s.total then
        c.updConn x.conn (Conn.onChan x.rsp (fun ch => { ch with
          slots := ch.slots.del x.id, ready := ch.ready.set x.id (x.msg (s.bytes.readN 0 s.total), t.dieTime (passDie (x.conn / 4096))) }))
      else c.updConn x.conn (Conn.onChan x.rsp (fun ch => { ch with slots := ch.slots.set x.id s }))

/-- A port's oldest accepted frame has its flits in PORT_RX: only the flits of later ones wait for credits (R22). -/
def Core.frameIn (c : Core) (p : Nat) : Bool :=
  let waiting := (c.queue 0x0B p).waiting (portDie p)
  waiting ≤ sumL ((c.port p).rxq.tail.map (fun f => frameFlits f.2.length))

/-- CELL_RECEIVE (R314): the oldest accepted frame of a port is taken; the flits it held are freed, in the buffer of its channel (R22, R278,
R280). The cell's Pass die sends it on to the one that serves its connection (R307), whose message store takes it (R24). A CONNLESS message is
one cell, and any but TIME_SYNC is discarded and counted (R306), after its type has been checked (R11); so is a TIME_SYNC of a reserved kind
(R36). A TIME_SYNC of kind 1 or 2 is acted on by its own row. -/
def Core.cellReceive (t : Top) (p : Nat) (c : Core) : Core :=
  match (c.port p).rxq with
  | [] => c
  | (rsp, f) :: rest =>
    if !c.frameIn p then c else
    let n := frameFlits f.length
    let x := Cell.ofBytes f
    let c := c.updPort p (fun y => { y with
      rxq := rest,
      freedReq := if rsp then y.freedReq else (y.freedReq + n) % 65536,
      freedRsp := if rsp then (y.freedRsp + n) % 65536 else y.freedRsp })
    let c := (List.range n).foldl (fun c _ => c.qReturn t 0x0B p (portDie p) (fun _ => true)) c
    if t.dev = .off then c
    else if x.dst ≠ t.nodeId then c.bump (.pass (p / 2) 14)
    else if x.conn < 16384 then
      let u := ceilDiv f.length 256
      let c := c.meshPass t (passDie (p / 2)) (passDie (x.conn / 4096)) .request .cells .cells u
      (c.qPass t 0x08 (storeCrest x.conn) (passDie (x.conn / 4096)) u .cells).cell t x
    else if x.reserved then c.bump (.dev 2)
    else if x.conn = 0xFFFF && rd x.data 0 1 = 0x70 then
      if rd x.data 32 1 = 1 || rd x.data 32 1 = 2 then c else c.bump (.dev 4)
    else c.bump (.pass (p / 2) (if x.conn = 0xFFFF then 14 else 1))

/-- REASSEMBLY_TIMEOUT (R314). -/
def Core.slotTimeout (t : Top) (cid : Nat) (rsp : Bool) (id : Nat) (c : Core) : Core :=
  match ((c.conn cid).chan rsp).slots.get? id with
  | none => c
  | some s =>
    if s.opened + (c.conn cid).timeoutUs * 1000 ≤ t.now then (c.dropSlot cid rsp id).discard cid 7 else c

/-- REORDER_SKIP (R316): the expected sequence is given up where a later one has been complete for the completion timeout. -/
def Core.skip (t : Top) (cid : Nat) (rsp : Bool) (c : Core) : Core :=
  let n := c.conn cid
  let ch := n.chan rsp
  let due := ch.ready.any (fun e => e.2.2 + n.timeoutUs * 1000 ≤ t.now)
  if (ch.ready.get? ch.expect).isSome || !due then c
  else
    let c := (c.dropSlot cid rsp ch.expect).discard cid 6
    c.updConn cid (fun n =>
      ({ n with lost := n.lost.up } : Conn).onChan rsp (fun ch => { ch with expect := (ch.expect + 1) % 2 ^ 32 }))

/-! ### Messages of the fabric itself -/

/-- An outstanding request that an answer on a connection names by its tag. -/
def Core.findReq (c : Core) (cid : Nat) (p : Nat → Req → Bool) : Option (Nat × Req) :=
  c.fabric.reqs.find? (fun e => e.2.conn == cid && p e.1 e.2)

/-- MEM_COMPLETION (R319): the request of its tag completes. One that answers no outstanding request is discarded. -/
def Core.memCompleted (t : Top) (cid : Nat) (q : Msg) (c : Core) : Core :=
  let tag := q.arg 0 4
  let mem := fun (x : Req) => x.type == 0x50 || x.type == 0x51 || x.type == 0x52 || x.type == 0x54
  match c.findReq cid (fun k x => mem x && k % 2 ^ 32 == tag), Status.ofCode (q.arg 4 1) with
  | some (k, x), some st =>
    let d := q.arg 5 3
    let data := (q.body.drop 24).take (q.arg 12 4)
    let c := c.dropReq k
    match x.purpose with
    | .memIssue m => c.stage m st d (q.body.take (24 + q.arg 12 4))
    | .version txn => c.versionAnswered t txn
    | .coherent l node => c.memberAnswered t l node d data
    | .tier3 o u retry => c.unit3Done t o u retry st data
    | .pool3 o u => c.unit3Written t o u st
    | _ => c
  | _, _ => c.discard cid 14

/-- SEND (R311): written into the oldest posted buffer, answered, and reported by a receive event. -/
def Core.sendArrives (t : Top) (cid : Nat) (q : Msg) (c : Core) : Core :=
  let tag := q.arg 0 4
  let data := q.body.drop 8
  let say := fun (st : Status) (d len : Nat) (c : Core) => c.answerMsg t cid q 0x61 (sendAck tag st d len)
  match (c.conn cid).bufs with
  | [] => say .noResource 0 0 c
  | b :: rest =>
    if b.len < data.length then say .badArg 0x15 0 c
    else
      let c := c.updConn cid (fun n => { n with bufs := rest })
      match (c.fabric.regions.get? b.region).filter (fun r => r.pd == (c.conn cid).pd && r.closing.isNone) with
      | none => say .authFail 0 0 c
      | some r =>
        let c := say .ok 0 data.length ((c.storeAt (some r) (r.off + b.off) data).wrote t b.region (r.off + b.off) data.length)
        c.raise t 0x0A01 (passDie (cid / 4096)) cid (le 4 b.tag ++ le 4 data.length)

/-- SEND_ACK ACK (R311): the oldest outstanding SEND of its tag completes with the remote status. -/
def Core.sendAcked (cid : Nat) (q : Msg) (c : Core) : Core :=
  match c.findReq cid (fun _ x => x.type == 0x60 && x.tag == q.arg 4 4), Status.ofCode (q.arg 1 1) with
  | some (k, x), some st =>
    let c := c.dropReq k
    match x.purpose with
    | .sendPost m => c.stage m st (q.arg 12 3) (le 1 st.code ++ zeros 3 ++ le 4 (q.arg 8 4))
    | _ => c
  | _, _ => c.discard cid 14

/-- SEND_ACK GRANT (R307): the first one sets the units held; one with SEEN clear is answered. -/
def Core.granted (t : Top) (cid : Nat) (q : Msg) (c : Core) : Core :=
  let n := c.conn cid
  let c := if n.granted then c
    else c.updConn cid (fun n => { n with
      granted := true, req := { n.req with held := q.crReq, heldMax := q.crReq }, rsp := { n.rsp with held := q.crRsp, heldMax := q.crRsp } })
  let c := if !bit (q.arg 1 1) 0 && (n.state = .opening || n.state = .opened) then c.sendGrant t cid true else c
  c.takeUnits t cid 0 0

/-- A control row: it acts on the connection's oldest message where that is a SEND_ACK of its kind, which holds no units. -/
def onControl (cid kind : Nat) (f : Top → Core → Nat → Msg → Core) (s : State) : State :=
  match s.core.headMsg cid 0x61 (some kind) with
  | some m => s.onCore (fun t c => f t (c.updConn cid (fun n => { n with inbox := n.inbox.tail })) cid m)
  | none => s

/-- A message that no other row takes: an unimplemented type (R11), a reserved kind (R120), or an answer to nothing that the
SZ864 sends. -/
def unhandled (m : Msg) : Option Ctr :=
  let k := m.arg 0 1
  if !knownType m.type then some (.dev 2)
  else if (m.type = 0x30 && !(1 ≤ k && k ≤ 4)) || (m.type = 0x31 && !(1 ≤ k && k ≤ 3)) ||
      (m.type = 0x32 && !([1, 2, 3, 5, 6, 7].contains k)) || (m.type = 0x33 && !(1 ≤ k && k ≤ 3)) then some (.dev 8)
  else if m.type = 0x11 || m.type = 0x21 || m.type = 0x41 || m.type = 0x70 || m.type = 0x7F || (m.type = 0x61 && !(1 ≤ k && k ≤ 3)) then
    some (.pass (m.conn / 4096) 14)
  else none

/-- UNKNOWN_MESSAGE (R11, R120): discarded and counted. No type that has no row expects an answer that could be given. -/
def Core.unknownMsg (cid : Nat) (c : Core) : Core :=
  match (c.conn cid).inbox with
  | [] => c
  | m :: _ => match unhandled m with
    | none => c
    | some k =>
      (c.takeMsg cid m).bump k

/-- A message accepted on a connection has not been answered (R307). -/
def Core.acceptedOn (c : Core) (cid : Nat) : Bool :=
  c.sched.items.vals.any (fun it => it.msgs.any (fun m => m.conn == cid && !m.answered)) ||
  c.sched.layers.any (fun l => l.parts.any (fun m => m.conn == cid && !m.answered)) ||
  c.ctxs.vals.any (fun x => x.held.any (fun h => h.conn == cid)) ||
  c.search.queries.vals.any (fun q => q.conn == cid) ||
  c.fabric.txns.vals.any (fun x => x.conn == cid) ||
  c.fabric.lines.vals.any (fun l => l.queue.any (fun q => q.conn == cid) || (l.busy.map (fun b => b.1.conn == cid)).getD false) ||
  c.fabric.reads.vals.any (fun e => match e.1 with
    | .region n _ _ _ _ => n == cid
    | _ => false) ||
  !(c.conn cid).rsp.wait.isEmpty || !(c.conn cid).req.wait.isEmpty

/-! ### Connection commands -/

/-- CONN_OPEN (R307, R313, R331, R387). -/
def connOpenBody (t : Top) (c : Core) (_m : Nat) (a : Cmd) : Ans := do
  let cid := a.arg 0 2
  needArg (cid < 16384) 0
  need ((c.conn cid).state == .closed) .busy
  need (t.nodeId != 0x3FFF) .badArg 0x16
  needArg (a.arg 2 2 < 0x3FFF) 2
  needArg (a.arg 4 2 < 16384) 4
  needArg (c.fabric.pds.get? (a.arg 6 2)).isSome 6
  let mask := a.arg 8 1
  let split := (portsOf mask).any (fun p => (c.port p).group &&& mask != (c.port p).group)
  needArg (mask != 0 && (portsOf mask).all t.hasPort && !split) 8
  needArg (a.arg 9 1 ≤ 7) 9
  needArg (a.arg 10 1 == 1 || a.arg 10 1 == 2) 10
  let rq := a.arg 12 2
  let rs := a.arg 14 2
  needArg (1 ≤ rq && rq ≤ 8192) 12
  needArg (1 ≤ rs && rs ≤ 8192) 14
  let us := if a.arg 16 4 = 0 then 1000 else a.arg 16 4
  needArg (10 ≤ us && us ≤ 10000) 16
  let used := sumL ((c.fabric.conns.filter (fun e => e.1 / 4096 == cid / 4096 && e.2.state != .closed)).map (fun e => e.2.req.grant + e.2.rsp.grant))
  need (used + rq + rs ≤ 8192) .noResource
  let n : Conn := {
    state := .opening, peer := a.arg 2 2, peerConn := a.arg 4 2, pd := a.arg 6 2, portMask := mask, stages := a.arg 9 1,
    hash := a.arg 10 1 == 2, timeoutUs := us, req := { grant := rq }, rsp := { grant := rs } }
  ok ((c.updConn cid (fun _ => n)).sendGrant t cid false)

/-- CONN_CLOSE (R307, R331): new sends stop. What was accepted before goes on to its end; CONN_CLOSED then completes what awaits an answer. -/
def connCloseBody (t : Top) (c : Core) (_m : Nat) (a : Cmd) : Ans := do
  let cid := a.arg 0 2
  needArg (cid < 16384) 0
  let n := c.conn cid
  if n.state = .closed || n.state = .closing then ok c
  else ok (c.updConn cid (fun n => { n with state := .closing, closeAt := t.now }))

/-- CONN_QUERY (R330). -/
def connQueryBody (_t : Top) (c : Core) (_m : Nat) (a : Cmd) : Ans := do
  let cid := a.arg 0 2
  needArg (cid < 16384) 0
  let n := c.conn cid
  ok c (le 1 n.state.code ++ le 1 n.portMask ++ le 2 n.peer ++ le 2 n.peerConn ++ le 2 n.pd ++ le 2 n.req.held ++ le 2 n.rsp.held ++
    le 2 n.bufs.length ++ zeros 2 ++ le 4 n.req.next ++ le 4 n.req.expect ++ n.lost.bytes)

/-- The region that RECV_POST and SEND_POST name: HOST or DEVICE, of the connection's domain (R311). -/
def Core.bufferRegion (c : Core) (cid rid off len atRid atOff : Nat) : Chk Region :=
  match c.fabric.regions.get? rid with
  | none => .error (.badArg, atRid)
  | some r => do
    needArg (r.backing != .signal && r.closing.isNone) atRid
    need (r.pd == (c.conn cid).pd) .authFail
    needArg (off + len ≤ r.size) atOff
    .ok r

/-- RECV_POST (R311). -/
def recvPostBody (_t : Top) (c : Core) (_m : Nat) (a : Cmd) : Ans := do
  let cid := a.arg 0 2
  needArg (cid < 16384 && ((c.conn cid).state == .opening || (c.conn cid).state == .opened)) 0
  let len := a.arg 16 4
  needArg (1 ≤ len && len ≤ 1048576) 16
  let _ ← c.bufferRegion cid (a.arg 2 2) (a.arg 8 8) len 2 8
  need ((c.conn cid).bufs.length < 256) .noResource
  ok (c.updConn cid (fun n => { n with bufs := n.bufs ++ [{ region := a.arg 2 2, off := a.arg 8 8, len := len, tag := a.arg 20 4 }] }))

/-- A SEND put on its connection, with the command that awaits its answer (R311, R317). -/
def Core.postSend (t : Top) (m cid cls tag : Nat) (data : List Byte) (c : Core) : Core :=
  let (r, c) := c.newReq t cid 0x60 tag (.sendPost m)
  c.sendMsg t cid 0x60 false cls (le 4 tag ++ zeros 4 ++ data) (some r)

/-- A connection that a command names for itself is open (R309). -/
def Core.namedConn (c : Core) (cid : Nat) : Chk Unit := need (cid < 16384 && (c.conn cid).state == .opened) .badArg 0x17

/-- A message of so many body bytes can be sent under the peer's grant (R313). -/
def Core.fitsGrant (c : Core) (cid len off : Nat) : Chk Unit :=
  needArg (!(c.conn cid).granted || ceilDiv (32 + len) 4096 ≤ (c.conn cid).req.heldMax) off

/-- SEND_POST (R309, R311, R313). A source that cannot be read is a SEND that fails to complete. -/
def sendPostBody (t : Top) (c : Core) (m : Nat) (a : Cmd) : Ans := do
  let cid := a.arg 0 2
  let cls := a.arg 2 1
  let len := a.arg 16 4
  let tag := a.arg 20 4
  needArg (cid < 16384) 0
  needArg (cls < 8) 2
  needArg (1 ≤ len && len ≤ 1048576) 16
  let r ← c.bufferRegion cid (a.arg 4 2) (a.arg 8 8) len 4 8
  c.namedConn cid
  c.fitsGrant cid (8 + len) 16
  let off := r.off + a.arg 8 8
  if r.backing = .host then waits (c.readHost (.sendPost m cid cls tag (a.arg 4 2)) (r.hostAddr + a.arg 8 8) len)
  else if c.memPoisoned off len then answer c .timeout
  else waits (c.postSend t m cid cls tag (c.tiers.mem.readN off len))

/-- MEM_ISSUE (R309, R313, R317, R328, R331). A write without ACK expects no answer and completes when it is sent. -/
def memIssueBody (t : Top) (c : Core) (m : Nat) (a : Cmd) : Ans := do
  let cid := a.arg 0 2
  let type := a.arg 2 1
  let op := a.arg 3 1
  let len := a.arg 16 4
  let addr := a.arg 8 8
  needArg (cid < 16384) 0
  needArg (0x50 ≤ type && type ≤ 0x52) 2
  needArg (memOpKnown type op) 3
  needArg (addrNode addr != 0x3FFF) 8
  needArg (if type = 0x52 then len == 4 || len == 8 else 1 ≤ len && len ≤ 2048) 16
  need (type != 0x51 || 40 + len ≤ a.length) .badArg 0xFFFFFF
  c.namedConn cid
  need ((c.conn cid).peer == addrNode addr) .badArg 0x17
  let data := if type = 0x51 then (a.args.drop 40).take len else []
  c.fitsGrant cid (40 + data.length) 16
  let body := fun (tag : Nat) =>
    le 8 addr ++ le 4 len ++ le 1 op ++ le 1 (a.arg 4 1 % 2) ++ zeros 2 ++ le 4 tag ++ zeros 4 ++
    (if type = 0x52 then le 8 (a.arg 24 8) ++ le 8 (a.arg 32 8) else zeros 16) ++ data
  let ask : Msg := { type := type, flags := 0, src := 0, dst := 0, conn := 0, seq := 0, stamp := 0, job := 0, crReq := 0, crRsp := 0, body := [] }
  need (c.mayAsk t ask (c.conn cid).stages) .stateReject (stateDetail .device t.dev.code)
  let line := addr / 64 * 64
  let gone := c.fabric.writtenBack.filter (· != line)
  let c := if op = 1 && type = 0x51 then c.onFabric (fun f => { f with writtenBack := gone ++ [line] })
    else if type = 0x50 && (op = 1 || op = 2) then c.onFabric (fun f => { f with writtenBack := gone })
    else c
  if type ≠ 0x51 && c.isDead (addrNode addr) then answer (c.bump (.pass (cid / 4096) 12)) .poisoned
  else if type = 0x51 && !bit (a.arg 4 1) 0 then ok (c.sendMsg t cid type false 4 (body 0) none) (memCompletion 0 .ok 0 0 0 [])
  else
    let tag := c.fabric.nextReq
    let (r, c) := c.newReq t cid type tag (.memIssue m)
    waits (c.sendMsg t cid type false 4 (body tag) (some r))

/-- FABRIC_SET (R315). -/
def fabricSetBody (_t : Top) (c : Core) (_m : Nat) (a : Cmd) : Ans := do
  let us := if a.arg 0 4 = 0 then 1000 else a.arg 0 4
  needArg (us ≤ 100000) 0
  ok (c.onFabric (fun f => { f with skewUs := us }))

/-- FABRIC_QUERY (R331). -/
def fabricQueryBody (t : Top) (c : Core) (_m : Nat) (a : Cmd) : Ans := do
  let p := a.arg 0 1
  needArg (p < 4 && !t.gone (passDie p)) 0
  c.needFree t (passDie p)
  ok c (c.ctrBytes ((List.range 13).map (Ctr.pass p)))

/-! ### Rows -/

/-- CONN_OPEN (R307). -/
def execConnOpen (m : Nat) (s : State) : Host.Outcome State Fault Refusal := .next (runCommand m 0x0A05 connOpenBody s)
/-- CONN_CLOSE (R307). -/
def execConnClose (m : Nat) (s : State) : Host.Outcome State Fault Refusal := .next (runCommand m 0x0A06 connCloseBody s)
/-- CONN_QUERY (R330). -/
def execConnQuery (m : Nat) (s : State) : Host.Outcome State Fault Refusal := .next (runCommand m 0x0A07 connQueryBody s)
/-- RECV_POST (R311). -/
def execRecvPost (m : Nat) (s : State) : Host.Outcome State Fault Refusal := .next (runCommand m 0x0A08 recvPostBody s)
/-- SEND_POST (R311). -/
def execSendPost (m : Nat) (s : State) : Host.Outcome State Fault Refusal := .next (runCommand m 0x0A09 sendPostBody s)
/-- MEM_ISSUE (R331). -/
def execMemIssue (m : Nat) (s : State) : Host.Outcome State Fault Refusal := .next (runCommand m 0x0A0A memIssueBody s)
/-- FABRIC_SET (R315). -/
def execFabricSet (m : Nat) (s : State) : Host.Outcome State Fault Refusal := .next (runCommand m 0x0A0D fabricSetBody s)
/-- FABRIC_QUERY (R331). -/
def execFabricQuery (m : Nat) (s : State) : Host.Outcome State Fault Refusal := .next (runCommand m 0x0A0E fabricQueryBody s)
/-- MEM_COMPLETION (R319). -/
def execMemCompletion (cid : Nat) (s : State) : Host.Outcome State Fault Refusal :=
  .next (onMsg cid 0x53 none (fun t c cid q => c.memCompleted t cid q) s)
/-- SEND (R311). -/
def execSend (cid : Nat) (s : State) : Host.Outcome State Fault Refusal :=
  .next (onMsg cid 0x60 none (fun t c cid q => c.sendArrives t cid q) s)
/-- SEND_ACK ACK (R311). -/
def execSendAck (cid : Nat) (s : State) : Host.Outcome State Fault Refusal :=
  .next (onMsg cid 0x61 (some 1) (fun _ c cid q => c.sendAcked cid q) s)
/-- SEND_ACK CREDIT (R313): the credits in its header were taken as it passed its checks; messages that waited for them follow. -/
def execSendAckCredit (cid : Nat) (s : State) : Host.Outcome State Fault Refusal :=
  .next (onControl cid 2 (fun t c cid _ => c.takeUnits t cid 0 0) s)
/-- SEND_ACK GRANT (R307). -/
def execSendAckGrant (cid : Nat) (s : State) : Host.Outcome State Fault Refusal :=
  .next (onControl cid 3 (fun t c cid q => c.granted t cid q) s)
/-- UNKNOWN_MESSAGE (R11). -/
def execUnknownMessage (cid : Nat) (s : State) : Host.Outcome State Fault Refusal := .next (s.onCore (fun _ c => c.unknownMsg cid))
/-- CELL_RECEIVE (R314). -/
def execCellReceive (port : Nat) (s : State) : Host.Outcome State Fault Refusal := .next (s.onCore (fun t c => c.cellReceive t port))
/-- MESSAGE_DELIVER (R316, R306). -/
def execMessageDeliver (cid : Nat) (rsp : Bool) (s : State) : Host.Outcome State Fault Refusal :=
  .next (s.onCore (fun t c => c.deliver t cid rsp ((c.conn cid).chan rsp).ready.length))
/-- REASSEMBLY_TIMEOUT (R314). -/
def execReassemblyTimeout (cid : Nat) (rsp : Bool) (id : Nat) (s : State) : Host.Outcome State Fault Refusal :=
  .next (s.onCore (fun t c => c.slotTimeout t cid rsp id))
/-- REORDER_SKIP (R316). -/
def execReorderSkip (cid : Nat) (rsp : Bool) (s : State) : Host.Outcome State Fault Refusal :=
  .next (s.onCore (fun t c => c.skip t cid rsp))
/-- COMPLETION_TIMEOUT (R317, R328). -/
def execCompletionTimeout (req : Nat) (s : State) : Host.Outcome State Fault Refusal :=
  .next (s.onCore (fun t c => match c.fabric.reqs.get? req with
    | some x => if c.reqDue t x && !x.purpose.invalidates && !x.movesAlone then c.reqTimesOut t req else c
    | none => c))
/-- INVALIDATE_TIMEOUT (R323, R326). -/
def execInvalidateTimeout (req : Nat) (s : State) : Host.Outcome State Fault Refusal :=
  .next (s.onCore (fun t c => match c.fabric.reqs.get? req with
    | some x => if c.reqDue t x && x.purpose.invalidates then c.reqTimesOut t req else c
    | none => c))
/-- CREDIT_RETURN_TIMER (R313). -/
def execCreditReturnTimer (cid : Nat) (s : State) : Host.Outcome State Fault Refusal :=
  .next (s.onCore (fun t c =>
    let n := c.conn cid
    if n.state ≠ .closed && 0 < n.req.owed + n.rsp.owed && n.lastSent + 2000 ≤ t.now then
      (c.sendControl t cid 2 0 n.req.owed n.rsp.owed).updConn cid (fun n => { n with
        req := { n.req with owed := 0 }, rsp := { n.rsp with owed := 0 } })
    else c))
/-- CONN_GRANT_TIMER (R307). -/
def execConnGrantTimer (cid : Nat) (s : State) : Host.Outcome State Fault Refusal :=
  .next (s.onCore (fun t c =>
    let n := c.conn cid
    if n.state = .opening && n.lastGrant + 100000 ≤ t.now then c.sendGrant t cid false else c))
/-- CONN_CLOSED (R307, R328): once what was accepted is complete and nothing is left in reassembly, or after the completion timeout; what
awaits an answer completes with PORT_DOWN, what was never sent is lost, and the peer may have become unreachable. -/
def execConnClosed (cid : Nat) (s : State) : Host.Outcome State Fault Refusal :=
  .next (s.onCore (fun t c =>
    let n := c.conn cid
    let drained := !c.acceptedOn cid && n.req.slots.isEmpty && n.rsp.slots.isEmpty && n.req.ready.isEmpty && n.rsp.ready.isEmpty && n.inbox.isEmpty
    if n.state = .closing && (drained || n.closeAt + n.timeoutUs * 1000 ≤ t.now) then
      let c := (c.fabric.reqs.filter (fun e => e.2.conn == cid)).foldl (fun c e => c.reqFails t e.1 .portDown) c
      (c.onFabric (fun f => { f with conns := f.conns.set cid { state := .closed, inbox := (c.conn cid).inbox } })).checkNode t n.peer
    else c))
/-- PAGE_ACK_TIMEOUT (R136, R317): a page sent whole whose acknowledgement has not come within the completion timeout. -/
def execPageAckTimeout (r layer page : Nat) (s : State) : Host.Outcome State Fault Refusal :=
  .next (s.onCore (fun t c => match c.moves.get? r with
    | none => c
    | some m => match m.sent.find? (fun p => p.layer == layer && p.page == page) with
      | none => c
      | some p =>
        let whole := ((c.pageOf m.ctx layer page).map (fun e => e.2.poison || c.streamLen e.2 ≤ p.sent)).getD false
        if m.ended.isNone && m.source && !p.acked && whole && p.at_ + (c.conn m.conn).timeoutUs * 1000 ≤ t.now then
          let heard : Bool := match c.fabric.heard.get? m.peerNode with
            | some h => p.at_ ≤ h
            | none => false
          if heard then c.pageUnacked t r layer page else c.declareDead t m.peerNode
        else c))
/-- MOVE_OPEN_TIMEOUT (R138, R317): the OPEN, or the pull that opens, of a move has not been answered. -/
def execMoveOpenTimeout (r : Nat) (s : State) : Host.Outcome State Fault Refusal :=
  .next (s.onCore (fun t c =>
    match (c.moveReqs r).find? (fun e => c.reqDue t e.2 && e.2.movesAlone && e.2.type != 0x33) with
    | some (q, _) => c.reqTimesOut t q
    | none => c))
/-- DRAIN_TIMEOUT (R134, R317): the MARK sent on a connection has not been echoed. -/
def execDrainTimeout (r cid : Nat) (s : State) : Host.Outcome State Fault Refusal :=
  .next (s.onCore (fun t c =>
    match (c.moveReqs r).find? (fun e => c.reqDue t e.2 && e.2.type == 0x33 && e.2.conn == cid) with
    | some (q, _) => c.reqTimesOut t q
    | none => c))

end Sys2Proof.Machine
end

