-- ==== Sys2Proof/Machine/Links.lean ====
section
/-! DEFINITION. Jetur ports (chapter 10): frames received, acknowledged and replayed (R278 to R285), lanes (R287 to R289), port
states and bring-up (R290 to R293), held frames (R294 to R296), calibration (R297, R298), bonding (R38, R299 to R301), the
0x09xx commands (R303), and the timed rows of the egress queues (R334, R340, R343, R344). -/

namespace Sys2Proof.Machine

/-! ### LINK flits and LINK_CTRL messages -/

/-- The lowest lane count the port may use (R292). -/
def Port.least (x : Port) : Nat := max x.minLanes x.peerMin

/-- A LINK flit sent (R280): with both acknowledgements and the buffer freed since the last one. -/
def Core.sendLink (t : Top) (p kind : Nat) (mask : BitVec 16) (nakExpress : Bool) (cause lane hold : Nat) (c : Core) : Core :=
  let x := c.port p
  let f : LinkFlit := {
    checkOk := true, normalAck := x.normal.expect - 1, expressAck := x.express.expect - 1, reqCredits := x.freedReq,
    rspCredits := x.freedRsp, laneMask := mask, nakExpress := nakExpress, cause := cause, calLane := lane, hold := hold }
  (c.updPort p (fun x => { x with freedReq := 0, freedRsp := 0 })).putLink p kind f t.now

/-- A LINK_CTRL message sent (R299), in an express frame of kind 0x2; the port's own Jetur version is 2.0. -/
def Core.sendCtrl (t : Top) (p kind t1 t2 t3 : Nat) (c : Core) : Core :=
  let x := c.port p
  let b : LinkCtrl := {
    major := 2, minor := 0, port := p, node := t.nodeId, minLanes := x.minLanes, session := x.session,
    peerSession := x.peerSession, normalExpected := x.normal.expect, expressExpected := x.express.expect, t1 := t1, t2 := t2, t3 := t3 }
  let m : Msg := {
    type := 0x7F, flags := 16, src := t.nodeId, dst := x.peerNode, conn := 0xFFFF, seq := 0, stamp := stampOf (t.dieTime (passDie (p / 2))),
    job := c.jobId, crReq := 0, crRsp := 0, body := ctrlBody kind b }
  let (c, w) := c.fly p true { seq := 0, kind := 2, rsp := false, payload := m.bytes, slots := [] } t.now
  c.emit (.linkCtrl p kind b w)

/-- NAK sent for a class (R283): at most one for each expected sequence and each retry timer period. -/
def Core.sendNak (t : Top) (p : Nat) (express : Bool) (c : Core) : Core :=
  let x := c.port p
  let soon : Bool := match (x.cls express).nakAt with
    | some a => t.now < a + x.retryNs
    | none => false
  if soon then c
  else ((c.sendLink t p 2 0 express 0 0 0).updPort p (fun x => x.onClass express (fun l => { l with nakAt := some t.now }))).bump (.port p 3)

/-- LANE_REQ sent with the lanes locked at this receiver, and repeated until a LANE_MAP answers it (R280, R287). -/
def Core.sendLaneReq (t : Top) (p : Nat) (c : Core) : Core :=
  let m := (c.port p).rxLocked
  (c.sendLink t p 3 m false 0 0 0).updPort p (fun x => { x with laneReq := some m, reqAt := some t.now })

/-! ### Frames whose cells are given up -/

/-- The message of a frame whose cells are completed with PORT_DOWN (R317): a request that expects an answer completes; any
other message is lost and counted. -/
def Core.cellsDown (t : Top) (conn mseq : Nat) (rsp : Bool) (c : Core) : Core :=
  match c.findReq conn (fun _ x => !rsp && x.mseq == some mseq) with
  | some (q, _) => c.reqFails t q .portDown
  | none => if conn < 16384 then c.updConn conn (fun n => { n with lost := n.lost.up }) else c

/-- Frames completed with PORT_DOWN (R295): counted by frame, their messages ended once each. -/
def Core.framesDown (t : Top) (p : Nat) (fs : List (Nat × Nat × Bool)) (c : Core) : Core :=
  fs.dedup.foldl (fun c f => c.cellsDown t f.1 f.2.1 f.2.2) (c.bump (.port p 15) fs.length)

/-- What names the message of a sent frame. -/
def TxFrame.key (f : TxFrame) : Nat × Nat × Bool := (f.conn, f.mseq, f.rsp)
/-- What names the message of a queued frame. -/
def QFrame.key (f : QFrame) : Nat × Nat × Bool := (f.conn, f.mseq, f.rsp)

/-- A never-sent frame put on another path of its connection's route that is UP (R295); none where there is no such path. -/
def Core.reroute (t : Top) (h k : Nat) (f : QFrame) (c : Core) : Option Core :=
  let others := (c.paths (c.conn f.conn).portMask).filter (fun q => q != h && !(c.carriers q).isEmpty)
  match others with
  | [] => none
  | q0 :: rest =>
    let q := rest.foldl (fun b q => if c.pathFree q > c.pathFree b then q else b) q0
    some (c.enqueue t q k f)

/-- Frames of a queue set that are given up: rerouted, or completed with PORT_DOWN (R295). -/
def Core.giveUpQueued (t : Top) (p : Nat) (pick : QFrame → Bool) (c : Core) : Core :=
  let h := c.head p
  if !(c.carriers h).isEmpty then c else
  let fs := (c.port h).queues.flatMap (fun e => (e.2.filter pick).map (fun f => (e.1, f)))
  if fs.isEmpty then c else
  let c := c.setQueues t h (fun _ q => q.filter (fun f => !pick f))
  let (c, down) := fs.foldl (fun (c, down) (k, f) => match c.reroute t h k f with
    | some c => (c.bump (.port p 14), down)
    | none => (c, down ++ [f.key])) (c, [])
  c.framesDown t p down

/-- Unacknowledged frames of both classes that are given up: completed with PORT_DOWN, because the peer may hold them (R295). -/
def Core.giveUpSent (t : Top) (p : Nat) (pick : TxFrame → Bool) (c : Core) : Core :=
  let x := c.port p
  let fs := (x.normal.unacked ++ x.express.unacked).filter pick
  let cut := fun (l : LinkClass) => { l with unacked := l.unacked.filter (fun f => !pick f), replay := 0 }
  (c.updPort p (fun x => { x with normal := cut x.normal, express := cut x.express })).framesDown t p (fs.map TxFrame.key)

/-! ### Port states -/

/-- A state change (R302): CHANGED is set. -/
def Core.setPortState (p : Nat) (st : PortState) (c : Core) : Core := c.updPort p (fun x => { x with state := st, changed := true })

/-- A hold window's expiry for a frame: an earlier window that still runs keeps its own (R294). -/
def coverBy (now until_ : Nat) (old : Option Nat) : Option Nat :=
  match old with
  | some u => if now < u then some u else some until_
  | none => some until_

/-- Entry to DOWN from UP or RETRAIN (R290, R291, R294): the hold window starts and covers the frames unacknowledged and, with
no member of the port's set left to carry them, queued. -/
def Core.goDown (t : Top) (p cause : Nat) (c : Core) : Core :=
  let x := c.port p
  if x.state ≠ .up && x.state ≠ .retrain then c else
  let w := t.now + 1000 * x.holdUs
  let cover := fun (l : LinkClass) => { l with
    unacked := l.unacked.map (fun f => { f with until_ := coverBy t.now w f.until_ }), timerAt := none, retries := 0, replay := 0 }
  let c := (c.updPort p (fun x => { x.remap 0 t.now with
    cause := cause, normal := cover x.normal, express := cover x.express, attemptAt := none, helloAt := none, laneReq := none,
    reqAt := none, calAt := none, stopped := false, rxMap := 0, rejoin := x.group, holdUntil := some w,
    downs := t.now :: x.downs.filter (fun d => t.now < d + 1000000000) })).setPortState p .down
  let h := c.head p
  let alone := (c.carriers h).isEmpty
  let queued := if alone then sumL ((c.port h).queues.vals.map List.length) else 0
  let c := if alone then c.updPort h (fun y => { y with
    queues := y.queues.mapVal (fun _ q => q.map (fun f => { f with until_ := coverBy t.now w f.until_ })) }) else c
  let c := (c.bump (.port p 12)).bump (.port p 13) (x.normal.unacked.length + x.express.unacked.length + queued)
  c.raise t 0x0902 (portDie p) p (le 1 cause ++ le 1 PortState.down.code)

/-- The port sends DOWN with a cause and enters DOWN (R288, R292). -/
def Core.sendDown (t : Top) (p cause : Nat) (c : Core) : Core := (c.sendLink t p 5 0 false cause 0 0).goDown t p cause

/-- Entry to RETRAIN (R290): frames are kept, and the peer is told unless it asked. -/
def Core.goRetrain (t : Top) (p : Nat) (tell : Bool) (c : Core) : Core :=
  if (c.port p).state ≠ .up then c else
  let c := if tell then c.sendCtrl t p 3 0 0 0 else c
  let stop := fun (l : LinkClass) => { l with timerAt := none }
  let c := (c.updPort p (fun x => { x with
    stateAt := t.now, attemptAt := none, normal := stop x.normal, express := stop x.express, retryAt := t.now })).setPortState p .retrain
  c.bump (.port p 5)

/-- A class after the peer's acknowledgement (R282, R284, R285): frames up to it are released, the retry count returns to 0 and
the retry timer restarts. -/
def LinkClass.acked (l : LinkClass) (ack : BitVec 16) (next : Nat) : LinkClass :=
  match l.unacked.findIdx? (fun f => f.seq == ack) with
  | none => l
  | some i =>
    let rest := l.unacked.drop (i + 1)
    { l with unacked := rest, replay := min l.replay rest.length, retries := 0, timerAt := if rest.isEmpty then none else some next }

/-- A class whose frames from the first that the peer expects are to be replayed (R284). -/
def LinkClass.replayAll (l : LinkClass) (next : Nat) : LinkClass :=
  { l with replay := l.unacked.length, timerAt := if l.unacked.isEmpty then none else some next }

/-- A successful bring-up (R290, R295). With both session numbers unchanged the unacknowledged frames are replayed from the
peer's expected sequences; otherwise the link is new, they are completed with PORT_DOWN, and sequences start again at 0. -/
def Core.goUp (t : Top) (p : Nat) (c : Core) : Core :=
  let x := c.port p
  let next := t.now + x.retryNs
  let c := if x.sameLink then
      c.updPort p (fun x => { x with
        normal := ({ (x.normal.acked (x.peerNormal - 1) next) with retries := 0 } : LinkClass).replayAll next,
        express := ({ (x.express.acked (x.peerExpress - 1) next) with retries := 0 } : LinkClass).replayAll next })
    else
      let c := c.giveUpSent t p (fun _ => true)
      c.updPort p (fun x => { x with normal := {}, express := {} })
  let c := (c.updPort p (fun x => { x with
    upSince := t.now, attemptAt := none, helloAt := none, laneReq := none, reqAt := none, stopped := false, sameLink := true,
    holdUntil := none })).setPortState p .up
  c.raise t 0x0901 (portDie p) p (le 4 x.session.toNat)

/-- A bring-up attempt fails with a cause (R293); the next starts 10 µs later. -/
def Core.attemptFails (t : Top) (p cause : Nat) (c : Core) : Core :=
  c.updPort p (fun x => { x with
    cause := cause, attemptAt := none, helloAt := none, laneReq := none, reqAt := none, retryAt := t.now + 10000 })

/-- Both directions have the lanes that the port needs, locked and mapped (R292). -/
def Port.enough (x : Port) : Bool :=
  [x.txMap, x.rxMap, x.rxLocked, x.peerLocked].all (fun m => x.least ≤ laneCount m)

/-- A running attempt succeeds once the HELLO exchange is done and both maps are formed of locked lanes (R292, R293). -/
def Core.tryUp (t : Top) (p : Nat) (c : Core) : Core :=
  let x := c.port p
  if x.attemptAt.isSome && x.acked && x.enough then c.goUp t p else c

/-- The lanes that a transmitter may map: those the peer asks for, less any lane removed for want of laser light (R288). -/
def Port.offer (x : Port) (mask : BitVec 16) : BitVec 16 := mask &&& ~~~x.laserLow

/-- The new transmit map at a frame boundary (R288): LANE_MAP is sent, and the slots begin again; or DOWN where the map falls below the
minimum. A port that is not up forms its map when it can. -/
def Core.mapNow (t : Top) (p : Nat) (mask : BitVec 16) (c : Core) : Core :=
  let x := c.port p
  let m := x.offer mask
  if laneCount m < x.least then
    if x.state = .up || x.state = .retrain then c.sendDown t p 1 else c.updPort p (Port.remap 0 t.now)
  else
    let h := c.head p
    let c := c.egressAcct t h
    ((c.sendLink t p 4 m false 0 0 0).updPort p (Port.remap m t.now)).tryUp t p

/-- A LANE_REQ waits for the next frame boundary: no frame of either class is in progress or suspended (R288). -/
def Core.mapLanes (t : Top) (p : Nat) (mask : BitVec 16) (c : Core) : Core :=
  if (c.port p).classFree false t.now then c.mapNow t p mask else c.updPort p (fun x => { x with mapWant := some mask })

/-- At a frame boundary the LANE_REQ that waits for one is met (R288). -/
def Core.settleMap (t : Top) (p : Nat) (c : Core) : Core :=
  match (c.port p).mapWant with
  | some m => if (c.port p).classFree false t.now then c.mapNow t p m else c
  | none => c

/-! ### LINK flits received -/

/-- What every LINK flit carries (R280, R282): acknowledgements and freed buffer. One whose check fails is discarded and
counted; with delivery stopped only a LANE_MAP is taken (R287). None where the flit is dropped. -/
def Core.linkIn (t : Top) (p kind : Nat) (f : LinkFlit) (c : Core) : Option Core :=
  let x := c.port p
  if x.state = .disabled || x.state = .dark || (x.stopped && kind ≠ 4) then none
  else if !f.checkOk then some (c.bump (.port p 17))
  else
    let next := t.now + x.retryNs
    some (c.updPort p (fun x => { x with
      normal := x.normal.acked f.normalAck next, express := x.express.acked f.expressAck next,
      gotReq := (x.gotReq + f.reqCredits) % 65536, gotRsp := (x.gotRsp + f.rspCredits) % 65536 }))

/-- A LINK row: what the flit carries, then what its kind does. -/
def onLink (p kind : Nat) (f : LinkFlit) (g : Top → Core → Core) (s : State) : State :=
  s.onCore (fun t c => if !t.hasPort p then c else
    match c.linkIn t p kind f with
    | none => c
    | some c => if f.checkOk then g t c else c)

/-- A replay of a class (R284, R285): counted as a retry. -/
def Core.replay (t : Top) (p : Nat) (express : Bool) (c : Core) : Core :=
  let x := c.port p
  if (x.cls express).unacked.isEmpty then c
  else (c.updPort p (fun x => x.onClass express (fun l =>
    ({ l with retries := l.retries + 1 } : LinkClass).replayAll (t.now + x.retryNs)))).bump (.port p 2)

/-- NAK (R284): an UP port replays the class. -/
def Core.nakIn (t : Top) (p : Nat) (express : Bool) (c : Core) : Core := if (c.port p).state = .up then c.replay t p express else c

/-- LANE_REQ (R288, R293): the lanes locked at the peer's receiver. -/
def Core.laneReqIn (t : Top) (p : Nat) (mask : BitVec 16) (c : Core) : Core :=
  (c.updPort p (fun x => { x with peerLocked := mask })).mapLanes t p mask

/-- CAL_REQ (R298): the peer asks for a lane to be idled; one hold action per lane and period. -/
def Core.askHold (t : Top) (p dir lane ns : Nat) (c : Core) : Core :=
  let k := 16 * dir + lane
  let period := t.now / 1000000
  if 16 ≤ lane || ns = 0 || 100 < ns then c
  else c.updPort p (fun x =>
    let l := x.lanes.getD k {}
    if l.hold.isSome || l.heldAt = period + 1 then x
    else { x with lanes := x.lanes.set k { l with hold := some ns, heldAt := period + 1 } })

/-- LANE_MAP (R276, R287, R288, R293): destriping resumes on the new map, from STRIPE 0. -/
def Core.mapIn (t : Top) (p : Nat) (mask : BitVec 16) (c : Core) : Core :=
  let c := c.updPort p (fun x => { x with rxMap := mask, rxStripe := 0, stopped := false, laneReq := none, reqAt := none })
  let x := c.port p
  if (x.state = .up || x.state = .retrain) && laneCount mask < x.least && x.attemptAt.isNone then c.sendDown t p 1 else c.tryUp t p

/-! ### LINK_CTRL received -/

/-- What HELLO and HELLO_ACK tell of the peer (R292, R295, R299). -/
def Core.meetPeer (p : Nat) (m : LinkCtrl) (c : Core) : Core :=
  c.updPort p (fun x => { x with
    peerNode := m.node % 2 ^ 14, peerPort := m.port, peerMin := m.minLanes, peerNormal := m.normalExpected,
    peerExpress := m.expressExpected, sameLink := x.sameLink && m.session == x.peerSession && m.peerSession == x.session,
    peerSession := m.session })

/-- HELLO (R293, R299): answered with HELLO_ACK; another major version fails the attempt. -/
def Core.helloIn (t : Top) (p : Nat) (m : LinkCtrl) (c : Core) : Core :=
  if !(c.port p).talks || (c.port p).stopped then c else
  let c := if (c.port p).state = .up then c else c.meetPeer p m
  let c := c.sendCtrl t p 2 m.t1 t.now t.now
  if m.major ≠ 2 && (c.port p).attemptAt.isSome then c.attemptFails t p 7 else c.tryUp t p

/-- HELLO_ACK (R274, R293, R299): the round trip is taken; another major version, or too long a way, fails the attempt. -/
def Core.helloAckIn (t : Top) (p : Nat) (m : LinkCtrl) (c : Core) : Core :=
  if !(c.port p).talks || (c.port p).stopped || (c.port p).attemptAt.isNone then c else
  let rtt := (t.now - m.t1) - (m.t3 - m.t2)
  let c := (c.meetPeer p m).updPort p (fun x => { x with rtt := rtt, helloAt := none, acked := true })
  if m.major ≠ 2 then c.attemptFails t p 7
  else if 2600 < rtt / 2 || (rtt / 2 = 2600 && rtt % 2 = 1) then c.attemptFails t p 6
  else c.tryUp t p

/-- RETRAIN from the peer (R290, R299). -/
def Core.retrainIn (t : Top) (p : Nat) (c : Core) : Core := if (c.port p).stopped then c else c.goRetrain t p false

/-! ### Frames received -/

/-- The data of a frame's flits (R278): none unless every flit is good DATA of one class, in INDEX order with FIRST on the first
alone and LAST on the last alone. -/
def frameData (fs : List Flit) : Option (List Byte) :=
  let n := fs.length
  let good := (fs.zipIdx).all (fun (f, i) =>
    !f.bad && f.bytes.length == 64 && bits (flitWord f) 1 0 == 1 && bit (flitWord f) 3 == (i == 0) && bit (flitWord f) 4 == (i + 1 == n) &&
    bits (flitWord f) 10 5 == i && bit (flitWord f) 2 == bit (flitWord (fs.headD ⟨false, []⟩)) 2)
  if 0 < n && n ≤ 64 && good then some (fs.flatMap (fun f => f.bytes.drop 4)) else none

/-- What a received frame's flits come to. -/
inductive FrameCheck where
  /-- a flit is bad or missing -/
  | broken
  /-- the CRC does not match -/
  | crc
  /-- sequence, kind, channel (1 response) and payload -/
  | good (seq : BitVec 16) (kind : Nat) (rsp : Bool) (payload : List Byte)
  deriving DecidableEq, Repr

/-- The checks of R278 on a frame: CRC-32C over every byte of its flits but the last four. -/
def checkFrame (fs : List Flit) : FrameCheck :=
  match frameData fs with
  | none => .broken
  | some d =>
    let all := fs.flatMap Flit.bytes
    let len := rd d 2 2
    if (crc32c (all.take (all.length - 4))).toNat ≠ rd all (all.length - 4) 4 then .crc
    else if len = 0 || 3828 < len || frameFlits len ≠ fs.length then .broken
    else .good (BitVec.ofNat 16 (rd d 0 2)) (rd d 4 1) (bit (rd d 5 1) 0) ((d.drop 8).take len)

/-- What a LINK flit of a kind does beside what it carries (R280); one of a reserved kind is discarded and counted. -/
def Core.linkAct (t : Top) (p kind : Nat) (f : LinkFlit) (c : Core) : Core :=
  match kind with
  | 1 => c
  | 2 => c.nakIn t p f.nakExpress
  | 3 => c.laneReqIn t p f.laneMask
  | 4 => c.mapIn t p f.laneMask
  | 5 => c.goDown t p 4
  | 6 => c.askHold t p 1 f.calLane f.hold
  | _ => c.bump (.port p 17)

/-- A LINK flit read from its data area (R280): taken as its row takes it. -/
def Core.linkFlit (t : Top) (p : Nat) (area : List Byte) (c : Core) : Core :=
  let (kind, f) := readLinkArea area
  if kind = 0 || 6 < kind then (if (c.port p).talks && !(c.port p).stopped then c.bump (.port p 17) else c)
  else match c.linkIn t p kind f with
    | none => c
    | some c => if f.checkOk then c.linkAct t p kind f else c

/-- A LINK_CTRL message of a frame of kind 0x2 (R299): taken as its row takes it; one of a reserved kind is discarded and counted. -/
def Core.linkCtrl (t : Top) (p : Nat) (payload : List Byte) (c : Core) : Core :=
  let (kind, m) := readCtrlBody (payload.drop 32)
  match kind with
  | 1 => c.helloIn t p m
  | 2 => c.helloAckIn t p m
  | 3 => c.retrainIn t p
  | _ => c.bump (.port p 17)

/-- A frame's DATA flits, deskewed (R278, R283): a LINK_CTRL frame takes no sequence; one in order is taken and acknowledged, one before it is
acknowledged again, and for anything else a NAK goes out. -/
def Core.dataFrame (t : Top) (p : Nat) (fs : List Flit) (c : Core) : Core :=
  let x := c.port p
  let cls := (fs.find? (fun f => !f.bad)).map (fun f => bit (flitWord f) 2)
  let nak := fun (c : Core) => match cls with
    | some e => c.sendNak t p e
    | none => (c.sendNak t p false).sendNak t p true
  let up := x.state == .up
  match checkFrame fs with
  | .broken => if up then nak c else c
  | .crc => if up then nak (c.bump (.port p 4)) else c
  | .good seq kind rsp payload =>
    let e := cls.getD false
    if kind = 2 then c.linkCtrl t p payload
    else if !up then c
    else
      let want := (x.cls e).expect
      if seq = want then
        let c := c.updPort p (fun x => x.onClass e (fun l => { l with expect := l.expect + 1, nakAt := none }))
        let c := if kind = 1 then
            ((c.bump (.port p 1)).updPort p (fun x => { x with rxq := x.rxq ++ [(rsp, payload)] })).qSend t 0x0B p (portDie p) fs.length .cells
          else c.bump (.port p 17)
        c.sendLink t p 1 0 false 0 0 0
      else if seqAbove16 seq.toNat want.toNat then nak c
      else (c.bump (.port p 16)).sendLink t p 1 0 false 0 0 0

/-- DATA_FRAME_RECEIVE (R276, R281, R283): the flits of one frame as they arrive, put in the order in which they were sent. LINK flits among
them are taken on their own, IDLE flits ignored (R277), and flits of the reserved type discarded and counted. -/
def Core.frameArrives (t : Top) (p : Nat) (flits : List Flit) (c : Core) : Core :=
  let x := c.port p
  if !x.talks then c else
  let all := x.deskew flits
  let type := fun (f : Flit) => bits (flitWord f) 1 0
  let c := (all.filter (fun f => !f.bad && type f == 2)).foldl (fun c f => c.linkFlit t p (f.bytes.drop 4)) c
  if (c.port p).stopped then c else
  let c := c.updPort p (fun y => { y with rxStripe := y.stripeAfter flits })
  let c := c.bump (.port p 17) (all.filter (fun f => !f.bad && type f == 3)).length
  let fs := all.filter (fun f => f.bad || type f == 1)
  if fs.isEmpty then c else c.dataFrame t p fs

/-! ### Lanes -/

/-- A receive lane loses lock (R287, R289): recorded; delivery stops, and LANE_REQ goes with a NAK for each class that has a
frame outstanding, as the receiver finds them. In a bring-up attempt the change of locked lanes is told to the peer. -/
def Core.lockLost (t : Top) (p lane : Nat) (normalOut expressOut : Bool) (c : Core) : Core :=
  let x := c.port p
  if 16 ≤ lane || !x.rxLocked.getLsbD lane then c else
  let l := x.lanes.getD lane {}
  let c := c.updPort p (fun x => { x with
    rxLocked := x.rxLocked &&& ~~~(1#16 <<< lane),
    lanes := x.lanes.set lane { l with losses := t.now :: l.losses.filter (fun a => t.now < a + 1000000000), lastLoss := t.now } })
  let c := ((c.bump (.lane p 0 lane 0)).bump (.port p 6)).life t (portDie p) 0x0A lane
  if x.state = .up || x.state = .retrain then
    let c := (c.updPort p (fun x => { x with stopped := true })).sendLaneReq t p
    let c := if normalOut then c.sendNak t p false else c
    if expressOut then c.sendNak t p true else c
  else if x.attemptAt.isSome then c.sendLaneReq t p
  else c

/-- A lane outside the map that has held lock for 100 µs is offered back (R289). -/
def Core.laneBack (t : Top) (p lane : Nat) (c : Core) : Core :=
  let x := c.port p
  let kept : Bool := match (x.lanes.getD lane {}).outUntil with
    | some u => t.now < u
    | none => false
  if 16 ≤ lane || (x.rxLocked.getLsbD lane && x.rxMap.getLsbD lane) || kept || c.fenced (portDie p) then c else
  let c := c.updPort p (fun x => { x with rxLocked := x.rxLocked ||| (1#16 <<< lane) })
  if x.state = .up || x.state = .retrain then c.sendLaneReq t p else c

/-- A lane that lost lock 4 times within 1 s is kept out of the map for 1 s from its fourth loss (R289). -/
def Core.keepOut (t : Top) (p lane : Nat) (c : Core) : Core :=
  let l := (c.port p).lanes.getD lane {}
  match l.losses with
  | a :: _ :: _ :: b :: _ =>
    if a < b + 1000000000 && l.outUntil.isNone && t.now < a + 1000000000 then
      (c.updPort p (fun x => { x with lanes := x.lanes.set lane { l with outUntil := some (a + 1000000000) } })).raise t 0x0903
        (portDie p) p (le 1 lane ++ le 1 0)
    else c
  | _ => c

/-! ### Calibration -/

/-- A trim of one side of a lane (R297), once per period. -/
def Core.trim (p dir lane period : Nat) (c : Core) : Core :=
  let l := (c.port p).lanes.getD (16 * dir + lane) {}
  if l.trimAt = period then c
  else (c.updPort p (fun x => { x with
    lanes := x.lanes.set (16 * dir + lane) { l with trims := l.trims + 1, trimAt := period } })).bump (.lane p dir lane 3)

/-- TUNING_PERIOD (R297): a hold of an earlier period that was not made is skipped and counted (R298); the lane then acts. -/
def Core.tune (t : Top) (p lane : Nat) (act : TuneAct) (c : Core) : Core :=
  let x := c.port p
  if 16 ≤ lane || !x.talks || c.fenced (portDie p) then c else
  let period := t.now / 1000000 + 1
  let c := [0, 1].foldl (fun c dir =>
    let l := (c.port p).lanes.getD (16 * dir + lane) {}
    if l.hold.isSome && l.heldAt ≠ period then
      (c.updPort p (fun x => { x with lanes := x.lanes.set (16 * dir + lane) { l with hold := none } })).bump (.port p 11)
    else c) c
  match act with
  | .none => c
  | .trimTx => c.trim p 1 lane period
  | .trimRx => c.trim p 0 lane period
  | .holdTx ns => c.askHold t p 1 lane ns
  | .holdRx ns =>
    let had := ((c.port p).lanes.getD lane {}).hold
    let c := c.askHold t p 0 lane ns
    if had.isNone && ((c.port p).lanes.getD lane {}).hold.isSome then
      (c.sendLink t p 6 0 false 0 lane ns).updPort p (fun x => { x with calAt := some t.now })
    else c

/-- A gate event of the operational or the pending list falls within a time from now (R298, R343). -/
def Port.gateSoon (x : Port) (now within : Nat) : Bool :=
  let soon := fun (g : GateList) => !g.entries.isEmpty && (g.next now).1 ≤ now + within
  (x.gates.map soon).getD false || (match x.gatesNext with
    | some (g, sw) => sw ≤ now + within || soon g
    | none => false)

/-- CALIBRATION_HOLD (R298), within the period of the lane's hold. A transmit side's is made at a frame boundary of an UP port with no
express frame waiting and no gate event near; LINK flits wait until it is over. A receive side's is the peer's, whose IDLE flits answer the
CAL_REQ. -/
def Core.holdMade (t : Top) (p dir lane ns : Nat) (c : Core) : Core :=
  let x := c.port p
  let y := c.port (c.head p)
  let k := 16 * dir + lane
  let l := x.lanes.getD k {}
  let waiting := (List.range 8).any (fun q => y.express_ q && !(y.q q).isEmpty) || 0 < x.express.replay
  if x.state ≠ .up || c.fenced (portDie p) || l.hold ≠ some ns || l.heldAt ≠ t.now / 1000000 + 1 then c
  else
    let lanes := x.lanes.set k { l with hold := none }
    if dir = 0 then
      (c.updPort p (fun x => { x with
        lanes := lanes, calAt := if (List.range 16).any (fun i => (lanes.getD i {}).hold.isSome) then x.calAt else none })).bump (.port p 10)
    else if x.classFree true t.now && x.classFree false t.now && !waiting && !y.gateSoon t.now (ns + guardBand (laneCount x.txMap)) then
      let k := max x.slot (x.slotAt (t.now + ns))
      ((c.emit (.idleHold p ns)).updPort p (fun x => { x with
        expressEnd := t.now + ns, normalEnd := t.now + ns, slot := k, linkSlot := k, lanes := lanes })).bump (.port p 10)
    else c

/-! ### Timers -/

/-- Every lane's settings loaded from the factory table (R290): its heater code is again the one with no trims. -/
def factoryLanes (ls : Tbl Lane) : Tbl Lane := ls.mapVal (fun _ l => { l with trims := 0 })

/-- BRINGUP_ATTEMPT (R290, R293): the lanes locked at this receiver are reported; an attempt starts where none runs. None is made
with the fibre unmated (R421) or without TX_REFCLK (R433). -/
def Core.attempt (t : Top) (p : Nat) (locked : BitVec 16) (c : Core) : Core :=
  let x := c.port p
  if !(x.state = .training || x.state = .down || x.state = .retrain) || !t.txRefclk || !x.mated then c
  else
    let c := c.updPort p (fun x => { x with rxLocked := (List.range 16).foldl (fun m i =>
      let out : Bool := match (x.lanes.getD i {}).outUntil with
        | some u => t.now < u
        | none => false
      if out then m &&& ~~~(1#16 <<< i) else m) locked })
    if x.attemptAt.isSome then
      (if (c.port p).rxLocked = x.rxLocked then c else c.sendLaneReq t p).tryUp t p
    else if t.now < x.retryAt then c
    else
      let c := c.updPort p (fun x => { x.remap 0 t.now with
        attemptAt := some t.now, acked := false, helloAt := some t.now, rxMap := 0, peerLocked := 0, lanes := factoryLanes x.lanes })
      (c.sendCtrl t p 1 t.now 0 0).sendLaneReq t p

/-- BRINGUP_TIMEOUT (R293). -/
def Core.attemptTimeout (t : Top) (p : Nat) (c : Core) : Core :=
  let x := c.port p
  match x.attemptAt with
  | none => c
  | some a =>
    if t.now < a + 2000000 then c
    else c.attemptFails t p (if laneCount x.rxLocked < x.least || laneCount (x.offer x.peerLocked) < x.least then 1 else 4)

/-- HOLD_WINDOW_EXPIRY (R295, R328): frames whose window has expired are given up. -/
def Core.holdExpires (t : Top) (p : Nat) (c : Core) : Core :=
  let x := c.port p
  let past : Option Nat → Bool := fun u => match u with
    | some u => u ≤ t.now
    | none => false
  if x.state = .up || x.state = .retrain then c else
  let c := c.giveUpSent t p (fun f => past f.until_)
  let c := c.giveUpQueued t p (fun f => past f.until_)
  if !past x.holdUntil then c
  else
    (c.updPort p (fun x => { x with holdUntil := none })).checkNodes t p

/-- A port enters DISABLED (R296): it sends DOWN, and its frames are completed with PORT_DOWN. -/
def Core.portOff (t : Top) (p : Nat) (c : Core) : Core :=
  let c := (c.sendLink t p 5 0 false 5 0 0).updPort p (fun x => { x.remap 0 t.now with
    cause := 5, disableBy := none, attemptAt := none, helloAt := none, laneReq := none, reqAt := none, calAt := none, holdUntil := none,
    rxMap := 0, rxLocked := 0, laserEn := false, sameLink := false, rejoin := x.group })
  let c := c.setPortState p .disabled
  ((c.giveUpSent t p (fun _ => true)).giveUpQueued t p (fun _ => true)).checkNodes t p

/-- PORT_DISABLE_DONE (R296): every sent frame is acknowledged, or the hold window has passed. -/
def Core.disabled (t : Top) (p : Nat) (c : Core) : Core :=
  let x := c.port p
  match x.disableBy with
  | none => c
  | some u =>
    if !(x.normal.unacked.isEmpty && x.express.unacked.isEmpty) && t.now < u then c
    else
      c.portOff t p

/-- LINK_REPEAT_TIMER (R280, R299): LANE_REQ and CAL_REQ every 1 µs, HELLO every 10 µs, until answered. -/
def Core.repeatLink (t : Top) (p : Nat) (c : Core) : Core :=
  let c := c.settleMap t p
  let x := c.port p
  let due := fun (at_ : Option Nat) => match at_ with
    | some a => decide (a + 1000 ≤ t.now)
    | none => false
  let cal := (List.range 16).filterMap (fun i => (x.lanes.getD i {}).hold.map (fun ns => (i, ns)))
  let c := if due x.reqAt && x.talks && x.laneReq.isSome then c.sendLaneReq t p else c
  let c := if due x.calAt && x.talks then
      (cal.foldl (fun c (i, ns) => c.sendLink t p 6 0 false 0 i ns) c).updPort p (fun x => { x with calAt := if cal.isEmpty then none else some t.now })
    else c
  match x.helloAt with
  | some a =>
    if a + 10000 ≤ t.now && x.attemptAt.isSome then
      (c.sendCtrl t p 1 t.now 0 0).updPort p (fun x => { x with helloAt := some t.now })
    else c
  | none => c

/-! ### Bonding -/

/-- The groups of R38. -/
def bondable (mask : Nat) : Bool := [0x03, 0x0C, 0x30, 0xC0, 0x0F, 0xF0, 0xFF].contains mask

/-- A port leaves its group: the frames and the settings of the group stay with the members that remain, and it takes a copy of the settings
with no tokens (R336), as does the last member where only one remains. -/
def Core.leaveGroup (t : Top) (p : Nat) (c : Core) : Core :=
  let g := (c.port p).group
  let rest := (portsOf g).filter (· != p)
  let h := c.head p
  let mask := sumL (rest.map (2 ^ ·))
  let c := c.egressAcct t h
  let y := c.port h
  let c := rest.foldl (fun c q => c.updPort q (fun x => { x with group := if rest.length < 2 then 0 else mask })) c
  let c := c.updPort p (fun x => { x with group := 0, rejoin := 0 })
  let c := match rest with
    | q :: _ =>
      let c := if h = p then (c.updPort q (fun x => { x with
          shapers := y.shapers, expressMask := y.expressMask, gates := y.gates, gatesNext := y.gatesNext, gateEntry := y.gateEntry,
          acctAt := t.now })).moveQueues t p q else c
      if rest.length < 2 then c.takeSettings t h q else c
    | [] => c
  c.takeSettings t h p

/-- BOND_MEMBER_RETURN (R301). -/
def Core.memberBack (t : Top) (p skew : Nat) (c : Core) : Core :=
  let x := c.port p
  if x.state ≠ .up || x.rejoin = 0 then c
  else if skew ≤ 64 then c.updPort p (fun x => { x with rejoin := 0 })
  else (c.leaveGroup t p).raise t 0x0904 (portDie p) p (le 4 skew)

/-! ### Commands -/

/-- A map that has been formed holds fewer than 16 lanes (R302). -/
def Port.degraded (x : Port) : Bool := [x.txMap, x.rxMap].any (fun m => m != 0 && laneCount m < 16)

/-- The flags of PORT_QUERY and OPORT.LINK_STATUS (R302, R303): DEGRADED, BONDED, HOLDING. -/
def Port.flags (x : Port) : Nat :=
  b2n x.degraded + 2 * b2n (x.group != 0) + 4 * b2n x.holdUntil.isSome

/-- PORT_QUERY (R303). Codewords corrected and uncorrectable are counted by the port's decoders, of which no row tells: these two rate
counters have risen by free amounts since they were last read. -/
def portQueryBody (t : Top) (c : Core) (_m : Nat) (a : Cmd) : Ans := do
  let p := a.arg 0 1
  c.portArg t p
  let x := c.port p
  let (v, c) := c.pick
  let (w, c) := c.pick
  let c := (c.bump (.port p 7) v).bump (.port p 8) w
  let ctrs := c.ctrBytes ((List.range 17).map (.port p))
  ok c (le 1 x.state.code ++ le 1 x.cause ++ le 1 x.flags ++ le 1 x.least ++ le 2 x.txMap.toNat ++ le 2 x.rxMap.toNat ++
    le 2 x.peerNode ++ le 1 x.peerPort ++ le 1 (portsOf x.group).length ++ le 4 x.rtt ++ le 4 x.holdUs ++ le 4 x.session.toNat ++
    le 8 x.upSince ++ ctrs)

/-- A DISABLED port enabled (R290): bring-up may begin, under a new session, with lane settings from the factory table. -/
def Core.portOn (t : Top) (p : Nat) (c : Core) : Core :=
  let s := Config.session p c.nonce
  let c := { c with nonce := c.nonce + 1 }
  (c.updPort p (fun x => { x with
    session := BitVec.ofNat 32 s, sameLink := false, beforeDark := .training, laserEn := x.mated, laserLow := 0, peerMin := 0,
    normal := {}, express := {}, lanes := factoryLanes x.lanes, retryAt := t.now, downs := [] })).setPortState p .training

/-- PORT_SET (R290, R292, R294, R296, R303). -/
def portSetBody (t : Top) (c : Core) (_m : Nat) (a : Cmd) : Ans := do
  let p := a.arg 0 1
  let act := a.arg 1 1
  let least := a.arg 2 1
  let hold := a.arg 4 4
  c.portArg t p
  needArg (act ≤ 2) 1
  needArg (least == 0 || (4 ≤ least && least ≤ 16)) 2
  needArg (hold ≤ 10000 || hold == 0xFFFFFFFF) 4
  let c := c.updPort p (fun x => { x with
    minLanes := if least = 0 then x.minLanes else least, holdUs := if hold = 0xFFFFFFFF then x.holdUs else hold })
  let x := c.port p
  let c := if (x.state = .up || x.state = .retrain) && x.attemptAt.isNone && (laneCount x.txMap < x.least || laneCount x.rxMap < x.least)
    then c.sendDown t p 1 else c
  if act = 1 && x.state = .disabled then ok (c.portOn t p)
  else if act = 2 && x.state ≠ .disabled then
    ok (c.updPort p (fun x => { x with disableBy := some (x.disableBy.getD (t.now + 1000 * x.holdUs)) }))
  else ok c

/-- PORT_BOND (R38, R39, R300, R303). The operand is the skew that the deskew buffers measure. -/
def portBondBody (skew : Nat) (t : Top) (c : Core) (_m : Nat) (a : Cmd) : Ans := do
  let mask := a.arg 0 1
  let act := a.arg 1 1
  needArg (bondable mask && (portsOf mask).all t.hasPort) 0
  needArg (act == 1 || act == 2) 1
  let ps := portsOf mask
  if act = 2 then
    need (ps.all (fun p => (c.port p).group == 0 || (c.port p).group == mask)) .busy
    let h := ps.headD 0
    let c := if (c.port h).group = 0 then c else ps.foldl (fun c p => c.takeSettings t h p) (c.egressAcct t h)
    ok (ps.foldl (fun c p => c.updPort p (fun x => { x with group := 0, rejoin := 0 })) c) (le 4 0)
  else
    match ps.find? (fun p => (c.port p).state != .up) with
    | some p => .error (.stateReject, stateDetail .port (c.port p).state.code)
    | none =>
      let h := ps.headD 0
      need (ps.all (fun p => (c.port p).peerNode == (c.port h).peerNode)) .badArg 0x14
      need (ps.all (fun p => (c.port p).group == 0 || (c.port p).group == mask)) .busy
      if 64 < skew then answer c .checkFail skew
      else
        let c := if (c.port h).group = 0 then ps.foldl (fun c p => c.moveQueues t p h) c else c
        ok (ps.foldl (fun c p => c.updPort p (fun x => { x with group := mask, rejoin := 0 })) c) (le 4 skew)

/-- LANE_QUERY (R303). Error ratio, corrected symbols and uncorrectable codewords are the decoders', of which no row tells: the ratio is a
free value, and the two rate counters have risen by free amounts since they were last read. -/
def laneQueryBody (t : Top) (c : Core) (_m : Nat) (a : Cmd) : Ans := do
  let p := a.arg 0 1
  let lane := a.arg 1 1
  let dir := a.arg 2 1
  c.portArg t p
  needArg (lane < 16) 1
  needArg (dir < 2) 2
  let x := c.port p
  let l := x.lanes.getD (16 * dir + lane) {}
  let (e, c) := c.pick
  let (v, c) := c.pick
  let (w, c) := c.pick
  let c := (c.bump (.lane p dir lane 1) v).bump (.lane p dir lane 2) w
  let locked := if dir = 0 then x.rxLocked.getLsbD lane else x.peerLocked.getLsbD lane
  let inMap := if dir = 0 then x.rxMap.getLsbD lane else x.txMap.getLsbD lane
  ok c (le 1 (b2n locked + 2 * b2n inMap + 4 * b2n l.outUntil.isSome) ++ le 1 e ++ le 2 (Config.heaterCode p dir lane l.trims) ++
    le 2 (Config.opticalPower p dir lane t.now) ++ zeros 2 ++ c.ctrBytes ((List.range 3).map (.lane p dir lane)) ++ le 8 l.lastLoss ++ (c.ctr (.lane p dir lane 3)).bytes)

/-- PORT_RETRAIN (R290, R303). -/
def portRetrainBody (t : Top) (c : Core) (_m : Nat) (a : Cmd) : Ans := do
  let p := a.arg 0 1
  c.portArg t p
  need ((c.port p).state == .up) .stateReject (stateDetail .port (c.port p).state.code)
  ok (c.goRetrain t p true)

/-! ### Rows -/

/-- A row of one port: no effect on a port that the device does not have. -/
def onPort (p : Nat) (f : Top → Core → Core) (s : State) : State := s.onCore (fun t c => if t.hasPort p then f t c else c)

/-- PORT_QUERY (R303). -/
def execPortQuery (m : Nat) (s : State) : Host.Outcome State Fault Refusal := .next (runCommand m 0x0901 portQueryBody s)
/-- PORT_SET (R296). -/
def execPortSet (m : Nat) (s : State) : Host.Outcome State Fault Refusal := .next (runCommand m 0x0902 portSetBody s)
/-- PORT_BOND (R300). -/
def execPortBond (m skew : Nat) (s : State) : Host.Outcome State Fault Refusal := .next (runCommand m 0x0903 (portBondBody skew) s)
/-- LANE_QUERY (R303). -/
def execLaneQuery (m : Nat) (s : State) : Host.Outcome State Fault Refusal := .next (runCommand m 0x0904 laneQueryBody s)
/-- PORT_RETRAIN (R303). -/
def execPortRetrain (m : Nat) (s : State) : Host.Outcome State Fault Refusal := .next (runCommand m 0x0905 portRetrainBody s)
/-- DATA_FRAME_RECEIVE (R283). -/
def execDataFrameReceive (port : Nat) (flits : List Flit) (s : State) : Host.Outcome State Fault Refusal :=
  .next (onPort port (fun t c => c.frameArrives t port flits) s)
/-- LINK_ACK (R282). -/
def execLinkAck (port : Nat) (f : LinkFlit) (s : State) : Host.Outcome State Fault Refusal := .next (onLink port 1 f (fun _ c => c) s)
/-- LINK_NAK (R284). -/
def execLinkNak (port : Nat) (f : LinkFlit) (s : State) : Host.Outcome State Fault Refusal :=
  .next (onLink port 2 f (fun t c => c.nakIn t port f.nakExpress) s)
/-- LANE_REQ (R288). -/
def execLaneReq (port : Nat) (f : LinkFlit) (s : State) : Host.Outcome State Fault Refusal :=
  .next (onLink port 3 f (fun t c => c.laneReqIn t port f.laneMask) s)
/-- LANE_MAP (R288). -/
def execLaneMap (port : Nat) (f : LinkFlit) (s : State) : Host.Outcome State Fault Refusal :=
  .next (onLink port 4 f (fun t c => c.mapIn t port f.laneMask) s)
/-- DOWN (R291). -/
def execLinkDown (port : Nat) (f : LinkFlit) (s : State) : Host.Outcome State Fault Refusal :=
  .next (onLink port 5 f (fun t c => c.goDown t port 4) s)
/-- CAL_REQ (R298). -/
def execCalReq (port : Nat) (f : LinkFlit) (s : State) : Host.Outcome State Fault Refusal :=
  .next (onLink port 6 f (fun t c => c.askHold t port 1 f.calLane f.hold) s)
/-- HELLO (R299). -/
def execHello (port : Nat) (msg : LinkCtrl) (s : State) : Host.Outcome State Fault Refusal :=
  .next (onPort port (fun t c => c.helloIn t port msg) s)
/-- HELLO_ACK (R293). -/
def execHelloAck (port : Nat) (msg : LinkCtrl) (s : State) : Host.Outcome State Fault Refusal :=
  .next (onPort port (fun t c => c.helloAckIn t port msg) s)
/-- RETRAIN from the peer (R290). -/
def execLinkRetrain (port : Nat) (_msg : LinkCtrl) (s : State) : Host.Outcome State Fault Refusal :=
  .next (onPort port (fun t c => c.retrainIn t port) s)
/-- RETRY_TIMER (R284). -/
def execRetryTimer (port : Nat) (express : Bool) (s : State) : Host.Outcome State Fault Refusal :=
  .next (onPort port (fun t c =>
    let due : Bool := match ((c.port port).cls express).timerAt with
      | some e => e ≤ t.now
      | none => false
    if (c.port port).state = .up && due then c.replay t port express else c) s)
/-- RETRY_LIMIT (R285). -/
def execRetryLimit (port : Nat) (s : State) : Host.Outcome State Fault Refusal :=
  .next (onPort port (fun t c =>
    if 8 ≤ (c.port port).normal.retries || 8 ≤ (c.port port).express.retries then c.goRetrain t port true else c) s)
/-- LANE_LOCK_LOSS (R287). -/
def execLaneLockLoss (port : Nat) (lane : LostLane) (s : State) : Host.Outcome State Fault Refusal :=
  .next (onPort port (fun t c => c.lockLost t port lane.lane lane.normalOut lane.expressOut) s)
/-- LANE_REJOIN (R289). -/
def execLaneRejoin (port lane : Nat) (s : State) : Host.Outcome State Fault Refusal :=
  .next (onPort port (fun t c => c.laneBack t port lane) s)
/-- LANE_KEEPOUT (R289). -/
def execLaneKeepout (port lane : Nat) (s : State) : Host.Outcome State Fault Refusal :=
  .next (onPort port (fun t c => c.keepOut t port lane) s)
/-- LANE_KEEPOUT_END (R289). -/
def execLaneKeepoutEnd (port lane : Nat) (s : State) : Host.Outcome State Fault Refusal :=
  .next (onPort port (fun t c =>
    let l := (c.port port).lanes.getD lane {}
    match l.outUntil with
    | some u => if u ≤ t.now then c.updPort port (fun x => { x with lanes := x.lanes.set lane { l with outUntil := none } }) else c
    | none => c) s)
/-- LASER_LANE_LOW (R275): the transmitter acts as though it had received LANE_REQ without the lane. -/
def execLaserLaneLow (port lane : Nat) (s : State) : Host.Outcome State Fault Refusal :=
  .next (onPort port (fun t c =>
    if 16 ≤ lane then c else
    let c := c.updPort port (fun x => { x with laserLow := x.laserLow ||| (1#16 <<< lane) })
    let x := c.port port
    let m := x.mapWant.getD x.txMap
    if m.getLsbD lane then c.mapLanes t port m else c) s)
/-- LASER_INPUT_RESTORED (R275, R288): the lane is no longer kept out of the transmit map; the peer's LANE_REQ brings it back. -/
def execLaserInputRestored (port lane : Nat) (s : State) : Host.Outcome State Fault Refusal :=
  .next (onPort port (fun _ c =>
    if 16 ≤ lane then c else c.updPort port (fun x => { x with laserLow := x.laserLow &&& ~~~(1#16 <<< lane) })) s)
/-- LASER_ALL_LOW (R275): no lane is left in the transmit map. -/
def execLaserAllLow (port : Nat) (s : State) : Host.Outcome State Fault Refusal :=
  .next (onPort port (fun t c =>
    ((c.updPort port (fun x => { x with laserLow := 0xFFFF })).goDown t port 3).updPort port (Port.remap 0 t.now)) s)
/-- LIGHT_LOST (R290). -/
def execLightLost (port : Nat) (s : State) : Host.Outcome State Fault Refusal :=
  .next (onPort port (fun _ c =>
    let x := c.port port
    let c := c.updPort port (fun x => { x with light := false })
    if x.state = .training || x.state = .down then
      (c.updPort port (fun x => { x with
        beforeDark := x.state, cause := 8, attemptAt := none, helloAt := none, laneReq := none, reqAt := none, rxLocked := 0 })).setPortState port .dark
    else c) s)
/-- LIGHT_PRESENT (R290). -/
def execLightPresent (port : Nat) (s : State) : Host.Outcome State Fault Refusal :=
  .next (onPort port (fun t c =>
    let c := c.updPort port (fun x => { x with light := true })
    let x := c.port port
    if x.state = .dark then (c.updPort port (fun x => { x with retryAt := t.now })).setPortState port x.beforeDark else c) s)
/-- BRINGUP_ATTEMPT (R293). -/
def execBringupAttempt (port : Nat) (locked : BitVec 16) (s : State) : Host.Outcome State Fault Refusal :=
  .next (onPort port (fun t c => c.attempt t port locked) s)
/-- BRINGUP_TIMEOUT (R293). -/
def execBringupTimeout (port : Nat) (s : State) : Host.Outcome State Fault Refusal :=
  .next (onPort port (fun t c => c.attemptTimeout t port) s)
/-- RETRAIN_TIMEOUT (R290). -/
def execRetrainTimeout (port : Nat) (s : State) : Host.Outcome State Fault Refusal :=
  .next (onPort port (fun t c =>
    if (c.port port).state = .retrain && (c.port port).stateAt + 1000000 ≤ t.now then c.goDown t port 2 else c) s)
/-- FLAP_HOLD_ENTRY (R290). -/
def execFlapHoldEntry (port : Nat) (s : State) : Host.Outcome State Fault Refusal :=
  .next (onPort port (fun t c =>
    let x := c.port port
    if x.state = .down && 8 ≤ (x.downs.filter (fun d => t.now < d + 1000000000)).length then
      ((c.updPort port (fun x => { x with
        cause := 9, stateAt := t.now, attemptAt := none, helloAt := none, laneReq := none, reqAt := none, downs := [] })).setPortState port .flapHold).raise
        t 0x0902 (portDie port) port (le 1 9 ++ le 1 PortState.flapHold.code)
    else c) s)
/-- FLAP_HOLD_END (R290). -/
def execFlapHoldEnd (port : Nat) (s : State) : Host.Outcome State Fault Refusal :=
  .next (onPort port (fun t c =>
    if (c.port port).state = .flapHold && (c.port port).stateAt + 1000000000 ≤ t.now then
      (c.updPort port (fun x => { x with retryAt := t.now })).setPortState port .down
    else c) s)
/-- HOLD_WINDOW_EXPIRY (R295). -/
def execHoldWindowExpiry (port : Nat) (s : State) : Host.Outcome State Fault Refusal :=
  .next (onPort port (fun t c => c.holdExpires t port) s)
/-- PORT_DISABLE_DONE (R296). -/
def execPortDisableDone (port : Nat) (s : State) : Host.Outcome State Fault Refusal :=
  .next (onPort port (fun t c => c.disabled t port) s)
/-- LINK_REPEAT_TIMER (R280). -/
def execLinkRepeatTimer (port : Nat) (s : State) : Host.Outcome State Fault Refusal :=
  .next (onPort port (fun t c => c.repeatLink t port) s)
/-- TUNING_PERIOD (R297). -/
def execTuningPeriod (port lane : Nat) (act : TuneAct) (s : State) : Host.Outcome State Fault Refusal :=
  .next (onPort port (fun t c => c.tune t port lane act) s)
/-- CALIBRATION_HOLD (R298). -/
def execCalibrationHold (port : Nat) (lane : HeldLane) (ns : Nat) (s : State) : Host.Outcome State Fault Refusal :=
  .next (onPort port (fun t c => c.holdMade t port lane.dir lane.lane ns) s)
/-- BOND_MEMBER_RETURN (R301). -/
def execBondMemberReturn (port skew : Nat) (s : State) : Host.Outcome State Fault Refusal :=
  .next (onPort port (fun t c => c.memberBack t port skew) s)
/-- FRAME_START (R334): a LANE_REQ that waits for a frame boundary is met first (R288). -/
def execFrameStart (port : Nat) (s : State) : Host.Outcome State Fault Refusal :=
  .next (onPort port (fun t c => (c.settleMap t port).frameStart t port) s)
/-- GATE_ENTRY_CHANGE (R340): the time counters are kept up to the change. -/
def execGateEntryChange (port : Nat) (s : State) : Host.Outcome State Fault Refusal :=
  .next (onPort port (fun t c =>
    match (c.port port).gates with
    | some g => (c.egressAcct t port).updPort port (fun x => { x with gateEntry := g.entryAt t.now })
    | none => c) s)
/-- GATE_LIST_SWITCH (R343). -/
def execGateListSwitch (port : Nat) (s : State) : Host.Outcome State Fault Refusal :=
  .next (onPort port (fun t c =>
    match (c.port port).gatesNext with
    | some (g, sw) =>
      if sw ≤ t.now then
        (c.egressAcct t port).updPort port (fun x => { x with gates := some g, gatesNext := none, gateEntry := g.entryAt t.now })
      else c
    | none => c) s)
/-- EGRESS_SAMPLE (R344). -/
def execEgressSample (s : State) : Host.Outcome State Fault Refusal := .next (s.onCore (fun t c => c.sampleDue t))

end Sys2Proof.Machine
end

