-- ==== Sys2Proof/Machine/Sched.lean ====
section
/-! DEFINITION. The Arete scheduler: the former and its boundaries (R148 to R162, R445), the frame ledger (R106 to R111), the
governor (R159), the cost model (R168), accounting (R169 to R172), engine power (R157), role changes (R145) and the 0x05xx
commands (R173). -/

namespace Sys2Proof.Machine

/-! ### The cost model -/

/-- λ·G + amount ÷ rate in whole ns, rounded down: λ in µs, the rate per µs, both FP32 (R168). -/
def costNs (g : Nat) (lam rate : F32) (amount : Nat) : Nat :=
  let l := lam.dy
  let r := rate.dy
  let sh : Int := 200
  (1000 * (g * l.m * r.m * 2 ^ (sh + l.e).toNat + amount * 2 ^ (sh - r.e).toNat)) / (r.m * 2 ^ sh.toNat)

/-- The factory value of ρ for a compute format, FLOP per µs (R168). -/
def rhoFactory (f : Fmt) : Nat :=
  match f with
  | .bf16 => 1050000000 | .fp4 => 4190000000 | _ => 2100000000

/-- Layers of an item still to run in its group. -/
def Core.layersLeft (c : Core) (it : Item) : List Nat :=
  let l0 := it.headLayer.getD it.next
  (shGroup c.shape it.group).filter (l0 ≤ ·)

/-- Data bytes of a context's page, in the job's format where it is not committed. -/
def Core.pageData (c : Core) (i l p : Nat) : Nat := c.bytesIn (((c.pageOf i l p).map (fun e => e.2.fmt)).getD (shFmt c.shape))

/-- Data bytes that a decode item reads in full in its group's layers (R168), its document start as its head message gives it. -/
def Core.itemBytes (c : Core) (it : Item) : Nat :=
  match it.msgs with
  | [] => 0
  | m :: _ =>
    if it.chunk then 0
    else sumL ((c.layersLeft it).map (fun l =>
      let a := admitLo c.shape l it.start (m.docStart false it.start) / 256
      sumL (((List.range (it.start / 256 + 1)).filter (a ≤ ·)).map (c.pageData it.ctx l))))

/-- FLOP of a chunk item over some layers (R168): 4·Hq·D·c·(s + c/2) a layer. -/
def Core.itemFlop (c : Core) (it : Item) : Nat :=
  if it.chunk then 2 * shHq c.shape * shD c.shape * it.count * (2 * it.start + it.count) * (shGroup c.shape it.group).length else 0

/-- The decode estimate of some items in ns (R168). -/
def Core.decodeEst (c : Core) (its : List Item) : Nat :=
  costNs (shG c.shape) c.sched.lambda c.sched.beta (sumL (its.map c.itemBytes))

/-- The Ridge estimate of some chunks in ns (R168). -/
def Core.ridgeEst (c : Core) (its : List Item) : Nat :=
  costNs (shG c.shape) c.sched.lambda c.sched.rho (sumL (its.map c.itemFlop))

/-! ### Ranking -/

/-- Lexicographic order of keys. -/
def lexLt : List Nat → List Nat → Bool
  | x :: xs, y :: ys => if x < y then true else if y < x then false else lexLt xs ys
  | [], _ :: _ => true
  | _, [] => false

/-- A token's deadline in group g, none where its budget is 0 (R161). -/
def Core.deadline (c : Core) (it : Item) : Option Nat :=
  if it.chunk then none
  else match c.sched.tokens.get? it.token with
    | some k => if k.budget = 0 then none else some (k.t0 + 1000 * (k.budget * (it.group + 1) / shNG c.shape))
    | none => none

/-- An item is starved (R155). -/
def Core.starvedNow (c : Core) (it : Item) : Bool := it.starved || c.pact.field 8 ≤ it.passed

/-- The keys of R155 after the starved one: priority, deadline or acceptance, context index. -/
def Core.rankKeys (c : Core) (k : Nat) (it : Item) : List Nat :=
  [7 - (c.ctx it.ctx).prioAct, if it.chunk then k else (c.deadline it).getD (2 ^ 80), it.ctx]

/-- The rank of an item within its class (R155). -/
def Core.rank (c : Core) (e : Nat × Item) : List Nat := b2n (!c.starvedNow e.2) :: c.rankKeys e.1 e.2

/-- The rank by which the step's group is chosen (R155). -/
def Core.groupRank (c : Core) (e : Nat × Item) : List Nat := b2n (!c.starvedNow e.2) :: b2n e.2.chunk :: c.rankKeys e.1 e.2

/-- Every earlier token and chunk of the context has completed the item's group (R150). -/
def Core.tokenTurn (c : Core) (it : Item) : Bool :=
  c.sched.tokens.all (fun e => e.2.ctx != it.ctx || it.token ≤ e.1 || it.group < e.2.groups)

/-- The eligible pending items (R150, R143, R166). -/
def Core.eligible (c : Core) : Tbl Item :=
  c.sched.items.filter (fun e => !e.2.inStep && !e.2.detached && !e.2.msgs.isEmpty && c.tokenTurn e.2 && !(c.ctx e.2.ctx).attaching)

/-! ### The governor -/

/-- P: the mean of the last 10 samples, in whole W (R159). -/
def Core.meanPower (c : Core) : Nat := if c.power.samples.isEmpty then 0 else sumL c.power.samples / c.power.samples.length

/-- P as the governor takes it: over the samples taken since JOB_BIND, to the last 10 (R393). -/
def Core.jobPower (c : Core) : Nat :=
  let ps := c.power.samples.take c.power.sinceBind
  if ps.isEmpty then 0 else sumL ps / ps.length

/-- The watermark of POWER evaluated at the package power P (R404). -/
def Core.watchPower (t : Top) (c : Core) : Core :=
  c.watch t (5 * 2 ^ 24) true (c.pact.field 5, c.pact.field 5 - 2 * c.pact.field 6) c.meanPower t.primaryDie

/-- The allowance clipped into the range in force (R159). -/
def Core.clipA (c : Core) : Core :=
  c.onSched (fun s => { s with allowance := max (c.pact.field 2) (min s.allowance (c.pact.field 1)) })

/-- The governor at a boundary (R159). -/
def Core.govern (c : Core) : Core :=
  let p := c.jobPower
  let cap := c.pact.field 5
  let m := c.pact.field 6
  c.onSched (fun s =>
    if p + m ≥ cap then { s with governor := .cutting, allowance := max (c.pact.field 2) (s.allowance / 2 / 256 * 256) }
    else if p + 2 * m < cap then { s with governor := .rising, allowance := min (c.pact.field 1) (s.allowance + 256) }
    else { s with governor := .holding })

/-! ### Engine power -/

/-- The index of an engine class in the scheduler's list. -/
def engineIdx (e : EngineClass) : Nat :=
  match e with
  | .ridge => 0 | .hawkmoth => 1 | .luna => 2 | .chrysalis => 3

/-- Engine classes that a role keeps powered (R157). -/
def keptBy (r : Role) : List Nat :=
  match r with
  | .prompt => [0, 3] | .generation => [1, 3] | .cache => [2, 0, 3]

/-- The power of an engine class. -/
def Core.engine (c : Core) (n : Nat) : EnginePower := (c.sched.engines.getD n (.on, 0)).1

/-- Engine classes powered up (R157). -/
def Core.powerUp (ns : List Nat) (c : Core) : Core :=
  c.onSched (fun s => { s with engines := s.engines.zipIdx.map (fun e => if ns.contains e.2 && e.1.1 = .off then (.rising, e.1.2) else e.1) })

/-- An engine class has work: members in open steps, or, for Luna and Ridge, vector search. -/
def Core.engineBusy (c : Core) (n : Nat) : Bool :=
  c.sched.items.any (fun e => e.2.inStep && e.2.needsEngines.contains n) || ((n == 2 || n == 0) && !c.search.queries.isEmpty)

/-! ### Role changes -/

/-- The ROLE_SETs with drain that are done complete (R145). -/
def Core.roleCheck (c : Core) : Core :=
  let isDone := fun (d : RoleDrain) =>
    d.settled && d.steps.all (fun n => (c.sched.steps.get? n).isNone) && (keptBy d.role).all (fun n => c.engine n == .on)
  let ds := c.sched.drains
  (ds.filter isDone).foldl (fun c d => c.stage d.mbox .ok 0 [])
    (c.onSched (fun s => { s with drains := ds.filter (fun d => !isDone d) }))

/-- ROLE_SET_TIMEOUT (R145). -/
def Core.roleTimeout (t : Top) (c : Core) : Core :=
  let late := fun (d : RoleDrain) => d.deadline ≤ t.now
  let ds := c.sched.drains
  (ds.filter late).foldl (fun c d => c.stage d.mbox .timeout 0 [])
    (c.onSched (fun s => { s with drains := ds.filter (fun d => !late d) }))

/-! ### The frame ledger -/

/-- The order of service of the ledger (R107): priority, admission, context index. -/
def Core.serviceKey (c : Core) (it : Item) : List Nat := let x := c.ctx it.ctx; [7 - x.prioAct, x.admitted, it.ctx]

/-- Pages of an item's work in this step that lack a tier-1 frame: layer and page (R107, R164). -/
def Core.needs (c : Core) (it : Item) : List (Nat × Nat) :=
  (c.layersLeft it).flatMap (fun l =>
    ((List.range (ceilDiv (it.start + it.count) 256)).filter (fun p => it.start / 256 ≤ p)).filterMap (fun p =>
      match c.pageOf it.ctx l p with
      | some (_, pg) => if pg.holdsFrame then none else some (l, p)
      | none => some (l, p)))

/-- Frames given to an item: new pages committed, and frames committed to pages to be promoted (R107, R164). -/
def Core.giveFrames (t : Top) (i : Nat) (ns : List (Nat × Nat)) (c : Core) : Core :=
  (ns.foldl (fun c (l, p) =>
    match c.pageOf i l p with
    | none => (c.commitPage t i l p true).getD c
    | some (o, _) =>
      let c := c.abandon t o
      if ((c.page o).map PageObj.holdsFrame).getD true then c
      else match c.findFrame t ((i + l + p) % t.stackList.length) with
        | some (fr, c) => (c.updPage o (fun p => { p with t1 := some fr })).promote t true true o
        | none => c) c).watchFree t

/-- The least of some contexts by a key. -/
def leastBy (key : Nat → List Nat) : List Nat → Option Nat
  | [] => none
  | x :: xs => some (xs.foldl (fun b y => if lexLt (key y) (key b) then y else b) x)

/-- One eviction by age (R109). -/
def Core.evictOne (t : Top) (c : Core) : Option Core :=
  let ok := fun (i : Nat) =>
    let x := c.ctx i
    x.state == .paused && (c.itemsOf i).isEmpty && x.pins == 0 && c.aboveGuarantee t x.client && c.warmFits t i
  match leastBy (fun i => [(c.ctx i).stepped, i]) (c.ctxs.keys.filter ok) with
  | none => none
  | some i =>
    let k := (c.ctx i).client
    some (((c.bump (.client k 27)).enterParked t i (c.client k).ttl false).demoteAll t true i)

/-- Frames that a context's demotion would release (R110). -/
def Core.wouldFree (c : Core) (i : Nat) : Bool := (c.ownPages i).any (fun o => ((c.page o).map PageObj.holdsFrame).getD false)

/-- One pre-emption for a requester (R110), from its own client alone where that is at its ceiling. -/
def Core.preemptOne (t : Top) (req : Nat) (own : Bool) (leaving : List Nat) (c : Core) : Option Core :=
  let k := (c.ctx req).client
  let ok := fun (i : Nat) =>
    let x := c.ctx i
    (x.state == .prompt || x.state == .generate || x.state == .paused) && i != req && !leaving.contains i && x.pins == 0 &&
    x.prioAct ≤ (c.ctx req).prioAct && (x.client == k || (!own && c.aboveGuarantee t x.client)) && c.wouldFree i && c.warmFits t i
  match leastBy (fun i => let x := c.ctx i; [x.prioAct, 2 ^ 64 - x.admitted, 2 ^ 17 - i]) (c.ctxs.keys.filter ok) with
  | none => none
  | some i =>
    let v := (c.ctx i).client
    some (((c.bump (.client v 2)).enterParked t i (c.client v).ttl true).demoteAll t true i)

/-- A continuing item served (R107 stage 2, R108), or none; frames reclaimed on the way stay free. -/
def Core.serve (t : Top) (leaving : List Nat) (it : Item) : Nat → Core → Core × Bool
  | 0, c => (c, false)
  | fuel + 1, c =>
    let ns := c.needs it
    let k := (c.ctx it.ctx).client
    if ns.isEmpty then (c, true)
    else
      let capped := !c.within t k 1 (ns.length * c.frameF)
      if !capped && ns.length ≤ c.freeFrames t then (c.giveFrames t it.ctx ns, true)
      else match (if capped then none else c.evictOne t) with
        | some c => Core.serve t leaving it fuel c
        | none => match c.preemptOne t it.ctx capped leaving with
          | some c => Core.serve t leaving it fuel c
          | none => (c, false)

/-- The floor restored by evictions (R107 stage 3). -/
def Core.restoreFloor (t : Top) : Nat → Core → Core
  | 0, c => c
  | fuel + 1, c =>
    if c.freeFrames t < c.floor then
      match c.evictOne t with
      | some c => Core.restoreFloor t fuel c
      | none => c
    else c

/-- A context joins with an item (R107 stage 4): one that it began in RESERVED or PAUSED, or its first since it moved in. -/
def Core.joins (c : Core) (it : Item) : Bool := let x := c.ctx it.ctx; x.joining || (it.turns && x.turns)

/-- A join admitted (R107 stage 4), or refused whole (R111). -/
def Core.admitJoin (t : Top) (e : Nat × Item) (c : Core) : Core :=
  let ns := c.needs e.2
  let k := (c.ctx e.2.ctx).client
  if c.floor + ns.length ≤ c.freeFrames t && (ns.isEmpty || c.within t k 1 (ns.length * c.frameF)) then c.giveFrames t e.2.ctx ns
  else (c.bump (.client k 6)).failItem t e.1 .deferredMemory 0

/-- The ledger settles the chosen items (R107): continuing sequences, the floor, joins. -/
def Core.settle (t : Top) (leaving : List Nat) (chosen : Tbl Item) (c : Core) : Core :=
  let order := fun (es : Tbl Item) => sortBy (fun a b => lexLt (c.serviceKey a.2) (c.serviceKey b.2)) es
  let joins := chosen.filter (fun e => c.joins e.2)
  let stays := chosen.filter (fun e => !c.joins e.2)
  let fuel := 2 * c.ctxs.length + 2
  let c := (order stays).foldl (fun c e =>
    if (c.sched.items.get? e.1).isNone then c
    else
      let (c, ok) := c.serve t leaving e.2 fuel
      if ok then c else (c.bump (.client (c.ctx e.2.ctx).client 7)).failItem t e.1 .deferredMemory 0) c
  let c := c.restoreFloor t fuel
  (order joins).foldl (fun c e => if (c.sched.items.get? e.1).isNone then c else c.admitJoin t e) c

/-! ### Boundaries -/

/-- The Crest partitions that ROLE_SET or TIER0_SET has changed come into force (R91). -/
def Core.partition (t : Top) (c : Core) : Core :=
  let new := c.parts c.pset
  let c := if new.hot < c.tiers.tier0.hot then c.shrink0 t (16 * new.hot) else c
  c.onTiers (fun s => { s with tier0 := new })

/-- Settings, pauses, cutovers and frees that a boundary brings into force (R445, R152, R91, R107 stage 1, R57, R115). A waiting CTX_PAUSE whose
context is then no longer in GENERATE, as one in which a chunk was accepted, ends with STATE_REJECT for the state that it is in, as R56 would answer
it there; the manual does not say (DESIGN CHOICE, log 167). -/
def Core.boundaryEffects (t : Top) (c : Core) : Core :=
  let c := if c.pset.partsNo = c.pact.partsNo then c else c.partition t
  let c := { c with
    pact := c.pset
    ctxs := c.ctxs.mapVal (fun _ x => { x with prioAct := x.prio, clsAct := x.cls })
    job := c.job.map (fun (j : Job) => { j with f1 := c.f1Now t }) }
  let c := c.clipA
  let c := c.onSched (fun s => { s with
    drains := s.drains.map (fun d => if d.settled then d else { d with settled := true, steps := s.steps.keys }), due := false })
  let c := c.powerUp (keptBy c.pact.role)
  let c := (c.ctxs.filter (fun e => e.2.leaving)).foldl (fun c e =>
    (c.freePages t e.1).updCtx e.1 (fun x => { x with leaving := false })) c
  let c := (c.ctxs.filter (fun e => e.2.pauseDue)).foldl (fun c e =>
    if e.2.state = .generate then (c.updCtx e.1 (fun x => { x with state := .paused, pauseDue := false })).pauseCheck e.1
    else c.endPause e.1 .stateReject (stateDetail .context e.2.state.code)) c
  let c := (c.moves.filter (fun e => c.cutReady e.2)).foldl (fun c e => c.cutMove t e.1) c
  (((c.govern).roleCheck).watchFree t).watchPower t

/-- Contexts of which an item marked leaving is a candidate at a boundary, eligible or not: they are no victims (R152, R153, R110). -/
def Core.leavingCtxs (c : Core) : List Nat :=
  (Tbl.vals (c.sched.items.filter (fun e => e.2.leaving && !e.2.inStep && !e.2.detached && !e.2.msgs.isEmpty))).map Item.ctx

/-- The chunk round (R156): chunks of the group in rank order, within the allowance and the fill target. -/
def Core.chunkRound (c : Core) (target : Nat) (es : Tbl Item) : Tbl Item :=
  es.foldl (fun (acc : Tbl Item) e =>
    let toks := sumL ((Tbl.vals acc).map Item.count) + e.2.count
    if toks ≤ c.sched.allowance && (c.starvedNow e.2 || c.ridgeEst ((Tbl.vals acc) ++ [e.2]) ≤ target) then acc ++ [e] else acc) []

/-- What the former takes (R155, R156): the group, decode items and chunks. Items that all keys of R155 leave equal, as two decode items of one
context in different groups may be, keep the order in which they became pending (DESIGN CHOICE, log 171). -/
def Core.former (c : Core) (cands : Tbl Item) : Nat × Tbl Item × Tbl Item :=
  match cands with
  | [] => (0, [], [])
  | e :: es =>
    let best := es.foldl (fun b x => if lexLt (c.groupRank x) (c.groupRank b) then x else b) e
    let g := best.2.group
    let ranked := sortBy (fun a b => lexLt (c.rank a) (c.rank b)) (cands.filter (fun x => x.2.group == g))
    let dec := (ranked.filter (fun x => !x.2.chunk)).take (c.pact.field 0)
    let target := max (c.decodeEst (Tbl.vals dec)) (1000 * c.pact.field 3)
    (g, dec, c.chunkRound target (ranked.filter (fun x => x.2.chunk)))

/-- The bin of a wait in µs (R170). -/
def waitBin (us : Nat) : Nat := if us = 0 then 0 else min 15 (Nat.log2 us + 1)

/-- A chosen item becomes a member of step n (R57, R151, R155, R170), its accepted messages with it (R163). A context leaves RESERVED or PAUSED
here, as its work joins, and not as the message is accepted: R57's table names the acceptance, while R60, R109 and R111 speak of contexts whose
accepted work has not joined as still RESERVED or PAUSED (DESIGN CHOICE, log 166). An item accepted before its context was paused leaves it PAUSED. -/
def Core.joinStep (t : Top) (n : Nat) (k : Nat) (it : Item) (c : Core) : Core :=
  let us := (t.now - it.since) / 1000
  let cl := (c.ctx it.ctx).client
  let c := (c.bump (.client cl 1) us).bump (.client cl (11 + waitBin us))
  let c := c.updCtx it.ctx (fun x => { x with
    waitSum := x.waitSum.up us, joining := false })
  let c := if !it.turns then c else c.updCtx it.ctx (fun x =>
    if it.chunk then (if x.turns || x.standing = .generate then x.stand .prompt else x)
    else if x.turns then x.stand .generate else x)
  let c := c.updItem k (fun x => { x with step := n, passed := 0, starved := false, turns := false, holdJoin := x.holdNs })
  ((it.msgs.map LayerMsg.layer).dedup.foldl (fun c l => c.planLayer t k l) c).enterLayer t k

/-- Fewer than K steps are open (R151). -/
def Core.slotFree (c : Core) : Bool := c.sched.steps.length < c.pact.field 7

/-- A settlement that took no item waits for one of the events of R445. -/
def Core.cooling (t : Top) (c : Core) : Bool := !c.sched.due && ((c.sched.coolUntil.map (fun u => decide (t.now < u))).getD false)

/-- STEP_BOUNDARY (R151, R107, R155 to R162): a settlement with eligible items. It forms a step, or is an idle boundary that
takes no step number (R445). -/
def Core.stepBoundary (t : Top) (c : Core) : Core :=
  if c.job.isNone || !c.slotFree || c.eligible.isEmpty || c.cooling t then c
  else
    let c := c.boundaryEffects t
    let cands := c.eligible
    let (_, dec, chunks) := c.former cands
    let chosen := dec ++ chunks
    let c := c.settle t c.leavingCtxs chosen
    let taken := chosen.filterMap (fun e => (c.sched.items.get? e.1).map (fun it => (e.1, it)))
    let its := Tbl.vals taken
    let finish := t.now + max (c.decodeEst (its.filter (fun it => !it.chunk))) (c.ridgeEst (its.filter Item.chunk))
    let c := taken.foldl (fun c e => c.updItem e.1 (fun it => { it with
      late := !it.chunk && c.skipperOk it.ctx && ((c.deadline it).map (fun d => decide (d < finish))).getD false })) c
    let c := (cands.filter (fun e => !(Tbl.keys chosen).contains e.1)).foldl (fun c e =>
      c.updItem e.1 (fun it => { it with passed := it.passed + 1 })) c
    match taken with
    | [] => c.onSched (fun s => { s with coolUntil := some ((t.now / 100000 + 1) * 100000) })
    | e0 :: _ =>
      let n := c.sched.lastStep + 1
      let rec_ : StepRec := {
        group := e0.2.group, formed := t.now, slice := c.pact.slice, score := c.tiers.tier0.score,
        hasDecode := taken.any (fun e => !e.2.chunk), hasChunk := taken.any (fun e => e.2.chunk) }
      let c := c.onSched (fun s => { s with lastStep := n, steps := s.steps.set n rec_, coolUntil := none })
      let c := c.powerUp (taken.flatMap (fun e => e.2.needsEngines))
      taken.foldl (fun c e => c.joinStep t n e.1 e.2) c

/-- IDLE_BOUNDARY (R445 case 1): no eligible item is pending and an effect awaits the boundary; stages 1 to 3 of R107. -/
def Core.idleBoundary (t : Top) (c : Core) : Core :=
  if c.job.isNone || !c.slotFree || !c.eligible.isEmpty || !c.sched.due then c
  else
    let c := c.boundaryEffects t
    c.restoreFloor t (c.ctxs.length + 1)

/-- ITEM_STARVED (R155). -/
def Core.itemStarved (k : Nat) (c : Core) : Core :=
  c.updItem k (fun it => if c.pact.field 8 ≤ it.passed then { it with starved := true } else it)

/-! ### Detaching, completion -/

/-- HOLD_TIMER_EXPIRY (R166): the member is detached from its step, which leaves it out of its measures (R168). -/
def Core.holdExpiry (t : Top) (k : Nat) (c : Core) : Core :=
  match c.sched.items.get? k with
  | none => c
  | some it => match it.holdAt with
    | none => c
    | some s =>
      if s + 1000 * c.pact.field 4 ≤ t.now then
        let c := (c.endHold t k).bump (.client (c.ctx it.ctx).client 8)
        let ns := ((c.sched.items.get? k).map (fun x => x.holdNs - x.holdJoin)).getD 0
        let c := c.onSched (fun s => { s with steps := s.steps.upd it.step (fun r =>
          let r := { r with hawk := r.hawk.filter (fun x => x.1 != k), ridge := r.ridge.filter (fun x => x.1 != k) }
          if it.chunk then { r with holdChunk := r.holdChunk - ns } else { r with holdDecode := r.holdDecode - ns }) })
        ((c.useEngines t it.needsEngines).updItem k (fun x => { x with step := 0, detached := true, run := none, late := false })).pauseCheck it.ctx
      else c

/-- The measured slowdown in 16.16 (R169). -/
def slowdownOf (s e : Nat) : Nat := if e = 0 then 0xFFFFFFFF else min 0xFFFFFFFF (s * 65536 / e)

/-- A slowdown sample taken (R169, R172). -/
def Core.sampleSlowdown (it : Item) (c : Core) : Core :=
  if c.sched.noBaseline then c else
  let ns := it.lastResult - it.born - it.holdNs
  let e := costNs (shG c.shape) c.sched.lambda c.sched.beta it.bytes + costNs 0 c.sched.lambda c.sched.rho (c.itemFlop it)
  let v := slowdownOf ns e
  let cl := (c.ctx it.ctx).client
  let c := (c.bump (.client cl 9) (v / 256)).bump (.client cl 10)
  if !c.pact.stragOn then c.updCtx it.ctx (fun x => { x with slowdown := v, slowStep := it.step })
  else c.updCtx it.ctx (fun x =>
    let above := c.pact.stragX < v
    let low := if above then 0 else x.runLow + 1
    { x with
      slowdown := v, slowStep := it.step, run := if above then x.run + 1 else 0,
      runLow := low, straggling := x.straggling && !(c.pact.stragN ≤ low) })

/-- An item's token has completed the item's group (R150). -/
def Core.tokenGroup (it : Item) (c : Core) : Core :=
  c.onSched (fun s => { s with
    tokens := if shNG c.shape ≤ it.group + 1 then s.tokens.del it.token
      else s.tokens.upd it.token (fun k => { k with groups := it.group + 1 }) })

/-- MEMBER_GROUP_COMPLETE (R57, R150, R153, R165, R168 to R171): a member whose last layer has completed leaves its step,
counted. -/
def Core.groupComplete (t : Top) (k : Nat) (c : Core) : Core :=
  match c.sched.items.get? k with
  | none => c
  | some it =>
    if !it.done || !it.inStep then c else
    let cl := (c.ctx it.ctx).client
    let last := it.group + 1 == shNG c.shape
    let overdue := !it.chunk && last && (match c.sched.tokens.get? it.token with
      | some tk => tk.budget != 0 && decide (tk.t0 + 1000 * tk.budget < it.lastResult)
      | none => false)
    let c := (c.bump (.client cl 0)).bump (.client cl 3) (b2n it.anySum)
    let c := if overdue then c.bump (.client cl 5) else c
    let c := c.updCtx it.ctx (fun x => { x with
      items := x.items.up, degraded := x.degraded.up (b2n it.anySum), stepped := t.now })
    let c := (c.sampleSlowdown it).tokenGroup it
    let flop := c.itemFlop it
    let c := c.onSched (fun s => { s with
      items := s.items.del k
      steps := s.steps.upd it.step (fun r =>
        if it.chunk then { r with flop := r.flop + flop, lastChunk := max r.lastChunk it.lastResult }
        else { r with bytes := r.bytes + it.bytes, lastDecode := max r.lastDecode it.lastResult }) })
    let c := c.useEngines t it.needsEngines
    let x := c.ctx it.ctx
    let c := if it.leaving && (x.state == .generate || x.state == .prompt) then
        ((c.enterDraining t it.ctx).updCtx it.ctx (fun x => { x with leaving := true })).onSched (fun s => { s with due := true })
      else c
    c.pauseCheck it.ctx

/-- A coefficient moved by 1/256 of its difference from a sample (R168). -/
def moveCoef (v s : F32) : F32 := (do
  let d ← fp32Sub s v
  let e ← fp32Mul d 0x3B800000#32
  fp32Add v e : Num F32).go.1

/-- A quotient of two counts in FP32 (R168). -/
def ratio (a b : Nat) : F32 := (fp32Div (F32.ofInt a) (F32.ofInt b)).go.1

/-- The time that some spans cover together, up to a limit. -/
def unionNs (limit : Nat) (xs : List (Nat × Nat × Nat)) : Nat :=
  ((sortBy (fun a b => a.2.1 < b.2.1) xs).foldl (fun (acc : Nat × Nat) x =>
    let a := max acc.1 x.2.1
    let b := max a (min x.2.2 limit)
    (b, acc.2 + (b - a))) (0, 0)).2

/-- The cost model after a completed step (R168). -/
def Core.learn (r : StepRec) (c : Core) : Core :=
  let g := shG c.shape
  let dec := r.lastDecode - r.formed - r.holdDecode
  let chk := r.lastChunk - r.formed - r.holdChunk
  let hawk := unionNs r.lastDecode r.hawk
  let array := unionNs r.lastChunk r.ridge
  c.onSched (fun s =>
    let s := if r.lastDecode ≠ 0 && hawk ≠ 0 then { s with beta := moveCoef s.beta (ratio (1000 * r.bytes) hawk) } else s
    let s := if r.lastChunk ≠ 0 && array ≠ 0 then { s with rho := moveCoef s.rho (ratio (1000 * r.flop) array) } else s
    if r.lastDecode ≠ 0 then { s with lambda := moveCoef s.lambda (ratio (dec - hawk) (1000 * g)) }
    else if r.lastChunk ≠ 0 then { s with lambda := moveCoef s.lambda (ratio (chk - array) (1000 * g)) }
    else s)

/-- The bin of a step's latency in a lifetime record (item 0x07 of R410). -/
def stepBin (ns : Nat) : Nat := let us := ns / 1000; if us < 8 then 0 else min 15 (Nat.log2 (us / 8) + 1)

/-- STEP_END (R154, R168): every member has completed or been detached, and the slot is free. -/
def Core.stepEnd (t : Top) (n : Nat) (c : Core) : Core :=
  match c.sched.steps.get? n with
  | none => c
  | some r =>
    if c.sched.items.any (fun e => e.2.step == n) then c else
    let c := c.onSched (fun s => { s with steps := s.steps.del n, completed := s.completed + 1, coolUntil := none })
    let c := c.learn r
    let c := t.crests.foldl (fun c i => c.life t (crestDie i) 0x07 (stepBin (t.now - r.formed))) c
    c.roleCheck

/-- STRAGGLER (R172): one event for a context above the threshold for N items. -/
def Core.stragglerEvent (t : Top) (i : Nat) (c : Core) : Core :=
  let x := c.ctx i
  if c.pact.stragOn && !c.sched.noBaseline && !x.straggling && x.state != .free && 0 < x.run && c.pact.stragN ≤ x.run then
    (c.updCtx i (fun x => { x with straggling := true })).raise t 0x0501 (ctxDie i) (c.handle i) (le 4 x.slowdown ++ zeros 4 ++ le 8 x.slowStep)
  else c

/-- BASELINE_READY (R169). -/
def Core.baselineReady (c : Core) : Core :=
  if 1024 ≤ c.sched.completed then c.onSched (fun s => { s with noBaseline := false }) else c

/-- ENGINE_POWER_DOWN (R157): 10 ms without work, of a class that the role does not keep powered. -/
def Core.enginePowerDown (t : Top) (e : EngineClass) (c : Core) : Core :=
  let n := engineIdx e
  match c.sched.engines[n]? with
  | some (.on, last) =>
    if c.job.isSome && !(keptBy c.pact.role).contains n && !c.engineBusy n && last + 10000000 ≤ t.now then
      c.onSched (fun s => { s with engines := s.engines.set n (.off, last) })
    else c
  | _ => c

/-- ENGINE_POWER_READY (R157). -/
def Core.enginePowerReady (t : Top) (e : EngineClass) (c : Core) : Core :=
  let n := engineIdx e
  if c.engine n = .rising then (c.onSched (fun s => { s with engines := s.engines.set n (.on, t.now) })).roleCheck else c

/-! ### Commands -/

/-- SCHED_SET fields: offset and size (R173). -/
def schedPlace : List (Nat × Nat) := [(4, 4), (8, 4), (12, 4), (16, 4), (20, 4), (24, 2), (26, 2), (28, 1), (29, 1), (30, 2)]

/-- A value of SCHED_SET field n lies in its range (R173). -/
def schedRange (n v : Nat) : Bool :=
  match n with
  | 0 => 1 ≤ v && v ≤ 32768 | 1 => 256 ≤ v && v ≤ 65536 && v % 256 == 0 | 2 => v ≤ 65536 && v % 256 == 0 | 3 => v ≤ 100000
  | 4 => 100 ≤ v && v ≤ 100000 | 5 => 600 ≤ v && v ≤ 1250 | 6 => 5 ≤ v && v ≤ 100 | 7 => 1 ≤ v && v ≤ 8
  | 8 => 1 ≤ v && v ≤ 255 | _ => 1 ≤ v && v ≤ 64

/-- SCHED_SET (R152, R173). -/
def schedSetBody (_t : Top) (c : Core) (_m : Nat) (a : Cmd) : Ans := do
  let sel := a.arg 0 4
  let val := fun (n : Nat) => let p := schedPlace.getD n (0, 0); a.arg p.1 p.2
  let base := if bit sel 31 then List.replicate 10 none else c.pset.sched
  match (List.range 10).find? (fun n => bit sel n && !schedRange n (val n)) with
  | some n => .error (.badArg, (schedPlace.getD n (0, 0)).1)
  | none =>
    let new := base.zipIdx.map (fun e => if bit sel e.2 then some (val e.2) else e.1)
    let raw := fun (k : Nat) => ((new[k]?).getD none).getD (schedDefault c.pset.role k)
    needArg (!((bit sel 1 || bit sel 2) && raw 1 < raw 2)) (if bit sel 2 then 0xC else 8)
    ok (c.setNext (fun p => { p with sched := new }))

/-- The whole number of an FP32 value times k, rounded down (R168). -/
def F32.wholeTimes (x : F32) (k : Nat) : Nat := let d := x.dy; k * d.m * 2 ^ d.e.toNat / 2 ^ (-d.e).toNat

/-- SCHED_QUERY (R173): settings as last accepted, the rest as it stands. -/
def schedQueryBody (_t : Top) (c : Core) (_m : Nat) (_a : Cmd) : Ans :=
  let s := c.sched
  let mask := sumL ((List.range 10).map (fun n => b2n ((c.pset.sched[n]?).getD none).isSome * 2 ^ n))
  let fields := schedPlace.zipIdx.flatMap (fun e => le e.1.2 (c.pset.field e.2))
  ok c (le 4 mask ++ fields ++ le 4 s.allowance ++ le 2 c.meanPower ++
    le 1 (match s.governor with | .rising => 0 | .holding => 1 | .cutting => 2) ++ le 1 (b2n s.noBaseline) ++ le 8 s.lastStep ++
    le 8 s.completed ++ le 1 s.steps.length ++ zeros 1 ++ le 2 (shG c.shape) ++ le 2 (shNG c.shape) ++ zeros 2 ++
    le 4 (s.beta.wholeTimes 1) ++ le 4 (s.rho.wholeTimes 1) ++ le 4 (s.lambda.wholeTimes 1000) ++ zeros 4)

/-- CLIENT_SCHED_SET (R152, R158, R173): the chunk size acts at once. -/
def clientSchedSetBody (_t : Top) (c : Core) (_m : Nat) (a : Cmd) : Ans := do
  let k := a.arg 0 1
  let pr := a.arg 1 1
  let cl := a.arg 2 1
  let fl := a.arg 3 1
  let ch := a.arg 4 2
  c.clientArg k 0
  needArg (pr < 8 || pr == 0xFF) 1
  needArg (cl < 16 || cl == 0xFF) 2
  needArg (ch == 0 || (256 ≤ ch && ch ≤ 4096 && ch % 256 == 0)) 4
  let c := if ch = 0 then c else { c with clients := c.clients.updD k {} (fun x => { x with chunk := ch }) }
  ok (c.setNext (Params.onClient k (fun s => { s with
    prio := if pr = 0xFF then s.prio else pr, cls := if cl = 0xFF then s.cls else cl,
    skipper := if bit fl 7 then bit fl 0 else s.skipper })))

/-- CLIENT_SCHED_QUERY (R173). -/
def clientSchedQueryBody (_t : Top) (c : Core) (_m : Nat) (a : Cmd) : Ans := do
  let k := a.arg 0 1
  c.clientArg k 0
  let s := c.pset.client k
  ok c (le 1 s.prio ++ le 1 s.cls ++ le 1 (b2n s.skipper) ++ zeros 1 ++ le 2 (c.client k).chunk ++ zeros 2)

/-- DEADLINE_SET (R161, R173). -/
def deadlineSetBody (_t : Top) (c : Core) (_m : Nat) (a : Cmd) : Ans := do
  let n := a.arg 0 1
  let b := a.arg 4 4
  needArg (n < 16) 0
  needArg (b == 0 || (100 ≤ b && b ≤ 60000000)) 4
  ok (c.setNext (fun p => { p with budgets := p.budgets.set n b }))

/-- DEADLINE_QUERY (R173). -/
def deadlineQueryBody (_t : Top) (c : Core) (_m : Nat) (a : Cmd) : Ans := do
  needArg (a.arg 0 1 < 16) 0
  ok c (le 4 (c.pset.budgets.getD (a.arg 0 1) 0))

/-- ACCT_QUERY (R170, R173). -/
def acctQueryBody (_t : Top) (c : Core) (_m : Nat) (a : Cmd) : Ans := do
  let k := a.arg 0 1
  c.clientArg k 0
  ok c (le 1 k ++ le 1 (b2n c.sched.noBaseline) ++ zeros 6 ++ c.ctrBytes ((List.range 28).map (.client k)))

/-- ACCT_CTX_QUERY (R171, R173). -/
def acctCtxQueryBody (_t : Top) (c : Core) (_m : Nat) (a : Cmd) : Ans :=
  let x := c.ctx (hIndex a.handle)
  ok c (le 4 a.handle ++ le 1 (b2n c.sched.noBaseline + 2 * b2n x.straggling) ++ zeros 3 ++
    le 4 (if c.sched.noBaseline then 0 else x.slowdown) ++ le 4 x.run ++ x.items.bytes ++ x.waitSum.bytes ++ x.degraded.bytes ++ x.summarised.bytes)

/-- STRAGGLER_SET (R172, R173). -/
def stragglerSetBody (_t : Top) (c : Core) (_m : Nat) (a : Cmd) : Ans := do
  let x := a.arg 0 4
  let n := a.arg 4 2
  needArg (x == 0 || (0x00014000 ≤ x && x ≤ 0x00400000)) 0
  needArg (n ≤ 1024) 4
  ok (c.setNext (fun p => { p with
    stragX := if x = 0 then 0x00040000 else x, stragN := if n = 0 then 8 else n, stragOn := bit (a.arg 6 2) 0 }))

/-- SCHED_SET. -/
def execSchedSet (m : Nat) (s : State) : Host.Outcome State Fault Refusal := .next (runCommand m 0x0501 schedSetBody s)
/-- SCHED_QUERY. -/
def execSchedQuery (m : Nat) (s : State) : Host.Outcome State Fault Refusal := .next (runCommand m 0x0502 schedQueryBody s)
/-- CLIENT_SCHED_SET. -/
def execClientSchedSet (m : Nat) (s : State) : Host.Outcome State Fault Refusal := .next (runCommand m 0x0503 clientSchedSetBody s)
/-- CLIENT_SCHED_QUERY. -/
def execClientSchedQuery (m : Nat) (s : State) : Host.Outcome State Fault Refusal := .next (runCommand m 0x0504 clientSchedQueryBody s)
/-- DEADLINE_SET. -/
def execDeadlineSet (m : Nat) (s : State) : Host.Outcome State Fault Refusal := .next (runCommand m 0x0505 deadlineSetBody s)
/-- DEADLINE_QUERY. -/
def execDeadlineQuery (m : Nat) (s : State) : Host.Outcome State Fault Refusal := .next (runCommand m 0x0506 deadlineQueryBody s)
/-- ACCT_QUERY. -/
def execAcctQuery (m : Nat) (s : State) : Host.Outcome State Fault Refusal := .next (runCommand m 0x0507 acctQueryBody s)
/-- ACCT_CTX_QUERY. -/
def execAcctCtxQuery (m : Nat) (s : State) : Host.Outcome State Fault Refusal := .next (runCommand m 0x0508 acctCtxQueryBody s)
/-- STRAGGLER_SET. -/
def execStragglerSet (m : Nat) (s : State) : Host.Outcome State Fault Refusal := .next (runCommand m 0x0509 stragglerSetBody s)
/-- STEP_BOUNDARY. -/
def execStepBoundary (s : State) : Host.Outcome State Fault Refusal := .next (s.onCore (fun t c => (c.stepBoundary t).noteReady))
/-- IDLE_BOUNDARY. -/
def execIdleBoundary (s : State) : Host.Outcome State Fault Refusal := .next (s.onCore (fun t c => (c.idleBoundary t).noteReady))
/-- ITEM_STARVED. -/
def execItemStarved (i : Nat) (s : State) : Host.Outcome State Fault Refusal := .next (s.onCore (fun _ c => c.itemStarved i))
/-- HOLD_TIMER_EXPIRY. -/
def execHoldTimerExpiry (i : Nat) (s : State) : Host.Outcome State Fault Refusal := .next (s.onCore (fun t c => c.holdExpiry t i))
/-- MEMBER_GROUP_COMPLETE. -/
def execMemberGroupComplete (i : Nat) (s : State) : Host.Outcome State Fault Refusal := .next (s.onCore (fun t c => (c.groupComplete t i).noteReady))
/-- STEP_END. -/
def execStepEnd (n : Nat) (s : State) : Host.Outcome State Fault Refusal := .next (s.onCore (fun t c => (c.stepEnd t n).noteReady))
/-- STRAGGLER. -/
def execStraggler (ctx : Nat) (s : State) : Host.Outcome State Fault Refusal := .next (s.onCore (fun t c => c.stragglerEvent t ctx))
/-- BASELINE_READY. -/
def execBaselineReady (s : State) : Host.Outcome State Fault Refusal := .next (s.onCore (fun _ c => c.baselineReady))
/-- ENGINE_POWER_DOWN. -/
def execEnginePowerDown (e : EngineClass) (s : State) : Host.Outcome State Fault Refusal :=
  .next (s.onCore (fun t c => c.enginePowerDown t e))
/-- ENGINE_POWER_READY. -/
def execEnginePowerReady (e : EngineClass) (s : State) : Host.Outcome State Fault Refusal :=
  .next (s.onCore (fun t c => c.enginePowerReady t e))
/-- ROLE_SET_TIMEOUT. -/
def execRoleSetTimeout (s : State) : Host.Outcome State Fault Refusal := .next (s.onCore (fun t c => c.roleTimeout t))

end Sys2Proof.Machine
end

