-- ==== Sys2Proof/Machine/Engines.lean ====
section
/-! DEFINITION. Attention at work: layers started (R182, R186, R208, R210), score buffers (R220), Hawkmoth slices (R188,
R196), merging and results (R190 to R198), Ridge units (R210 to R219), recomputation (R193), and the 0x06xx commands (R201 to
R203). -/

namespace Sys2Proof.Machine

/-! ### Dies -/

/-- Crest dies of a set that may take new work: in service and not under test (R187, R211); if none, those in service. -/
def Core.openCrests (t : Top) (c : Core) (is : List Nat) : List Nat :=
  let up := is.filter (fun i => !t.gone (crestDie i))
  let free := up.filter (fun i => !c.underTest (crestDie i))
  if free.isEmpty then up else free

/-- A free choice among some Crest dies (R187, R211). -/
def Core.chooseCrest (t : Top) (is : List Nat) (c : Core) : Nat × Core :=
  let ok := c.openCrests t is
  let (v, c) := c.pick
  (ok.getD (v % ok.length) (is.headD 0), c)

/-- A score buffer asked for (R220). -/
def Core.askScore (crest : Nat) (r : ScoreReq) (c : Core) : Core :=
  c.onSched (fun s => { s with waiting := s.waiting.updD crest [] (· ++ [r]) })

/-- The counts of a Hawkmoth or Ridge computation added to a Crest die's counters (R189, R203, R230). -/
def Core.engineCount (crest : Nat) (n : NumCount) (c : Core) : Core := (c.bump (.hawk crest 17) n.sat).bump (.chrys crest 9) n.special

/-- The die whose transcoder makes the appends that a Crest die would make (R396): that die, or while it is under test the other of its pair. With
none the append waits. -/
def Core.appendDie (t : Top) (c : Core) (crest : Nat) : Option Nat :=
  let other := Nat.xor crest 1
  if !c.underTest (crestDie crest) then some crest
  else if t.gone (crestDie other) || c.underTest (crestDie other) then none
  else some other

/-- The tokens of a page's append written to its stack, unless its copy in tier 0 takes them (R16, R182, R208). -/
def Core.writeAppend (t : Top) (k o crest : Nat) (rows : Nat) (c : Core) : Core :=
  match c.page o with
  | none => c
  | some p => match p.t1 with
    | some (st, _) => if p.inTier 0 then c else
        (c.writeStack t crest st 0 (c.bytesIn p.fmt / 256 * rows) (.append k)).freeWork t (· == .append k)
    | none => c

/-- The work that a score-buffer request is for. -/
def ScoreReq.work (r : ScoreReq) : Work := if r.ridge then .unit r.item r.index else .slice r.item r.index

/-- A slice's or unit's descriptor sent, and its buffer asked for (R187, R211, R220). -/
def Core.dispatch (t : Top) (summit crest : Nat) (r : ScoreReq) (c : Core) : Core := (c.describe t summit crest r.work).askScore crest r

/-! ### A layer starts -/

/-- Keys or values of one token of a body, by head (R177, R204). -/
def bodyHeads (body : List Byte) (off h d : Nat) : List (List (List F32)) := (headsOf body off h d).map (fun v => chunksOf 32 d v)

/-- The append rows of a STEP_QUERY (R182). -/
def stepRow (s body : List Byte) (slot : Nat) : Nat × List (List F32) × List (List F32) :=
  let k := 32 + 2 * shHq s * shD s
  (slot, headsOf body k (shH s) (shD s), headsOf body (k + 2 * shH s * shD s) (shH s) (shD s))

/-- The append row of token j of a part of p tokens (R204, R208). -/
def partRow (s body : List Byte) (p j slot : Nat) : Nat × List (List F32) × List (List F32) :=
  let k := 104 + 2 * p * shHq s * shD s
  let w := 2 * shH s * shD s
  (slot, headsOf body (k + j * w) (shH s) (shD s), headsOf body (k + p * w + j * w) (shH s) (shD s))

/-- The part of a chunk layer that holds a position. -/
def partOf (ms : List LayerMsg) (n : Nat) : Option LayerMsg := ms.find? (fun m => m.pos ≤ n && n < m.pos + m.len)

/-- The stack of a page's tier-1 frame; for a page without one, the stack on which R83 would commit it. -/
def Core.stackOf (t : Top) (c : Core) (i l p : Nat) : Nat :=
  match (c.pageOf i l p).bind (fun e => e.2.t1) with
  | some (st, _) => st
  | none => t.stackList.getD ((i + l + p) % t.stackList.length) 0

/-- Slices of a plan put on dies (R187): a slice with a tail page that has a tier-0 copy goes to that copy's die, or while that
is under test to the pair's other (R396). -/
def Core.placeSlices (t : Top) (i l tail : Nat) (plan : List (Nat × List Nat)) (c : Core) : List Slice × Core :=
  plan.foldl (fun (acc : List Slice × Core) (st, ps) =>
    let t0 := if ps.contains tail then (acc.2.pageOf i l tail).bind (fun e => e.2.t0) else none
    let (cr, c) : Nat × Core := match t0 with
      | some (cr, _) => if acc.2.underTest (crestDie cr) then acc.2.chooseCrest t [2 * st, 2 * st + 1] else (cr, acc.2)
      | none => acc.2.chooseCrest t [2 * st, 2 * st + 1]
    (acc.1 ++ [{ stack := st, pages := ps, crest := cr }], c)) ([], c)

/-- Units of a chunk layer (R210): query head, row block, segment, each with at least one admitted position. -/
def Core.unitsOf (c : Core) (it : Item) (cap : Nat) : List (Nat × Nat × Nat) :=
  let ms := it.headMsgs
  let last := it.start + it.count - 1
  (List.range (ceilDiv it.count 64)).flatMap (fun b =>
    let rows := (List.range 64).filterMap (fun j =>
      let n := it.start + 64 * b + j
      if n ≤ last then (partOf ms n).map (fun m => (n, c.lowOf true m n)) else none)
    (List.range (last / (256 * cap) + 1)).flatMap (fun k =>
      if rows.any (fun r => r.2 < (k + 1) * cap * 256 && k * cap * 256 ≤ r.1) then (List.range (shHq c.shape)).map (fun h => (h, b, k))
      else []))

/-- Units put on dies and arrays (R211): the heads of one key/value head, of the same row block and segment, go to one array. Which is a free
choice. -/
def Core.placeUnits (t : Top) (us : List (Nat × Nat × Nat)) (c : Core) : List RidgeUnit × Core :=
  let g := shHq c.shape / shH c.shape
  us.foldl (fun (acc : List RidgeUnit × Core) (h, b, k) =>
    match acc.1.find? (fun u => u.head / g == h / g && u.row == b && u.seg == k) with
    | some u => (acc.1 ++ [{ head := h, row := b, seg := k, crest := u.crest, array := u.array }], acc.2)
    | none =>
      let (cr, c) := acc.2.chooseCrest t (List.range 32)
      let (a, c) := c.pick
      (acc.1 ++ [{ head := h, row := b, seg := k, crest := cr, array := a % 8 }], c)) ([], c)

/-- The step of an item. -/
def Core.stepOf (c : Core) (it : Item) : StepRec :=
  (c.sched.steps.get? it.step).getD { group := 0, formed := 0, slice := 16, score := 4, hasDecode := false, hasChunk := false }

/-- A decode layer starts (R180, R182, R186, R187): the token is appended, the plan formed, the descriptors sent and the buffers asked for. -/
def Core.startDecode (t : Top) (k : Nat) (it : Item) (r : LayerRun) (m : LayerMsg) (c : Core) : Core :=
  let n := m.pos
  match c.pageOf it.ctx r.layer (n / 256) with
  | none => c
  | some (o, pg) =>
    match pg.t1 with
    | none => c
    | some (st, fr) =>
      let merge := 2 * st
      if c.frameBusy (st, fr) then c else match c.appendDie t merge with
      | none => c
      | some ap =>
      let c := c.tier0Choice t o
      let c := (c.appendPage t o ap [stepRow c.shape m.body (n % 256)]).writeAppend t k o ap 1
      let (a, b) := c.attended it
      let ps := (List.range (b + 1)).filter (fun p => a ≤ p && !r.summarised.contains p)
      let sr := c.stepOf it
      let plan := slicePlan (ps.map (fun p => (p, c.stackOf t it.ctx r.layer p))) sr.slice (sr.score * 2 ^ 20) (shHq c.shape)
      let (sl, c) := c.placeSlices t it.ctx r.layer b plan
      let sk : List Slice := if r.summarised.isEmpty then []
        else [{ stack := st, pages := r.summarised, crest := merge, state := .running, skipper := true, at_ := t.now }]
      let bytes := sumL (ps.map (c.pageData it.ctx r.layer))
      let c := c.updItem k (fun x => { x with
        run := some { r with started := true, slices := sl ++ sk, merge := merge }, bytes := x.bytes + bytes })
      sl.zipIdx.foldl (fun c e => c.dispatch t (it.ctx / 32768) e.1.crest { item := k, index := e.2, ridge := false, credits := c.sliceCredits e.1 }) c

/-- A chunk layer starts (R208 to R211): its pages await their appends, its units their buffers. -/
def Core.startChunk (t : Top) (k : Nat) (it : Item) (r : LayerRun) (c : Core) : Core :=
  let cap := (c.stepOf it).score
  let (us, c) := c.placeUnits t (c.unitsOf it cap)
  let pages := (List.range (ceilDiv (it.start + it.count) 256)).filter (fun p => it.start / 256 ≤ p)
  let c := c.updItem k (fun x => { x with run := some { r with started := true, appends := pages, units := us } })
  us.zipIdx.foldl (fun c e => c.dispatch t (it.ctx / 32768) e.1.crest { item := k, index := e.2, ridge := true, credits := c.unitCredits it.step }) c

/-- MEMBER_LAYER_START (R157, R163, R180, R182, R192, R208): a member whose layer has every page it waits for, and whose
engines are powered, starts it. -/
def Core.layerStart (t : Top) (k : Nat) (c : Core) : Core :=
  match c.sched.items.get? k with
  | none => c
  | some it => match it.run, it.headMsgs with
    | some r, m :: _ =>
      if !it.inStep || r.started || !it.needsEngines.all (fun e => c.engine e == .on) || !(c.awaited it r.summarised).isEmpty then c
      else
        let x := c.ctx it.ctx
        let (a, b) := c.attended it
        if m.epoch ≠ x.epoch then c.layerFails t k .staleHandle 0
        else if m.pos ≠ x.held1 r.layer then c.layerFails t k .badArg 6
        else if ((List.range (b + 1)).filter (a ≤ ·)).any (fun p => ((c.pageOf it.ctx r.layer p).map (fun e => e.2.poison)).getD false) then
          c.layerFails t k .poisoned 0
        else if it.chunk then c.startChunk t k it r
        else c.startDecode t k it r m
    | _, _ => c

/-! ### Score buffers -/

/-- The next request of a Crest die in the order of R220. -/
def nextScore (q : List ScoreReq) : Option ScoreReq :=
  match q.find? (fun r => r.ridge && 8 ≤ r.passed) with
  | some r => some r
  | none => match q.find? (fun r => !r.ridge) with
    | some r => some r
    | none => q.head?

/-- A slice or unit of an item's layer changed. -/
def Core.onSlice (k n : Nat) (f : Slice → Slice) (c : Core) : Core :=
  c.updItem k (fun it => { it with run := it.run.map (fun r => { r with slices := r.slices.modify n f }) })

/-- A Ridge unit of an item's layer changed. -/
def Core.onUnit (k n : Nat) (f : RidgeUnit → RidgeUnit) (c : Core) : Core :=
  c.updItem k (fun it => { it with run := it.run.map (fun r => { r with units := r.units.modify n f }) })

/-- Bytes of some pages of a context's layer that an engine reads from a stack: those without a copy in the engine's own Crest store (R16). -/
def Core.stackBytes (c : Core) (i l crest : Nat) (ps : List Nat) : Nat :=
  sumL ((ps.filter (fun p => ((c.pageOf i l p).map (fun e => !(e.2.inTier 0 && (e.2.t0.map Prod.fst) == some crest))).getD true)).map (c.pageData i l))

/-- A slice that has its buffer starts to read its pages (R16, R188). -/
def Core.readSlice (t : Top) (k n : Nat) (c : Core) : Core :=
  match c.sched.items.get? k with
  | none => c
  | some it => match it.run with
    | none => c
    | some r => match r.slices[n]? with
      | none => c
      | some s => c.readStack t s.crest s.stack 0 (c.stackBytes it.ctx r.layer s.crest s.pages) (.slice k n)

/-- The pages of a segment that a layer of an item attends to. -/
def Core.segPages (c : Core) (it : Item) (seg : Nat) : List Nat :=
  let cap := (c.stepOf it).score
  let (a, b) := c.attended it
  ((List.range cap).map (seg * cap + ·)).filter (fun p => a ≤ p && p ≤ b)

/-- A unit that its array has taken reads the pages of its segment (R16, R209): those of a group of heads are staged once, for the first (R211). -/
def Core.readUnit (t : Top) (k n : Nat) (c : Core) : Core :=
  match c.sched.items.get? k with
  | none => c
  | some it => match it.run with
    | none => c
    | some r => match r.units[n]? with
      | none => c
      | some u =>
        if u.head % (shHq c.shape / shH c.shape) ≠ 0 then c
        else
          let ps := c.segPages it u.seg
          ((ps.map (c.stackOf t it.ctx r.layer)).dedup).foldl (fun c st =>
            let mine := ps.filter (fun p => c.stackOf t it.ctx r.layer p == st)
            c.readStack t u.crest st 1 (c.stackBytes it.ctx r.layer u.crest mine) (.unit k n)) c

/-! ### Arrays -/

/-- An array of a Crest die is at work on a unit. -/
def Core.arrayBusy (c : Core) (crest a : Nat) : Bool :=
  c.sched.items.any (fun e => ((e.2.run.map LayerRun.units).getD []).any (fun u => u.crest == crest && u.array == a && u.state == .running)) ||
  c.search.units.any (fun u => u.2.crest == crest && u.2.array == a && u.2.running)

/-- The prefill unit that an array would take next, of those that have their buffers: item and index, the first granted first, in head order. -/
def Core.prefillNext (c : Core) (crest a : Nat) : Option (Nat × Nat) :=
  let us := c.sched.items.flatMap (fun e => ((e.2.run.map LayerRun.units).getD []).zipIdx.filterMap (fun u =>
    if u.1.crest = crest ∧ u.1.array = a ∧ u.1.state = .granted then some (u.1.granted, e.1, u.2) else none))
  match us with
  | [] => none
  | x :: xs => some (xs.foldl (fun b y => if lexLt [y.1, y.2.1, y.2.2] [b.1, b.2.1, b.2.2] then y else b) x).2

/-- The centroid unit that an array would take next. -/
def Core.centroidNext (c : Core) (crest a : Nat) : Option Nat :=
  (c.search.units.find? (fun u => u.2.crest == crest && u.2.array == a && !u.2.running)).map Prod.fst

/-- An idle array takes its next unit (R221): of the class that the role prefers, each eighth of the other, where one waits. A die under test
starts none (R395). -/
def Core.startArray (t : Top) (crest a : Nat) (c : Core) : Core :=
  if c.arrayBusy crest a || c.underTest (crestDie crest) then c
  else
    let n := c.sched.arrays.getD (8 * crest + a) 0 + 1
    let centroid := (c.pact.role == .cache) != (n % 8 == 0)
    let count := fun (c : Core) => c.onSched (fun s => { s with arrays := s.arrays.set (8 * crest + a) n })
    let prefill := fun (k i : Nat) (c : Core) =>
      ((count c).onUnit k i (fun u => { u with state := .running, at_ := t.now })).readUnit t k i
    let cent := fun (u : Nat) (c : Core) =>
      (count c).onSearch (fun s => { s with units := s.units.upd u (fun x => { x with running := true }) })
    match c.prefillNext crest a, c.centroidNext crest a with
    | none, none => c
    | some (k, i), none => prefill k i c
    | none, some u => cent u c
    | some (k, i), some u => if centroid then cent u c else prefill k i c

/-- The idle arrays of a Crest die take units. -/
def Core.startArrays (t : Top) (crest : Nat) (c : Core) : Core := (List.range 8).foldl (fun c a => c.startArray t crest a) c

/-- SCORE_BUFFER_GRANT (R220): the next waiting request whose descriptor has come gets its whole buffer, where it is free: a slice starts, and a unit
goes to its array. A die under test starts nothing. -/
def Core.scoreGrant (t : Top) (crest : Nat) (c : Core) : Core :=
  let q := c.sched.waiting.getD crest []
  match nextScore (q.filter (fun r => !c.undescribed crest r.work)) with
  | none => c.startArrays t crest
  | some r =>
    let total := 1024 * c.tiers.tier0.score
    let used := c.sched.scoreUsed.getD crest 0
    if total < used + r.credits || c.underTest (crestDie crest) then c.startArrays t crest
    else
      let rest := (q.filter (fun x => x != r)).map (fun x => if !r.ridge && x.ridge then { x with passed := x.passed + 1 } else x)
      let c := c.onSched (fun s => { s with
        waiting := s.waiting.set crest rest, scoreUsed := s.scoreUsed.set crest (used + r.credits) })
      let c := c.descriptorTaken t crest r.work
      if r.ridge then (c.onUnit r.item r.index (fun u => { u with state := .granted, granted := t.now })).startArrays t crest
      else ((c.onSlice r.item r.index (fun s => { s with state := .running, at_ := t.now })).readSlice t r.item r.index).startArrays t crest

/-! ### Decode -/

/-- What a computation over some pages of a context reads. -/
def Core.views (c : Core) (i l : Nat) (ps : List Nat) : List PView := ps.filterMap (c.view (c.ctx i) l)

/-- Stream cycles and multiplier cycles of one page (R199). -/
def pageCycles (s : List Byte) (f : Fmt) : Nat × Nat :=
  (ceilDiv (pageBytes f (shH s) (shD s)) 128, ceilDiv (pageElems (shH s) (shD s) * (shHq s / shH s) * (if f = .bf16 then 2 else 1)) 2048)

/-- The counters of an engine after a slice (R203): units of 4 KiB streamed, cycles busy and bound by the multipliers, slices. -/
def Core.countSlice (t : Top) (crest : Nat) (s : Slice) (vs : List PView) (c : Core) : Core :=
  let (v, c) := c.pick
  let e := v % 4
  let bytes := sumL (vs.map (fun p => c.bytesIn p.fmt))
  let old := (c.ctr (.hawk crest (64 + e))).toNat
  let bound := sumL (vs.map (fun p => let (a, b) := pageCycles c.shape p.fmt; if a < b then b else 0))
  let c := (c.bump (.hawk crest (64 + e)) bytes).bump (.hawk crest (4 * e)) ((old + bytes) / 4096 - old / 4096)
  ((c.bump (.hawk crest (4 * e + 1)) (2 * (t.now - s.at_))).bump (.hawk crest (4 * e + 2)) bound).bump (.hawk crest (4 * e + 3))

/-- SLICE_COMPLETE (R188, R196, R220): a running slice's partial is computed and sent, and its buffer returned. -/
def Core.sliceComplete (t : Top) (k n : Nat) (c : Core) : Core :=
  match c.sched.items.get? k with
  | none => c
  | some it => match it.run, it.headMsgs with
    | some r, m :: _ => match r.slices[n]? with
      | some s =>
        if s.state ≠ .running then c else
        let sh := c.shape
        let x := c.ctx it.ctx
        let att := Att.ofShape sh
        let q := headsOf m.body 32 (shHq sh) (shD sh)
        let lo := c.lowOf false m m.pos
        let vs := c.views it.ctx r.layer s.pages
        let rq : Int := ((m.pos + x.posOff : Nat) : Int)
        let (ps, cnt) := if s.skipper then (att.skipper q rq vs lo m.pos).go else (att.slice q rq vs lo m.pos).go
        let c := c.engineCount s.crest cnt
        let c := c.onSlice k n (fun s => { s with state := .sent, parts := ps })
        if s.skipper then c.bump (.hawk s.crest 19)
        else
          let c := ((c.countSlice t s.crest s vs).freeScore s.crest (c.sliceCredits s)).stepSpan t it.step k false s.at_
          (c.freeWork t (· == .slice k n)).sendResult t s.crest r.merge (4 * shHq sh * (shD sh + 2)) (.slice k n)
      | none => c
    | _, _ => c

/-- The detail of a DEGRADED result (R198). -/
def degradedDetail (it : Item) (r : LayerRun) : Nat := b2n it.late + 2 * b2n r.absentSum

/-- A decode layer completes in full or summarised (R180, R190, R197, R198). -/
def Core.decodeDone (t : Top) (k : Nat) (it : Item) (r : LayerRun) (m : LayerMsg) (c : Core) : Core :=
  let sh := c.shape
  let (outs, cnt) := ((List.range (shHq sh)).mapM (fun h =>
    mergeParts (r.slices.map (fun s => s.parts.getD h { m := 0#32, l := 0#32, o := [] }))) : Num (List (List F32))).go
  let c := (c.engineCount r.merge cnt).doneEntry t r.merge (it.ctx / 32768) (.slice k 0)
  let n := r.summarised.length
  let lo := c.lowOf false m m.pos
  let (st, d) := if n = 0 then (Status.ok, 0) else (Status.degraded, degradedDetail it r)
  let slices := (r.slices.filter (fun s => !s.skipper)).length
  let c := c.updCtx it.ctx (fun x => { x with tokens := x.tokens.set r.layer (m.pos + 1), summarised := x.summarised.up n })
  let c := c.bump (.client (c.ctx it.ctx).client 4) n
  let c := c.updItem k (fun x => { x with sumPages := x.sumPages + n, anySum := x.anySum || n != 0 })
  (c.answerLayer t it.ctx false m (stepResult m.body st d n slices (m.pos + 1 - lo) (outBytes outs))).nextLayer t k r.layer

/-- PARTIAL_ARRIVE (R20, R190, R192): a partial reaches the merge die, behind those that its die sent there before it; one whose epoch is not the
context's is discarded and counted. With the last one the layer completes, and the item ends with STALE_HANDLE where the context has a new epoch. -/
def Core.partialArrive (t : Top) (k n : Nat) (c : Core) : Core :=
  match c.sched.items.get? k with
  | none => c
  | some it => match it.run, it.headMsgs with
    | some r, m :: _ => match r.slices[n]? with
      | some s =>
        if s.state ≠ .sent || !c.meshDue .result (.slice k n) then c
        else
          let stale := m.epoch != (c.ctx it.ctx).epoch
          let c := (c.freeWork t (· == .slice k n)).onSlice k n (fun s => { s with state := .arrived })
          let c := if stale then (c.bump (.hawk r.merge 16)).countStale it.ctx 2 else c
          let r := { r with slices := r.slices.modify n (fun s => { s with state := .arrived }) }
          if !r.slices.all (fun s => s.state == .arrived) then c
          else if stale then c.failItem t k .staleHandle 0
          else c.decodeDone t k it r m
      | none => c
    | _, _ => c

/-! ### Chunks -/

/-- CHUNK_APPEND_DONE (R208, R209): one page of a chunk layer is appended; a frame that a victim gave up waits for its
write-back (R110). -/
def Core.chunkAppend (t : Top) (k p : Nat) (c : Core) : Core :=
  match c.sched.items.get? k with
  | none => c
  | some it => match it.run with
    | none => c
    | some r =>
      if !r.started || !r.appends.contains p then c else
      match c.pageOf it.ctx r.layer p with
      | none => c
      | some (o, pg) => match pg.t1 with
        | none => c
        | some (st, fr) =>
          if c.frameBusy (st, fr) then c else
          let ms := it.headMsgs
          let rows := ((List.range 256).map (256 * p + ·)).filterMap (fun n =>
            if it.start ≤ n && n < it.start + it.count then
              (partOf ms n).map (fun m => partRow c.shape m.body m.len (n - m.pos) (n % 256))
            else none)
          let (v, c) := c.pick
          match c.appendDie t (2 * st + v % 2) with
          | none => c
          | some ap =>
            let c := ((c.tier0Choice t o).appendPage t o ap rows).writeAppend t k o ap rows.length
            c.updItem k (fun x => { x with run := x.run.map (fun r => { r with appends := r.appends.filter (· != p) }) })

/-- Query of a token of a part, by head (R204). -/
def partQuery (s body : List Byte) (j h : Nat) : List F32 := bf16List body (104 + 2 * shD s * (j * shHq s + h)) (shD s)

/-- Rows of a unit's block: position, part and lowest admitted position. -/
def Core.rowsOf (c : Core) (it : Item) (b : Nat) : List (Nat × LayerMsg × Nat) :=
  (List.range 64).filterMap (fun j =>
    let n := it.start + 64 * b + j
    if n < it.start + it.count then (partOf it.headMsgs n).map (fun m => (n, m, c.lowOf true m n)) else none)

/-- The rows of a row block that belong to a part are merged: outputs by token and head, the most partials of a row, and the counts (R214, R217). -/
def Core.blockOutput (c : Core) (it : Item) (r : LayerRun) (m : LayerMsg) (b : Nat) : (List (List F32) × Nat) × NumCount :=
  ((((List.range m.len).map (m.pos + ·)).filter (fun n => (n - it.start) / 64 == b)).flatMap (fun n => (List.range (shHq c.shape)).map (fun h => (n, h))) |>.foldlM
    (fun (acc : List (List F32) × Nat) (n, h) => do
      let us := sortBy (fun (a b : RidgeUnit) => a.seg < b.seg) (r.units.filter (fun u => u.head == h && u.row == (n - it.start) / 64))
      let ps := us.filterMap (fun u => Tbl.get? u.rows n)
      let o ← mergeParts ps
      return (acc.1 ++ [o], max acc.2 ps.length)) ([], 0) : Num (List (List F32) × Nat)).go

/-- The merge die of the row block that begins at a position (R211). -/
def Core.mergeDie (t : Top) (c : Core) (i l n : Nat) : Nat := 2 * c.stackOf t i l (n / 256)

/-- Results sent for the parts of a chunk layer that have merged, in ascending part index (R217); with the last one the
layer is held, and a final chunk may be complete (R207, R219). `fuel` bounds the parts. -/
def Core.sendParts (t : Top) (k : Nat) : Nat → Core → Core
  | 0, c => c
  | fuel + 1, c =>
    match c.sched.items.get? k with
    | none => c
    | some it => match it.run, it.headMsgs.find? (fun m => !m.answered) with
      | some r, some m =>
        let blocks := (List.range (ceilDiv m.len 64)).map (fun b => (m.pos - it.start) / 64 + b)
        if r.units.any (fun u => blocks.contains u.row && u.state != .arrived) || !r.appends.isEmpty && r.units.isEmpty then c
        else
          let (outs, segs, c) := blocks.foldl (fun (acc : List (List F32) × Nat × Core) b =>
            let ((o, s), cnt) := acc.2.2.blockOutput it r m b
            let merge := acc.2.2.mergeDie t it.ctx r.layer (it.start + 64 * b)
            (acc.1 ++ o, max acc.2.1 s, (acc.2.2.engineCount merge cnt).doneEntry t merge (it.ctx / 32768) (.unit k b))) ([], 0, c)
          let n := m.pos + m.len - 1
          let c := c.updItem k (fun x => { x with
            msgs := x.msgs.map (fun y => if y.layer == m.layer && y.part == m.part then { y with answered := true } else y) })
          let c := c.answerLayer t it.ctx true m (chunkResult m.body .ok 0 segs (n + 1 - c.lowOf true m n) (outBytes outs))
          if m.pos + m.len = it.start + it.count then
            let c := c.updCtx it.ctx (fun x => { x with tokens := x.tokens.set r.layer (it.start + it.count) })
            let c := if it.final && r.layer + 1 == shLayers c.shape then c.finalDone t it.ctx else c
            c.nextLayer t k r.layer
          else Core.sendParts t k fuel c
      | _, _ => c

/-- RIDGE_UNIT_COMPLETE (R209, R213, R216, R220, R221): a unit on its array, whose pages are appended, returns the partials of its rows to the merge
die, and the array takes its next. A partial whose epoch is not the context's is discarded and counted; after the last the item ends with
STALE_HANDLE. -/
def Core.unitComplete (t : Top) (k h b seg : Nat) (c : Core) : Core :=
  match c.sched.items.get? k with
  | none => c
  | some it => match it.run, it.headMsgs with
    | some r, m0 :: _ => match r.units.findIdx? (fun u => u.head == h && u.row == b && u.seg == seg) with
      | none => c
      | some n => match r.units[n]? with
        | none => c
        | some u =>
          let sh := c.shape
          let cap := (c.stepOf it).score
          let rows := c.rowsOf it b
          let pages := fun (lo hi : Nat) => (List.range cap).filterMap (fun j =>
            let p := seg * cap + j
            if lo / 256 ≤ p && p ≤ hi / 256 then some p else none)
          let all := (rows.flatMap (fun r => pages r.2.2 r.1)).dedup
          let stale := m0.epoch != (c.ctx it.ctx).epoch
          let merge := c.mergeDie t it.ctx r.layer (it.start + 64 * b)
          if u.state ≠ .running || (!stale && all.any r.appends.contains) || !c.flowClear (crestDie u.crest) (crestDie merge) .response then c
          else
            let c := (c.freeScore u.crest (c.unitCredits it.step)).stepSpan t it.step k true u.at_
            let c := (c.freeWork t (· == .unit k n)).meshPass t (crestDie u.crest) (crestDie merge) .response .result (.unit k n)
              (ceilDiv (256 * (shD sh + 2)) 256)
            if stale then
              let c := (((c.onUnit k n (fun u => { u with state := .arrived })).bump (.hawk merge 16)).countStale it.ctx 2)
              let left := r.units.zipIdx.any (fun x => x.2 != n && x.1.state != .arrived)
              (if left then c else c.failItem t k .staleHandle 0).startArrays t u.crest
            else
            let att := Att.ofShape sh
            let x := c.ctx it.ctx
            let (res, cnt) := (rows.filterMapM (fun (n, m, lo) => do
              let o ← att.ridgeRow (partQuery sh m.body (n - m.pos) h) h n lo x.posOff (c.views it.ctx r.layer (pages lo n))
              return o.map (fun p => (n, p))) : Num (List (Nat × HeadPart))).go
            let c := c.engineCount u.crest cnt
            let c := c.onUnit k n (fun u => { u with state := .arrived, rows := res })
            (c.sendParts t k (it.msgs.length + 1)).startArrays t u.crest
    | _, _ => c

/-! ### Recomputation -/

/-- PAGE_RECOMPUTE (R193, R216, R412): a running slice or unit of an item has read an uncorrectable word of a page's copy in
tier 0 or 1: it is computed again on restored data, or the page is poisoned. -/
def Core.pageRecompute (t : Top) (k o tier : Nat) (c : Core) : Core :=
  match c.sched.items.get? k, c.page o with
  | some it, some p =>
    match it.run with
    | none => c
    | some r =>
      let idx := (c.placeOf it.ctx o).2
      let named := (c.pageOf it.ctx r.layer idx).map Prod.fst == some o
      let slices := r.slices.filter (fun s => s.state == .running && s.pages.contains idx)
      let units := r.units.filter (fun u => u.state == .running && u.seg == idx / (c.stepOf it).score)
      if !named || tier > 1 || !p.inTier tier || p.poison || (slices.isEmpty && units.isEmpty) then c
      else
        let c := c.countError t p tier
        let c := c.updPage o (fun p => { p with badTiers := p.badTiers ||| (1#4 <<< tier) })
        let c := c.badCopy t o tier (c.handle it.ctx)
        if ((c.page o).map PageObj.poison).getD true then c
        else slices.foldl (fun c s => c.bump (.hawk s.crest 18)) c
  | _, _ => c

/-! ### Commands of the 0x06xx range -/

/-- The sizes that SHAPE_CHECK returns (R201). -/
def shapeSizes (s : List Byte) (buf : Nat) : List Byte := le 4 (shFrame s) ++ le 4 (shSlot s) ++ le 4 (shStepBytes s) ++ le 2 buf ++ zeros 2

/-- The score-buffer partition in force, in bytes (R91). -/
def Core.scoreBytes (c : Core) : Nat := c.tiers.tier0.score * 2 ^ 20

/-- A shape record as it is reported: its reserved bytes and bits are zero (R12, R174). -/
def shapeShown (s : List Byte) : List Byte :=
  let s := fit 840 s
  s.take 36 ++ zeros 4 ++ (s.drop 40).take 160 ++ (List.range 160).flatMap (fun i => le 4 (rd s (200 + 4 * i) 4 % 2 ^ 22))

/-- SHAPE_CHECK (R175, R201). With no job the score partition has no size: the value of cap_buf is free. -/
def shapeCheckBody (_t : Top) (c : Core) (_m : Nat) (a : Cmd) : Ans := do
  let s := a.args.take 840
  shapeCheck s
  if c.job.isSome then ok c (shapeSizes s (capBuf c.scoreBytes (shHq s)))
  else
    let (v, c) := c.pick
    ok c (shapeSizes s v)

/-- SHAPE_QUERY (R201). -/
def shapeQueryBody (_t : Top) (c : Core) (_m : Nat) (_a : Cmd) : Ans :=
  ok c (shapeShown c.shape ++ shapeSizes c.shape (capBuf c.scoreBytes (shHq c.shape)))

/-- SLICE_SET (R201, R202). -/
def sliceSetBody (_t : Top) (c : Core) (_m : Nat) (a : Cmd) : Ans := do
  let v := a.arg 0 2
  needArg (v ≤ 256) 0
  ok (c.setNext (fun p => { p with slice := if v = 0 then 16 else v }))

/-- SLICE_QUERY (R201): the target last accepted, cap_buf, and the cap in effect. -/
def sliceQueryBody (_t : Top) (c : Core) (_m : Nat) (_a : Cmd) : Ans :=
  let b := capBuf c.scoreBytes (shHq c.shape)
  ok c (le 2 c.pset.slice ++ le 2 b ++ le 2 (min c.pact.slice b) ++ zeros 2)

/-- PLAN_QUERY (R186, R201, R202). -/
def planQueryBody (t : Top) (c : Core) (_m : Nat) (a : Cmd) : Ans := do
  let i := hIndex a.handle
  let x := c.ctx i
  let l := a.arg 0 2
  let n := a.arg 4 4
  let doc := a.arg 8 4
  let first := a.arg 12 2
  needArg (l < shLayers c.shape) 0
  needArg (c.curLen x ≤ n && n < x.maxLen) 4
  needArg (!shDoc c.shape l || doc ≤ n) 8
  let lo := admitLo c.shape l n doc
  let ps := (List.range (n / 256 + 1)).filter (lo / 256 ≤ ·)
  let plan := slicePlan (ps.map (fun p => (p, c.stackOf t i l p))) c.pact.slice c.scoreBytes (shHq c.shape)
  needArg (first < plan.length) 12
  let part := (plan.drop first).take 500
  ok c (le 2 plan.length ++ le 2 (if first + 500 < plan.length then first + 500 else 0) ++
    part.flatMap (fun s => le 1 s.1 ++ le 2 s.2.length ++ zeros 1 ++ le 2 (s.2.headD 0) ++ le 2 (s.2.getLastD 0)))

/-- ROPE_EVAL (R184, R201, R202). -/
def ropeEvalBody (_t : Top) (c : Core) (_m : Nat) (a : Cmd) : Ans := do
  let j := a.arg 0 2
  needArg (j < rd c.shape 32 2 / 2) 0
  let ph := ropePhase ((Att.ofShape c.shape).freqs.getD j 0) (sext 32 (a.arg 4 4))
  ok c (le 8 ph ++ le 4 (trig32 false (ph / 2 ^ 32)).toNat ++ le 4 (trig32 true (ph / 2 ^ 32)).toNat)

/-- A Crest die named by a query, in service and not under test (R202, R244, R271). -/
def Core.crestArg (t : Top) (c : Core) (i : Nat) : Chk Unit := do
  needArg (t.crests.contains i) 0
  c.needFree t (crestDie i)

/-- HAWKMOTH_QUERY (R202, R203). -/
def hawkmothQueryBody (t : Top) (c : Core) (_m : Nat) (a : Cmd) : Ans := do
  let i := a.arg 0 1
  c.crestArg t i
  ok c (c.ctrBytes ((List.range 20).map (.hawk i)))

/-- SHAPE_CHECK. -/
def execShapeCheck (m : Nat) (s : State) : Host.Outcome State Fault Refusal := .next (runCommand m 0x0601 shapeCheckBody s)
/-- SHAPE_QUERY. -/
def execShapeQuery (m : Nat) (s : State) : Host.Outcome State Fault Refusal := .next (runCommand m 0x0602 shapeQueryBody s)
/-- SLICE_SET. -/
def execSliceSet (m : Nat) (s : State) : Host.Outcome State Fault Refusal := .next (runCommand m 0x0603 sliceSetBody s)
/-- SLICE_QUERY. -/
def execSliceQuery (m : Nat) (s : State) : Host.Outcome State Fault Refusal := .next (runCommand m 0x0604 sliceQueryBody s)
/-- PLAN_QUERY. -/
def execPlanQuery (m : Nat) (s : State) : Host.Outcome State Fault Refusal := .next (runCommand m 0x0605 planQueryBody s)
/-- ROPE_EVAL. -/
def execRopeEval (m : Nat) (s : State) : Host.Outcome State Fault Refusal := .next (runCommand m 0x0606 ropeEvalBody s)
/-- HAWKMOTH_QUERY. -/
def execHawkmothQuery (m : Nat) (s : State) : Host.Outcome State Fault Refusal := .next (runCommand m 0x0607 hawkmothQueryBody s)
/-- MEMBER_LAYER_START. -/
def execMemberLayerStart (i : Nat) (s : State) : Host.Outcome State Fault Refusal := .next (s.onCore (fun t c => (c.layerStart t i).noteReady))
/-- SCORE_BUFFER_GRANT. -/
def execScoreBufferGrant (crest : Nat) (s : State) : Host.Outcome State Fault Refusal :=
  .next (s.onCore (fun t c => c.scoreGrant t crest))
/-- SLICE_COMPLETE. -/
def execSliceComplete (i k : Nat) (s : State) : Host.Outcome State Fault Refusal :=
  .next (s.onCore (fun t c => c.sliceComplete t i k))
/-- PARTIAL_ARRIVE. -/
def execPartialArrive (i k : Nat) (s : State) : Host.Outcome State Fault Refusal :=
  .next (s.onCore (fun t c => (c.partialArrive t i k).noteReady))
/-- CHUNK_APPEND_DONE. -/
def execChunkAppendDone (i p : Nat) (s : State) : Host.Outcome State Fault Refusal :=
  .next (s.onCore (fun t c => (c.chunkAppend t i p).noteReady))
/-- RIDGE_UNIT_COMPLETE. -/
def execRidgeUnitComplete (i h b seg : Nat) (s : State) : Host.Outcome State Fault Refusal :=
  .next (s.onCore (fun t c => (c.unitComplete t i h b seg).noteReady))
/-- PAGE_RECOMPUTE. -/
def execPageRecompute (i obj tier : Nat) (s : State) : Host.Outcome State Fault Refusal :=
  .next (s.onCore (fun t c => c.pageRecompute t i obj tier))

end Sys2Proof.Machine
end

