-- ==== Sys2Proof/Machine/Search.lean ====
section
/-! DEFINITION. Vector search on Luna engines (09_vector_search.md): indexes and their budgets (R245 to R249), loading and
sealing (R252, R253), SEARCH_REQ (R254 to R265), centroid units and list scans (R257 to R260), merges (R266, R267) and the
0x08xx commands (R271). -/

namespace Sys2Proof.Machine

/-! ### Layout -/

/-- The list format is PQ8 (R246). -/
def Idx.pq (i : Idx) : Bool := i.fmt == 3
/-- The metric is IP (R246). -/
def Idx.ip (i : Idx) : Bool := i.metric == 1
/-- SHADOW (R246). -/
def Idx.shadowed (i : Idx) : Bool := bit i.flags 0
/-- Bytes of a side or shadow record (R247). -/
def Idx.fp16Rec (i : Idx) : Nat := 8 + 2 * i.d
/-- Bytes of a list record (R247). -/
def Idx.listRec (i : Idx) : Nat := match i.fmt with | 1 => 8 + 2 * i.d | 2 => 8 + i.d | _ => 8 + i.sub
/-- Records of a side-list or shadow block (R247). -/
def Idx.perFp16 (i : Idx) : Nat := 65536 / i.fp16Rec
/-- Records of a list block, or with `sh` of a shadow block (R247). -/
def Idx.per (i : Idx) (sh : Bool) : Nat := if sh then i.perFp16 else 65536 / i.listRec

/-- The name of a list's or shadow's block. -/
def blkName (sh : Bool) (list b : Nat) : Nat := b2n sh * 2 ^ 64 + list * 2 ^ 32 + b
/-- The name of a side-list block. -/
def sideName (b : Nat) : Nat := 2 ^ 65 + b
/-- A block's kind: list, shadow or side. -/
def blkKind (blk : Nat) : Nat := if 2 ^ 65 ≤ blk then 2 else if 2 ^ 64 ≤ blk then 1 else 0
/-- The list of a list or shadow block. -/
def blkList (blk : Nat) : Nat := blk % 2 ^ 64 / 2 ^ 32
/-- A block's place in its list, or its number in the side list. -/
def blkPos (blk : Nat) : Nat := if blkKind blk = 2 then blk - 2 ^ 65 else blk % 2 ^ 32

/-- The records of a list, or with `sh` of its shadow. -/
def IdxGen.recs (g : IdxGen) (sh : Bool) (list : Nat) : List ListRec := (if sh then g.shadow else g.lists).getD list []

/-- The records of one block. -/
def Idx.blkRecs (i : Idx) (g : IdxGen) (sh : Bool) (list b : Nat) : List ListRec :=
  ((g.recs sh list).drop (b * i.per sh)).take (i.per sh)

/-- A range joined to a set of disjoint ranges (start and end). -/
def addRange (a e : Nat) (rs : List (Nat × Nat)) : List (Nat × Nat) :=
  let near := rs.filter (fun r => r.1 ≤ e && a ≤ r.2)
  let far := rs.filter (fun r => !(r.1 ≤ e && a ≤ r.2))
  (minD a (a :: near.map Prod.fst), maxL (e :: near.map Prod.snd)) :: far

/-- Bytes of the centroid part (R252). -/
def Idx.centBytes (i : Idx) : Nat := 2 * i.nlist * i.d
/-- Bytes of the codebook (R252). -/
def Idx.codeBytes (i : Idx) : Nat := 512 * i.d

/-! ### Digests -/

/-- A record as a block holds it: header, then payload (R247). -/
def ListRec.bytes (r : ListRec) : List Byte := le 8 (r.vid + r.scale * 2 ^ 48) ++ r.data

/-- A side record as a block holds it (R247): a tombstone's payload is zero. -/
def Idx.sideBytes (i : Idx) (e : SideRec) : List Byte :=
  le 8 (e.vid + b2n e.del * 2 ^ 40) ++ (if e.del then zeros (2 * i.d) else e.vec.flatMap (le 2))

/-- The 64 KiB of a block (R247): its records, then zeros. -/
def Idx.blkBytes (i : Idx) (g : IdxGen) (blk : Nat) : List Byte :=
  fit 65536 (if blkKind blk = 2 then (i.side.filter (fun e => e.seq / i.perFp16 == blkPos blk)).flatMap i.sideBytes
    else (i.blkRecs g (blkKind blk == 1) (blkList blk) (blkPos blk)).flatMap ListRec.bytes)

/-- The digest of a block (R245, R101). -/
def Idx.digest (i : Idx) (g : IdxGen) (blk : Nat) : BitVec 32 := crc32c (i.blkBytes g blk)

/-- A generation's digest table filled (R253, R266): lists that it shares with an older generation keep their entries. -/
def Idx.fillDigests (i : Idx) (old : IdxGen) (g : IdxGen) : IdxGen :=
  { g with digests := (Tbl.keys g.place).foldl (fun (ds : Tbl (BitVec 32)) b =>
      ds.set b (match (if g.written.getD (blkList b) 0 = old.written.getD (blkList b) 0 then old.digests.get? b else none) with
        | some d => d
        | none => i.digest g b)) [] }

/-- A block's entry of the digest table. -/
def Idx.digestOf (i : Idx) (g : IdxGen) (blk : Nat) : Option (BitVec 32) :=
  if blkKind blk = 2 then i.sideDigests.get? (blkPos blk) else g.digests.get? blk

/-- A block's entry of the digest table, where it has one, is that of its bytes (R264). -/
def Idx.digestGood (i : Idx) (g : IdxGen) (blk : Nat) : Bool := (i.digestOf g blk).all (· == i.digest g blk)

/-! ### Budgets -/

/-- Blocks of the side list's capacity. -/
def Idx.sideBlocks (i : Idx) : Nat := ceilDiv i.sideCap i.perFp16

/-- Tier-1 blocks of the parts that have a fixed size: centroids, norms, codebook, directory and side list (R245, R248). -/
def Idx.parts (i : Idx) : Nat :=
  ceilDiv i.centBytes 65536 + ceilDiv (4 * i.nlist) 65536 + (if i.pq then ceilDiv i.codeBytes 65536 else 0) +
  ceilDiv (16 * i.nlist) 65536 + i.sideBlocks

/-- Tier-1 blocks of the digest table with n list and shadow blocks (R245). -/
def Idx.digests (i : Idx) (n : Nat) : Nat := ceilDiv (4 * (n + i.sideBlocks)) 65536

/-- Places that the blocks of every live generation take: 2 × G in tier 1, 2 × K + 1 in tier 2. -/
def Idx.placed (i : Idx) : List Nat := ((i.cur :: i.old).flatMap (fun g => g.place.vals)).dedup

/-- Tier-1 places among some. -/
def tier1Of (ps : List Nat) : List Nat := ps.filter (fun p => p % 2 == 0)

/-- Tier-1 blocks in use with some places taken. -/
def Idx.used1 (i : Idx) (ps : List Nat) : Nat := i.parts + i.digests ps.length + (tier1Of ps).length

/-- Tier-2 blocks in use with some places taken. -/
def Idx.used2 (ps : List Nat) : Nat := ps.length - (tier1Of ps).length

/-- A place for one more block (R248): lists take tier 1 first and shadows tier 2 first; the lowest free number. -/
def Idx.allot (i : Idx) (sh : Bool) (ps : List Nat) : Option Nat :=
  let b1 := i.budget1 / 65536
  let base := i.parts + i.digests (ps.length + 1)
  let sorted := fun (l : List Nat) => sortBy (fun a b => a < b) l
  let t1 : Option Nat :=
    if base + (tier1Of ps).length < b1 then some (2 * nthFree (sorted ((tier1Of ps).map (· / 2))) i.parts 0) else none
  let t2 : Option Nat :=
    if base + (tier1Of ps).length ≤ b1 && Idx.used2 ps < i.budget2 / 65536 then
      some (2 * nthFree (sorted ((ps.filter (fun p => p % 2 == 1)).map (· / 2))) 0 0 + 1)
    else none
  if sh then t2.or t1 else t1.or t2

/-- Places for the named blocks, in order. -/
def Idx.allotAll (i : Idx) (sh : Bool) : List Nat → List Nat → Tbl Nat → Option (Tbl Nat)
  | [], _, acc => some acc
  | n :: ns, ps, acc =>
    match i.allot sh ps with
    | none => none
    | some p => Idx.allotAll i sh ns (p :: ps) (acc.set n p)

/-- The blocks that a list of `old` records gains by growing to `new`. -/
def Idx.newBlks (i : Idx) (sh : Bool) (list old new : Nat) : List Nat :=
  let b0 := ceilDiv old (i.per sh)
  (List.range (ceilDiv new (i.per sh) - b0)).map (fun b => blkName sh list (b0 + b))

/-- Records appended to a list or shadow of a loading index, within the budgets (R248, R252). -/
def Idx.append (i : Idx) (sh : Bool) (list : Nat) (rs : List ListRec) : Option Idx :=
  let old := i.cur.recs sh list
  match i.allotAll sh (i.newBlks sh list old.length (old.length + rs.length)) i.placed i.cur.place with
  | none => none
  | some place =>
    let g := { i.cur with place := place }
    some (if sh then { i with cur := { g with shadow := g.shadow.set list (old ++ rs) }, lastShadow := list }
          else { i with cur := { g with lists := g.lists.set list (old ++ rs) }, lastList := list })

/-- Records of the present generation. -/
def Idx.vectors (i : Idx) : Nat := sumL (i.cur.lists.vals.map List.length)

/-- An index. -/
def Core.idx (c : Core) (x : Nat) : Option Idx := c.search.idxs.get? x
/-- An index changed. -/
def Core.updIdx (x : Nat) (f : Idx → Idx) (c : Core) : Core := c.onSearch (fun s => { s with idxs := s.idxs.upd x f })

/-- The detail of a refusal for an index state (R250). -/
def idxDetail (s : IdxState) : Nat := stateDetail .index s.code

/-! ### Elements and scores -/

/-- FP16 words at an offset of a byte string. -/
def halves (bs : List Byte) (n : Nat) : List Nat := (List.range n).map (fun j => rd bs (2 * j) 2)

/-- FP16 words as payload bytes. -/
def halfBytes (ws : List Nat) : List Byte := ws.flatMap (le 2)

/-- Centroid j (R245). -/
def Idx.centroid (i : Idx) (j : Nat) : List F32 :=
  (List.range i.d).map (fun e => bf16Widen (rd (i.centroids.readN (2 * (j * i.d + e)) 2) 0 2))

/-- Codeword c of subspace m (R245), as FP16 words. -/
def Idx.codeword (i : Idx) (m cw : Nat) : List Nat :=
  let w := i.d / i.sub
  (List.range w).map (fun e => rd (i.codebook.readN (2 * ((m * 256 + cw) * w + e)) 2) 0 2)

/-- The sum of products in ascending order (R258). -/
def dotF (a b : List F32) : Num F32 :=
  (a.zip b).foldlM (fun s p => do let x ← fp32Mul p.1 p.2; fp32Add s x) 0#32

/-- The norm of centroid j (R258). -/
def Idx.norm (i : Idx) (j : Nat) : F32 := (dotF (i.centroid j) (i.centroid j)).go.1

/-- The key of centroid j for a rounded query (R258). -/
def Idx.centKeyN (i : Idx) (uq : List F32) (j : Nat) : Num F32 := do
  let dot ← dotF uq (i.centroid j)
  if i.ip then return dot
  else
    let x ← fp32Mul 0x40000000#32 dot
    fp32Sub x (i.norms.getD j 0#32)

/-- Its value. -/
def Idx.centKey (i : Idx) (uq : List F32) (j : Nat) : F32 := (i.centKeyN uq j).go.1

/-- The query rounded to BF16 (R258). -/
def roundQuery (v : List F32) : List F32 := v.map (fun x => (bf16 x).go.1)

/-- What a centroid unit counts for a query (R189, R258): its roundings, in the first unit, and its keys. -/
def Idx.centCount (i : Idx) (v : List F32) (first n : Nat) : NumCount :=
  (do
    let _ ← (if first = 0 then v.mapM bf16 else pure [])
    let _ ← (List.range n).mapM (fun b => i.centKeyN (roundQuery v) (first + b)) : Num Unit).go.2

/-- The order of centroid candidates: the higher key, then the lower list (R258). -/
def candBefore (a b : F32 × Nat) : Bool := b.1.lt a.1 || (!a.1.lt b.1 && a.2 < b.2)

/-- The flat score (R259). -/
def flatScore (ip : Bool) (q x : List F32) : Num F32 :=
  (q.zip x).foldlM (fun s p => do
    if ip then
      let y ← fp32Mul p.1 p.2
      fp32Add s y
    else
      let t ← fp32Sub p.1 p.2
      let y ← fp32Mul t t
      fp32Add s y) 0#32

/-- FP16 elements decoded (R259). -/
def decodeHalves (ws : List Nat) : Num (List F32) := ws.mapM fp16Widen

/-- INT8 elements decoded with their BF16 scale (R259). -/
def decodeInt8 (scale : Nat) (bs : List Byte) : Num (List F32) :=
  bs.mapM (fun b => do
    if (bf16Widen scale).special then
      countSpecial
      return 0#32
    fp32Mul (F32.ofInt b.toInt) (bf16Widen scale))

/-- The elements of a flat list record or a shadow record decoded (R259); a PQ8 record has none. -/
def Idx.decodeRec (i : Idx) (sh : Bool) (r : ListRec) : Num (List F32) :=
  if sh || i.fmt == 1 then decodeHalves (halves r.data i.d)
  else if i.fmt == 2 then decodeInt8 r.scale r.data
  else return []

/-- An entry of a query's table for PQ8: the flat score of its subvector m against codeword cw (R259). -/
def Idx.lut (i : Idx) (q : List F32) (m cw : Nat) : Num F32 := do
  let w := i.d / i.sub
  let x ← decodeHalves (i.codeword m cw)
  flatScore i.ip ((q.drop (m * w)).take w) x

/-- What building a query's table counts (R259). -/
def Idx.lutCount (i : Idx) (q : List F32) : NumCount :=
  (do let _ ← (List.range (i.sub * 256)).mapM (fun n => i.lut q (n / 256) (n % 256)) : Num Unit).go.2

/-- The score of a PQ8 record: the sum over subspaces of its codewords' entries in the query's table (R259). -/
def Idx.pqScore (i : Idx) (q : List F32) (codes : List Byte) : Num F32 :=
  codes.zipIdx.foldlM (fun s cm => fp32Add s (i.lut q cm.2 cm.1.toNat).go.1) 0#32

/-- The score of a list or shadow record, its elements decoded (R259). -/
def Idx.scoreN (i : Idx) (sh : Bool) (q : List F32) (r : ListRec) : Num F32 :=
  if !sh && i.pq then i.pqScore q r.data else flatScore i.ip q (i.decodeRec sh r).go.1

/-- Its value. -/
def Idx.score (i : Idx) (sh : Bool) (q : List F32) (r : ListRec) : F32 := (i.scoreN sh q r).go.1

/-- A score with its key (R259). -/
def Idx.hit (i : Idx) (s : F32) (vid list pos : Nat) : Hit := { key := if i.ip then s else s.neg, score := s, vid, list, pos }

/-- The order of results (R260). -/
def hitBefore (a b : Hit) : Bool :=
  if b.key.lt a.key then true else if a.key.lt b.key then false
  else if a.vid ≠ b.vid then a.vid < b.vid
  else if a.list ≠ b.list then a.list < b.list
  else a.pos < b.pos

/-! ### A query's result -/

/-- The query scans the shadow in place of the codes (R270). -/
def Idx.useShadow (i : Idx) (exact : Bool) : Bool := exact && i.pq && i.shadowed

/-- The generation that a query uses. -/
def Idx.genOf (i : Idx) (g : Nat) : IdxGen := ((i.cur :: i.old).find? (fun x => x.gen == g)).getD i.cur

/-- The side entries that a query sees (R256), those of the blocks it skipped left out (R264). -/
def Idx.sideView (i : Idx) (q : Query) : List SideRec :=
  i.side.filter (fun e => q.head ≤ e.seq && e.seq < q.tail && !q.skipped.contains (sideName (e.seq / i.perFp16)))

/-- The side entries that decide: the last of each vector ID (R260). -/
def lastOfEach (es : List SideRec) : List SideRec := es.filter (fun e => !es.any (fun f => f.vid == e.vid && e.seq < f.seq))

/-- The score of a side record (R259). -/
def Idx.sideScore (i : Idx) (q : List F32) (e : SideRec) : Num F32 := flatScore i.ip q (decodeHalves e.vec).go.1

/-- Every record that a query scores, with its score (R259, R260). -/
def Idx.hits (i : Idx) (q : Query) : List Hit :=
  let view := i.sideView q
  let side := (lastOfEach view).filter (fun e => !e.del)
  let sh := i.useShadow q.exact
  let g := i.genOf q.gen
  side.map (fun e => i.hit (i.sideScore q.vec e).go.1 e.vid 0xFFFFFFFF e.seq) ++
  (q.probe.getD []).flatMap (fun j =>
    ((g.recs sh j).zipIdx.filter (fun p =>
      !q.skipped.contains (blkName sh j (p.2 / i.per sh)) && !view.any (fun e => e.vid == p.1.vid))).map
      (fun p => i.hit (i.score sh q.vec p.1) p.1.vid j p.2))

/-- What scoring a block's records for a query counts (R189, R259). -/
def Idx.scoreCount (i : Idx) (g : IdxGen) (q : Query) (blk : Nat) : NumCount :=
  let view := i.sideView q
  if blkKind blk = 2 then
    (do let _ ← ((lastOfEach view).filter (fun e => !e.del && e.seq / i.perFp16 == blkPos blk)).mapM (i.sideScore q.vec) : Num Unit).go.2
  else
    let sh := blkKind blk == 1
    (do let _ ← ((i.blkRecs g sh (blkList blk) (blkPos blk)).filter (fun r => !view.any (fun e => e.vid == r.vid))).mapM
          (i.scoreN sh q.vec) : Num Unit).go.2

/-- The records of a SEARCH_RESULT: the k best (R260, R262), and how many records were scored. -/
def Idx.result (i : Idx) (q : Query) : List Hit × Nat :=
  let hs := i.hits q
  ((sortBy hitBefore hs).take q.k, hs.length)

/-- A record of SEARCH_RESULT (R262). -/
def Hit.bytes (h : Hit) : List Byte := le 8 h.vid ++ le 4 h.score.toNat ++ le 4 h.list

/-- A query whose blocks have all been scanned or skipped completes (R260, R263). -/
def Core.finishQuery (t : Top) (k : Nat) (c : Core) : Core :=
  match c.search.queries.get? k with
  | none => c
  | some q => match q.probe, c.idx q.idx with
    | some ls, some i =>
      if !q.blocks.isEmpty then c
      else
        let (best, n) := i.result q
        let b := q.skipped.length
        c.endQuery t k (if b = 0 then .ok else .degraded) (min b 65535) best.length ls.length n (best.flatMap Hit.bytes)
    | _, _ => c

/-! ### Requests -/

/-- A SEARCH_REQ refused: answered, its completion object signalled (R254, R263). -/
def Core.refuseSearch (t : Top) (cid : Nat) (m : Msg) (st : Status) (d : Nat) (c : Core) : Core :=
  let c := c.refuseMsg t cid m st d
  if m.arg 12 2 < 16384 then c.signal t (m.arg 12 2) 1 else c

/-- The vector of a SEARCH_REQ (R254). -/
def Msg.vector (m : Msg) (d : Nat) : List F32 := (List.range d).map (fun j => BitVec.ofNat 32 (m.arg (32 + 4 * j) 4))

/-- The fields of a SEARCH_REQ, in the order of R255's table. -/
def searchFields (c : Core) (i : Idx) (m : Msg) : Chk Unit := do
  let kind := m.arg 0 1
  let k := m.arg 8 2
  let np := m.arg 10 2
  let vid := m.arg 16 8
  let want := if kind = 3 then 32 else 32 + 4 * i.d
  need (m.arg 14 2 == i.d && (m.body.length == want || !(1 ≤ kind && kind ≤ 3))) .badArg 7
  need (1 ≤ kind && kind ≤ 3) .badArg 0x10
  need (if kind = 1 then 1 ≤ k && k ≤ 1024 && np ≤ min i.nlist 1024 else k == 0 && np == 0) .badArg 0x11
  need (m.arg 12 2 < 16384 || m.arg 12 2 == 0xFFFF) .badArg 0x0A
  need (if kind = 1 then vid == 0 else vid < 0xFFFFFFFFFF) .badArg 0x12
  need (c.isClient (m.arg 24 1)) .badArg 0x13
  need (kind == 3 || !(m.vector i.d).any F32.special) .badArg 0x0B

/-- The checks of a SEARCH_REQ (R255), with R329 for a quiesced job; the index it names. -/
def searchCheck (t : Top) (c : Core) (cid : Nat) (m : Msg) : Chk Idx := do
  match c.idx (m.arg 1 1) with
  | none =>
    need (t.dev == .bound) .stateReject (stateDetail .device t.dev.code)
    need (!c.quiesced) .jobFaulted
    .error (.badArg, 1)
  | some i =>
    need ((c.conn cid).pd == i.pd) .authFail
    need (t.dev == .bound) .stateReject (stateDetail .device t.dev.code)
    need (!c.quiesced) .jobFaulted
    need (i.state == .ready || i.state == .merging) .stateReject (idxDetail i.state)
    searchFields c i m
    .ok i

/-- QUERY accepted (R256): the slot, the generation, the side head and the snapshot are fixed. -/
def Core.acceptQuery (t : Top) (cid : Nat) (m : Msg) (i : Idx) (c : Core) : Core :=
  let q : Query := {
    idx := m.arg 1 1, conn := cid, cls := m.cls, tag := m.arg 4 4, k := m.arg 8 2,
    nprobe := if m.arg 10 2 = 0 then i.nprobe else m.arg 10 2, exact := bit (m.arg 2 2) 0, obj := m.arg 12 2,
    client := m.arg 24 1, gen := i.cur.gen, head := i.head, tail := i.tail, vec := m.vector i.d, since := t.now }
  c.onSearch (fun s => { s with queries := s.queries.set s.nextQuery q, nextQuery := s.nextQuery + 1 })

/-- The side-list watermark evaluated (R265, R404). -/
def Core.watchSide (t : Top) (x : Nat) (c : Core) : Core :=
  match c.idx x with
  | none => c
  | some i => c.watch t (3 * 2 ^ 24 + x) true (i.sideCap * 75 / 100, i.sideCap * 50 / 100) (i.tail - i.head) (summitDie i.summit)

/-- INSERT or DELETE accepted (R265): the entry is appended under the next sequence number, and the request completes. -/
def Core.appendSide (t : Top) (cid : Nat) (m : Msg) (i : Idx) (c : Core) : Core :=
  let x := m.arg 1 1
  let del := m.arg 0 1 = 3
  let vec := if del then [] else (m.vector i.d).map (fun w => (fp16Bits w).go.1)
  let e : SideRec := { seq := i.tail, vid := m.arg 16 8, del := del, vec := vec }
  let c := c.updIdx x (fun i =>
    let i := { i with tail := i.tail + 1, side := i.side ++ [e] }
    let b := e.seq / i.perFp16
    { i with sideDigests := i.sideDigests.set b (i.digest i.cur (sideName b)) })
  let c := c.answerMsg t cid m 0x41 (searchResult m.body .ok 0 0 0 e.seq i.cur.gen 0 [])
  (c.signalDone t (m.arg 12 2)).watchSide t x

/-- A SEARCH_REQ processed (R255): refused by the first check that applies, or accepted. -/
def Core.searchArrives (t : Top) (cid : Nat) (m : Msg) (c : Core) : Core :=
  match searchCheck t c cid m with
  | .error (st, d) => c.refuseSearch t cid m st d
  | .ok i =>
    if m.arg 0 1 = 1 then
      if 4096 ≤ c.search.queries.length then c.refuseSearch t cid m .noResource 2 else c.acceptQuery t cid m i
    else if i.sideCap ≤ i.tail - i.head then c.refuseSearch t cid m .noResource 3
    else c.appendSide t cid m i

/-- SEARCH_QUERY_TIMEOUT (R256). -/
def Core.queryTimesOut (t : Top) (k : Nat) (c : Core) : Core :=
  match c.search.queries.get? k with
  | some q => if q.since + 500000000 ≤ t.now then c.endQuery t k .timeout 0 0 0 0 [] else c
  | none => c

/-! ### The centroid stage -/

/-- The arrays of some Crest dies take units. -/
def Core.startOn (t : Top) (crests : List Nat) (c : Core) : Core := crests.dedup.foldl (fun c cr => c.startArrays t cr) c

/-- Centroid units removed: the arrays that ran them take their next. -/
def Core.dropUnits (t : Top) (p : CentUnit → Bool) (c : Core) : Core :=
  let crests := (Tbl.vals (c.search.units.filter (fun e => p e.2))).map CentUnit.crest
  (c.onSearch (fun s => { s with units := s.units.filter (fun e => !p e.2) })).startOn t crests

/-- SEARCH_BATCH_WINDOW (R221, R257): up to 64 waiting queries are cut into centroid units of 1,024 centroids, each put on an array: a free choice. -/
def Core.formBatch (t : Top) (x : Nat) (c : Core) : Core :=
  match c.idx x with
  | none => c
  | some i =>
    let ws := c.search.queries.filter (fun e => e.2.idx == x && !e.2.batched)
    match ws with
    | [] => c
    | w :: _ =>
      if ws.length < 64 && t.now < w.2.since + 1000 * c.search.windowUs then c
      else
        let ks := Tbl.keys (ws.take 64)
        let n := ceilDiv i.nlist 1024
        let u0 := c.search.nextUnit
        let c := c.onSearch (fun s => { s with
          nextUnit := u0 + n,
          queries := s.queries.mapVal (fun k q => if ks.contains k then { q with batched := true, units := (List.range n).map (u0 + ·) } else q) })
        let (crests, c) := (List.range n).foldl (fun (acc : List Nat × Core) b =>
          let (cr, c) := acc.2.chooseCrest t (List.range 32)
          let (a, c) := c.pick
          (acc.1 ++ [cr], c.onSearch (fun s => { s with
            units := s.units.set (u0 + b) { idx := x, first := 1024 * b, queries := ks, crest := cr, array := a % 8 } }))) ([], c)
        (c.useEngines t [0]).startOn t crests

/-- The blocks that a query scans (R259, R270): those of its lists, and the side-list blocks with an entry that it sees. -/
def Idx.blocksOf (i : Idx) (q : Query) (lists : List Nat) : List Nat :=
  let sh := i.useShadow q.exact
  let g := i.genOf q.gen
  let side := if q.head < q.tail then
      (List.range ((q.tail - 1) / i.perFp16 + 1 - q.head / i.perFp16)).map (fun b => sideName (q.head / i.perFp16 + b))
    else []
  lists.flatMap (fun j => i.newBlks sh j 0 (g.recs sh j).length) ++ side

/-- One unit's candidates joined to a query (R258); with its last unit the query's probe set is chosen. -/
def Idx.joinUnit (i : Idx) (u first : Nat) (q : Query) : Query :=
  let uq := roundQuery q.vec
  let keys := ((List.range (min 1024 (i.nlist - first))).map (fun b => (i.centKey uq (first + b), first + b)))
  let cands := (sortBy candBefore (q.cands ++ keys)).take q.nprobe
  let units := q.units.filter (· != u)
  if units.isEmpty then
    let lists := if q.exact then List.range i.nlist else cands.map Prod.snd
    { q with units := [], cands := cands, probe := some lists, blocks := i.blocksOf q lists }
  else { q with units := units, cands := cands }

/-- An uncorrectable error in a part that an index cannot do without (R250): the index enters FAULTED, its merge is
abandoned, and queries that still need centroids end. -/
def Core.indexFault (t : Top) (x : Nat) (c : Core) : Core :=
  match c.idx x with
  | none => c
  | some i =>
    let c := if i.state = .retiring || i.state = .faulted then c
      else
        let c := c.abandonMerge t x .jobFaulted 0
        let c := c.updIdx x (fun i => { i with state := .faulted })
        c.raise t 0x0801 (summitDie i.summit) x []
    let d := ((c.idx x).map (fun i => idxDetail i.state)).getD 0
    let c := c.dropUnits t (fun u => u.idx == x)
    (Tbl.keys (c.search.queries.filter (fun e => e.2.idx == x && e.2.probe.isNone))).foldl
      (fun c k => c.endQuery t k .stateReject d 0 0 0 []) c

/-- The physical stack of a tier-1 block number (R83, R248). -/
def Top.stackOfBlock (t : Top) (g : Nat) : Nat := t.stackList.getD (g % t.stackList.length) 0

/-- The table of a PQ8 query built on its home Crest die, a free choice (R259, R260): what that counts. -/
def Core.buildLut (t : Top) (k : Nat) (c : Core) : Core :=
  match c.search.queries.get? k with
  | none => c
  | some q => match c.idx q.idx with
    | none => c
    | some i =>
      if q.probe.isNone || !i.pq || i.useShadow q.exact then c
      else
        let (cr, c) := c.chooseCrest t (List.range 32)
        c.engineCount cr (i.lutCount q.vec)

/-- CENTROID_UNIT_COMPLETE (R221, R258): a unit on its array returns its candidates; `bad` says that an uncorrectable word was met in the centroids or
norms. The array takes its next unit. -/
def Core.unitReturns (t : Top) (u : Nat) (bad : Bool) (c : Core) : Core :=
  match c.search.units.get? u with
  | none => c
  | some w => match c.idx w.idx with
    | none => c
    | some i =>
      if !w.running then c else
      let c := c.useEngines t [0]
      if bad then
        let c := c.life t (saddleDie (t.stackOfBlock (2 * w.first * i.d / 65536))) 0x09 0
        c.indexFault t w.idx
      else
        let mine := Tbl.keys (c.search.queries.filter (fun e => w.queries.contains e.1 && e.2.units.contains u))
        let c := mine.foldl (fun c k => match c.search.queries.get? k with
          | some q => c.engineCount w.crest (i.centCount q.vec w.first (min 1024 (i.nlist - w.first)))
          | none => c) c
        let c := c.onSearch (fun s => { s with
          units := s.units.del u,
          queries := s.queries.mapVal (fun k q => if mine.contains k then i.joinUnit u w.first q else q) })
        let c := mine.foldl (fun c k => (c.buildLut t k).finishQuery t k) c
        c.startArrays t w.crest

/-! ### List scans -/

/-- Where a block lies, by its name, for a generation: none for one that is not there. -/
def Idx.placeOf (i : Idx) (g : IdxGen) (blk : Nat) : Option Nat :=
  if blkKind blk = 2 then some (2 * (i.parts - i.sideBlocks + blkPos blk % i.sideBlocks)) else g.place.get? blk

/-- A Crest die may scan a block (R269): one of the two dies of its stack for tier 1, any for tier 2. -/
def Top.mayScan (t : Top) (crest place : Nat) : Bool := place % 2 == 1 || crest / 2 == t.stackOfBlock (place / 2)

/-- A block is poisoned, in the digest table of its generation (R264). -/
def Idx.isBad (i : Idx) (g : IdxGen) (blk : Nat) : Bool :=
  if blkKind blk = 2 then i.sideBad.contains (blkPos blk) else g.poisoned.contains blk

/-- Queries that one pass serves at most (R269). -/
def Idx.passLimit (i : Idx) (blk : Nat) : Nat := if blkKind blk = 0 && i.fmt ≠ 1 then 8 else 16

/-- Two generations hold the same block: neither has rewritten its list since the other. -/
def IdxGen.same (a b : IdxGen) (blk : Nat) : Bool :=
  blkKind blk == 2 || a.written.getD (blkList blk) 0 == b.written.getD (blkList blk) 0

/-- A block marked poisoned (R264): its records count as lost. -/
def Core.poisonBlock (x : Nat) (g : IdxGen) (blk : Nat) (c : Core) : Core :=
  c.updIdx x (fun i =>
    if blkKind blk = 2 then
      { i with sideBad := i.sideBad ++ [blkPos blk], lost := i.lost + (i.side.filter (fun e => e.seq / i.perFp16 == blkPos blk)).length }
    else
      let mark := fun (h : IdxGen) => if h.same g blk && !h.poisoned.contains blk then { h with poisoned := h.poisoned ++ [blk] } else h
      { i with
        cur := mark i.cur, old := i.old.map mark,
        lost := i.lost + (i.blkRecs g (blkKind blk == 1) (blkList blk) (blkPos blk)).length })

/-- What decoding a block's elements counts: those that decode as +0, and saturations (R189, R259). -/
def Idx.decodeCount (i : Idx) (g : IdxGen) (blk : Nat) : NumCount :=
  (if blkKind blk = 2 then
    (do let _ ← (i.side.filter (fun e => e.seq / i.perFp16 == blkPos blk)).mapM (fun e => decodeHalves e.vec) : Num Unit)
  else
    let sh := blkKind blk == 1
    (do let _ ← (i.blkRecs g sh (blkList blk) (blkPos blk)).mapM (i.decodeRec sh) : Num Unit)).go.2

/-- A Hawkmoth slice is in progress on a Crest die (R268). -/
def Core.hawkOn (c : Core) (crest : Nat) : Bool :=
  c.sched.items.vals.any (fun it => match it.run with
    | some r => r.slices.any (fun s => s.crest == crest && s.state == .running && !s.skipper)
    | none => false)

/-- Entries of the other engines of a Crest die that wait at its memory link (R24, R268). -/
def Core.linkBusy (c : Core) (crest : Nat) : Bool := (c.queue 0x01 crest).entries.any (fun e => e.prod != 3)

/-- Luna may issue its reads of tier 1 on a Crest die (R268): under decode it holds a credit, and a floor slot comes to it or nothing else waits. -/
def Core.lunaIssues (c : Core) (crest : Nat) : Bool :=
  !(c.hawkOn crest && c.search.lunaCredits = 0) && (0 < c.search.lunaFloor || !c.linkBusy crest)

/-- A Luna engine reads a block (R16, R17, R24, R268): tier 1 over its memory link, with as many credits as R268 leaves it, tier 2 over CXL. -/
def Core.readBlock (t : Top) (crest place : Nat) (c : Core) : Core :=
  let w := Work.scan crest
  let c := if place % 2 = 0 then c.qSend t 0x01 crest 3 (if c.hawkOn crest then c.search.lunaCredits else 512) w else c.warmPage t crest 65536 w
  c.freeWork t (· == w)

/-- LIST_BLOCK_SCAN (R259, R264, R268, R269): one pass of a Luna engine over a block for the queries that wait on it, or, with the block poisoned, those
queries skip it. `bad` says that the pass met an uncorrectable word or a digest that fails. A pass for which R268 withholds every issue waits. -/
def Core.scanBlock (t : Top) (crest x blk : Nat) (bad : Bool) (c : Core) : Core :=
  match c.idx x with
  | none => c
  | some i =>
    let ws := c.search.queries.filter (fun e => e.2.idx == x && e.2.blocks.contains blk)
    match ws with
    | [] => c
    | w :: _ =>
      let g := i.genOf w.2.gen
      let mine := (ws.filter (fun e => (i.genOf e.2.gen).same g blk)).take (i.passLimit blk)
      match i.placeOf g blk with
      | none => c
      | some place =>
        if t.gone (crestDie crest) || c.underTest (crestDie crest) || !t.mayScan crest place then c
        else if place % 2 = 0 && !i.isBad g blk && !c.lunaIssues crest then
          let (v, c) := c.pick
          c.bump (.luna crest 4) v
        else
          let old := i.isBad g blk
          let bad := bad || (place % 2 == 1 && !t.warmRemoved.isEmpty) || !i.digestGood g blk
          let c := if bad && !old then
              let die := if place % 2 = 0 then saddleDie (t.stackOfBlock (place / 2)) else passDie 1
              (c.poisonBlock x g blk).life t die 0x09 (place % 2)
            else c
          let skip := old || bad
          let ks := Tbl.keys mine
          let c := c.onSearch (fun s => { s with queries := s.queries.mapVal (fun k q =>
            if ks.contains k then { q with
              blocks := q.blocks.filter (· != blk), skipped := if skip then q.skipped ++ [blk] else q.skipped } else q) })
          let c := if skip then c.bump (.luna crest 6)
            else
              let n := i.decodeCount g blk
              let c := (c.bump (.luna crest 5) n.special).bump (.hawk crest 17) (n.sat + sumL ((Tbl.vals mine).map (fun q => (i.scoreCount g q blk).sat)))
              c.bump (.chrys crest 9) n.special
          let c := if old then c
            else
              let c := c.readBlock t crest place
              let c := ((c.bump (.luna crest 0) 16).bump (.luna crest 1) 512).bump (.luna crest 2)
              let c := c.bump (.luna crest 3) ks.length
              if c.hawkOn crest then (let (v, c) := c.pick; c.bump (.luna crest 4) v) else c
          ks.foldl (fun c k => c.finishQuery t k) (c.useEngines t [2])

/-! ### Merging -/

/-- The inserts that a merge folds (R266): the live inserts from H to M − 1, in sequence order, with the list of each. -/
def Idx.folds (i : Idx) (cut : Nat) : List (SideRec × Nat) :=
  let es := i.side.filter (fun e => i.head ≤ e.seq && e.seq < cut)
  let live := (lastOfEach es).filter (fun e => !e.del && !i.sideBad.contains (e.seq / i.perFp16))
  live.map (fun e =>
    let uq := roundQuery ((decodeHalves e.vec).go.1)
    let best := (List.range i.nlist).foldl (fun (b : F32 × Nat) j =>
      let k := i.centKey uq j
      if b.1.lt k then (k, j) else b) (i.centKey uq 0, 0)
    (e, best.2))

/-- The codeword of least squared distance for one subspace, ties to the lower (R266). -/
def Idx.nearest (i : Idx) (m : Nat) (v : List F32) : Nat :=
  let dist := fun (cw : Nat) => (do let x ← decodeHalves (i.codeword m cw); flatScore false v x : Num F32).go.1
  ((List.range 256).foldl (fun (b : F32 × Nat) cw => let k := dist cw; if k.lt b.1 then (k, cw) else b) (dist 0, 0)).2

/-- A side entry encoded as a list record (R266). -/
def Idx.encode (i : Idx) (e : SideRec) : ListRec :=
  match i.fmt with
  | 1 => { vid := e.vid, data := halfBytes e.vec }
  | 2 =>
    let (s, es) := (int8Quantise ((decodeHalves e.vec).go.1)).go.1
    { vid := e.vid, scale := s, data := es.map (BitVec.ofNat 8) }
  | _ =>
    let v := (decodeHalves e.vec).go.1
    let w := i.d / i.sub
    { vid := e.vid, data := (List.range i.sub).map (fun m => BitVec.ofNat 8 (i.nearest m ((v.drop (m * w)).take w))) }

/-- A side entry as a shadow record (R245). -/
def shadowOf (e : SideRec) : ListRec := { vid := e.vid, data := halfBytes e.vec }

/-- A list's records and shadow records after a merge (R266): old ones whose IDs have no side entry below the cut and whose
blocks are not poisoned, then the inserts assigned to the list. -/
def Idx.rebuilt (i : Idx) (cut : Nat) (folds : List (SideRec × Nat)) (j : Nat) : List ListRec × List ListRec :=
  let g := i.cur
  let gone := fun (v : Nat) => i.side.any (fun e => i.head ≤ e.seq && e.seq < cut && e.vid == v)
  let keep := fun (n : Nat) (r : ListRec) =>
    !gone r.vid && !g.poisoned.contains (blkName false j (n / i.per false)) &&
    !(i.shadowed && g.poisoned.contains (blkName true j (n / i.per true)))
  let new := (folds.filter (fun f => f.2 == j)).map Prod.fst
  (((g.recs false j).zipIdx.filter (fun p => keep p.2 p.1)).map Prod.fst ++ new.map i.encode,
   if i.shadowed then ((g.recs true j).zipIdx.filter (fun p => keep p.2 p.1)).map Prod.fst ++ new.map shadowOf else [])

/-- One list rewritten in the generation being built, its new blocks placed in space that the budgets have free (R248,
R266). A list with no change keeps its blocks. `ps` names the places that other generations and lists hold. -/
def Idx.rewrite (i : Idx) (ls sh : List ListRec) (j : Nat) (ps : List Nat) (g : IdxGen) : Option (IdxGen × Bool) :=
  if ls = i.cur.recs false j && sh = i.cur.recs true j && !i.cur.poisoned.any (fun b => blkList b == j) then some (g, false)
  else
    let rest : Tbl Nat := g.place.filter (fun e => blkList e.1 != j)
    match i.allotAll false (i.newBlks false j 0 ls.length) (ps ++ Tbl.vals g.place).dedup rest with
    | none => none
    | some place =>
      match i.allotAll true (i.newBlks true j 0 sh.length) (ps ++ Tbl.vals g.place ++ Tbl.vals place).dedup place with
      | none => none
      | some place => some ({ g with
          lists := g.lists.set j ls, shadow := if i.shadowed then g.shadow.set j sh else g.shadow, place := place,
          written := g.written.set j g.gen, poisoned := g.poisoned.filter (fun b => blkList b != j) }, true)

/-- Every list of a merge's range rewritten in order: the new generation and how many lists changed. -/
def Idx.rewriteAll (i : Idx) (cut : Nat) (folds : List (SideRec × Nat)) : List Nat → IdxGen → Nat → Option (IdxGen × Nat)
  | [], g, n => some (g, n)
  | j :: js, g, n =>
    let (ls, sh) := i.rebuilt cut folds j
    match i.rewrite ls sh j i.placed g with
    | none => none
    | some (g, changed) => Idx.rewriteAll i cut folds js g (n + b2n changed)

/-- The side head after a merge: the least merged cut over all lists (R266). -/
def Idx.newHead (i : Idx) : Nat := if i.mergedCut.length < i.nlist then i.head else max i.head (minD 0 i.mergedCut.vals)

/-- Side entries that neither H nor a query needs are released (R266). -/
def Core.trimSide (x : Nat) (c : Core) : Core :=
  let hs := (c.search.queries.vals.filter (fun q => q.idx == x)).map Query.head
  c.updIdx x (fun i =>
    let low := minD i.head (i.head :: hs)
    { i with side := i.side.filter (fun e => low ≤ e.seq), sideBad := i.sideBad.filter (fun b => low < (b + 1) * i.perFp16),
             sideDigests := i.sideDigests.filter (fun e => low < (e.1 + 1) * i.perFp16) })

/-- INDEX_MERGE_SWITCH (R266, R267). -/
def Core.mergeSwitch (t : Top) (x : Nat) (c : Core) : Core :=
  match c.idx x with
  | none => c
  | some i => match i.merge with
    | none => c
    | some m =>
      let js := (List.range m.count).map (m.first + ·)
      match i.rewriteAll m.cut (i.folds m.cut) js { i.cur with gen := i.cur.gen + 1 } 0 with
      | none => c.abandonMerge t x .noResource 0
      | some (g, n) =>
        let used := c.search.queries.vals.any (fun q => q.idx == x && q.gen == i.cur.gen)
        let cuts := js.foldl (fun (a : Tbl Nat) j => a.set j m.cut) i.mergedCut
        let fresh := (Tbl.vals g.place).filter (fun p => p % 2 == 1 && !i.placed.contains p)
        let c := { c with job := c.job.map (fun (j : Job) => { j with everWarm := j.everWarm + 65536 * fresh.length }) }
        let c := c.updIdx x (fun i => { i with
          cur := i.fillDigests i.cur g, old := if used then i.cur :: i.old else i.old, mergedCut := cuts, merge := none, state := .ready })
        let c := (c.updIdx x (fun i => { i with head := i.newHead })).trimSide x
        let c := (c.stage m.mbox .ok 0 (le 8 m.cut ++ le 4 g.gen ++ le 4 n)).signalDone t m.obj
        c.watchSide t x

/-- OLD_GENERATION_FREE (R266): the last query on an old generation has completed. -/
def Core.freeGen (x gen : Nat) (c : Core) : Core :=
  if c.search.queries.vals.any (fun q => q.idx == x && q.gen == gen) then c
  else (c.updIdx x (fun i => { i with old := i.old.filter (fun g => g.gen != gen) })).trimSide x

/-! ### Retiring -/

/-- An index enters RETIRING (R250): a merge is abandoned, and no new request is accepted. -/
def Core.retireIndex (t : Top) (x : Nat) (c : Core) : Core :=
  (c.abandonMerge t x .stateReject (idxDetail .retiring)).updIdx x (fun i => { i with state := .retiring })

/-- A load of an index is in flight (R250). -/
def Core.indexLoading (c : Core) (x : Nat) : Bool :=
  c.fabric.reads.vals.any (fun e => match e.1 with
    | .indexLoad _ y => y == x
    | _ => false)

/-- INDEX_RETIRED (R250): a RETIRING index with no query or load in flight is zeroed, its storage and budgets returned. -/
def Core.indexRetired (t : Top) (x : Nat) (c : Core) : Core :=
  match c.idx x with
  | none => c
  | some i =>
    if i.state ≠ .retiring || c.search.queries.vals.any (fun q => q.idx == x) || c.indexLoading x then c
    else
      let c := (c.onSearch (fun s => { s with idxs := s.idxs.del x })).dropUnits t (fun u => u.idx == x)
      (c.onSched (fun s => { s with due := true })).watchFree t

/-! ### Commands -/

/-- The parameters of an index checked in offset order (R246, R271). -/
def idxParams (t : Top) (c : Core) (a : Cmd) : Chk Unit := do
  let fmt := a.arg 1 1
  let d := a.arg 4 2
  let sub := a.arg 6 2
  let nlist := a.arg 8 4
  let np := a.arg 16 2
  needArg (1 ≤ fmt && fmt ≤ 3) 1
  needArg (a.arg 2 1 == 1 || a.arg 2 1 == 2) 2
  needArg (16 ≤ d && d ≤ 4096 && d % 16 == 0) 4
  needArg (if fmt = 3 then 8 ≤ sub && sub ≤ 256 && sub % 8 == 0 && d % sub == 0 && 2 ≤ d / sub else sub == 0) 6
  needArg (1 ≤ nlist && nlist ≤ 1048576) 8
  needArg (1024 ≤ a.arg 12 4 && a.arg 12 4 ≤ 16777216) 12
  needArg (1 ≤ np && np ≤ min nlist 1024) 16
  needArg (c.isClient (a.arg 18 1)) 18
  needArg (a.arg 19 1 == 0xFF || t.summitsUp.contains (a.arg 19 1)) 19
  needArg (c.fabric.pds.get? (a.arg 20 2)).isSome 20
  needArg (a.arg 24 8 % 16777216 == 0) 24
  needArg (a.arg 32 8 % 16777216 == 0) 32

/-- The budgets of an index checked (R248, R249). -/
def idxBudgets (t : Top) (c : Core) (a : Cmd) : Chk Unit := do
  let k := a.arg 18 1
  let b1 := a.arg 24 8
  let b2 := a.arg 32 8
  let s := t.stackList.length
  let frames := sumL ((List.range s).map (fun n => ceilDiv (unitsOn s n (b1 / 65536) false * 65536) (c.frameF + c.slotB)))
  let left := c.f1Now t - frames
  need (c.within t k 1 b1) .noResource 3
  need (c.within t k 2 b2) .noResource 4
  need (sumL (Tbl.vals (c.honouredAll t c.pact 1)) ≤ (left - ceilDiv (left * 5) 1000) * c.frameF) .quotaOvercommit
  need (c.framesFit t (fun _ => 0) (fun n => unitsOn s n (b1 / 65536) false) && c.floor + frames ≤ c.freeFrames t) .noResource 1
  need (b2 ≤ 4096 * c.warmFree t) .noResource 4
  let new := if a.arg 1 1 = 3 then [(a.arg 4 2, a.arg 6 2)] else []
  need (searchNeed true (new ++ c.pqIndexes) ≤ c.tiers.tier0.search) .noResource 2

/-- INDEX_CREATE (R246, R248, R249). -/
def indexCreateBody (t : Top) (c : Core) (_m : Nat) (a : Cmd) : Ans := do
  let x := a.arg 0 1
  needArg (x < 16) 0
  need (c.idx x).isNone .busy
  idxParams t c a
  idxBudgets t c a
  let (v, c) := if a.arg 19 1 = 0xFF then c.pick else (0, c)
  let q := if a.arg 19 1 = 0xFF then t.summitsUp.getD (v % t.summitsUp.length) 0 else a.arg 19 1
  let i : Idx := {
    fmt := a.arg 1 1, metric := a.arg 2 1, flags := a.arg 3 1 % 2, d := a.arg 4 2, sub := a.arg 6 2, nlist := a.arg 8 4,
    sideCap := a.arg 12 4, nprobe := a.arg 16 2, client := a.arg 18 1, summit := q, pd := a.arg 20 2, budget1 := a.arg 24 8,
    budget2 := a.arg 32 8 }
  let c := c.onSearch (fun s => { s with idxs := s.idxs.set x i })
  ok (c.tookUnits t i.budget1)

/-- The index that a command names, its number at offset 0. -/
def Core.idxArg (c : Core) (a : Cmd) : Chk Idx :=
  match c.idx (a.arg 0 1) with
  | some i => .ok i
  | none => .error (.badArg, 0)

/-- The size of a part that INDEX_LOAD writes by offset (R252). -/
def Idx.partBytes (i : Idx) (sec : Nat) : Nat := if sec = 1 then i.centBytes else i.codeBytes

/-- INDEX_LOAD's arguments checked against the index as it stands (R252). -/
def loadCheck (i : Idx) (a : Cmd) : Chk Unit := do
  let sec := a.arg 1 1
  let len := a.arg 16 8
  need (i.state == .loading) .stateReject (idxDetail i.state)
  needArg (1 ≤ sec && sec ≤ 4 && (sec ≠ 2 || i.pq) && (sec ≠ 4 || i.shadowed)) 1
  if 3 ≤ sec then
    let sh := sec = 4
    let r := if sh then i.fp16Rec else i.listRec
    let j := a.arg 4 4
    needArg (j < i.nlist && (if sh then i.lastShadow else i.lastList) ≤ j) 4
    needArg (1 ≤ len && len ≤ 2 ^ 30 && len % r == 0) 16
    let n := (i.cur.recs sh j).length
    need (i.allotAll sh (i.newBlks sh j n (n + len / r)) i.placed i.cur.place).isSome .noResource
  else
    needArg (1 ≤ len && len ≤ 2 ^ 30) 16
    needArg (a.arg 24 8 + len ≤ i.partBytes sec) 0x18
    need (i.used1 i.placed ≤ i.budget1 / 65536) .noResource

/-- INDEX_LOAD accepted: host memory is read (R252, R435). -/
def indexLoadBody (_t : Top) (c : Core) (m : Nat) (a : Cmd) : Ans := do
  let i ← c.idxArg a
  loadCheck i a
  waits (c.readHost (.indexLoad m (a.arg 0 1)) (a.arg 8 8) (a.arg 16 8))

/-- A list or shadow record of a load (R247); none where a reserved bit or DELETE is set. -/
def ListRec.ofBytes (bs : List Byte) : Option ListRec :=
  let h := rd bs 0 8
  if bits h 47 40 ≠ 0 then none else some { vid := bits h 39 0, scale := bits h 63 48, data := bs.drop 8 }

/-- The bytes of a load written (R252). -/
def Idx.load (i : Idx) (a : Cmd) (data : List Byte) : Chk (Idx × Nat) := do
  loadCheck i a
  let sec := a.arg 1 1
  let off := a.arg 24 8
  if sec = 1 then
    .ok ({ i with centroids := i.centroids.writeN off data, centWritten := addRange off (off + data.length) i.centWritten }, data.length)
  else if sec = 2 then
    .ok ({ i with codebook := i.codebook.writeN off data, codeWritten := addRange off (off + data.length) i.codeWritten }, data.length)
  else
    let sh := sec = 4
    let r := if sh then i.fp16Rec else i.listRec
    let n := data.length / r
    match (chunksOf r n data).mapM ListRec.ofBytes with
    | none => .error (.badArg, 8)
    | some rs => match i.append sh (a.arg 4 4) rs with
      | none => .error (.noResource, 0)
      | some j => .ok (j, n * r)

/-- The host memory of an INDEX_LOAD has been read (R252, R271): all of it, or where a read failed what came before it. -/
def Core.indexLoaded (m x : Nat) (good : Bool) (data : List Byte) (c : Core) : Core :=
  match (c.mbox m).taken, c.idx x with
  | some a, some i =>
    match i.load a data with
    | .error (st, d) => c.stage m st d []
    | .ok (j, n) =>
      let warm := Idx.used2 j.placed - Idx.used2 i.placed
      let c := { c with job := c.job.map (fun (b : Job) => { b with everWarm := b.everWarm + 65536 * warm }) }
      let c := c.onSearch (fun s => { s with idxs := s.idxs.set x j })
      if good then c.stage m .ok 0 (le 8 n) else c.stage m .timeout 0 []
  | some _, none => c.stage m .stateReject (stateDetail .index 0) []
  | none, _ => c

/-- A BF16 part holds a NaN or an infinity: a cell whose exponent is all ones. Unwritten bytes are 0. -/
def bf16Special (m : Mem) : Bool :=
  m.any (fun c => c.1 % 2 == 1 && c.2.toNat % 128 == 127 && 128 ≤ (m.read (c.1 - 1)).toNat)

/-- An FP16 part holds a NaN or an infinity. -/
def fp16Special (m : Mem) : Bool := m.any (fun c => c.1 % 2 == 1 && c.2.toNat / 4 % 32 == 31)

/-- INDEX_SEAL's answer: blocks in use and vectors (R271). -/
def Idx.sealed (i : Idx) : List Byte := le 4 (i.used1 i.placed) ++ le 4 (Idx.used2 i.placed) ++ le 8 i.vectors

/-- The checks of INDEX_SEAL (R253). -/
def Idx.sealCheck (i : Idx) : Chk Unit := do
  need (i.centWritten == [(0, i.centBytes)] && (!i.pq || i.codeWritten == [(0, i.codeBytes)])) .checkFail 1
  need (!bf16Special i.centroids && !(i.pq && fp16Special i.codebook)) .checkFail 2
  need (!i.shadowed || (List.range i.nlist).all (fun j =>
    (i.cur.recs false j).map ListRec.vid == (i.cur.recs true j).map ListRec.vid)) .checkFail 3

/-- INDEX_SEAL (R253): the norms are computed, on a Crest die that is a free choice, and the digest table is filled. -/
def indexSealBody (t : Top) (c : Core) (_m : Nat) (a : Cmd) : Ans := do
  let i ← c.idxArg a
  if i.state = .ready then ok c i.sealed
  else
    need (i.state == .loading) .stateReject (idxDetail i.state)
    i.sealCheck
    let j := { i with
      state := .ready, norms := (List.range i.nlist).map i.norm, cur := i.fillDigests {gen := 0} { i.cur with gen := 1 }, head := 0, tail := 0 }
    let (cr, c) := c.chooseCrest t (List.range 32)
    let c := c.engineCount cr (do let _ ← (List.range i.nlist).mapM (fun j => dotF (i.centroid j) (i.centroid j)) : Num Unit).go.2
    ok (c.onSearch (fun s => { s with idxs := s.idxs.set (a.arg 0 1) j })) j.sealed

/-- The checks of INDEX_MERGE (R251, R271, R329); the index that it names. -/
def mergeCheck (c : Core) (a : Cmd) : Chk Idx := do
  let i ← c.idxArg a
  need (i.state != .merging) .busy
  need (i.state == .ready) .stateReject (idxDetail i.state)
  needArg (a.arg 2 2 < 16384 || a.arg 2 2 == 0xFFFF) 2
  needArg (a.arg 4 4 < i.nlist) 4
  needArg (0 < a.arg 8 4 && a.arg 4 4 + a.arg 8 4 ≤ i.nlist) 8
  need (!c.quiesced) .jobFaulted
  .ok i

/-- INDEX_MERGE (R266, R267): the cut is taken, and the command waits for the switch; refused, it signals its object too. -/
def indexMergeBody (t : Top) (c : Core) (m : Nat) (a : Cmd) : Ans :=
  match mergeCheck c a with
  | .error (st, d) => answer (c.signalDone t (a.arg 2 2)) st d
  | .ok _ => waits (c.updIdx (a.arg 0 1) (fun i => { i with
      state := .merging, merge := some { cut := i.tail, first := a.arg 4 4, count := a.arg 8 4, obj := a.arg 2 2, mbox := m } }))

/-- INDEX_QUERY (R271). -/
def indexQueryBody (_t : Top) (c : Core) (_m : Nat) (a : Cmd) : Ans := do
  let i ← c.idxArg a
  ok c (le 1 i.state.code ++ le 1 i.fmt ++ le 1 i.metric ++ le 1 i.flags ++ le 2 i.d ++ le 2 i.sub ++ le 4 i.nlist ++
    le 4 i.cur.gen ++ le 8 i.head ++ le 8 i.tail ++ le 8 i.vectors ++ le 4 (i.used1 i.placed) ++ le 4 (Idx.used2 i.placed) ++
    le 4 (i.cur.poisoned.length + i.sideBad.length) ++ zeros 4 ++ le 8 i.lost)

/-- INDEX_DESTROY (R250, R251). -/
def indexDestroyBody (t : Top) (c : Core) (_m : Nat) (a : Cmd) : Ans := do
  let i ← c.idxArg a
  ok (if i.state = .retiring then c else c.retireIndex t (a.arg 0 1))

/-- SEARCH_SET (R257, R268, R271). -/
def searchSetBody (_t : Top) (c : Core) (_m : Nat) (a : Cmd) : Ans := do
  let w := a.arg 0 4
  let cr := a.arg 4 1
  let fl := a.arg 5 1
  needArg (w ≤ 1000 || w == 0xFFFFFFFF) 0
  needArg (cr ≤ 64 || cr == 0xFF) 4
  needArg (fl ≤ 8 || fl == 0xFF) 5
  ok (c.onSearch (fun s => { s with
    windowUs := if w = 0xFFFFFFFF then s.windowUs else w, lunaCredits := if cr = 0xFF then s.lunaCredits else cr,
    lunaFloor := if fl = 0xFF then s.lunaFloor else fl }))

/-- LUNA_QUERY (R271). -/
def lunaQueryBody (t : Top) (c : Core) (_m : Nat) (a : Cmd) : Ans := do
  c.crestArg t (a.arg 0 1)
  ok c (c.ctrBytes ((List.range 7).map (.luna (a.arg 0 1))))

/-! ### Rows -/

/-- INDEX_CREATE. -/
def execIndexCreate (m : Nat) (s : State) : Host.Outcome State Fault Refusal := .next (runCommand m 0x0801 indexCreateBody s)
/-- INDEX_LOAD. -/
def execIndexLoad (m : Nat) (s : State) : Host.Outcome State Fault Refusal := .next (runCommand m 0x0802 indexLoadBody s)
/-- INDEX_SEAL. -/
def execIndexSeal (m : Nat) (s : State) : Host.Outcome State Fault Refusal := .next (runCommand m 0x0803 indexSealBody s)
/-- INDEX_MERGE. -/
def execIndexMerge (m : Nat) (s : State) : Host.Outcome State Fault Refusal := .next (runCommand m 0x0804 indexMergeBody s)
/-- INDEX_QUERY. -/
def execIndexQuery (m : Nat) (s : State) : Host.Outcome State Fault Refusal := .next (runCommand m 0x0805 indexQueryBody s)
/-- INDEX_DESTROY. -/
def execIndexDestroy (m : Nat) (s : State) : Host.Outcome State Fault Refusal := .next (runCommand m 0x0806 indexDestroyBody s)
/-- SEARCH_SET. -/
def execSearchSet (m : Nat) (s : State) : Host.Outcome State Fault Refusal := .next (runCommand m 0x0807 searchSetBody s)
/-- LUNA_QUERY. -/
def execLunaQuery (m : Nat) (s : State) : Host.Outcome State Fault Refusal := .next (runCommand m 0x0808 lunaQueryBody s)
/-- SEARCH_QUERY: a SEARCH_REQ of kind QUERY; one of an unknown kind is refused here (R255). -/
def execSearchQuery (cid : Nat) (s : State) : Host.Outcome State Fault Refusal :=
  .next (match s.core.headMsg cid 0x40 none with
    | some m => if m.arg 0 1 = 2 || m.arg 0 1 = 3 then s else onMsg cid 0x40 none (fun t c n q => c.searchArrives t n q) s
    | none => s)
/-- SEARCH_INSERT. -/
def execSearchInsert (cid : Nat) (s : State) : Host.Outcome State Fault Refusal :=
  .next (onMsg cid 0x40 (some 2) (fun t c n q => c.searchArrives t n q) s)
/-- SEARCH_DELETE. -/
def execSearchDelete (cid : Nat) (s : State) : Host.Outcome State Fault Refusal :=
  .next (onMsg cid 0x40 (some 3) (fun t c n q => c.searchArrives t n q) s)
/-- SEARCH_BATCH_WINDOW. -/
def execSearchBatchWindow (idx : Nat) (s : State) : Host.Outcome State Fault Refusal := .next (s.onCore (fun t c => c.formBatch t idx))
/-- CENTROID_UNIT_COMPLETE. -/
def execCentroidUnitComplete (unit : Nat) (bad : Bool) (s : State) : Host.Outcome State Fault Refusal :=
  .next (s.onCore (fun t c => c.unitReturns t unit bad))
/-- LIST_BLOCK_SCAN. -/
def execListBlockScan (crest idx blk : Nat) (bad : Bool) (s : State) : Host.Outcome State Fault Refusal :=
  .next (s.onCore (fun t c => c.scanBlock t crest idx blk bad))
/-- SEARCH_QUERY_TIMEOUT. -/
def execSearchQueryTimeout (q : Nat) (s : State) : Host.Outcome State Fault Refusal := .next (s.onCore (fun t c => c.queryTimesOut t q))
/-- INDEX_MERGE_SWITCH. -/
def execIndexMergeSwitch (idx : Nat) (s : State) : Host.Outcome State Fault Refusal := .next (s.onCore (fun t c => c.mergeSwitch t idx))
/-- INDEX_RETIRED. -/
def execIndexRetired (idx : Nat) (s : State) : Host.Outcome State Fault Refusal := .next (s.onCore (fun t c => c.indexRetired t idx))
/-- OLD_GENERATION_FREE. -/
def execOldGenerationFree (idx gen : Nat) (s : State) : Host.Outcome State Fault Refusal := .next (s.onCore (fun _ c => c.freeGen idx gen))

end Sys2Proof.Machine
end

