-- ==== Sys2Proof/Machine/Device.lean ====
section
/-! DEFINITION. Mailboxes taken and completed (R358 to R364, R372), the 0x01xx commands (R145, R372 to R377), and entry to FAULTED
(R364, R380). -/

namespace Sys2Proof.Machine

/-! ### Mailboxes -/

/-- A write of a non-zero value to OWNER (R358). -/
def Core.claim (m v : Nat) (c : Core) : Core :=
  if m < 64 && v ≠ 0 && (c.mbox m).owner = 0 then c.updMbox m (fun b => { b with owner := BitVec.ofNat 32 v }) else c

/-- A write of 0 to OWNER (R358). -/
def Core.release (m : Nat) (c : Core) : Core :=
  let b := c.mbox m
  if m < 64 && b.owner ≠ 0 && (b.phase = .idle || b.phase = .done) then c.updMbox m (fun b => { b with owner := 0, phase := .idle }) else c

/-- The bytes of a response (R361): header and payload. -/
def Resp.bytes (r : Resp) (tag : Nat) : List Byte := statusBytes r.status r.detail ++ le 2 tag ++ le 2 r.payload.length ++ r.payload

/-- A running command's response written, PHASE set to DONE, and its vector and event raised (R359, R361, R362). After a
function reset the response is discarded (R436). A mailbox that is being reclaimed is then freed (R372). -/
def Core.complete (t : Top) (m : Nat) (c : Core) : Core :=
  let b := c.mbox m
  match b.taken, b.result with
  | some cmd, some r =>
    if b.discard then
      let c := c.updMbox m (fun b => { b with taken := none, result := none, started := false, discard := false, reclaim := [] })
      b.reclaim.foldl (fun c k => c.stage k .ok 0 []) c
    else
      let bs := r.bytes cmd.tag
      let c := c.updMbox m (fun b => { b with
        resp := bs ++ b.resp.drop bs.length, phase := .done, taken := none, result := none, started := false, reclaim := [] })
      let c := if cmd.msix then c.msix cmd.vector else c
      let c := if cmd.event then c.raise t 0x0F01 t.primaryDie m (le 2 cmd.tag ++ le 1 r.status.code) else c
      if b.reclaim.isEmpty then c
      else
        let c := c.updMbox m (fun b => { b with owner := 0, phase := .idle })
        b.reclaim.foldl (fun c k => c.stage k .ok 0 []) c
  | _, _ => c

/-- A command answered by Pass 0 when the primary Summit has failed (R364). -/
def Core.passAnswer (t : Top) (m : Nat) (c : Core) : Core :=
  (c.updMbox m (fun b => { b with
    taken := some (b.taken.getD (Cmd.ofArea b.area)), result := some ⟨.stateReject, stateDetail .device DevState.faulted.code, []⟩ })).complete t m

/-- A doorbell (R359): the command in the area is submitted, or DB_REJECT is set. -/
def Core.doorbell (t : Top) (m tag : Nat) (c : Core) : Core :=
  if 64 ≤ m then c else
  let b := c.mbox m
  if b.owner ≠ 0 && (b.phase = .idle || b.phase = .done) && tag = (Cmd.ofArea b.area).tag then
    let c := c.updMbox m (fun b => { b with phase := .pending, tag := tag })
    if t.dev = .faulted && t.primaryDown then c.passAnswer t m
    else c.onHost (fun h => { h with dbOrder := h.dbOrder ++ [m] })
  else c.updMbox m (fun b => { b with dbReject := true })

/-- The firmware takes the oldest PENDING command (R359, R370, R396): it runs, its primary Summit is in service and not
fenced. A mailbox whose discarded command still runs waits (R436). -/
def Core.take (t : Top) (c : Core) : Core :=
  if !t.fwValid || t.primaryDown || c.underTest t.primaryDie then c
  else match c.host.dbOrder.find? (fun m => (c.mbox m).taken.isNone) with
    | none => c
    | some m =>
      let cmd := Cmd.ofArea (c.mbox m).area
      let c := c.updMbox m (fun b => { b with phase := .running, taken := some cmd, takenIn := t.dev, started := false, result := none })
      c.onHost (fun h => { h with
        dbOrder := h.dbOrder.filter (· != m), serial := if isSerial cmd.opcode then h.serial ++ [m] else h.serial })

/-! ### Entry to FAULTED -/

/-- The device enters FAULTED (R43, R364, R380, R399): the event is raised and a bound job faults, unless it is FAULTED already; with the
primary Summit gone every PENDING and RUNNING command is answered by Pass 0. -/
def enterFaulted (t : Top) (c : Core) (die : Nat) : Top × Core :=
  let c := if t.dev = .faulted then c else (c.raise t 0x0101 die die (le 1 t.dev.code)).jobFault t 2 0 die
  let t := { t with dev := .faulted }
  if t.primaryDown then
    let ms := Tbl.keys (c.host.mboxes.filter (fun e => e.2.phase == .pending || e.2.phase == .running))
    (t, ms.foldl (fun c m => c.passAnswer t m) (c.onHost (fun h => { h with dbOrder := [], serial := [] })))
  else (t, c)

/-! ### Queries -/

/-- DEVICE_QUERY's payload (R372). -/
def Core.deviceRecord (t : Top) (c : Core) : List Byte :=
  let j := c.job
  le 1 t.dev.code ++ le 1 (if j.isSome then c.pset.role.code else 0) ++ le 1 t.primary ++
  le 1 (b2n t.cfgDefaulted + 2 * b2n c.quiesced + 4 * b2n ((j.map Job.scrubbing).getD false)) ++
  le 4 c.jobId ++ le 8 t.now ++ le 2 0x0200 ++ le 2 0x0200 ++ le 4 t.fwVersion ++ le 2 t.nodeId ++ zeros 6

/-- A mask of the numbers below `n` that pass. -/
def maskOf (n : Nat) (p : Nat → Bool) : Nat := sumL ((List.range n).map (fun i => if p i then 2 ^ i else 0))

/-- Usable contexts (R42, R44). -/
def Top.contexts (t : Top) : Nat := sumL (t.summitsUp.map ctxTotal)

/-- The capability record (R373), with the sizes of R7, R64 and R83. -/
def Top.capRecord (t : Top) : List Byte :=
  let ports := (List.range 8).filter t.hasPort
  let count := fun (die : Nat → Nat) (n : Nat) => ((List.range n).filter (fun i => !t.gone (die i))).length
  le 1 2 ++ le 1 0 ++ le 1 2 ++ le 1 0 ++
  le 1 t.crests.length ++ le 1 (count saddleDie 16) ++ le 1 ports.length ++ le 1 (count passDie 4) ++
  le 1 (maskOf 4 t.summitsUp.contains) ++ le 1 t.primary ++ le 1 t.stackList.length ++ le 1 ports.length ++
  le 4 (maskOf 32 t.crests.contains) ++ le 2 t.stackMask.toNat ++ le 1 (maskOf 8 t.hasPort) ++ le 1 16 ++
  le 1 8 ++ le 1 4 ++ le 1 1 ++ le 1 2 ++
  le 4 t.contexts ++ le 4 (4096 * t.summitsUp.length) ++ le 4 (64 * 2 ^ 20) ++ le 4 (32 * 2 ^ 20) ++
  le 8 t.stackBytes ++ le 8 (t.stackList.length * (64 * 2 ^ 20)) ++ le 8 (4096 * t.warmUnits) ++ le 8 signalBase ++
  le 2 1000 ++ le 2 2000 ++ le 2 1250 ++ le 2 1200 ++ le 2 128 ++ le 2 2048 ++ le 2 128 ++ le 2 64 ++
  le 4 1048576 ++ le 2 160 ++ le 2 128 ++ le 1 16 ++ le 1 7 ++
  le 2 (sumL (Fmt.all.map (fun f => 2 ^ f.code))) ++ le 2 (sumL ((Fmt.all.filter Fmt.compute).map (fun f => 2 ^ f.code))) ++
  le 2 t.nodeId ++ le 2 16384 ++ le 2 1024 ++ le 2 16384 ++ le 1 16 ++ le 1 64 ++ le 2 2048 ++ le 2 1024 ++
  le 4 (4 * 2 ^ 20) ++ zeros 136

/-- DEVICE_QUERY (R372). -/
def deviceQueryBody (t : Top) (c : Core) (_m : Nat) (_a : Cmd) : Ans := ok c (c.deviceRecord t)

/-- CAP_QUERY (R373). -/
def capQueryBody (t : Top) (c : Core) (_m : Nat) (_a : Cmd) : Ans := ok c t.capRecord

/-! ### Binding a job -/

/-- The state that a bind sets (R375). -/
def Core.bind (t : Top) (s : List Byte) (id count : Nat) (r : Role) (c : Core) : Core :=
  let p : Params := { role := r }
  let per := (t.stackBytes - 64 * 2 ^ 20) / (shFrame s + shSlot s)
  let c := { c with
    job := some { id := id, shape := s, clientCount := count, framesPerStack := per, f1 := 0 }
    pset := p
    pact := p
    clients := []
    stallUs := 200
    search := {}
    sched := {
      engines := c.sched.engines, drains := c.sched.drains, allowance := p.field 1, beta := F32.ofInt 32000000,
      rho := F32.ofInt (rhoFactory (shComp s)), lambda := F32.ofInt 5 } }
  let c := { c with job := c.job.map (fun (j : Job) => { j with f1 := c.f1Now t }) }
  let c := c.onTiers (fun x => { x with tier0 := c.parts p })
  let c := c.clearCtrs (fun k => 9 * 2 ^ 60 ≤ k && k < 10 * 2 ^ 60)
  let c := (c.onTelem (fun x => { x with firstFault := none })).onPower (fun x => { x with sinceBind := 0 })
  ((c.powerUp (keptBy r)).useEngines t (keptBy r)).watchFree t

/-- JOB_BIND (R5, R175, R374, R375, R387). -/
def jobBindBody (t : Top) (c : Core) (_m : Nat) (a : Cmd) : Chk (Top × Core × Option Resp) := do
  need (t.nodeId != 0x3FFF) .badArg 0x16
  let s := a.args.take 840
  shapeCheck s
  needArg (a.arg 840 4 != 0) 840
  match Role.ofCode (a.arg 844 1) with
  | none => .error (.badArg, 844)
  | some r =>
    needArg (1 ≤ a.arg 846 2 && a.arg 846 2 ≤ 256) 846
    let c := c.bind t s (a.arg 840 4) (a.arg 846 2) r
    .ok ({ t with dev := .bound }, c, some ⟨.ok, 0, le 4 c.frameF ++ le 4 c.f1 ++ le 4 c.floor ++ le 4 c.slotB⟩)

/-! ### Releasing a job -/

/-- Units covered by some extents. -/
def unionUnits (es : List (Nat × Nat)) : Nat :=
  ((sortBy (fun (a b : Nat × Nat) => a.1 < b.1) es).foldl (fun (acc : Nat × Nat) e =>
    -- units so far, and the end of what they cover
    (acc.1 + (e.1 + e.2 - max e.1 acc.2), max acc.2 (e.1 + e.2))) (0, 0)).1

/-- Tier-1 and tier-2 bytes that the scrub of a job zeroes (R377). -/
def Core.scrubBytes (c : Core) (j : Job) : Nat × Nat :=
  (j.everFrames.length * (c.frameF + c.slotB) + j.everBytes, 4096 * unionUnits c.tiers.warmWritten + j.everWarm)

/-- A die is draining to a fence or under test. -/
def Core.anyTest (c : Core) : Bool := c.telem.tests.vals.any (fun d => d.state == 1 || d.state == 2)

/-- Step 3 of R376: every context without a move in progress is retired, FAULTED ones too. -/
def Core.releaseCtxs (t : Top) (c : Core) : Core :=
  c.ctxs.keys.foldl (fun c i =>
    let x := c.ctx i
    if x.state = .free || !(c.movesOf i).isEmpty then c
    else if x.state = .draining then c.dropIdle t i
    else c.enterDraining t i) c

/-- Step 4 of R376: synchronisation objects freed, indexes retired, regions and subscriptions, grants and stripe sets removed. -/
def Core.releaseObjects (t : Top) (c : Core) : Core :=
  let d := stateDetail .device DevState.draining.code
  let c := c.syncs.keys.foldl (fun c i => c.freeSync t i .stateReject d) c
  let c := (c.search.idxs.filter (fun e => e.2.state != .retiring)).foldl (fun c e => c.retireIndex t e.1) c
  let closing := (c.fabric.regions.vals.filter (fun r => r.backing != .host)).filterMap Region.closing
  let c := closing.foldl (fun c m => c.stage m .ok 0 []) (c.dropJobRegions t)
  c.onTiers (fun s => { s with stripes := [], grants := [], revoked := [] })

/-- A message as it stands in the message store once that has been scrubbed (R377): what its cells have told of it, and zeros. A control cell
was never there (R313). -/
def Msg.scrubbed (m : Msg) : Msg :=
  if m.type == 0x61 && m.arg 0 1 != 1 then m
  else { m with type := 0, flags := b2n m.rsp, stamp := 0, job := 0, crReq := 0, crRsp := 0, body := zeros m.body.length }

/-- The message store scrubbed (R377): the messages of the connections that remain read as zeros. -/
def Conn.scrubbed (n : Conn) : Conn :=
  let ch := fun (k : Chan) => { k with
    slots := k.slots.mapVal (fun _ (s : Slot) => { s with bytes := [] }), ready := k.ready.mapVal (fun _ e => (e.1.scrubbed, e.2)) }
  { n with req := ch n.req, rsp := ch n.rsp, inbox := n.inbox.map Msg.scrubbed }

/-- The move IDs of this node's choosing that may not be used again yet, with the package time at which their moves ended (R116). -/
def Core.idsEnding (t : Top) (c : Core) : List (Nat × Nat) :=
  (c.usedIds ++ (c.moves.vals.filter (fun m => m.initiator == t.nodeId)).map (fun m => (m.id, m.ended.getD t.now))).filter
    (fun e => t.now < e.2 + 1000000000)

/-- The state that the scrub and the end of a job leave (R376, R377). -/
def Core.unbind (t : Top) (c : Core) : Core :=
  { c with
    job := none
    clients := []
    usedIds := c.idsEnding t
    moves := []
    fabric := { c.fabric with conns := c.fabric.conns.mapVal (fun _ n => n.scrubbed) }
    summits := c.summits.mapVal (fun _ s => { s with waiters := [] })
    tiers := {
      retired := c.tiers.retired, corrections := c.tiers.corrections, patrolH := c.tiers.patrolH, warmPatrol := c.tiers.warmPatrol,
      nextPage := c.tiers.nextPage }
    sched := { engines := c.sched.engines, drains := c.sched.drains.map (fun d => { d with settled := true, steps := [] }) }
    search := { windowUs := c.search.windowUs, lunaCredits := c.search.lunaCredits, lunaFloor := c.search.lunaFloor } }

/-- A JOB_RELEASE in progress goes as far as it can (R376, R394): contexts and objects, then the scrub, then READY. -/
def releaseStep (t : Top) (c : Core) : Top × Core :=
  match c.job with
  | none => (t, c)
  | some j => match j.releaseMbox with
    | none => (t, c)
    | some m =>
      let c := c.releaseCtxs t
      if c.moves.vals.any (fun v => v.ended.isNone) then (t, c) else
      let c := c.releaseObjects t
      if !c.ctxs.vals.all (fun x => x.state == .free) || !c.search.idxs.isEmpty || c.anyTest then (t, c)
      else if !j.scrubbing then (t, { c with job := c.job.map (fun (j : Job) => { j with scrubbing := true }) })
      else
        let (b1, b2) := c.scrubBytes j
        let t := { t with dev := if t.dev = .draining then .ready else t.dev }
        let c := (c.unbind t).raise t 0x0102 0xFF j.id (le 8 b1 ++ le 8 b2)
        (t, c.stage m .ok 0 (le 8 b1 ++ le 8 b2))

/-- JOB_RELEASE (R376): the device drains, and moves before cutover abort. -/
def jobReleaseBody (t : Top) (c : Core) (m : Nat) (_a : Cmd) : Chk (Top × Core × Option Resp) :=
  let t := { t with dev := .draining }
  let c := { c with job := c.job.map (fun (j : Job) => { j with releaseMbox := some m }) }
  let open_ := c.moves.filter (fun e => e.2.ended.isNone && !e.2.cut)
  let c := open_.foldl (fun c e => c.abortMove t e.1 .stateReject (stateDetail .device DevState.draining.code) true) c
  let (t, c) := releaseStep t c
  .ok ({ t with dev := .draining }, c, none)

/-! ### The rest of the range -/

/-- ROLE_SET (R1, R145). -/
def roleSetBody (t : Top) (c : Core) (m : Nat) (a : Cmd) : Ans :=
  match Role.ofCode (a.arg 0 1) with
  | none => .error (.badArg, 0)
  | some r =>
    let c := c.setNext (fun p => { p with role := r, partsNo := p.partsNo + 1 })
    if bit (a.arg 1 1) 0 then
      waits (c.onSched (fun s => { s with drains := s.drains ++ [{ mbox := m, role := r, deadline := t.now + 5000000 }] }))
    else ok c

/-- MBOX_RECLAIM (R372). -/
def mboxReclaimBody (_t : Top) (c : Core) (m : Nat) (a : Cmd) : Ans := do
  let k := a.arg 0 1
  needArg (k != m && k < 64) 0
  let b := c.mbox k
  if b.phase = .pending || b.phase = .running then waits (c.updMbox k (fun b => { b with reclaim := b.reclaim ++ [m] }))
  else ok (c.updMbox k (fun b => { b with owner := 0, phase := .idle }))

/-! ### Rows -/

/-- DEVICE_QUERY. -/
def execDeviceQuery (m : Nat) (s : State) : Host.Outcome State Fault Refusal := .next (runCommand m 0x0101 deviceQueryBody s)
/-- CAP_QUERY. -/
def execCapQuery (m : Nat) (s : State) : Host.Outcome State Fault Refusal := .next (runCommand m 0x0102 capQueryBody s)
/-- JOB_BIND. -/
def execJobBind (m : Nat) (s : State) : Host.Outcome State Fault Refusal := .next (runTop m 0x0103 jobBindBody s)
/-- JOB_RELEASE. -/
def execJobRelease (m : Nat) (s : State) : Host.Outcome State Fault Refusal := .next (runTop m 0x0104 jobReleaseBody s)
/-- ROLE_SET. -/
def execRoleSet (m : Nat) (s : State) : Host.Outcome State Fault Refusal := .next (runCommand m 0x0105 roleSetBody s)
/-- MBOX_RECLAIM. -/
def execMboxReclaim (m : Nat) (s : State) : Host.Outcome State Fault Refusal := .next (runCommand m 0x0106 mboxReclaimBody s)
/-- UNKNOWN_OPCODE (R11, R369): step 1 of the checks refuses it. -/
def execUnknownOpcode (m : Nat) (s : State) : Host.Outcome State Fault Refusal :=
  .next (match (s.core.mbox m).taken with
    | some cmd => if (fixedLen cmd.opcode).isNone then runCommand m cmd.opcode (fun _ _ _ _ => .error (.notSupported, 0)) s else s
    | none => s)
/-- MAILBOX_CLAIM (R358). -/
def execMailboxClaim (m : Nat) (v : Word) (s : State) : Host.Outcome State Fault Refusal :=
  .next (s.onCore (fun _ c => c.claim m v.toNat))
/-- MAILBOX_RELEASE (R358). -/
def execMailboxRelease (m : Nat) (s : State) : Host.Outcome State Fault Refusal := .next (s.onCore (fun _ c => c.release m))
/-- DOORBELL (R359, R364). -/
def execDoorbell (m : Nat) (v : Word) (s : State) : Host.Outcome State Fault Refusal :=
  .next (s.onCore (fun t c => c.doorbell t m (v.toNat % 65536)))
/-- COMMAND_TAKE (R359). -/
def execCommandTake (s : State) : Host.Outcome State Fault Refusal := .next (s.onCore (fun t c => c.take t))
/-- COMMAND_COMPLETE (R362): a JOB_RELEASE in the mailbox first goes as far as it can (R376). -/
def execCommandComplete (m : Nat) (s : State) : Host.Outcome State Fault Refusal :=
  .next (s.onBoth (fun t c =>
    let (t, c) := if (c.job.bind Job.releaseMbox) = some m then releaseStep t c else (t, c)
    (t, c.complete t m)))

end Sys2Proof.Machine
end

