-- ==== Sys2Proof/Machine/Telemetry.lean ====
section
/-! DEFINITION. Telemetry, lifetime records and faults: the 0x0Cxx commands (R401 to R418), queue registers (R403), mesh transfers
(R21), the lifetime store (R411) and the patrol of the stacks (R413, R414). -/

namespace Sys2Proof.Machine

/-! ### Queue instances -/

/-- A queue instance's starvation counter and depth as they stand now (R25, R332, R403). -/
def Core.queueNow (t : Top) (c : Core) (id inst : Nat) : Rate × Nat :=
  if id = 0x10 then (c.ctr (.egress (inst / 8) (inst % 8) 6), min 512 ((c.port (inst / 8)).q (inst % 8)).length)
  else
    let q := c.queue id inst
    ((c.ctr (.starve id inst)).up ((q.starveSince.map (t.now - ·)).getD 0), q.depth)

/-- The time counters of every egress queue brought up to now (R346). -/
def Core.acctPorts (t : Top) (c : Core) : Core := (List.range 8).foldl (fun c p => c.egressAcct t p) c

/-- WM_STATUS [7:0] of a queue instance (R403). -/
def Wm.status (w : Wm) : Nat := b2n w.level + 2 * b2n w.crossed + 4 * b2n w.on

/-- The payload of a COUNTER_SNAPSHOT (R418). -/
def Core.snapshot (t : Top) (c : Core) (id first : Nat) : List Byte :=
  let last := min (qCount id) (first + 255)
  let is := (List.range last).filter (first ≤ ·)
  le 2 is.length ++ le 2 (if last < qCount id then last else 0) ++ is.flatMap (fun i =>
    let (s, d) := c.queueNow t id i
    s.bytes ++ le 2 d ++ le 1 (c.wm (wmQueue id i)).status ++ zeros 5)

/-- Snapshots whose instant has come are captured together (R418). -/
def Core.capture (t : Top) (c : Core) : Core :=
  let due := c.telem.snaps.filter (fun (e : Nat × Nat × Nat × Nat) => e.2.2.2 ≤ t.now)
  if due.isEmpty then c
  else
    let c := c.acctPorts t
    due.foldl (fun c (e : Nat × Nat × Nat × Nat) => c.stage e.1 .ok 0 (c.snapshot t e.2.1 e.2.2.1))
      (c.onTelem (fun x => { x with snaps := x.snaps.filter (fun (e : Nat × Nat × Nat × Nat) => t.now < e.2.2.2) }))

/-- What a step does with no command waiting: a nanosecond of package time passes, and snapshots due at it are captured. -/
def clock (s : State) : State := (idleTick s).onCore (fun t c => c.capture t)

/-- TELEMETRY_REFRESH (R403): due at every multiple of 1,000 ns. -/
def Core.refresh (t : Top) (c : Core) : Core :=
  if t.now / 1000 ≤ c.telem.refreshed / 1000 then c
  else
    let c := c.acctPorts t
    let keys := c.telem.queues.keys ++ (List.range 64).map (qKey 0x10)
    c.onTelem (fun x => { x with
      refreshed := t.now, shown := keys.foldl (fun tb k => tb.set k (c.queueNow t (k / 65536) (k % 65536))) x.shown })

/-! ### Mesh links -/

/-- Units of a transfer that wait for a credit of the link it is on. -/
def Core.meshWait (c : Core) (n : Nat) (x : Transfer) : Nat :=
  match x.route with
  | [] => 0
  | (l, d) :: _ => sumL (((c.queue (meshQueue x.cls) (2 * l + d)).entries.filter (fun e => e.work == .transfer n)).map QEntry.wait)

/-- The transfer whose next unit crosses a link (R19, R20): the oldest on it, in its direction and class, that holds a credit there. -/
def Core.meshOn (c : Core) (l dir : Nat) (cls : MeshClass) : Option (Nat × Transfer) :=
  c.telem.mesh.find? (fun e => e.2.route.head? == some (l, dir) && e.2.cls == cls && c.meshWait e.1 e.2 < e.2.left)

/-- A transfer that has come to its destination (R18): a die takes the master's time from a correction (R29); anything else stays
until the row that takes it. -/
def meshArrive (n : Nat) (x : Transfer) (t : Top) (c : Core) : Top × Core :=
  match x.cargo, x.work with
  | .correction, .time d =>
    let (k, c) := c.pick
    (t.onTime (fun b => b.correctCopy d k), c.onTelem (fun y => { y with mesh := y.mesh.del n }))
  | _, _ => (t, c)

/-- MESH_TRANSFER_RECEIVE (R18 to R21, R412): the next unit of the oldest transfer on a link crosses it, or fails its check and is replayed
from the sender's replay buffer, without a further credit; each replay is counted for the link and as a corrected error of the die that
receives. A transfer whose last unit has crossed goes on to the next link of its route. -/
def meshReceive (l dir : Nat) (cls : MeshClass) (good : Bool) (t : Top) (c : Core) : Top × Core :=
  match c.meshOn l dir cls with
  | none => (t, c)
  | some (n, x) =>
    let put := fun (y : Transfer) (c : Core) => c.onTelem (fun z => { z with mesh := z.mesh.set n y })
    if !good then (t, ((put { x with replay := true } c).bump (.mesh l)).life t (linkTo l dir) 0x08 5)
    else if 1 < x.left then (t, put { x with left := x.left - 1, replay := false } c)
    else
      let y := { x with left := x.units, route := x.route.tail, replay := false }
      let c := put y c
      match y.route with
      | [] => meshArrive n y t c
      | (k, d) :: _ => (t, c.qSend t (meshQueue cls) (2 * k + d) 0 y.units (.transfer n))

/-- An entry of a mesh link's queue that can be freed: its unit has crossed the link (R22). -/
def Core.meshCrossed (c : Core) (inst : Nat) (e : QEntry) : Bool :=
  match e.work with
  | .transfer n => match c.telem.mesh.get? n with
    | some x => x.route.head? != some (inst / 2, inst % 2) || x.left - e.wait < e.sent
    | none => true
  | _ => true

/-- QUEUE_CREDIT_RETURN (R22, R26, R395): a die that drains to its fence, is fenced or failed returns none. PORT_RX and EGRESS entries are
freed by the rows that take their frames. -/
def Core.creditReturn (t : Top) (q inst prod : Nat) (c : Core) : Core :=
  let d := qDie q inst
  let held := t.gone d || (c.underTest d && ((dieType d).1 != .port && (dieType d).1 != .pass))
  if held || q = 0x0B || q = 0x10 || qCount q ≤ inst then c
  else c.qReturn t q inst prod (if 0x0D ≤ q && q ≤ 0x0F then c.meshCrossed inst else fun _ => true)

/-! ### Watermarks -/

/-- A watermark: its direction, its default levels, its value now where it has one, and the die that holds it; none for an
unknown ID (R404). -/
def Core.watermark (t : Top) (c : Core) (id : Nat) : Option (Bool × (Nat × Nat) × Option Nat × Nat) :=
  let i := id % 2 ^ 24
  match id / 2 ^ 24 with
  | 1 =>
    let q := i / 65536
    let k := i % 65536
    if k < qCount q then some (true, (qDepth q, qDepth q / 2), some (c.queueNow t q k).2, qDie q k) else none
  | 2 => if i = 0 then some (false, (c.floor, 2 * c.floor), if c.job.isSome then some (c.freeFrames t) else none, t.primaryDie) else none
  | 3 =>
    if 16 ≤ i then none
    else match c.search.idxs.get? i with
      | some x => some (true, (x.sideCap * 75 / 100, x.sideCap * 50 / 100), some (x.tail - x.head), summitDie x.summit)
      | none => some (true, (0, 0), none, t.primaryDie)
  | 4 => if i < 64 then some (true, (95, 90), some (c.power.temps.getD i 0), i) else none
  | 5 => if i = 0 then some (true, (c.pact.field 5, c.pact.field 5 - 2 * c.pact.field 6), some c.meanPower, t.primaryDie) else none
  | 6 => if i = 0 then some (true, (c.host.evqLen * 7 / 8, c.host.evqLen / 2), some c.host.evqFill, 0xFF) else none
  | _ => none

/-- A watermark evaluated now, where it has a value (R406). -/
def Core.evalWm (t : Top) (id : Nat) (c : Core) : Core :=
  if id = wmEvq then c.evqWatch t
  else match c.watermark t id with
    | some (up, d, some v, src) => c.watch t id up d v src
    | _ => c

/-- CROSSED cleared (R406). -/
def Core.clearWm (id : Nat) (c : Core) : Core := c.setWm id { c.wm id with crossed := false }

/-- WATERMARK_SET (R406, R418). -/
def watermarkSetBody (t : Top) (c : Core) (_m : Nat) (a : Cmd) : Ans := do
  let id := a.arg 0 4
  let f := a.arg 4 4
  match c.watermark t id with
  | none => .error (.badArg, 0)
  | some (up, _, _, _) =>
    needArg (bit f 2 || (if up then a.arg 12 4 ≤ a.arg 8 4 else a.arg 8 4 ≤ a.arg 12 4)) 8
    let c := if bit f 1 then c.clearWm id else c
    let c := c.setWm id { c.wm id with on := bit f 0, set := if bit f 2 then none else some (a.arg 8 4, a.arg 12 4) }
    ok (c.evalWm t id)

/-- WATERMARK_QUERY (R418). -/
def watermarkQueryBody (t : Top) (c : Core) (_m : Nat) (a : Cmd) : Ans :=
  let id := a.arg 0 4
  match c.watermark t id with
  | none => .error (.badArg, 0)
  | some (_, d, v, _) =>
    let w := c.wm id
    let (thr, clr) := w.levels d
    ok c (le 1 (b2n w.on + 2 * b2n w.level + 4 * b2n w.crossed) ++ zeros 3 ++ le 4 thr ++ le 4 clr ++ le 4 (v.getD 0) ++
      (c.ctr (.cross id)).bytes)

/-! ### Events, faults and the patrol's settings -/

/-- EVENT_MASK_SET (R409, R418): bit 1 is ignored. -/
def eventMaskSetBody (_t : Top) (c : Core) (_m : Nat) (a : Cmd) : Ans :=
  let v := a.arg 0 2
  ok (c.onHost (fun h => { h with evMask := if bit v 1 then v - 2 else v }))

/-- EVENT_QUERY (R418). -/
def eventQueryBody (_t : Top) (c : Core) (_m : Nat) (_a : Cmd) : Ans :=
  ok c (le 2 c.host.evMask ++ zeros 2 ++ c.ctrBytes ((List.range 16).map (.event · 0)) ++ c.ctrBytes ((List.range 16).map (.event · 1)))

/-- COUNTER_SNAPSHOT (R418): its records are captured 10 µs from now. -/
def counterSnapshotBody (t : Top) (c : Core) (m : Nat) (a : Cmd) : Ans := do
  needArg (qCount (a.arg 0 1) != 0) 0
  needArg (a.arg 2 2 < qCount (a.arg 0 1)) 2
  waits (c.onTelem (fun x => { x with snaps := x.snaps ++ [(m, a.arg 0 1, a.arg 2 2, t.now + 10000)] }))

/-- SCRUB_SET (R414, R418). -/
def scrubSetBody (_t : Top) (c : Core) (_m : Nat) (a : Cmd) : Ans := do
  let h := a.arg 0 2
  needArg (h ≤ 168) 0
  let f := a.arg 2 2
  ok (c.onTiers (fun s => { s with
    patrolH := if h = 0 then s.patrolH else h, warmPatrol := if bit f 15 then bit f 0 else s.warmPatrol }))

/-- JOB_QUIESCE (R416, R418). -/
def jobQuiesceBody (t : Top) (c : Core) (_m : Nat) (a : Cmd) : Ans := do
  needArg (c.jobId == a.arg 0 4) 0
  if c.quiesced then ok c else ok (c.jobFault t 4 0 0xFF)

/-- A lifetime item summed over all dies. -/
def Core.lifeSum (c : Core) (item sub : Nat) : Lifetime :=
  c.telem.life.vals.foldl (fun (a : Lifetime) r =>
    let x := r.items.getD (lifeKey item sub) {}
    { count := min (2 ^ 48 - 1) (a.count + x.count), sat := a.sat || x.sat || 2 ^ 48 - 1 < a.count + x.count }) {}

/-- FAULT_QUERY (R416, R418). -/
def faultQueryBody (_t : Top) (c : Core) (_m : Nat) (_a : Cmd) : Ans :=
  let f := c.telem.firstFault
  ok c (le 1 ((f.map JobFault.cause).getD 0) ++ le 1 (b2n c.quiesced) ++ le 2 ((f.map JobFault.node).getD 0) ++
    le 1 ((f.map JobFault.die).getD 0) ++ zeros 3 ++
    (List.range 8).flatMap (fun k => (c.lifeSum 0x08 k).bytes) ++ (List.range 8).flatMap (fun k => (c.lifeSum 0x09 k).bytes) ++
    le 8 c.tiers.retired.length)

/-! ### The lifetime store -/

/-- A die's working record (R410). -/
def Core.lifeRec (c : Core) (d : Nat) : LifeRec := c.telem.life.getD d {}

/-- A write of the lifetime store begins (R411, R418). -/
def Core.lifeBegin (t : Top) (ms : List Nat) (c : Core) : Core :=
  c.onTelem (fun x => { x with lifeBusy := true, lifeBegan := t.now, flush := ms })

/-- Every record written to the slot that does not hold its newest copy, primary copy first (R411): the copy whose Summit die
has failed is left out. Nothing is written before the working values have been loaded. -/
def Telem.writeLife (t : Top) (x : Telem) : Telem :=
  (List.range 64).foldl (fun (x : Telem) d =>
    let q := d / 16
    let r := x.life.getD d {}
    let n := 1 + max ((x.lifePrimary.get? d).map Prod.snd |>.getD 0) ((x.lifeMirror.get? d).map Prod.snd |>.getD 0)
    if !x.lifeLoaded then x else { x with
      lifePrimary := if t.gone (summitDie q) then x.lifePrimary else x.lifePrimary.set d (r, n)
      lifeMirror := if t.gone (summitDie (Nat.xor q 2)) then x.lifeMirror else x.lifeMirror.set d (r, n) }) x

/-- The write ends: the records are in the store, and every LIFETIME_FLUSH that waits completes (R411, R418). A failed Summit die
leaves records unmirrored, which is raised once for it. -/
def Core.lifeEnd (t : Top) (c : Core) : Core :=
  let ms := c.telem.flush
  let c := c.onTelem (fun x => { x.writeLife t with lifeBusy := false, flush := [] })
  let c := (List.range 4).foldl (fun c q =>
    if t.gone (summitDie q) && !t.gone (summitDie (Nat.xor q 2)) then c.raise t 0x0C03 (summitDie (Nat.xor q 2)) (summitDie q) (le 1 4) else c) c
  ms.foldl (fun c m => c.stage m .ok 0 (le 8 c.telem.lifeBegan)) c

/-- LIFETIME_WRITE (R411): a write that runs ends; with none running, one begins once a multiple of 10 minutes has passed since
the last began. -/
def Core.lifeWrite (t : Top) (c : Core) : Core :=
  if c.telem.lifeBusy then c.lifeEnd t
  else if c.telem.lifeBegan / 600000000000 < t.now / 600000000000 then c.lifeBegin t []
  else c

/-- LIFETIME_FLUSH (R411, R418). -/
def lifetimeFlushBody (t : Top) (c : Core) (m : Nat) (_a : Cmd) : Ans := do
  need (!c.telem.lifeBusy) .busy
  waits (c.lifeBegin t [m])

/-- The contents of a record as numbers. -/
def LifeRec.numbers (r : LifeRec) : List Nat :=
  r.items.flatMap (fun e => [e.1, e.2.count, b2n e.2.sat]) ++ r.log.flatMap (fun e => [e.1, e.2.1, e.2.2]) ++ r.retired ++ [b2n r.lost]

/-- LIFETIME_READ (R411, R418). A copy whose Summit die has failed cannot be read, and its mirror or primary serves in its place (R42). -/
def lifetimeReadBody (t : Top) (c : Core) (_m : Nat) (a : Cmd) : Ans := do
  let d := a.arg 0 1
  let k := a.arg 1 1
  let off := a.arg 4 4
  needArg (d < 64) 0
  needArg (k < 4) 1
  needArg (off % 4 == 0 && off < 131072) 4
  let p := if t.gone (summitDie (d / 16)) then none else c.telem.lifePrimary.get? d
  let m := if t.gone (summitDie (Nat.xor (d / 16) 2)) then none else c.telem.lifeMirror.get? d
  let newest := match p, m with
    | some x, some y => some (if x.2 < y.2 then y else x)
    | some x, none => some x
    | none, y => y
  let src := match k with
    | 0 => newest | 1 => p | 2 => m | _ => some (c.lifeRec d, 0)
  let bs := match src with
    | none => []
    | some (r, n) => (List.range (min 4080 (131072 - off))).map (fun i => Config.lifeByte d (n :: r.numbers) (off + i))
  ok c (le 1 (b2n p.isSome + 2 * b2n m.isSome + 4 * b2n (c.lifeRec d).lost) ++ zeros 3 ++ le 4 bs.length ++ bs)

/-! ### The patrol -/

/-- Block n, of those on in-service stack k of S, of the indexes' tier-1 budgets: its index and its number (R248). -/
def idxBlockAt (s k : Nat) : Tbl Idx → Nat → Option (Nat × Nat)
  | [], _ => none
  | (x, i) :: es, n =>
    let m := unitsOn s k (i.budget1 / 65536) false
    if n < m then some (x, k + s * n) else idxBlockAt s k es (n - m)

/-- A tier-1 block of an index holds its centroids, norms, codebook, directory or digest table (R245). The manual does not place the digest table:
here it is at the end of the budget (DESIGN CHOICE, log 175). -/
def Idx.isFixed (i : Idx) (g : Nat) : Bool :=
  g < i.parts - i.sideBlocks || (i.budget1 / 65536 - i.digests i.placed.length ≤ g && g < i.budget1 / 65536)

/-- A word of storage that is not a page (R412): the granule of a DEVICE region or pool grant on the stack, a free choice, reads POISONED; an index's
fixed parts make it FAULTED (R250), and its other blocks show their fault when they are scanned (R264). -/
def Core.hitStorage (t : Top) (st : Nat) (c : Core) : Core :=
  let s := t.stackList.length
  let k := (t.stackList.zipIdx.find? (fun e => e.1 == st)).map Prod.snd |>.getD 0
  let rs := (c.fabric.regions.vals.filter (fun r => r.backing == .device)).flatMap (fun r =>
    ((List.range (r.size / 65536)).filter (fun u => 0 < unitsOn s k (u + 1) (bit r.flags 0) - unitsOn s k u (bit r.flags 0))).map
      (fun u => r.off + 65536 * u))
  let gs := c.tiers.grants.flatMap (fun g => (g.units.filter (fun u => u % s == k)).map (fun u => poolBase + g.origin + 65536 * u))
  let us := rs ++ gs
  let blocks := sumL (c.search.idxs.vals.map (fun i => unitsOn s k (i.budget1 / 65536) false))
  if us.length + blocks = 0 then c
  else
    let (w, c) := c.pick
    let n := w % (us.length + blocks)
    if us.length ≤ n then
      match idxBlockAt s k c.search.idxs (n - us.length) with
      | some (x, g) => if ((c.idx x).map (fun i => i.isFixed g)).getD false then c.indexFault t x else c
      | none => c
    else
    let (v, c) := c.pick
    let g := (us.getD (v % us.length) 0 + 64 * (v / us.length % 1024)) / 64
    c.onTiers (fun x => { x with poisoned := if x.poisoned.contains g then x.poisoned else g :: x.poisoned })

/-- A frame whose word gave one more corrected error, or none, in this pass (R413): after three in a row it is retired. -/
def Core.noteCorrection (t : Top) (st fr : Nat) (page : Option Nat) (free hit : Bool) (c : Core) : Core :=
  let key := st * 2 ^ 20 + fr
  if !hit then c.onTiers (fun s => { s with corrections := s.corrections.del key })
  else
    let n := c.tiers.corrections.getD key 0 + 1
    let c := c.onTiers (fun s => { s with corrections := s.corrections.set key n })
    if n < 3 then c
    else match page with
      | some o => c.updPage o (fun p => if p.retireWhy = 0 then { p with retireWhy := 2 } else p)
      | none => if free then c.retireFrame t st fr 2 else c

/-- The patrol of warm memory (R414), which rides on PATROL_READ: with it enabled, a copy in tier 2, a free choice, is read and checked, or is found
poisoned (R412). -/
def Core.patrolWarm (t : Top) (bad : Bool) (c : Core) : Core :=
  let ps := c.tiers.pages.filter (fun e => e.2.inTier 2)
  if !c.tiers.warmPatrol || ps.isEmpty then c
  else
    let (v, c) := c.pick
    match ps[v % ps.length]? with
    | none => c
    | some (o, p) =>
      let (cr, c) := c.chrysFor t p
      let c := (c.warmPage t cr (c.bytesIn p.fmt) (.scan cr)).freeWork t (· == .scan cr)
      if bad then ((c.updPage o (fun p => { p with badTiers := p.badTiers ||| 4#4 })).countError t p 2).badCopy t o 2 0
      else (c.checkPage t o 2 0).1

/-- PATROL_READ (R101 to R103, R412 to R414): one frame of a stack read; a full page with no tier-0 copy is checked. An uncorrectable DIGEST is met by
that check; an untrusted entry poisons its page with no restoration. -/
def Core.patrol (t : Top) (st fr : Nat) (found : WordFinding) (c : Core) : Core :=
  let die := saddleDie st
  if t.gone die || !t.stackMask.getLsbD st || c.fenced die then c else
  let c := match found with
    | .clean | .warm => c
    | .digest | .entry => c.life t die 0x09 4
    | .corrected => c.life t die 0x08 0
    | .uncorrectable => c.life t die 0x09 0
  let c := if c.job.isNone then c else c.patrolWarm t (found == .warm)
  if c.job.isNone then c
  else if c.perStack ≤ fr then (if found = .uncorrectable then c.jobFault t 3 0 die else c)
  else if c.tiers.retired.contains (st, fr) then c
  else match c.tiers.pages.find? (fun e => e.2.t1 == some (st, fr) && e.2.holdsFrame) with
    | some (o, p) =>
      let c := c.noteCorrection t st fr (some o) false (found == .corrected)
      if found = .uncorrectable then
        let c := c.updPage o (fun p => { p with retireWhy := 1 })
        if p.inTier 1 then (c.updPage o (fun p => { p with badTiers := p.badTiers ||| 2#4 })).badCopy t o 1 0 else c
      else if found = .entry then (c.updPage o (fun p => { p with entryLost := true })).poisonPage t o p.fastest 0
      else
      let c := if found = .digest then c.updPage o (fun p => { p with badDigest := true }) else c
      if p.fill = 256 && p.inTier 1 && !p.inTier 0 then (c.checkPage t o 1 0).1
      else c
    | none =>
      let k := (t.stackList.zipIdx.find? (fun e => e.1 == st)).map Prod.snd |>.getD 0
      let taken := c.takenOn t.stackList.length k
      let (v, c) := c.pick
      let free := v % (taken + c.stackFree t k) < c.stackFree t k || taken = 0
      let c := c.noteCorrection t st fr none free (found == .corrected)
      if found ≠ .uncorrectable then c
      else if free then (c.retireFrame t st fr 1).watchFree t
      else c.hitStorage t st

/-! ### Rows -/

/-- EVENT_MASK_SET. -/
def execEventMaskSet (m : Nat) (s : State) : Host.Outcome State Fault Refusal := .next (runCommand m 0x0C01 eventMaskSetBody s)
/-- EVENT_QUERY. -/
def execEventQuery (m : Nat) (s : State) : Host.Outcome State Fault Refusal := .next (runCommand m 0x0C02 eventQueryBody s)
/-- COUNTER_SNAPSHOT. -/
def execCounterSnapshot (m : Nat) (s : State) : Host.Outcome State Fault Refusal := .next (runCommand m 0x0C03 counterSnapshotBody s)
/-- WATERMARK_SET. -/
def execWatermarkSet (m : Nat) (s : State) : Host.Outcome State Fault Refusal := .next (runCommand m 0x0C04 watermarkSetBody s)
/-- WATERMARK_QUERY. -/
def execWatermarkQuery (m : Nat) (s : State) : Host.Outcome State Fault Refusal := .next (runCommand m 0x0C05 watermarkQueryBody s)
/-- LIFETIME_READ. -/
def execLifetimeRead (m : Nat) (s : State) : Host.Outcome State Fault Refusal := .next (runCommand m 0x0C06 lifetimeReadBody s)
/-- LIFETIME_FLUSH. -/
def execLifetimeFlush (m : Nat) (s : State) : Host.Outcome State Fault Refusal := .next (runCommand m 0x0C07 lifetimeFlushBody s)
/-- SCRUB_SET. -/
def execScrubSet (m : Nat) (s : State) : Host.Outcome State Fault Refusal := .next (runCommand m 0x0C08 scrubSetBody s)
/-- JOB_QUIESCE. -/
def execJobQuiesce (m : Nat) (s : State) : Host.Outcome State Fault Refusal := .next (runCommand m 0x0C09 jobQuiesceBody s)
/-- FAULT_QUERY. -/
def execFaultQuery (m : Nat) (s : State) : Host.Outcome State Fault Refusal := .next (runCommand m 0x0C0A faultQueryBody s)
/-- TELEMETRY_REFRESH (R403). -/
def execTelemetryRefresh (s : State) : Host.Outcome State Fault Refusal := .next (s.onCore (fun t c => c.refresh t))
/-- LIFETIME_WRITE (R411). -/
def execLifetimeWrite (s : State) : Host.Outcome State Fault Refusal := .next (s.onCore (fun t c => c.lifeWrite t))
/-- QUEUE_CREDIT_RETURN (R22). -/
def execQueueCreditReturn (q inst prod : Nat) (s : State) : Host.Outcome State Fault Refusal :=
  .next (s.onCore (fun t c => c.creditReturn t q inst prod))
/-- MESH_TRANSFER_RECEIVE (R21). -/
def execMeshTransferReceive (link dir : Nat) (cls : MeshClass) (good : Bool) (s : State) : Host.Outcome State Fault Refusal :=
  .next (s.onBoth (meshReceive link dir cls good))
/-- WATERMARK_CLEAR (R403, R406): a write to an instance's WM_STATUS. -/
def execWatermarkClear (q inst : Nat) (v : Word) (s : State) : Host.Outcome State Fault Refusal :=
  .next (s.onCore (fun _ c => if v.getLsbD 1 && inst < qCount q then c.clearWm (wmQueue q inst) else c))
/-- PATROL_READ (R414). -/
def execPatrolRead (stack frame : Nat) (found : WordFinding) (s : State) : Host.Outcome State Fault Refusal :=
  .next (s.onCore (fun t c => c.patrol t stack frame found))

end Sys2Proof.Machine
end

