-- ==== Sys2Proof/Machine/Boot.lean ====
section
/-! DEFINITION. Start-up (R378 to R393), firmware and configuration images (R381 to R388), self-test in service (R394 to R399), and the
0x0Dxx commands (R400). -/

namespace Sys2Proof.Machine

/-! ### Dies that fail -/

/-- A die out of service (R352). -/
def Top.lose (t : Top) (d : Nat) : Top := { t with absent := t.absent ||| (1#64 <<< d) }

/-- A die that failed at start-up (R392, R400), its stack or Summit with it (R42). -/
def Top.failStart (t : Top) (d : Nat) : Top :=
  let t := { t.lose d with failedStart := t.failedStart ||| (1#64 <<< d) }
  match dieType d with
  | (.saddle, s) => { t with stackMask := t.stackMask &&& ~~~(1#16 <<< s) }
  | (.summit, q) => { t with summitFail := t.summitFail ||| (1#4 <<< q) }
  | _ => t

/-- The queue instances that a failed die consumes flushed (R26): their entries go, with the mesh transfers that lead to the die, come
from it or still have to cross one of its links. The work that used them ends with the job fault or the port's end that the die's failure
brings (R399), and its credits are not granted again until a reset. -/
def Core.flushQueues (t : Top) (d : Nat) (c : Core) : Core :=
  let c := c.meshEnd t (fun x => x.src == d || x.dst == d || x.route.any (fun e => linkTo e.1 e.2 == d))
  (c.telem.queues.keys.filter (fun k => qDie (k / 65536) (k % 65536) = d)).foldl (fun c k => c.putQueue t (k / 65536) (k % 65536) []) c

/-- Credits granted once start-up self-test has passed a queue's consumer (R26, R392): entries that wait are sent. -/
def Core.grantQueues (t : Top) (c : Core) : Core :=
  c.telem.queues.keys.foldl (fun c k => c.qRefill t (k / 65536) (k % 65536)) c

/-! ### Far writes -/

/-- The write that a far block holds applied (R351, R353), and BUSY cleared. -/
def Core.applyHeld (t : Top) (n : Nat) (c : Core) : Core :=
  match c.host.farWrites.get? n, Block.ofNum n with
  | some (off, v), some b =>
    let c := c.onHost (fun h => { h with farWrites := h.farWrites.del n })
    match b with
    | .oport p => if off = 0 && v.getLsbD 11 && t.hasPort p then c.updPort p (fun x => { x with changed := false }) else c
    | _ => c
  | _, _ => c

/-- The blocks that lie on a die (R348). -/
def blocksOf (d : Nat) : List Nat := (List.range 70).filter (fun n => (Block.ofNum n).bind Block.die = some d)

/-! ### Resets -/

/-- What a restart keeps of the device's own state: flash, fuses, pins, and what a stack is made of (R378, R379, R381). -/
def Top.restart (t : Top) : Top :=
  { secFloor := t.secFloor, slot0 := t.slot0, slot1 := t.slot1, bootWord := t.bootWord, cfgFlash := t.cfgFlash,
    stackBytes := t.stackBytes, perst := t.perst, powerWarn := t.powerWarn, txRefclk := t.txRefclk, i2cAddr := t.i2cAddr, jtag := t.jtag }

/-- What a restart keeps of the rest: the MSI-X table where it is kept, the lifetime store, what the fibre connectors show, what
the block has put out, and the count of free choices (R378, R411). -/
def Core.restart (c : Core) (bar4 : Mem) : Core :=
  { host := { bar4 := bar4 }
    ports := c.ports.mapVal (fun _ x => { mated := x.mated, light := x.light })
    telem := { lifePrimary := c.telem.lifePrimary, lifeMirror := c.telem.lifeMirror }
    out := c.out
    nonce := c.nonce }

/-- The reset of R378: the resets of every die are counted, the lifetime store is written as at an orderly shutdown, and phase 1
begins again. -/
def resetDevice (keepBar4 : Bool) (t : Top) (c : Core) : Top × Core :=
  let c := (List.range 64).foldl (fun c d => c.life t d 0x02 1) c
  let c := c.lifeEnd t
  ({ t.restart with byReset := true }, c.restart (if keepBar4 then c.host.bar4 else []))

/-! ### Images -/

/-- The number of the first check of R382 that a firmware image fails. The body ends within the image. -/
def fwCheck (floor : Nat) (bs : List Byte) : Option Nat :=
  let len := rd bs 12 4
  let body := (bs.drop 512).take len
  firstBad [
    (1, rd bs 0 4 == 0x57465A53 && rd bs 4 2 == 1), (2, 1 ≤ len && len ≤ 16776704 && body.length == len),
    (3, Config.keyDigestOk ((bs.drop 16).take 97)), (4, floor ≤ rd bs 6 2),
    (5, Config.signatureOk (bs.take 128 ++ body) ((bs.drop 128).take 96))]

/-- The records of a configuration image's body (R384): type and value; none where they do not tile it. -/
def cfgRecords : Nat → List Byte → Option (List (Nat × List Byte))
  | _, [] => some []
  | 0, _ => none
  | fuel + 1, bs =>
    let n := rd bs 2 2
    if bs.length < 4 + n || n % 4 ≠ 0 then none
    else (cfgRecords fuel (bs.drop (4 + n))).map ((rd bs 0 2, (bs.drop 4).take n) :: ·)

/-- The records of an image, whose body lies between header and trailer. -/
def cfgBody (bs : List Byte) : Option (List (Nat × List Byte)) := cfgRecords bs.length ((bs.take (rd bs 8 4 - 8)).drop 16)

/-- The cause of R385 for which an image is not used. -/
def cfgCheck (bs : List Byte) : Option Nat :=
  let len := rd bs 8 4
  firstBad [
    (1, rd bs 0 4 == 0x46435A53), (2, 24 ≤ len && len ≤ 65536 && len % 4 == 0 && len ≤ bs.length),
    (3, rd bs (len - 4) 4 == 0xC3A55AC3), (4, rd bs (len - 8) 4 == (crc32c (bs.take (len - 8))).toNat),
    (5, rd bs 4 2 == 1), (6, (cfgBody bs).isSome)]

/-! ### Settings of an image -/

/-- TIME.STATUS [7:0] (R37). -/
def TimeBlk.status (b : TimeBlk) : Nat :=
  b2n b.locked + 2 * b2n b.holdover + 4 * b2n b.stepRefused + 8 * b2n b.ahead + 16 * b2n b.ppsReject + 32 * b2n b.syncLost

/-- TIME.CONTROL.SOURCE (R31, R37): 0 FREE, 1 PPS, 2 FABRIC. -/
def TimeBlk.source (b : TimeBlk) : Nat := b.control.toNat % 4

/-- A write of TIME.CONTROL (R37): a reserved SOURCE leaves that field, reserved bits stay 0, and a change of SOURCE while LOCKED
clears LOCKED and HOLDOVER. PPS_OUT is low while its enable is clear (R434), and an enable counts from the present second (R34). -/
def TimeBlk.setControl (b : TimeBlk) (v : Word) : TimeBlk :=
  let v := v &&& 0x0001FF1F#32
  let v := if v &&& 3#32 = 3#32 then (v &&& ~~~3#32) ||| (b.control &&& 3#32) else v
  let b' := { b with
    control := v, ppsOut := b.ppsOut && v.getLsbD 16,
    ppsOutSec := if v.getLsbD 16 && !b.control.getLsbD 16 then b.now / 1000000000 else b.ppsOutSec }
  if b'.source = b.source then b'
  else
    let b' := { b' with goodRun := 0, syncValidAt := b.now, syncSentAt := b.now, lastPps := some b.now }
    if b.locked then { b' with locked := false, holdover := false } else b'

/-- A change of LOCKED, HOLDOVER or SYNC_LOST raises TIME_STATUS (R408). -/
def Core.timeEvent (t : Top) (old new : TimeBlk) (c : Core) : Core :=
  if old.locked = new.locked && old.holdover = new.holdover && old.syncLost = new.syncLost then c
  else c.raise t 0x0104 t.primaryDie 0 (le 1 new.status)

/-- One record of an image applied (R386); none where its length or a value is wrong. -/
def applyRecord (ty : Nat) (v : List Byte) (s : Top × Core) : Option (Top × Core) :=
  let (t, c) := s
  let p := rd v 0 1
  match ty with
  | 1 => if v.length = 4 && rd v 0 2 ≤ 0x3FFF then some ({ t with nodeId := rd v 0 2 }, c) else none
  | 2 => if v.length = 4 then some (t.onTime (fun b => b.setControl (BitVec.ofNat 32 (rd v 0 4))), c) else none
  | 3 =>
    let least := rd v 2 1
    let hold := rd v 4 4
    if v.length = 8 && p < 8 && rd v 1 1 ≤ 1 && (least = 0 || (4 ≤ least && least ≤ 16)) && (hold ≤ 10000 || hold = 0xFFFFFFFF) then
      some ({ t with cfgPorts := if rd v 1 1 = 1 then t.cfgPorts ||| (1#8 <<< p) else t.cfgPorts &&& ~~~(1#8 <<< p) },
        c.updPort p (fun x => { x with minLanes := if least = 0 then 8 else least, holdUs := if hold = 0xFFFFFFFF then 50 else hold }))
    else none
  | 4 => if v.length = 4 && p < 8 then some (t, c.updPort p (fun x => { x with expressMask := rd v 1 1 % 128 + 128 })) else none
  | 5 =>
    let k := rd v 1 1
    let rate := rd v 4 4
    let burst := rd v 8 4
    if v.length = 12 && p < 8 && k < 8 && 1 ≤ rate && rate ≤ 400000 && 4096 ≤ burst && burst ≤ 16777216 then
      let sh : Shaper := { on := bit (rd v 2 1) 0, rate := rate, burst := burst, tokens := min burst 4096 * 65536, at_ := t.now }
      some (t, c.updPort p (fun x => { x with shapers := x.shapers.set k sh }))
    else none
  | 6 =>
    let us := if rd v 0 4 = 0 then 1000 else rd v 0 4
    if v.length = 4 && us ≤ 100000 then some (t, c.onFabric (fun f => { f with skewUs := us })) else none
  | 7 =>
    let s := rd v 4 4
    if v.length = 8 && 3600 ≤ s && s ≤ 2592000 then some (t, c.onTelem (fun x => { x with testOn := bit (rd v 0 4) 0, testPeriod := s }))
    else none
  | _ => none

/-- Every record of an image applied in order (R385): unknown types and refused values are skipped and flagged. -/
def applyRecords (rs : List (Nat × List Byte)) (s : Top × Core) : Top × Core :=
  rs.foldl (fun (s : Top × Core) r =>
    if !(1 ≤ r.1 && r.1 ≤ 7) then ({ s.1 with cfgUnknown := true }, s.2)
    else match applyRecord r.1 r.2 s with
      | some s => s
      | none => ({ s.1 with cfgReject := true }, s.2)) s

/-! ### The phases -/

/-- The end of a phase noted, and the next one begun (R379). -/
def Top.endPhase (t : Top) (n : Nat) : Top := { t with phaseEnds := t.phaseEnds.set (n - 1) t.now, phase := if n = 5 then 0 else n + 1 }

/-- BOOT_ROM_DONE (R29, R40, R43, R379): the Summit dies that passed are candidates, and the dies' copies of package time are loaded; with
no candidate the device stays in BOOT. -/
def bootRomDone (passed : BitVec 4) (t : Top) (c : Core) : Top × Core :=
  if t.dev ≠ .boot || t.phase ≠ 1 || t.perst || t.allFailed then (t, c) else
  let ok := passed &&& ~~~t.summitFail
  let t := (List.range 4).foldl (fun (t : Top) q => if ok.getLsbD q then t else t.failStart (summitDie q)) t
  let t := { t.endPhase 1 with candidates := ok }
  if ok = 0 then ({ t with allFailed := true, primary := 0 }, c)
  else ((List.range 64).foldl (fun (t : Top) d => t.onTime (fun b => b.loadCopy d (Config.pick (c.nonce + d)))) t, { c with nonce := c.nonce + 64 })

/-- The working values loaded from the store (R410, R411): the newest copy of the primary, else the mirror, else zero with LOST;
the power-up or reset is counted, and retired frames leave the page pool again (R413). -/
def Core.loadLife (t : Top) (c : Core) : Core :=
  if c.telem.lifeLoaded then c else
  let c := c.onTelem (fun x => { x with lifeLoaded := true })
  (List.range 64).foldl (fun c d =>
    let q := d / 16
    let p := if t.gone (summitDie q) then none else c.telem.lifePrimary.get? d
    let m := if t.gone (summitDie (Nat.xor q 2)) then none else c.telem.lifeMirror.get? d
    let (r, finding) : LifeRec × Nat := match p, m with
      | some x, _ => (x.1, 0)
      | none, some y => (y.1, 2)
      | none, none => ({ lost := true }, 3)
    let c := c.onTelem (fun x => { x with life := x.life.set d r })
    let c := c.onTiers (fun s => { s with retired := s.retired ++ r.retired.map (fun f => (f / 2 ^ 20, f % 2 ^ 20)) })
    let c := if finding = 0 then c else c.raise t 0x0C03 t.primaryDie d (le 1 finding)
    if t.byReset then c else c.life t d 0x02 0) c

/-- FIRMWARE_VERIFY (R40, R382, R383): the lowest candidate tries the preferred slot, then the other; it becomes primary, or fails. -/
def firmwareVerify (t : Top) (c : Core) : Top × Core :=
  if t.dev ≠ .boot || t.phase ≠ 2 || t.allFailed then (t, c) else
  match (List.range 4).find? (fun q => t.candidates.getLsbD q) with
  | none => (t, c)
  | some q =>
    let want := if t.bootWord = 0x00005A01#32 then 1 else 0
    let slot := fun (n : Nat) => if n = 1 then t.slot1 else t.slot0
    let run := fun (n : Nat) => (fwCheck t.secFloor (slot n)).isNone
    match (if run want then some want else if run (1 - want) then some (1 - want) else none) with
    | some n =>
      let img := slot n
      let t := { t.endPhase 2 with
        primary := q, fwValid := true, fwSlot := n, fwFallback := n != want, fwVersion := rd img 8 4, fwSecurity := rd img 6 2 }
      (t, c.loadLife t)
    | none =>
      let t := { t.failStart (summitDie q) with candidates := t.candidates &&& ~~~(1#4 <<< q) }
      (if t.candidates = 0 then { t with allFailed := true, primary := 0 } else t, c)

/-- CONFIG_APPLY (R384 to R386, R390): the image in use, or the factory defaults with their cause; then phase 4 begins, and with it
the bring-up of every port that is enabled. -/
def configApply (t : Top) (c : Core) : Top × Core :=
  if t.dev ≠ .boot || t.phase ≠ 3 then (t, c) else
  let (t, c) := match cfgCheck t.cfgFlash with
    | some cause => ({ t with cfgDefaulted := true, cfgCause := cause, cfgImage := Config.factoryImage, cfgSeq := 0 }, c)
    | none => applyRecords ((cfgBody t.cfgFlash).getD []) ({ t with
        cfgDefaulted := false, cfgCause := 0, cfgImage := t.cfgFlash.take (rd t.cfgFlash 8 4), cfgSeq := rd t.cfgFlash 12 4 }, c)
  let t := { t.endPhase 3 with dev := .train }
  (t, (List.range 8).foldl (fun c p =>
    if t.cfgPorts.getLsbD p && t.hasPort p && (c.port p).state = .disabled then c.portOn t p else c) c)

/-- TRAINING_DONE (R380, R389, R437): the stacks that trained are in service, and the Type-3 devices are enumerated. -/
def trainingDone (trained : BitVec 16) (devices : List Nat) (t : Top) (c : Core) : Top × Core :=
  if t.dev ≠ .train then (t, c) else
  let mask := (List.range 16).foldl (fun (m : BitVec 16) s => if t.gone (saddleDie s) then m &&& ~~~(1#16 <<< s) else m) trained
  let t := { t.endPhase 4 with stackMask := mask, warmDevices := devices, warmRemoved := [] }
  if mask = 0 then enterFaulted t c 0xFF else ({ t with dev := .selftest }, c)

/-- A self-test result noted (R400, R410, R411): kind 0 at start-up, 1 in service; result 0 pass, 1 fail. -/
def Core.noteTest (t : Top) (d kind res rows : Nat) (c : Core) : Core :=
  let c := (c.life t d 0x0C (2 * kind + res)).life t d 0x0C 4 rows
  c.onTelem (fun x => { x with
    life := x.life.updD d {} (fun r => { r with log := (r.log ++ [(t.now, kind, res)]).drop (r.log.length - 15) }),
    tests := x.tests.updD d {} (fun s => { s with last := res, repaired := s.repaired.up rows }) })

/-- STARTUP_SELFTEST_DONE (R380, R392, R399): dies and links that failed. The primary's failure restarts phase 1 without it; a
failing Pass die or longer link is fatal; the other dies are left out; the minimum of R392 decides READY. -/
def startupDone (failed : BitVec 64) (links repaired : List Nat) (t : Top) (c : Core) : Top × Core :=
  if t.dev ≠ .selftest then (t, c) else
  let up := (List.range 64).filter (fun d => !t.gone d)
  let c := up.foldl (fun c d => c.noteTest t d 0 (b2n (failed.getLsbD d)) ((repaired.filter (· == d)).length)) c
  if failed.getLsbD t.primaryDie then
    let t := t.failStart t.primaryDie
    ({ t with dev := .boot, phase := 1, phaseEnds := [0, 0, 0, 0, 0], candidates := 0, fwValid := false, primary := 0 }, c)
  else
    let far := (links.filter (· < 96)).map (fun l => (linkEnds l).2)
    let bad := up.filter (fun d => failed.getLsbD d || far.contains d)
    let isFatal := fun (d : Nat) => match (dieType d).1 with
      | .pass => true
      | .summit => far.contains d
      | _ => false
    let t := bad.foldl Top.failStart t
    let c := bad.foldl (fun c d => c.raise t 0x0D01 d d (le 1 0)) c
    let c := bad.foldl (fun c d => match dieType d with
      | (.port, p) => if (c.port p).state = .disabled then c else c.portOff t p
      | _ => c) c
    let t := t.endPhase 5
    let c := (bad.foldl (fun c d => c.flushQueues t d) c).grantQueues t
    match bad.find? isFatal with
    | some d => enterFaulted t c d
    | none =>
      if links.any (96 ≤ ·) || t.crests.isEmpty || t.stackMask = 0 then enterFaulted t c 0xFF
      else ({ t with dev := .ready }, c)

/-- INTERFACE_RETRAIN (R391): the margin goes to the lifetime record, and one below its floor raises MEMORY_MARGIN. -/
def Core.retrainInterface (t : Top) (st margin : Nat) (low : Bool) (c : Core) : Core :=
  let d := saddleDie st
  if t.gone d || !t.stackMask.getLsbD st || c.fenced d then c
  else
    let c := c.life t d 0x06 (min 15 (margin / 4))
    if low then c.raise t 0x0304 d st (le 1 margin) else c

/-! ### Self-test in service -/

/-- Slices of one pass: 64, as the worked example of R399 has it. -/
def slicesPerPass : Nat := 64

/-- A die's self-test record. -/
def Core.test (c : Core) (d : Nat) : DieTest := c.telem.tests.getD d {}

/-- A die's self-test record changed. -/
def Core.updTest (d : Nat) (f : DieTest → DieTest) (c : Core) : Core := c.onTelem (fun x => { x with tests := x.tests.updD d {} f })

/-- The units of an item that no array of a Crest die has taken, by index, and the groups that R211 keeps on one array: key/value head, row
block and segment. -/
def Core.idleUnits (c : Core) (k i : Nat) : List ((Nat × Nat × Nat) × Nat) :=
  let g := shHq c.shape / shH c.shape
  ((((c.sched.items.get? k).bind Item.run).map LayerRun.units).getD []).zipIdx.filterMap (fun u =>
    if u.1.crest = i ∧ (u.1.state = .waiting ∨ u.1.state = .granted) then some ((u.1.head / g, u.1.row, u.1.seg), u.2) else none)

/-- The heads of a group that are at work on the die already: the rest stays with them, on their array (R211). -/
def Core.groupRuns (c : Core) (k i : Nat) (key : Nat × Nat × Nat) : Bool :=
  let g := shHq c.shape / shH c.shape
  ((((c.sched.items.get? k).bind Item.run).map LayerRun.units).getD []).any (fun u =>
    u.crest == i && (u.head / g, u.row, u.seg) == key && (u.state == .running || u.state == .arrived))

/-- A unit that waits moved to a die and array: a buffer it holds is given back, and its descriptor goes to the new die (R211, R396). -/
def Core.moveUnit (t : Top) (k n from_ to_ a : Nat) (c : Core) : Core :=
  match c.sched.items.get? k with
  | none => c
  | some it =>
    let credits := c.unitCredits it.step
    let held := (it.run.bind (fun r => r.units[n]?)).any (fun u => u.state == .granted)
    let c := if held then c.freeScore from_ credits else c
    let c := c.onSched (fun s => { s with waiting := s.waiting.updD from_ [] (fun q => q.filter (fun r => !(r.item == k && r.index == n && r.ridge))) })
    let c := (c.freeWork t (· == .unit k n)).onUnit k n (fun u => { u with crest := to_, array := a, state := .waiting })
    c.dispatch t (it.ctx / 32768) to_ { item := k, index := n, ridge := true, credits := credits }

/-- Ridge units that wait for a Crest die moved to one of its quadrant (R211, R396): the heads of a group stay together, on one array. -/
def Core.moveUnits (t : Top) (i : Nat) (c : Core) : Core :=
  let sib := (List.range 32).filter (fun j => j / 8 == i / 8)
  c.sched.items.keys.foldl (fun c k =>
    let us := c.idleUnits k i
    ((us.map Prod.fst).dedup.filter (fun key => !c.groupRuns k i key)).foldl (fun c key =>
      let (cr, c) := c.chooseCrest t sib
      let (a, c) := c.pick
      if cr = i then c
      else (us.filter (fun u => u.1 == key)).foldl (fun c u => c.moveUnit t k u.2 i cr (a % 8)) c) c) c

/-- Centroid units that no array of a Crest die has taken moved to a die of its quadrant, as Ridge units are (R211, R396). -/
def Core.moveCentroids (t : Top) (i : Nat) (c : Core) : Core :=
  let sib := (List.range 32).filter (fun j => j / 8 == i / 8)
  (c.search.units.filter (fun e => e.2.crest == i && !e.2.running)).foldl (fun c e =>
    let (cr, c) := c.chooseCrest t sib
    let (a, c) := c.pick
    (c.onSearch (fun s => { s with units := s.units.upd e.1 (fun u => { u with crest := cr, array := a % 8 }) })).startArrays t cr) c

/-- Slices that wait for a Crest die's score buffers moved to the pair's other die (R187, R396), where that is in service. -/
def Core.moveSlices (t : Top) (i : Nat) (c : Core) : Core :=
  let other := Nat.xor i 1
  if t.gone (crestDie other) || c.underTest (crestDie other) then c
  else
    let q := (c.sched.waiting.getD i []).filter (fun r => !r.ridge)
    let c := c.onSched (fun s => { s with waiting := s.waiting.updD i [] (fun q => q.filter ScoreReq.ridge) })
    q.foldl (fun c r =>
      let ctx := ((c.sched.items.get? r.item).map Item.ctx).getD 0
      ((c.freeWork t (· == .slice r.item r.index)).onSlice r.item r.index (fun s => { s with crest := other })).dispatch t (ctx / 32768) other r) c

/-- Work that waits for a Crest die that drains to its fence goes elsewhere (R187, R211, R396). -/
def Core.moveWaiting (t : Top) (i : Nat) (c : Core) : Core := ((c.moveSlices t i).moveUnits t i).moveCentroids t i

/-- SELFTEST_SLICE_START (R394, R395, R400): a die of a quadrant with no other under test begins to drain to its fence, when its
slice is due or SELFTEST_RUN asks for it. -/
def Core.sliceStart (t : Top) (d : Nat) (c : Core) : Core :=
  let r := c.test d
  let busy := (List.range 16).any (fun k => c.underTest (16 * (d / 16) + k))
  let due := c.telem.testOn && r.began + c.telem.testPeriod * 1000000000 / slicesPerPass ≤ t.now
  if 64 ≤ d || t.gone d || busy || !(t.dev = .ready || t.dev = .bound) || !(due || !r.runners.isEmpty) then c
  else
    let c := c.updTest d (fun r => { r with state := 1 })
    match dieType d with
    | (.crest, i) => c.moveWaiting t i
    | _ => c

/-- A slice or unit runs on a Crest die. -/
def Core.crestBusy (c : Core) (i : Nat) : Bool :=
  c.sched.items.vals.any (fun it => match it.run with
    | some r => r.slices.any (fun s => s.crest == i && s.state == .running) || r.units.any (fun u => u.crest == i && u.state == .running)
    | none => false) || c.search.units.any (fun u => u.2.crest == i && u.2.running)

/-- SELFTEST_FENCED (R395): work in progress has drained, and the slice runs. -/
def Core.fence (t : Top) (d : Nat) (c : Core) : Core :=
  let drained := match dieType d with
    | (.crest, i) => !c.crestBusy i
    | _ => true
  if (c.test d).state = 1 && drained then c.updTest d (fun r => { r with state := 2, began := t.now }) else c


/-- A die declared failed in service (R26, R43, R399): its queues are flushed, ABSENT is set, DIE_FAILED raised, and a bound job
quiesced, a port disabled, or the device FAULTED. A failed Summit's objects exist no more (R42). -/
def dieFails (d : Nat) (t : Top) (c : Core) : Top × Core :=
  let t := t.lose d
  let c := (c.flushQueues t d).updTest d (fun r => { r with state := 3 })
  match dieType d with
  | (.crest, _) =>
    let c := c.raise t 0x0D01 d d (le 1 1)
    (t, c.jobFault t 2 0 d)
  | (.saddle, s) =>
    let t := { t with stackMask := t.stackMask &&& ~~~(1#16 <<< s) }
    let c := c.raise t 0x0D01 d d (le 1 1)
    (t, c.jobFault t 2 0 d)
  | (.port, p) =>
    let c := c.raise t 0x0D01 d d (le 1 1)
    (t, if (c.port p).state = .disabled then c else c.portOff t p)
  | (.pass, _) => enterFaulted t (c.raise t 0x0D01 d d (le 1 1)) d
  | (.summit, q) =>
    if t.primaryDown then enterFaulted t (c.raise t 0x0D01 d d (le 1 1)) d
    else
      let c := (c.raise t 0x0D01 d d (le 1 1)).jobFault t 2 0 d
      (t, { c with
        syncs := c.syncs.filter (fun e => syncSummit e.1 != q)
        summits := c.summits.upd q (fun s => { s with waiters := [] }) })

/-- SELFTEST_SLICE_END (R353, R395, R399, R400): the fence lifts, and a write held for one of the die's blocks is applied; or the die is
declared failed, and such a write is lost with it. Every SELFTEST_RUN that waits completes. -/
def sliceEnd (d : Nat) (pass : Bool) (rows : Nat) (t : Top) (c : Core) : Top × Core :=
  if (c.test d).state ≠ 2 || t.dev = .boot || t.dev = .train || t.dev = .selftest then (t, c) else
  let runners := (c.test d).runners
  let c := c.noteTest t d 1 (b2n (!pass)) rows
  let c := c.updTest d (fun r =>
    let r := { r with state := 0, runners := [], slices := r.slices + 1 }
    if r.slices = slicesPerPass then { r with slices := 0, passes := r.passes + 1, lastEnd := t.now } else r)
  let c := runners.foldl (fun c m => c.stage m .ok 0 []) c
  if pass then
    let c := (blocksOf d).foldl (fun c n => c.applyHeld t n) c
    (t, match dieType d with
      | (.crest, i) => c.startArrays t i
      | _ => c)
  else dieFails d t (c.onHost (fun h => { h with farWrites := h.farWrites.filter (fun e => !(blocksOf d).contains e.1) }))

/-! ### Commands of the 0x0Dxx range -/

/-- BOOT_QUERY (R400). -/
def bootQueryBody (t : Top) (c : Core) (_m : Nat) (_a : Cmd) : Ans :=
  ok c (t.phaseEnds.flatMap (le 8) ++ le 1 t.fwSlot ++ le 1 (b2n t.fwFallback) ++
    le 2 (b2n t.cfgDefaulted + 2 * b2n t.cfgReject + 4 * b2n t.cfgUnknown + 256 * t.cfgCause) ++ le 1 t.secFloor ++ zeros 3 ++
    le 8 t.failedStart.toNat ++ le 4 t.fwVersion ++ le 4 t.cfgSeq)

/-- A CFG_LOAD or FW_LOAD is running (R400). -/
def Core.loading (c : Core) : Bool :=
  c.fabric.reads.vals.any (fun e => match e.1 with
    | .cfgLoad _ | .fwLoad _ => true
    | _ => false)

/-- SPI_WP_N is held low (R438): except while CFG_LOAD or FW_LOAD writes, which the model does as its image arrives. -/
def Core.spiWp (c : Core) : Bool := !c.loading

/-- CFG_LOAD (R388, R400): the image is read from host memory. -/
def cfgLoadBody (_t : Top) (c : Core) (m : Nat) (a : Cmd) : Ans := do
  needArg (24 ≤ a.arg 8 4 && a.arg 8 4 ≤ 65536) 8
  need (!c.loading) .busy
  waits (c.readHost (.cfgLoad m) (a.arg 0 8) (a.arg 8 4))

/-- A CFG_LOAD's image has been read (R388, R400, R435): checked, and written with its commit word last. -/
def cfgLoaded (m : Nat) (good : Bool) (bs : List Byte) (t : Top) (c : Core) : Top × Core :=
  if !good then (t, c.stage m .timeout 0 [])
  else match cfgCheck bs with
    | some cause => (t, c.stage m .checkFail cause [])
    | none => ({ t with cfgFlash := bs }, c.stage m .ok 0 [])

/-- CFG_READ (R400). -/
def cfgReadBody (t : Top) (c : Core) (_m : Nat) (a : Cmd) : Ans := do
  needArg (a.arg 0 4 % 4 == 0) 0
  ok c (le 4 t.cfgImage.length ++ (t.cfgImage.drop (a.arg 0 4)).take 4080)

/-- FW_LOAD (R383, R400): the image, which a slot holds, is read from host memory. -/
def fwLoadBody (_t : Top) (c : Core) (m : Nat) (a : Cmd) : Ans := do
  needArg (513 ≤ a.arg 8 4 && a.arg 8 4 ≤ 16777216) 8
  need (!c.loading) .busy
  waits (c.readHost (.fwLoad m) (a.arg 0 8) (a.arg 8 4))

/-- An FW_LOAD's image has been read (R383, R400, R435): checked, written to the slot that is not running, and preferred. -/
def fwLoaded (m : Nat) (good : Bool) (bs : List Byte) (t : Top) (c : Core) : Top × Core :=
  match (c.mbox m).taken with
  | none => (t, c)
  | some a =>
    if !good then (t, c.stage m .timeout 0 [])
    else match fwCheck t.secFloor bs with
      | some n => (t, c.stage m .checkFail n [])
      | none =>
        let n := 1 - t.fwSlot
        let t := if n = 1 then { t with slot1 := bs, bootWord := 0x00005A01#32 } else { t with slot0 := bs, bootWord := 0xFFFFFFFF#32 }
        let t := if bit (a.arg 12 4) 0 then { t with secFloor := max t.secFloor t.fwSecurity } else t
        (t, c.stage m .ok 0 (le 1 n ++ le 1 t.secFloor ++ zeros 2 ++ le 4 (rd bs 8 4)))

/-- SELFTEST_SET (R400). -/
def selftestSetBody (_t : Top) (c : Core) (_m : Nat) (a : Cmd) : Ans := do
  let s := a.arg 4 4
  needArg (s == 0 || (3600 ≤ s && s ≤ 2592000)) 4
  ok (c.onTelem (fun x => { x with testOn := bit (a.arg 0 4) 0, testPeriod := if s = 0 then x.testPeriod else s }))

/-- SELFTEST_RUN (R398, R400). -/
def selftestRunBody (t : Top) (c : Core) (m : Nat) (a : Cmd) : Ans := do
  let d := a.arg 0 1
  needArg (d < 64 && !t.gone d) 0
  need (!c.underTest d) .busy
  waits (c.updTest d (fun r => { r with runners := r.runners ++ [m] }))

/-- SELFTEST_QUERY (R400). -/
def selftestQueryBody (t : Top) (c : Core) (_m : Nat) (a : Cmd) : Ans := do
  let d := a.arg 0 1
  needArg (d < 64) 0
  let r := c.test d
  ok c (le 1 (if t.gone d && r.state ≠ 3 then 4 else r.state) ++ le 1 r.last ++ le 2 slicesPerPass ++ le 4 r.slices ++ le 4 r.passes ++
    zeros 4 ++ le 8 r.lastEnd ++ r.repaired.bytes)

/-! ### Rows -/

/-- BOOT_QUERY. -/
def execBootQuery (m : Nat) (s : State) : Host.Outcome State Fault Refusal := .next (runCommand m 0x0D01 bootQueryBody s)
/-- CFG_LOAD. -/
def execCfgLoad (m : Nat) (s : State) : Host.Outcome State Fault Refusal := .next (runCommand m 0x0D02 cfgLoadBody s)
/-- CFG_READ. -/
def execCfgRead (m : Nat) (s : State) : Host.Outcome State Fault Refusal := .next (runCommand m 0x0D03 cfgReadBody s)
/-- FW_LOAD. -/
def execFwLoad (m : Nat) (s : State) : Host.Outcome State Fault Refusal := .next (runCommand m 0x0D04 fwLoadBody s)
/-- SELFTEST_SET. -/
def execSelftestSet (m : Nat) (s : State) : Host.Outcome State Fault Refusal := .next (runCommand m 0x0D05 selftestSetBody s)
/-- SELFTEST_RUN. -/
def execSelftestRun (m : Nat) (s : State) : Host.Outcome State Fault Refusal := .next (runCommand m 0x0D06 selftestRunBody s)
/-- SELFTEST_QUERY. -/
def execSelftestQuery (m : Nat) (s : State) : Host.Outcome State Fault Refusal := .next (runCommand m 0x0D07 selftestQueryBody s)
/-- DEVICE_RESET (R355, R378): a write of TOP.RESET; any other KEY, or GO clear, is ignored. -/
def execDeviceReset (v : Word) (s : State) : Host.Outcome State Fault Refusal :=
  .next (s.onBoth (fun t c => if v.toNat % 256 = 0xA5 && v.getLsbD 8 then resetDevice true t c else (t, c)))
/-- BOOT_ROM_DONE (R40). -/
def execBootRomDone (passed : BitVec 4) (s : State) : Host.Outcome State Fault Refusal := .next (s.onBoth (bootRomDone passed))
/-- FIRMWARE_VERIFY (R382). -/
def execFirmwareVerify (s : State) : Host.Outcome State Fault Refusal := .next (s.onBoth firmwareVerify)
/-- CONFIG_APPLY (R385). -/
def execConfigApply (s : State) : Host.Outcome State Fault Refusal := .next (s.onBoth configApply)
/-- TRAINING_DONE (R389). -/
def execTrainingDone (trained : BitVec 16) (devices : List Nat) (s : State) : Host.Outcome State Fault Refusal :=
  .next (s.onBoth (trainingDone trained devices))
/-- STARTUP_SELFTEST_DONE (R392). -/
def execStartupSelftestDone (failed : BitVec 64) (links repaired : List Nat) (s : State) : Host.Outcome State Fault Refusal :=
  .next (s.onBoth (startupDone failed links repaired))
/-- INTERFACE_RETRAIN (R391). -/
def execInterfaceRetrain (stack margin : Nat) (low : Bool) (s : State) : Host.Outcome State Fault Refusal :=
  .next (s.onCore (fun t c => c.retrainInterface t stack margin low))
/-- SELFTEST_SLICE_START (R394). -/
def execSelftestSliceStart (die : Nat) (s : State) : Host.Outcome State Fault Refusal := .next (s.onCore (fun t c => c.sliceStart t die))
/-- SELFTEST_FENCED (R395). -/
def execSelftestFenced (die : Nat) (s : State) : Host.Outcome State Fault Refusal := .next (s.onCore (fun t c => c.fence t die))
/-- SELFTEST_SLICE_END (R399). -/
def execSelftestSliceEnd (die : Nat) (pass : Bool) (repaired : Nat) (s : State) : Host.Outcome State Fault Refusal :=
  .next (s.onBoth (sliceEnd die pass repaired))

end Sys2Proof.Machine
end

