-- ==== Sys2Proof/Machine/FormatCmd.lean ====
section
/-! DEFINITION. The 0x07xx commands: formats, narrowing policy, conformance checks and Chrysalis counters
(08_formats_and_transcoding.md, R243, R244). -/

namespace Sys2Proof.Machine

/-- One record of FORMAT_QUERY (R243): every format of R223 is a storage format and may be a narrowing target. -/
def Fmt.record (f : Fmt) : List Byte :=
  le 1 f.code ++ le 1 f.bits ++ le 1 f.scaleBytes ++ le 1 (5 + 2 * b2n f.compute) ++ le 4 f.largest.toNat ++
  le 4 f.smallest.toNat ++ zeros 4

/-- FORMAT_QUERY (R243). -/
def formatQueryBody (_t : Top) (c : Core) (_m : Nat) (_a : Cmd) : Ans :=
  ok c (le 1 Fmt.all.length ++ zeros 3 ++ Fmt.all.flatMap Fmt.record)

/-- FORMAT_POLICY_SET (R237, R244). -/
def formatPolicySetBody (_t : Top) (c : Core) (_m : Nat) (a : Cmd) : Ans := do
  let k := a.arg 0 1
  let tier := a.arg 1 1
  let target := a.arg 2 1
  c.clientArg k 0
  needArg (tier == 2 || tier == 3) 1
  needArg (target == 0 || (Fmt.ofCode target).isSome) 2
  let set := fun (x : Client) =>
    if tier = 2 then { x with narrow2 := Fmt.ofCode target } else { x with narrow3 := Fmt.ofCode target }
  ok { c with clients := c.clients.set k (set (c.client k)) }

/-- A narrowing target's code, 0 for KEEP (R243). -/
def targetCode (f : Option Fmt) : Nat := (f.map Fmt.code).getD 0

/-- FORMAT_POLICY_QUERY (R243). -/
def formatPolicyQueryBody (_t : Top) (c : Core) (_m : Nat) (a : Cmd) : Ans := do
  let k := a.arg 0 1
  c.clientArg k 0
  let x := c.client k
  ok c (le 1 (targetCode x.narrow2) ++ le 1 (targetCode x.narrow3) ++ zeros 2)

/-- The 32 inputs of QUANT_EVAL as FP32 values (R243). -/
def quantInputs (a : Cmd) (fp32 : Bool) : List F32 :=
  if fp32 then (List.range 32).map (fun i => BitVec.ofNat 32 (a.arg (4 + 4 * i) 4))
  else (List.range 32).map (fun i => bf16Widen (a.arg (4 + 2 * i) 2))

/-- QUANT_EVAL's computation (R244): FP32 inputs are rounded to BF16 for the BF16 code alone; then R231 to R233, then R229.
The answer is the scale, the element codes and the decoded values. -/
def quantEval (f : Fmt) (fp32 : Bool) (v : List F32) : Num (Nat × List Nat × List F32) := do
  let v ← (if f = .bf16 && fp32 then v.mapM bf16 else pure v)
  let (s, cs) ← quantise f v
  let b ← decodeBlock f s cs
  let ds ← blockValues b
  return (s, cs, ds)

/-- QUANT_EVAL (R244): what its rounding counts is counted for the Crest die that computes it, a free choice. -/
def quantEvalBody (t : Top) (c : Core) (_m : Nat) (a : Cmd) : Ans := do
  let fp32 := bit (a.arg 1 1) 0
  match Fmt.ofCode (a.arg 0 1) with
  | none => .error (.badArg, 0)
  | some f =>
    let v := quantInputs a fp32
    need (v.all (fun x => !x.special)) .badArg 0x00000B
    let ((s, cs, ds), n) := (quantEval f fp32 v).go
    let (cr, c) := c.chooseCrest t (List.range 32)
    ok (c.chrysCount cr n) (le 2 s ++ zeros 2 ++ fit 64 (le (4 * f.bits) (packNat f.bits cs)) ++ zeros 4 ++
      ds.flatMap (fun d => le 4 d.toNat))

/-- EXP_EVAL (R235, R244): −∞ gives +0, which is below 2^−150. -/
def expEvalBody (_t : Top) (c : Core) (_m : Nat) (a : Cmd) : Ans := do
  let x : F32 := BitVec.ofNat 32 (a.arg 0 4)
  needArg (!x.isNaN && (x.msb || x.isZero)) 0
  ok c (le 4 (if x.special then 0 else (expFp32 x).toNat))

/-- A Crest index of a query: one that exists and is not under test (R203, R244). -/
def chrysalisQueryBody (t : Top) (c : Core) (_m : Nat) (a : Cmd) : Ans := do
  let i := a.arg 0 1
  c.crestArg t i
  ok c (c.ctrBytes ((List.range 12).map (.chrys i)))

/-- FORMAT_QUERY. -/
def execFormatQuery (m : Nat) (s : State) : Host.Outcome State Fault Refusal := .next (runCommand m 0x0701 formatQueryBody s)
/-- FORMAT_POLICY_SET. -/
def execFormatPolicySet (m : Nat) (s : State) : Host.Outcome State Fault Refusal :=
  .next (runCommand m 0x0702 formatPolicySetBody s)
/-- FORMAT_POLICY_QUERY. -/
def execFormatPolicyQuery (m : Nat) (s : State) : Host.Outcome State Fault Refusal :=
  .next (runCommand m 0x0703 formatPolicyQueryBody s)
/-- QUANT_EVAL. -/
def execQuantEval (m : Nat) (s : State) : Host.Outcome State Fault Refusal := .next (runCommand m 0x0704 quantEvalBody s)
/-- EXP_EVAL. -/
def execExpEval (m : Nat) (s : State) : Host.Outcome State Fault Refusal := .next (runCommand m 0x0705 expEvalBody s)
/-- CHRYSALIS_QUERY. -/
def execChrysalisQuery (m : Nat) (s : State) : Host.Outcome State Fault Refusal :=
  .next (runCommand m 0x0706 chrysalisQueryBody s)

end Sys2Proof.Machine
end

