-- ==== Sys2Proof/Machine/Time.lean ====
section
/-! DEFINITION. Package time and its servo: steps (R32), sources (R31, R33, R35), TIME_SYNC (R36), the 1 PPS pins (R33, R34, R434) and the
correction over the mesh (R29). -/

namespace Sys2Proof.Machine

/-! ### The TIME block -/

/-- The time block changed, and TIME_STATUS raised where LOCKED, HOLDOVER or SYNC_LOST changed (R408). -/
def timeChange (f : TimeBlk → TimeBlk) (t : Top) (c : Core) : Top × Core :=
  let t' := t.onTime f
  (t', c.timeEvent t' t.time t'.time)

/-- TIME.CONTROL.SYNC_PORT (R37). -/
def TimeBlk.syncPort (b : TimeBlk) : Nat := bits b.control.toNat 4 2

/-- The sync interval in ns (R37): 0 acts as 8. -/
def TimeBlk.syncNs (b : TimeBlk) : Nat :=
  let k := bits b.control.toNat 15 8
  125000 * (if k = 0 then 8 else k)

/-- TIME.CONTROL.PPS_OUT_EN (R37). -/
def TimeBlk.ppsOutEn (b : TimeBlk) : Bool := b.control.getLsbD 16

/-- A step of package time is accepted (R32). -/
def Top.mayStep (t : Top) (v : Nat) : Bool :=
  (t.dev = .boot || t.dev = .train || t.dev = .selftest || t.dev = .ready) && t.now < v

/-- A write of TIME.STEP_LO (R32): package time steps forward, or STEP_REFUSED is set. -/
def Top.stepTime (v : Word) (t : Top) : Top :=
  let new := t.time.stepHi.toNat * 2 ^ 32 + v.toNat
  let t := t.onTime (fun b => { b with stepLo := v })
  if t.mayStep new then t.onTime (fun b => { b with now := new, stepSum := b.stepSum + (new - b.now) })
  else t.onTime (fun b => { b with stepRefused := true })

/-! ### The servo -/

/-- A measurement of source minus package time in ns (R31, R37): OFFSET takes it, saturated; more than 10 µs ahead sets AHEAD and
slews back at the full rate; otherwise the servo sets the rate. -/
def TimeBlk.steer (off : Int) (b : TimeBlk) : TimeBlk :=
  let b := { b with offset := max (-2147483648) (min 2147483647 off), servo := b.servo + 1 }
  if off < -10000 then { b with ahead := true, slew := (-off).toNat, rate := -200000 }
  else { b with ahead := false, slew := 0, rate := b.servoRate off }

/-- What an accepted measurement does to the run of good ones and to LOCKED (R33, R35). -/
def TimeBlk.judge (off : Int) (b : TimeBlk) : TimeBlk :=
  let b := { b with goodRun := if -20 ≤ off && off ≤ 20 then b.goodRun + 1 else 0 }
  if off < -100 || 100 < off then { b with locked := false } else b

/-- TIME_LOCKED (R33, R35): 16 good measurements in a row. -/
def TimeBlk.lock (b : TimeBlk) : TimeBlk := if b.source ≠ 0 && 16 ≤ b.goodRun then { b with locked := true } else b

/-! ### 1 PPS -/

/-- The error of a capture against its nearest whole second (R33). -/
def ppsError (v : Nat) : Int :=
  let r := v % 1000000000
  if r < 500000000 then (r : Int) else (r : Int) - 1000000000

/-- A 1 PPS edge captured (R33): rejected more than 1 ms from the expected point, except as the first after holdover; otherwise it
steers package time, and ends holdover. R33 does not say where the expected point is: DESIGN CHOICE, the whole second of package time that
is nearest to the capture, and not 1 s after the last accepted edge (log 157). -/
def TimeBlk.ppsEdge (v : Nat) (b : TimeBlk) : TimeBlk :=
  let e := ppsError v
  if !b.holdover && (e < -1000000 || 1000000 < e) then { b with ppsReject := true }
  else (({ b with ppsCapture := v, lastPps := some b.now, holdover := false } : TimeBlk).judge (-e)).steer (-e)

/-- PPS_EDGE: with SOURCE = PPS the edge is captured, less the input path delay of 2.5 ns, of which the whole ns that are subtracted
are a free choice (R434); a rejected one is counted. -/
def ppsEdge (t : Top) (c : Core) : Top × Core :=
  if t.time.source ≠ 1 then (t, c)
  else
    let (k, c) := c.pick
    let v := t.now - (2 + k % 2)
    let e := ppsError v
    let c := if !t.time.holdover && (e < -1000000 || 1000000 < e) then c.bump (.dev 3) else c
    timeChange (TimeBlk.ppsEdge v) t c

/-- PPS_HOLDOVER (R33): no edge accepted for 2.5 s; the rate is kept. -/
def TimeBlk.ppsLost (b : TimeBlk) : TimeBlk :=
  if b.source = 1 && !b.holdover && (b.lastPps.getD 0) + 2500000000 ≤ b.now then { b with holdover := true, locked := false, goodRun := 0 }
  else b

/-- PPS_OUT_RISE (R34): package time has crossed a whole second. -/
def TimeBlk.ppsRise (b : TimeBlk) : TimeBlk :=
  if b.ppsOutEn && !b.ppsOut && b.ppsOutSec < b.now / 1000000000 then { b with ppsOut := true, ppsOutSec := b.now / 1000000000 } else b

/-- PPS_OUT_FALL (R34): 100 µs later. -/
def TimeBlk.ppsFall (b : TimeBlk) : TimeBlk :=
  if b.ppsOut && b.ppsOutSec * 1000000000 + 100000 ≤ b.now then { b with ppsOut := false } else b

/-! ### TIME_SYNC -/

/-- The body of a TIME_SYNC message (R36). -/
def syncBody (kind : Nat) (seq : BitVec 32) (t1 t2 t3 : Nat) : List Byte :=
  le 1 kind ++ zeros 3 ++ le 4 seq.toNat ++ le 8 t1 ++ le 8 t2 ++ le 8 t3

/-- The package time at which a TIME_SYNC message's first flit can leave a port (R334): at the next flit boundary, or after the express
frame in progress. -/
def Port.syncStart (x : Port) (now : Nat) : Nat := max now (x.slotTime (x.frameSlot true now))

/-- A TIME_SYNC message sent on a port (R36, R305, R312, R334): one CONNLESS cell in an express frame, past queues, shapers and
gates. -/
def Core.sendSync (t : Top) (p dst cls : Nat) (body : List Byte) (c : Core) : Core :=
  let x := c.port p
  let m : Msg := {
    type := 0x70, flags := 16 + 2 * cls, src := t.nodeId, dst := dst, conn := 0xFFFF, seq := 0, stamp := stampOf (t.dieTime (passDie (p / 2))), job := c.jobId,
    crReq := 0, crRsp := 0, body := body }
  let f := cellBytes m false 0 true m.bytes
  let n := frameFlits f.length
  if x.state ≠ .up || !x.mayStart true (64 * n) || !c.txRoom t p f.length then c
  else
    let fr : TxFrame := { seq := x.express.next, payload := f, rsp := false, queue := 7, conn := 0xFFFF, mseq := 0 }
    let c := c.updPort p (fun x => x.onClass true (fun l => { l with
      next := l.next + 1, unacked := l.unacked ++ [fr], replay := if l.replay = 0 then 0 else l.replay + 1,
      timerAt := some (l.timerAt.getD (t.now + x.retryNs)) }))
    c.sendFrame t p true fr

/-- The time at which a TIME_SYNC message's first flit leaves a port, taken on the port's die (R29, R35). -/
def Core.syncLeaves (t : Top) (p : Nat) (c : Core) : Nat := t.dieTime (portDie p) + ((c.port p).syncStart t.now - t.now)

/-- The device's state lets it carry TIME_SYNC (R327): every state but OFF. -/
def Core.syncPortUp (t : Top) (p : Nat) (c : Core) : Bool := t.hasPort p && (c.port p).state == .up && !c.fenced (portDie p)

/-- TIME_SYNC_REQUEST (R35): answered on its port whatever this device's own source. -/
def Core.syncRequest (t : Top) (p : Nat) (m : TimeSync) (c : Core) : Core :=
  if !c.syncPortUp t p then c
  else c.sendSync t p m.src m.cls (syncBody 2 m.seq m.t1 (t.dieTime (portDie p)) (c.syncLeaves t p))

/-- SYNC_INTERVAL (R35): with SOURCE = FABRIC, a request is sent once per interval on SYNC_PORT. Its traffic class is a free choice. -/
def syncInterval (t : Top) (c : Core) : Top × Core :=
  let b := t.time
  let p := b.syncPort
  if b.source ≠ 2 || t.now < b.syncSentAt + b.syncNs then (t, c)
  else if !c.syncPortUp t p then (t.onTime (fun b => { b with syncSentAt := b.now }), c)
  else
    let (k, c) := c.pick
    let c := c.sendSync t p (c.port p).peerNode (k % 8) (syncBody 1 (b.syncSeq + 1) (c.syncLeaves t p) 0 0)
    (t.onTime (fun b => { b with syncSentAt := b.now, syncSeq := b.syncSeq + 1, syncAsked := true }), c)

/-- A number taken as a signed 64-bit one (R35). -/
def wrap64 (v : Int) : Int := sext 64 (v % (2 ^ 64 : Nat)).toNat

/-- TIME_SYNC_RESPONSE (R35, R36): one whose sequence is not that of a request sent last is discarded and counted; an exchange whose round
trip exceeds 2 µs is discarded; another steers package time. The halving truncates towards zero (00_scope.md, notation). -/
def syncResponse (p : Nat) (m : TimeSync) (t : Top) (c : Core) : Top × Core :=
  let b := t.time
  if !b.syncAsked || m.seq ≠ b.syncSeq then (t, c.bump (.dev 4))
  else if b.source ≠ 2 then (t, c)
  else
    let t4 : Int := t.dieTime (portDie p)
    let there : Int := (m.t2 : Int) - m.t1
    let back : Int := t4 - m.t3
    let trip := wrap64 ((t4 - m.t1) - ((m.t3 : Int) - m.t2))
    if 2000 < trip then (t, c)
    else
      let off := (wrap64 (there - back)).tdiv 2
      timeChange (fun b => (({ b with syncValidAt := b.now } : TimeBlk).judge off).steer off) t c

/-- SYNC_LOST (R35): no valid exchange for 16 intervals. -/
def TimeBlk.syncGone (b : TimeBlk) : TimeBlk :=
  if b.source = 2 && b.syncValidAt + 16 * b.syncNs ≤ b.now then { b with syncLost := true, locked := false, goodRun := 0 } else b

/-! ### Rows -/

/-- A row that changes the time block alone. -/
def onTimeBlk (f : TimeBlk → TimeBlk) (s : State) : State := s.onBoth (timeChange f)

/-- TIME_STEP (R32). -/
def execTimeStep (v : Word) (s : State) : Host.Outcome State Fault Refusal := .next (s.onBoth (fun t c => (t.stepTime v, c)))
/-- TIME_CONTROL_WRITE (R37). -/
def execTimeControlWrite (v : Word) (s : State) : Host.Outcome State Fault Refusal := .next (onTimeBlk (fun b => b.setControl v) s)
/-- TIME_SYNC_REQUEST (R35). -/
def execTimeSyncRequest (port : Nat) (msg : TimeSync) (s : State) : Host.Outcome State Fault Refusal :=
  .next (s.onCore (fun t c => c.syncRequest t port msg))
/-- TIME_SYNC_RESPONSE (R35). -/
def execTimeSyncResponse (port : Nat) (msg : TimeSync) (s : State) : Host.Outcome State Fault Refusal :=
  .next (s.onBoth (fun t c => if c.syncPortUp t port then syncResponse port msg t c else (t, c)))
/-- PPS_EDGE (R33). -/
def execPpsEdge (s : State) : Host.Outcome State Fault Refusal := .next (s.onBoth ppsEdge)
/-- PPS_HOLDOVER (R33). -/
def execPpsHoldover (s : State) : Host.Outcome State Fault Refusal := .next (onTimeBlk TimeBlk.ppsLost s)
/-- PPS_OUT_RISE (R34). -/
def execPpsOutRise (s : State) : Host.Outcome State Fault Refusal := .next (onTimeBlk TimeBlk.ppsRise s)
/-- PPS_OUT_FALL (R34). -/
def execPpsOutFall (s : State) : Host.Outcome State Fault Refusal := .next (onTimeBlk TimeBlk.ppsFall s)
/-- SYNC_INTERVAL (R35). -/
def execSyncInterval (s : State) : Host.Outcome State Fault Refusal := .next (s.onBoth syncInterval)
/-- SYNC_LOST (R35). -/
def execSyncLost (s : State) : Host.Outcome State Fault Refusal := .next (onTimeBlk TimeBlk.syncGone s)
/-- TIME_LOCKED (R33, R35). -/
def execTimeLocked (s : State) : Host.Outcome State Fault Refusal := .next (onTimeBlk TimeBlk.lock s)
/-- TIME_CORRECTION (R19, R29, R41): every 1 ms the primary Summit sends a correction to every other die in service, over the control class
of the mesh; one of the millisecond before that is still on its way has come in by then. -/
def timeCorrection (t : Top) (c : Core) : Top × Core :=
  if t.primaryDown || t.now / 1000000 ≤ t.time.corrected / 1000000 then (t, c)
  else
    let late := (Tbl.vals (c.telem.mesh.filter (fun e => e.2.cargo == .correction))).map Transfer.dst
    let t := late.foldl (fun (t : Top) d => t.onTime (fun b => b.correctCopy d (Config.pick (c.nonce + d)))) t
    let c := ({ c with nonce := c.nonce + 64 } : Core).meshEnd t (fun x => x.cargo == .correction)
    let ds := (List.range 64).filter (fun d => d ≠ t.primaryDie && !t.gone d)
    let c := ds.foldl (fun c d => c.meshSend t t.primaryDie d .control .correction (.time d) 1) (c.emit .timeCorrection)
    (t.onTime (fun b => { b with corrected := b.now }), c)

/-- TIME_CORRECTION (R29). -/
def execTimeCorrection (s : State) : Host.Outcome State Fault Refusal := .next (s.onBoth timeCorrection)

end Sys2Proof.Machine
end

