-- ==== Sys2Proof/Machine/Regs.lean ====
section
/-! DEFINITION. Registers as host software reads and writes them: BAR0 (R348 to R355, R302, R403, R432), mailboxes (R357), BAR4 (R347). -/

namespace Sys2Proof.Machine

/-! ### Throttles -/

/-- The thermal triggers that act on a Crest die (R430): its own, and those of the other dies of its quadrant. -/
def thermalOf (i : Nat) : List Nat := crestDie i :: ((List.range 16).filter (8 ≤ ·)).map (16 * (i / 8) + ·)

/-- A Crest die's compute and stream clock in sixteenths of nominal (R430): the lowest that any trigger sets. -/
def Core.crestClock (t : Top) (c : Core) (i : Nat) : Nat :=
  ((thermalOf i).filter (fun d => !t.gone d)).foldl (fun m d => min m (c.power.thermal.getD d 16)) (min c.power.tdp c.power.current)

/-- The lowest Crest compute clock in force (R432). -/
def Core.lowestClock (t : Top) (c : Core) : Nat := t.crests.foldl (fun m i => min m (c.crestClock t i)) 16

/-- Powered time since the start: package time less the steps that host software made (R32, R410). -/
def Top.powered (t : Top) : Nat := t.now - t.time.stepSum

/-- THROTTLE_NS (R432) as it stands now. -/
def Core.throttleNs (t : Top) (c : Core) : Rate :=
  if c.lowestClock t < 16 then (c.ctr (.dev 7)).up (t.powered - c.power.throttleAt) else c.ctr (.dev 7)

/-- THROTTLE_STATUS (R432). -/
def Core.throttleStatus (t : Top) (c : Core) : Nat :=
  b2n ((List.range 64).any (fun d => !t.gone d && c.power.thermal.getD d 16 < 16)) + 2 * b2n (decide (c.power.tdp < 16)) +
  4 * b2n (decide (c.power.current < 16)) + 8 * b2n c.power.droop + 256 * c.lowestClock t

/-- TEMP_MAX (R432): the hottest junction, and the lowest-numbered die that has it. -/
def Core.tempMax (c : Core) : Nat :=
  let hot := c.power.temps.foldl (fun (b : Nat × Nat) e => if b.1 < e.2 then (e.2, e.1) else b) (0, 0)
  hot.1 % 256 + 256 * (hot.2 % 64)

/-! ### Pins -/

/-- FAULT_N is driven low (R422). -/
def Top.faultPin (t : Top) : Bool := t.dev == .faulted || (t.dev == .boot && t.allFailed)

/-- The CXL_PERST_N outputs are asserted (R437): until phase 4, and so during each reset. -/
def Top.cxlPerst (t : Top) : Bool := t.dev == .off || t.dev == .boot

/-- I2C_ALERT_N is asserted (R440). -/
def Core.alertPin (t : Top) (c : Core) : Bool := t.dev == .faulted || bit (c.throttleStatus t) 0

/-! ### Words read -/

/-- BOOT_STATUS (R355). -/
def Top.bootStatus (t : Top) : Nat :=
  t.primary + 4 * t.summitFail.toNat + 64 * b2n t.allFailed + 128 * b2n t.fwValid + 256 * b2n t.cfgDefaulted

/-- EVQ_CTRL (R355). -/
def HostIf.evqCtrl (h : HostIf) : Nat := b2n h.evqEnable + 2 * h.evqSize + 256 * h.evqVector + 2 ^ 19 * b2n h.evqVectorEn

/-- A register of the TOP block (R355, R432); 0 where there is none. -/
def Core.readTop (t : Top) (c : Core) (off : Nat) : Nat :=
  let h := c.host
  match off with
  | 0x00 => 0x00010864 | 0x04 => t.dev.code | 0x08 => t.bootStatus
  | 0x10 => h.evqBase % 2 ^ 32 | 0x14 => h.evqHi | 0x18 => h.evqCtrl | 0x1C => h.evqTail | 0x20 => h.evqHead
  | 0x24 => (c.ctr (.dev 6)).toNat % 2 ^ 32 | 0x3C => (c.ctr (.dev 6)).toNat / 2 ^ 32
  | 0x28 => c.throttleStatus t
  | 0x2C => (c.throttleNs t).toNat % 2 ^ 32 | 0x30 => (c.throttleNs t).toNat / 2 ^ 32
  | 0x34 => c.meanPower % 2 ^ 16 | 0x38 => c.tempMax
  | _ => 0

/-- A register of the TIME block (R37). -/
def TimeBlk.reg (b : TimeBlk) (off : Nat) : Nat :=
  match off with
  | 0x00 => b.now % 2 ^ 32 | 0x04 => b.now / 2 ^ 32 % 2 ^ 32 | 0x08 => b.stepLo.toNat | 0x0C => b.stepHi.toNat
  | 0x10 => b.control.toNat | 0x14 => b.status | 0x18 => b.ppsCapture % 2 ^ 32 | 0x1C => b.ppsCapture / 2 ^ 32 % 2 ^ 32
  | 0x20 => (b.offset % (2 ^ 32 : Nat)).toNat | 0x24 => (b.rate % (2 ^ 32 : Nat)).toNat
  | _ => 0

/-- A register of an optical port's block (R302). -/
def Port.reg (x : Port) (off : Nat) : Nat :=
  match off with
  | 0x0 => x.state.code + 16 * x.cause + 256 * x.flags + 2048 * b2n x.changed
  | 0x4 => x.txMap.toNat + 2 ^ 16 * x.rxMap.toNat
  | _ => 0

/-- A register of the TELEMETRY block, by its offset there (R403): the queue's window, the instance and the word. -/
def Core.readTelemetry (c : Core) (off : Nat) : Nat :=
  let w := off - 0x01000000
  let q := w / 65536
  let i := w % 65536 / 16
  if off < 0x01000000 || qCount q ≤ i || 0x4000 ≤ w % 65536 then 0
  else
    let s := c.telem.shown.getD (qKey q i) (0, 0)
    match w % 16 with
    | 0x0 => s.1.toNat % 2 ^ 32 | 0x4 => s.1.toNat / 2 ^ 32 | 0x8 => s.2 | 0xC => (c.wm (wmQueue q i)).status
    | _ => 0

/-- ACCESS_STATUS of a block (R352). -/
def Core.accessStatus (t : Top) (c : Core) (b : Block) : Nat :=
  c.host.access.getD b.num 0 + b2n (c.host.farWrites.get? b.num).isSome +
  8 * b2n ((b.die.map c.fenced).getD false) + 16 * b2n ((b.die.map t.gone).getD false)

/-- What an aligned 32-bit read of BAR0 returns (R349, R352 to R354): the register, through an alias window too; all ones from the block
of a die that is fenced or absent; 0 where there is no register. -/
def Core.readReg (t : Top) (c : Core) (a : Nat) : Nat :=
  match blockAt a with
  | none => 0
  | some (b, off) =>
    let page := off / 65536
    let r := off % 0x4000
    if page = 0 && r = 0x3FFC then c.accessStatus t b
    else if (b.die.map (fun d => c.fenced d || t.gone d)).getD false then 0xFFFFFFFF
    else match b with
      | .top => if page = 0 then c.readTop t r else 0
      | .time => t.time.reg r
      | .oport p => if page = 0 then (c.port p).reg r else 0
      | .telemetry => c.readTelemetry (page * 65536 + r)
      | _ => 0

/-- STATUS of a mailbox (R357). -/
def Mbox.status (b : Mbox) : Nat := b.phase.code + 4 * b2n b.dbReject + 65536 * b.tag

/-- A byte of a mailbox (R357). -/
def Mbox.byte (b : Mbox) (off : Nat) : Byte :=
  if off < 0xFF0 then b.area.read off
  else if off < 0xFF4 then (le 4 b.owner.toNat).getD (off - 0xFF0) 0
  else if 0xFF8 ≤ off && off < 0xFFC then (le 4 b.status).getD (off - 0xFF8) 0
  else if 0x1000 ≤ off then b.resp.getD (off - 0x1000) 0
  else 0

/-! ### Words written -/

/-- How a write acts on the RW fields it reaches (R354). -/
inductive RegWrite where
  | plain | set | clear | invert
  deriving DecidableEq, Repr

/-- The window of a page that an offset lies in (R354). -/
def RegWrite.ofWindow (k : Nat) : RegWrite :=
  match k with
  | 0 => .plain | 1 => .set | 2 => .clear | _ => .invert

/-- The value that a register of RW fields takes. -/
def RegWrite.apply (w : RegWrite) (old v : Word) : Word :=
  match w with
  | .plain => v | .set => old ||| v | .clear => old &&& ~~~v | .invert => old ^^^ v

/-- ACCESS_STATUS bits raised on a block (R352): 1 TIMEOUT, 2 DROPPED, 5 SIZE_ERR. -/
def Core.setAccess (b : Block) (k : Nat) (c : Core) : Core :=
  c.onHost (fun h => { h with access := h.access.updD b.num 0 (fun v => if bit v k then v else v + 2 ^ k) })

/-- W1C bits of ACCESS_STATUS cleared (R352). -/
def Core.clearAccess (b : Block) (v : Nat) (c : Core) : Core :=
  c.onHost (fun h => { h with access := h.access.updD b.num 0 (fun w => Nat.land w (63 - Nat.land v 63)) })

/-- EVQ_CTRL written (R355, R365): SIZE_LOG2 is judged by ENABLE as it stood; clearing ENABLE zeroes TAIL and HEAD, setting it begins the
first pass. -/
def HostIf.setCtrl (h : HostIf) (v : Nat) : HostIf :=
  let n := bits v 5 1
  let en := bit v 0
  { h with
    evqEnable := en
    evqSize := if !h.evqEnable && 6 ≤ n && n ≤ 20 then n else h.evqSize
    evqVector := bits v 18 8
    evqVectorEn := bit v 19
    evqTail := if h.evqEnable && !en then 0 else h.evqTail
    evqHead := if h.evqEnable && !en then 0 else h.evqHead
    evqPhase := if !h.evqEnable && en then true else h.evqPhase }

/-- A register of the TOP block written (R355, R432), with the window it is written through. A write of EVQ_BASE_HI acts only when
EVQ_BASE_LO is written (R350). -/
def writeTop (w : RegWrite) (off : Nat) (v : Word) (t : Top) (c : Core) : Top × Core :=
  let h := c.host
  let rw := fun (old : Nat) => (w.apply (BitVec.ofNat 32 old) v).toNat
  match off with
  | 0x0C => if w = .plain && v.toNat % 256 = 0xA5 && v.getLsbD 8 then resetDevice true t c else (t, c)
  | 0x10 =>
    (t, if h.evqEnable then c else c.onHost (fun h => { h with evqBase := h.evqHi * 2 ^ 32 + rw (h.evqBase % 2 ^ 32) }))
  | 0x14 =>
    (t, if h.evqEnable then c else c.onHost (fun h => { h with evqHi := rw h.evqHi }))
  | 0x18 => (t, (c.onHost (fun h => h.setCtrl (rw h.evqCtrl))).evqWatch t)
  | 0x20 => (t, (c.onHost (fun h => { h with evqHead := rw h.evqHead % 2 ^ 20 })).evqWatch t)
  | 0x28 => (t, if w = .plain && v.getLsbD 3 then c.onPower (fun p => { p with droop := false }) else c)
  | _ => (t, c)

/-- A register of the TIME block written (R32, R37). STEP_HI alone changes nothing else (R350). -/
def writeTime (w : RegWrite) (off : Nat) (v : Word) (t : Top) (c : Core) : Top × Core :=
  match off with
  | 0x08 => (t.stepTime (w.apply t.time.stepLo v), c)
  | 0x0C => (t.onTime (fun b => { b with stepHi := w.apply b.stepHi v }), c)
  | 0x10 => timeChange (fun b => b.setControl (w.apply b.control v)) t c
  | 0x14 =>
    if w = .plain then timeChange (fun b => { b with
      stepRefused := b.stepRefused && !v.getLsbD 2, ppsReject := b.ppsReject && !v.getLsbD 4, syncLost := b.syncLost && !v.getLsbD 5 }) t c
    else (t, c)
  | _ => (t, c)

/-- A write posted to a far block (R351, R353): discarded for an absent die; dropped while an earlier one waits; otherwise BUSY until
it is applied. -/
def Core.postFar (t : Top) (b : Block) (off : Nat) (v : Word) (c : Core) : Core :=
  if (b.die.map t.gone).getD false then c
  else if (c.host.farWrites.get? b.num).isSome then c.setAccess b 2
  else c.onHost (fun h => { h with farWrites := h.farWrites.set b.num (off, v) })

/-- An aligned 32-bit write of BAR0 (R349 to R355). -/
def writeReg (a : Nat) (v : Word) (t : Top) (c : Core) : Top × Core :=
  match blockAt a with
  | none => (t, c)
  | some (b, off) =>
    let page := off / 65536
    let r := off % 0x4000
    let w := RegWrite.ofWindow (off % 65536 / 0x4000)
    if page = 0 && r = 0x3FFC then (t, if w = .plain then c.clearAccess b v.toNat else c)
    else if b.far then (t, c.postFar t b off v)
    else match b with
      | .top => if page = 0 then writeTop w r v t c else (t, c)
      | .time => writeTime w r v t c
      | .telemetry =>
        let q := (off - 0x01000000) / 65536
        (t, if w = .plain && 0x01000000 ≤ off && r % 16 = 0xC && r / 16 < qCount q && v.getLsbD 1 then c.clearWm (wmQueue q (r / 16)) else c)
      | _ => (t, c)

/-- A BAR0 write of any size (R349): 64 bits are two words, the lower address first; any other size, or one that is not aligned, is
ignored and sets SIZE_ERR. -/
def writeBar0 (a size : Nat) (v : BitVec 64) (t : Top) (c : Core) : Top × Core :=
  if size = 4 && a % 4 = 0 then writeReg a (v.setWidth 32) t c
  else if size = 8 && a % 8 = 0 then
    let (t, c) := writeReg a (v.setWidth 32) t c
    writeReg (a + 4) ((v >>> 32).setWidth 32) t c
  else match blockAt a with
    | some (b, _) => (t, c.setAccess b 5)
    | none => (t, c)

/-- A word of a mailbox beyond its command area written (R357 to R359). -/
def Core.writeMbox (t : Top) (m off : Nat) (v : Word) (c : Core) : Core :=
  match off with
  | 0xFF0 => if v = 0 then c.release m else c.claim m v.toNat
  | 0xFF4 => c.doorbell t m (v.toNat % 65536)
  | 0xFF8 => if v.getLsbD 2 then c.updMbox m (fun b => { b with dbReject := false }) else c
  | _ => c

/-- A BAR2 write (R347, R357): bytes of the command area, or aligned words beyond it; the response area ignores writes. -/
def Core.writeBar2 (t : Top) (a size : Nat) (v : BitVec 64) (c : Core) : Core :=
  let m := a / 0x2000
  let off := a % 0x2000
  let bs := le (min size 8) v.toNat
  if 64 ≤ m then c
  else if off < 0xFF0 then c.updMbox m (fun b => { b with area := b.area.writeN off (bs.take (0xFF0 - off)) })
  else if size = 4 && off % 4 = 0 then c.writeMbox t m off (v.setWidth 32)
  else if size = 8 && off % 8 = 0 then (c.writeMbox t m off (v.setWidth 32)).writeMbox t m (off + 4) ((v >>> 32).setWidth 32)
  else c

/-- A BAR4 write (R347): the MSI-X table; the pending-bit array is read-only. -/
def Core.writeBar4 (a size : Nat) (v : BitVec 64) (c : Core) : Core :=
  if 0x8000 ≤ a then c
  else c.onHost (fun h => { h with bar4 := h.bar4.writeN a ((le (min size 8) v.toNat).take (0x8000 - a)) })

/-- A register write by BAR, address and size (R347). -/
def writeAny (bar a size : Nat) (v : BitVec 64) (t : Top) (c : Core) : Top × Core :=
  match bar with
  | 0 => writeBar0 a size v t c
  | 2 => (t, c.writeBar2 t a size v)
  | 4 => (t, c.writeBar4 a size v)
  | _ => (t, c)

/-- A write through an alias window of BAR0 (R354): the address lies in the window. -/
def aliasWrite (w : RegWrite) (a : Nat) (v : Word) (t : Top) (c : Core) : Top × Core :=
  if RegWrite.ofWindow (a % 65536 / 0x4000) = w then writeBar0 a 4 (v.setWidth 64) t c else (t, c)

/-- FAR_WRITE_APPLIED (R351, R353): the write to a far block is applied once its die is not fenced, and BUSY clears. -/
def Core.applyFar (t : Top) (n : Nat) (c : Core) : Core :=
  if (((Block.ofNum n).bind Block.die).map c.fenced).getD false then c else c.applyHeld t n

/-- FAR_READ_TIMEOUT (R351, R353): TIMEOUT is set, but for the block of an absent die. -/
def Core.farTimeout (t : Top) (n : Nat) (c : Core) : Core :=
  match Block.ofNum n with
  | some b => if (b.die.map t.gone).getD false then c else c.setAccess b 1
  | none => c

/-! ### Reads -/

/-- A 32-bit read of BAR0 as the host makes it (R351, R353): a far block answers after the writes accepted before it have been applied;
the block of a fenced die returns all ones and sets TIMEOUT, that of an absent one returns all ones. -/
def Core.read32 (t : Top) (a : Nat) (c : Core) : BitVec 32 × Core :=
  match blockAt a with
  | none => (0, c)
  | some (b, off) =>
    if off / 65536 = 0 && off % 0x4000 = 0x3FFC then (BitVec.ofNat 32 (c.readReg t a), c)
    else
      let c := if b.far then c.applyFar t b.num else c
      (BitVec.ofNat 32 (c.readReg t a),
        if (b.die.map (fun d => c.fenced d && !t.gone d)).getD false then c.setAccess b 1 else c)

/-- A read of BAR0 of any size (R349): 64 bits are two words, the lower address first; any other size, or one that is not aligned,
returns all ones and sets SIZE_ERR. The table has no row for a read, so no command calls this. -/
def Core.readBar0 (t : Top) (a size : Nat) (c : Core) : BitVec 64 × Core :=
  if size = 4 && a % 4 = 0 then
    let (v, c) := c.read32 t a
    (v.setWidth 64, c)
  else if size = 8 && a % 8 = 0 then
    let (lo, c) := c.read32 t a
    let (hi, c) := c.read32 t (a + 4)
    (hi ++ lo, c)
  else
    (if size = 4 then 0xFFFFFFFF else 0xFFFFFFFFFFFFFFFF, match blockAt a with
      | some (b, _) => c.setAccess b 5
      | none => c)

/-! ### Rows -/

/-- EVQ_CTRL_WRITE (R365). -/
def execEvqCtrlWrite (v : Word) (s : State) : Host.Outcome State Fault Refusal :=
  .next (s.onCore (fun t c => (c.onHost (fun h => h.setCtrl v.toNat)).evqWatch t))
/-- EVQ_HEAD_WRITE (R366). -/
def execEvqHeadWrite (v : Word) (s : State) : Host.Outcome State Fault Refusal :=
  .next (s.onCore (fun t c => (c.onHost (fun h => { h with evqHead := v.toNat % 2 ^ 20 })).evqWatch t))
/-- ALIAS_SET (R354). -/
def execAliasSet (addr : Nat) (v : Word) (s : State) : Host.Outcome State Fault Refusal := .next (s.onBoth (aliasWrite .set addr v))
/-- ALIAS_CLEAR (R354). -/
def execAliasClear (addr : Nat) (v : Word) (s : State) : Host.Outcome State Fault Refusal := .next (s.onBoth (aliasWrite .clear addr v))
/-- ALIAS_INVERT (R354). -/
def execAliasInvert (addr : Nat) (v : Word) (s : State) : Host.Outcome State Fault Refusal := .next (s.onBoth (aliasWrite .invert addr v))
/-- REGISTER_WRITE (R349). -/
def execRegisterWrite (bar addr size : Nat) (v : BitVec 64) (s : State) : Host.Outcome State Fault Refusal :=
  .next (s.onBoth (writeAny bar addr size v))
/-- FAR_WRITE_APPLIED (R351). -/
def execFarWriteApplied (blk : Nat) (s : State) : Host.Outcome State Fault Refusal := .next (s.onCore (fun t c => c.applyFar t blk))
/-- FAR_READ_TIMEOUT (R351). -/
def execFarReadTimeout (blk : Nat) (s : State) : Host.Outcome State Fault Refusal := .next (s.onCore (fun t c => c.farTimeout t blk))

end Sys2Proof.Machine
end

