-- ==== Sys2Proof/Machine/Pins.lean ====
section
/-! DEFINITION. Power, reset and optical pins, thermal and power sensing (R421 to R433), the PCIe endpoint's resets and completions (R435,
R436), CXL removal (R437), I3C, I²C and the test access port (R439 to R441). -/

namespace Sys2Proof.Machine

/-! ### Power and reset -/

/-- Power lost (R380, R428): the device is OFF, and nothing volatile is left. It happens whatever the device is doing. -/
def State.powerLost (s : State) : State :=
  { s with top := { s.top.restart with dev := .off, jtag := .idcode }, core := s.core.restart [] }

/-- POWER_GOOD (R379, R380): from OFF, boot phase 1 begins. -/
def State.powerUp (s : State) : State := if s.top.dev = .off then { s with top := s.top.restart, core := s.core.restart [] } else s

/-- POWER_WARN_N asserted (R428): a write of the lifetime store starts, unless one runs. -/
def Core.powerWarn (t : Top) (c : Core) : Core := if c.telem.lifeBusy then c else c.lifeBegin t []

/-- PERST_N asserted while POWER_GOOD holds (R436): a reset of the device, its endpoint and the MSI-X table. -/
def perstAssert (t : Top) (c : Core) : Top × Core :=
  if t.perst then (t, c)
  else
    let (t, c) := resetDevice false t c
    ({ t with perst := true }, c)

/-! ### PCIe -/

/-- A completion for a read of host memory (R435): the access or command that issued it goes on, or fails. Data that fall short of the
request are an error. -/
def readDone (req : Nat) (good : Bool) (data : List Byte) (t : Top) (c : Core) : Top × Core :=
  match c.fabric.reads.get? req with
  | none => (t, c)
  | some (p, n) =>
    let good := good && data.length == n
    let data := data.take n
    let c := c.onFabric (fun f => { f with reads := f.reads.del req })
    match p with
    | .region cid tag cls ver rid =>
      let body := if good then memCompletion tag .ok 0 ver 0 data else memCompletion tag .poisoned 0 0 0 []
      let more := ((c.fabric.joins.get? req).map ReadJoin.more).getD []
      let c := (c.onFabric (fun f => { f with joins := f.joins.del req })).sendMsg t cid 0x53 true cls body none
      let c := more.foldl (fun c (cid, tag, cls) => c.sendMsg t cid 0x53 true cls (le 4 tag ++ body.drop 4) none) c
      (t, c.closeRegion rid)
    | .sendPost m cid cls tag rid =>
      let c := c.closeRegion rid
      (t, if !good then c.stage m .timeout 0 []
        else if (c.conn cid).state = .opened then c.postSend t m cid cls tag data
        else c.stage m .portDown 0 [])
    | .indexLoad m x => (t, c.indexLoaded m x good data)
    | .cfgLoad m => cfgLoaded m good data t c
    | .fwLoad m => fwLoaded m good data t c

/-- A mailbox after a function reset (R436): a command in progress runs on, and its response will be discarded. -/
def Mbox.functionReset (b : Mbox) : Mbox :=
  { b with owner := 0, phase := .idle, dbReject := false, tag := 0, discard := b.taken.isSome }

/-- A function level reset, hot reset or link down (R436). -/
def functionReset (t : Top) (c : Core) : Top × Core :=
  let (t, c) := c.fabric.reads.keys.foldl (fun (s : Top × Core) k => readDone k false [] s.1 s.2) (t, c)
  let c := c.onHost (fun h => { h with
    mboxes := h.mboxes.mapVal (fun _ b => b.functionReset), dbOrder := [], bar4 := [] })
  let c := c.onHost (fun h => if h.evqEnable then h.setCtrl (h.evqCtrl - 1) else h)
  (t, c.evqWatch t)

/-! ### Ports -/

/-- A port that is not DISABLED enters DOWN (R433), whichever state it is in. -/
def Core.forceDown (t : Top) (p cause : Nat) (c : Core) : Core :=
  let x := c.port p
  if x.state = .disabled then c
  else if x.state = .up || x.state = .retrain then c.goDown t p cause
  else
    let c := c.updPort p (fun x => { x with
      cause := cause, attemptAt := none, acked := false, helloAt := none, laneReq := none, reqAt := none, calAt := none, stopped := false })
    if x.state = .down then c
    else
      let c := c.updPort p (fun x => { x with downs := t.now :: x.downs.filter (fun d => t.now < d + 1000000000) })
      (((c.bump (.port p 12)).setPortState p .down).raise t 0x0902 (portDie p) p (le 1 cause ++ le 1 PortState.down.code)).checkNodes t p

/-- FIBRE_PRESENT_N high (R421): LASER_EN is driven low, and a port that carries frames goes down with cause LASER. -/
def Core.unmate (t : Top) (p : Nat) (c : Core) : Core :=
  (c.updPort p (fun x => { x with mated := false, laserEn := false })).goDown t p 3

/-- FIBRE_PRESENT_N low (R421). -/
def Core.mate (p : Nat) (c : Core) : Core := c.updPort p (fun x => { x with mated := true, laserEn := x.state != .disabled })

/-- TX_REFCLK lost for more than 1 µs (R433): every port not DISABLED goes down with cause LANES. -/
def refclkLost (t : Top) (c : Core) : Top × Core :=
  let t := { t with txRefclk := false }
  (t, (List.range 8).foldl (fun c p => if t.hasPort p then c.forceDown t p 1 else c) c)

/-- An in-band interrupt of a laser module (R439): bit 7 of its mandatory byte names a failing source. -/
def Core.laserIbi (t : Top) (b : Byte) (c : Core) : Core :=
  let p := b.toNat % 8
  if b.getLsbD 7 && t.hasPort p then c.goDown t p 3 else c

/-! ### Sidebands -/

/-- The value of an SMBus block read (R440). -/
def Core.smbus (t : Top) (c : Core) (code : Byte) : Word :=
  BitVec.ofNat 32 (match code.toNat with
    | 0 => c.readTop t 0x00 | 1 => c.readTop t 0x04 | 2 => c.readTop t 0x08 | 3 => c.readTop t 0x38
    | 4 => c.readTop t 0x34 | 5 => c.readTop t 0x28 | 6 => t.nodeId | _ => 0xFFFFFFFF)

/-- What the loaded test access port instruction does now (R441): EXTEST, CLAMP and HIGHZ act only while PERST_N is held asserted, and
a fused-off instruction acts as BYPASS. -/
def Top.jtagActs (t : Top) : JtagIns :=
  match t.jtag with
  | .extest => if t.perst then .extest else .bypass
  | .clamp => if t.perst then .clamp else .bypass
  | .highz => if t.perst then .highz else .bypass
  | .other => .bypass
  | i => i

/-! ### Temperature -/

/-- The time below nominal clocks brought up to now (R432). -/
def Core.acctThrottle (t : Top) (c : Core) : Core :=
  let c := if c.lowestClock t < 16 then c.bump (.dev 7) (t.powered - c.power.throttleAt) else c
  c.onPower (fun p => { p with throttleAt := t.powered })

/-- One 1 ms step of a throttle (R430): one sixteenth down to half, or up to nominal. -/
def throttleStep (down up : Bool) (k : Nat) : Nat := if down then max 8 (k - 1) else if up then min 16 (k + 1) else k

/-- The 1 ms steps of every throttle (R430). -/
def Core.throttle (t : Top) (c : Core) : Core :=
  let p := c.power
  let watts := c.meanPower
  let calm := p.over_.all (fun e => e.2 + 1000000 ≤ t.now)
  let cur := throttleStep false calm p.current
  c.onPower (fun p => { p with
    thermal := (List.range 64).foldl (fun tb d =>
      if t.gone d then tb
      else
        let v := p.temps.getD d 0
        tb.set d (throttleStep (100 ≤ v) (v < 97) (tb.getD d 16))) p.thermal
    tdp := throttleStep (1250 ≤ watts) (watts < 1220) p.tdp
    current := cur
    over_ := if cur = 16 then [] else p.over_ })

/-- The bin of a junction temperature (R410). -/
def tempBin (v : Nat) : Nat := if v < 30 then 0 else min 15 ((v - 25) / 5)

/-- Lifetime items 0x01, 0x03, 0x04 and 0x05 for the whole seconds of powered time that have passed (R410). A lane's error exponent is a
free value. -/
def Core.countSeconds (t : Top) (c : Core) : Core :=
  let n := t.powered / 1000000000 - c.power.secs
  if n = 0 || !c.telem.lifeLoaded then c
  else
    let c := (List.range 64).foldl (fun c d =>
      ((c.life t d 0x01 0 n).life t d 0x03 (tempBin (c.power.temps.getD d 0)) n).life t d 0x04 (min 15 (c.power.worst.getD d 0 / 8)) n) c
    let c := (List.range 8).foldl (fun c p =>
      if (c.port p).state = .up then (List.range 16).foldl (fun c l =>
        let (v, c) := c.pick
        c.life t (portDie p) 0x05 (16 * l + v % 16) n) c
      else c) c
    c.onPower (fun p => { p with worst := [], secs := t.powered / 1000000000 })

/-- TEMPERATURE_SAMPLE (R429, R430): due every 1 ms. -/
def Core.sampleTemps (t : Top) (vs : List Nat) (c : Core) : Core :=
  if t.now / 1000000 ≤ c.power.tempAt / 1000000 then c
  else
    let up := (List.range 64).filter (fun d => !t.gone d)
    let c := c.acctThrottle t
    let c := c.onPower (fun p => { p with tempAt := t.now, temps := up.foldl (fun tb d => tb.set d (vs.getD d 0)) p.temps })
    let c := c.throttle t
    let c := up.foldl (fun c d => c.watch t (4 * 2 ^ 24 + d) true (95, 90) (vs.getD d 0) d) c
    c.countSeconds t

/-- THERMTRIP (R430): the pin is asserted and held, every clock stops, and every LASER_EN is driven low. -/
def thermtrip (d : Nat) (t : Top) (c : Core) : Top × Core :=
  if t.gone d then (t, c)
  else ({ t with thermtrip := true }, ({ c with ports := c.ports.mapVal (fun _ x => { x with laserEn := false }) } : Core).emit .thermtrip)

/-! ### Rails -/

/-- The continuous limit of each rail in mA, in the order of R423. -/
def railLimits : List Nat := [1000000, 320000, 140000, 70000, 8000, 130000, 35000, 14000, 15000, 2000, 2000]

/-- Millivolts and milliamperes that count for a rail (R425): without a reading for 10 ms its current is its continuous limit. -/
def Power.railNow (p : Power) (k : Nat) : Nat × Nat :=
  let r := p.rails.getD k (0, 0)
  if 100 ≤ p.missing.getD k 0 then (r.1, railLimits.getD k 0) else r

/-- One rail's reading taken (R425). -/
def Power.readRail (p : Power) (k : Nat) (r : RailReading) : Power :=
  match r with
  | .value mv ma => { p with rails := p.rails.set k (mv, ma), missing := p.missing.set k 0 }
  | .missing => { p with missing := p.missing.set k (p.missing.getD k 0 + 1) }

/-- Package power in whole W (R425): the sum of the rails' products. -/
def Power.watts (p : Power) : Nat := sumL ((List.range 11).map (fun k => (p.railNow k).1 * (p.railNow k).2)) / 1000000

/-- POWER_SAMPLE (R425, R159, R430): due every 100 µs; a rail that tripped its limit is watched for its fall below 90 % of it. -/
def Core.samplePower (t : Top) (rs : List RailReading) (c : Core) : Core :=
  if t.now / 100000 ≤ c.power.powerAt / 100000 then c
  else
    let c := c.bump (.dev 5) ((rs.take 11).filter (· == RailReading.missing)).length
    let c := c.onPower (fun p =>
      let p := (rs.take 11).zipIdx.foldl (fun p e => p.readRail e.2 e.1) p
      { p with
        powerAt := t.now, samples := (p.watts :: p.samples).take 10, sinceBind := min 10 (p.sinceBind + 1)
        over_ := p.over_.mapVal (fun k u => if 10 * (p.railNow k).2 < 9 * railLimits.getD k 0 then u else t.now) })
    (c.onSched (fun s => { s with coolUntil := none })).watchPower t

/-- RAIL_OVERCURRENT (R430): the clocks of every Crest die are halved. -/
def Core.overcurrent (t : Top) (k : Nat) (c : Core) : Core :=
  if 11 ≤ k then c else (c.acctThrottle t).onPower (fun p => { p with current := 8, over_ := p.over_.set k t.now })

/-- SUPPLY_DROOP (R426, R430, R432): a fall of more than 50 mV stretches the die's clocks; the worst in a second is kept. -/
def Core.droops (t : Top) (d mv : Nat) (c : Core) : Core :=
  if t.gone d then c
  else c.onPower (fun p => { p with droop := p.droop || decide (50 < mv), worst := p.worst.updD d 0 (max mv) })

/-- The AVS rails by their order in R423: the place of a rail among VCORE_C, VCORE_U and OPT_CORE, with its range in mV (R423). -/
def avsRail (rail : Nat) : Option (Nat × Nat × Nat) :=
  match rail with
  | 0 => some (0, 600, 850) | 1 => some (1, 650, 850) | 5 => some (2, 650, 850) | _ => none

/-- AVS_ADJUST (R424): after phase 1, a step of at most 10 mV, no closer than 20 µs to the last; a fixed rail is never written. -/
def Core.avsStep (t : Top) (rail mv : Nat) (c : Core) : Core :=
  match avsRail rail with
  | none => c
  | some (k, lo, hi) =>
    let old := c.power.avs.getD k 800
    if t.phase = 1 || mv < lo || hi < mv || mv + 10 < old || old + 10 < mv || t.now < c.power.avsAt.getD k 0 + 20000 then c
    else (c.onPower (fun p => { p with avs := p.avs.set k mv, avsAt := p.avsAt.set k t.now })).emit (.avs rail mv)

/-! ### Rows -/

/-- POWER_GOOD (R379). -/
def execPowerGood (s : State) : Host.Outcome State Fault Refusal := .next s.powerUp
/-- POWER_LOST (R428). -/
def execPowerLost (s : State) : Host.Outcome State Fault Refusal := .next s.powerLost
/-- POWER_WARN (R428). -/
def execPowerWarn (s : State) : Host.Outcome State Fault Refusal := .next (s.onCore (fun t c => c.powerWarn t))
/-- PERST_ASSERT (R436); in OFF the pin alone changes. -/
def execPerstAssert (s : State) : Host.Outcome State Fault Refusal :=
  .next (if s.top.live then s.onBoth perstAssert else { s with top := { s.top with perst := true } })
/-- PERST_RELEASE (R436). -/
def execPerstRelease (s : State) : Host.Outcome State Fault Refusal := .next { s with top := { s.top with perst := false } }
/-- PCIE_FUNCTION_RESET (R436). -/
def execPcieFunctionReset (s : State) : Host.Outcome State Fault Refusal := .next (s.onBoth functionReset)
/-- FIBRE_UNMATED (R421). -/
def execFibreUnmated (port : Nat) (s : State) : Host.Outcome State Fault Refusal := .next (onPort port (fun t c => c.unmate t port) s)
/-- FIBRE_MATED (R421). -/
def execFibreMated (port : Nat) (s : State) : Host.Outcome State Fault Refusal := .next (onPort port (fun _ c => c.mate port) s)
/-- TX_REFCLK_LOSS (R433). -/
def execTxRefclkLoss (s : State) : Host.Outcome State Fault Refusal := .next (s.onBoth refclkLost)
/-- TX_REFCLK_RETURN (R433): bring-up resumes. -/
def execTxRefclkReturn (s : State) : Host.Outcome State Fault Refusal := .next (s.onBoth (fun t c => ({ t with txRefclk := true }, c)))
/-- I3C_IBI (R439). -/
def execI3cIbi (mdb : Byte) (s : State) : Host.Outcome State Fault Refusal := .next (s.onCore (fun t c => c.laserIbi t mdb))
/-- SMBUS_BLOCK_READ (R440). -/
def execSmbusBlockRead (code : Byte) (s : State) : Host.Outcome State Fault Refusal :=
  .next (s.onCore (fun t c => c.emit (.smbus (c.smbus t code))))
/-- JTAG_INSTRUCTION (R441). -/
def execJtagInstruction (ins : JtagIns) (s : State) : Host.Outcome State Fault Refusal :=
  .next (s.onBoth (fun t c =>
    let t := { t with jtag := ins }
    (t, c.emit (.jtag t.jtagActs))))
/-- CXL_SURPRISE_REMOVAL (R437): the warm space keeps its size, and every unit on the device counts as uncorrectable. -/
def execCxlSurpriseRemoval (device : Nat) (s : State) : Host.Outcome State Fault Refusal :=
  .next (s.onBoth (fun t c =>
    (if device < t.warmDevices.length && !t.warmRemoved.contains device then { t with warmRemoved := t.warmRemoved ++ [device] } else t, c)))
/-- TEMPERATURE_SAMPLE (R429, R430). -/
def execTemperatureSample (temps : List Nat) (s : State) : Host.Outcome State Fault Refusal :=
  .next (s.onCore (fun t c => c.sampleTemps t temps))
/-- THERMTRIP (R430). -/
def execThermtrip (die : Nat) (s : State) : Host.Outcome State Fault Refusal := .next (s.onBoth (thermtrip die))
/-- POWER_SAMPLE (R425). -/
def execPowerSample (rails : List RailReading) (s : State) : Host.Outcome State Fault Refusal :=
  .next (s.onCore (fun t c => c.samplePower t rails))
/-- RAIL_OVERCURRENT (R430). -/
def execRailOvercurrent (rail : Nat) (s : State) : Host.Outcome State Fault Refusal := .next (s.onCore (fun t c => c.overcurrent t rail))
/-- SUPPLY_DROOP (R426). -/
def execSupplyDroop (die mv : Nat) (s : State) : Host.Outcome State Fault Refusal := .next (s.onCore (fun t c => c.droops t die mv))
/-- AVS_ADJUST (R424). -/
def execAvsAdjust (rail mv : Nat) (s : State) : Host.Outcome State Fault Refusal := .next (s.onCore (fun t c => c.avsStep t rail mv))
/-- PCIE_READ_COMPLETION (R435). -/
def execPcieReadCompletion (req : Nat) (good : Bool) (data : List Byte) (s : State) : Host.Outcome State Fault Refusal :=
  .next (s.onBoth (readDone req good data))

end Sys2Proof.Machine
end

