-- ==== Sys2Proof/Machine/Dispatch.lean ====
section
/-! DEFINITION. What each command does: one arm per constructor, one direct call of a meaning each. -/

namespace Sys2Proof.Machine

/-- The effect of a command on everything but the queue of waiting commands. -/
def exec (i : Instr) (s : State) : Host.Outcome State Fault Refusal :=
  match i with
  | .deviceQuery m => Sys2Proof.Machine.execDeviceQuery m s
  | .capQuery m => Sys2Proof.Machine.execCapQuery m s
  | .jobBind m => Sys2Proof.Machine.execJobBind m s
  | .jobRelease m => Sys2Proof.Machine.execJobRelease m s
  | .roleSet m => Sys2Proof.Machine.execRoleSet m s
  | .mboxReclaim m => Sys2Proof.Machine.execMboxReclaim m s
  | .ctxAdmit m => Sys2Proof.Machine.execCtxAdmit m s
  | .ctxQuery m => Sys2Proof.Machine.execCtxQuery m s
  | .ctxSet m => Sys2Proof.Machine.execCtxSet m s
  | .ctxPause m => Sys2Proof.Machine.execCtxPause m s
  | .ctxPark m => Sys2Proof.Machine.execCtxPark m s
  | .ctxResume m => Sys2Proof.Machine.execCtxResume m s
  | .ctxRetire m => Sys2Proof.Machine.execCtxRetire m s
  | .ctxList m => Sys2Proof.Machine.execCtxList m s
  | .tierQuery m => Sys2Proof.Machine.execTierQuery m s
  | .quotaSet m => Sys2Proof.Machine.execQuotaSet m s
  | .quotaQuery m => Sys2Proof.Machine.execQuotaQuery m s
  | .tier0Set m => Sys2Proof.Machine.execTier0Set m s
  | .stripeSet m => Sys2Proof.Machine.execStripeSet m s
  | .poolGrant m => Sys2Proof.Machine.execPoolGrant m s
  | .poolRevoke m => Sys2Proof.Machine.execPoolRevoke m s
  | .pageQuery m => Sys2Proof.Machine.execPageQuery m s
  | .moveStart m => Sys2Proof.Machine.execMoveStart m s
  | .moveAbort m => Sys2Proof.Machine.execMoveAbort m s
  | .moveQuery m => Sys2Proof.Machine.execMoveQuery m s
  | .moveParamSet m => Sys2Proof.Machine.execMoveParamSet m s
  | .parkTtlSet m => Sys2Proof.Machine.execParkTtlSet m s
  | .schedSet m => Sys2Proof.Machine.execSchedSet m s
  | .schedQuery m => Sys2Proof.Machine.execSchedQuery m s
  | .clientSchedSet m => Sys2Proof.Machine.execClientSchedSet m s
  | .clientSchedQuery m => Sys2Proof.Machine.execClientSchedQuery m s
  | .deadlineSet m => Sys2Proof.Machine.execDeadlineSet m s
  | .deadlineQuery m => Sys2Proof.Machine.execDeadlineQuery m s
  | .acctQuery m => Sys2Proof.Machine.execAcctQuery m s
  | .acctCtxQuery m => Sys2Proof.Machine.execAcctCtxQuery m s
  | .stragglerSet m => Sys2Proof.Machine.execStragglerSet m s
  | .shapeCheck m => Sys2Proof.Machine.execShapeCheck m s
  | .shapeQuery m => Sys2Proof.Machine.execShapeQuery m s
  | .sliceSet m => Sys2Proof.Machine.execSliceSet m s
  | .sliceQuery m => Sys2Proof.Machine.execSliceQuery m s
  | .planQuery m => Sys2Proof.Machine.execPlanQuery m s
  | .ropeEval m => Sys2Proof.Machine.execRopeEval m s
  | .hawkmothQuery m => Sys2Proof.Machine.execHawkmothQuery m s
  | .formatQuery m => Sys2Proof.Machine.execFormatQuery m s
  | .formatPolicySet m => Sys2Proof.Machine.execFormatPolicySet m s
  | .formatPolicyQuery m => Sys2Proof.Machine.execFormatPolicyQuery m s
  | .quantEval m => Sys2Proof.Machine.execQuantEval m s
  | .expEval m => Sys2Proof.Machine.execExpEval m s
  | .chrysalisQuery m => Sys2Proof.Machine.execChrysalisQuery m s
  | .indexCreate m => Sys2Proof.Machine.execIndexCreate m s
  | .indexLoad m => Sys2Proof.Machine.execIndexLoad m s
  | .indexSeal m => Sys2Proof.Machine.execIndexSeal m s
  | .indexMerge m => Sys2Proof.Machine.execIndexMerge m s
  | .indexQuery m => Sys2Proof.Machine.execIndexQuery m s
  | .indexDestroy m => Sys2Proof.Machine.execIndexDestroy m s
  | .searchSet m => Sys2Proof.Machine.execSearchSet m s
  | .lunaQuery m => Sys2Proof.Machine.execLunaQuery m s
  | .portQuery m => Sys2Proof.Machine.execPortQuery m s
  | .portSet m => Sys2Proof.Machine.execPortSet m s
  | .portBond m skew => Sys2Proof.Machine.execPortBond m skew s
  | .laneQuery m => Sys2Proof.Machine.execLaneQuery m s
  | .portRetrain m => Sys2Proof.Machine.execPortRetrain m s
  | .pdAlloc m => Sys2Proof.Machine.execPdAlloc m s
  | .pdFree m => Sys2Proof.Machine.execPdFree m s
  | .regionRegister m => Sys2Proof.Machine.execRegionRegister m s
  | .regionDeregister m => Sys2Proof.Machine.execRegionDeregister m s
  | .connOpen m => Sys2Proof.Machine.execConnOpen m s
  | .connClose m => Sys2Proof.Machine.execConnClose m s
  | .connQuery m => Sys2Proof.Machine.execConnQuery m s
  | .recvPost m => Sys2Proof.Machine.execRecvPost m s
  | .sendPost m => Sys2Proof.Machine.execSendPost m s
  | .memIssue m => Sys2Proof.Machine.execMemIssue m s
  | .cohSubscribe m => Sys2Proof.Machine.execCohSubscribe m s
  | .cohDomainSet m => Sys2Proof.Machine.execCohDomainSet m s
  | .fabricSet m => Sys2Proof.Machine.execFabricSet m s
  | .fabricQuery m => Sys2Proof.Machine.execFabricQuery m s
  | .shaperSet m => Sys2Proof.Machine.execShaperSet m s
  | .shaperQuery m => Sys2Proof.Machine.execShaperQuery m s
  | .gateListSet m => Sys2Proof.Machine.execGateListSet m s
  | .gateListQuery m => Sys2Proof.Machine.execGateListQuery m s
  | .egressSet m => Sys2Proof.Machine.execEgressSet m s
  | .egressQuery m => Sys2Proof.Machine.execEgressQuery m s
  | .eventMaskSet m => Sys2Proof.Machine.execEventMaskSet m s
  | .eventQuery m => Sys2Proof.Machine.execEventQuery m s
  | .counterSnapshot m => Sys2Proof.Machine.execCounterSnapshot m s
  | .watermarkSet m => Sys2Proof.Machine.execWatermarkSet m s
  | .watermarkQuery m => Sys2Proof.Machine.execWatermarkQuery m s
  | .lifetimeRead m => Sys2Proof.Machine.execLifetimeRead m s
  | .lifetimeFlush m => Sys2Proof.Machine.execLifetimeFlush m s
  | .scrubSet m => Sys2Proof.Machine.execScrubSet m s
  | .jobQuiesce m => Sys2Proof.Machine.execJobQuiesce m s
  | .faultQuery m => Sys2Proof.Machine.execFaultQuery m s
  | .bootQuery m => Sys2Proof.Machine.execBootQuery m s
  | .cfgLoad m => Sys2Proof.Machine.execCfgLoad m s
  | .cfgRead m => Sys2Proof.Machine.execCfgRead m s
  | .fwLoad m => Sys2Proof.Machine.execFwLoad m s
  | .selftestSet m => Sys2Proof.Machine.execSelftestSet m s
  | .selftestRun m => Sys2Proof.Machine.execSelftestRun m s
  | .selftestQuery m => Sys2Proof.Machine.execSelftestQuery m s
  | .syncAlloc m => Sys2Proof.Machine.execSyncAlloc m s
  | .syncFree m => Sys2Proof.Machine.execSyncFree m s
  | .syncSet m => Sys2Proof.Machine.execSyncSet m s
  | .syncSignal m => Sys2Proof.Machine.execSyncSignal m s
  | .syncWait m => Sys2Proof.Machine.execSyncWait m s
  | .syncQuery m => Sys2Proof.Machine.execSyncQuery m s
  | .syncCancel m => Sys2Proof.Machine.execSyncCancel m s
  | .unknownOpcode m => Sys2Proof.Machine.execUnknownOpcode m s
  | .mailboxClaim m v => Sys2Proof.Machine.execMailboxClaim m v s
  | .mailboxRelease m => Sys2Proof.Machine.execMailboxRelease m s
  | .doorbell m v => Sys2Proof.Machine.execDoorbell m v s
  | .commandTake => Sys2Proof.Machine.execCommandTake s
  | .commandComplete m => Sys2Proof.Machine.execCommandComplete m s
  | .deviceReset v => Sys2Proof.Machine.execDeviceReset v s
  | .timeStep v => Sys2Proof.Machine.execTimeStep v s
  | .timeControlWrite v => Sys2Proof.Machine.execTimeControlWrite v s
  | .evqCtrlWrite v => Sys2Proof.Machine.execEvqCtrlWrite v s
  | .evqHeadWrite v => Sys2Proof.Machine.execEvqHeadWrite v s
  | .watermarkClear q inst v => Sys2Proof.Machine.execWatermarkClear q inst v s
  | .aliasSet addr v => Sys2Proof.Machine.execAliasSet addr v s
  | .aliasClear addr v => Sys2Proof.Machine.execAliasClear addr v s
  | .aliasInvert addr v => Sys2Proof.Machine.execAliasInvert addr v s
  | .registerWrite bar addr size v => Sys2Proof.Machine.execRegisterWrite bar addr size v s
  | .farWriteApplied blk => Sys2Proof.Machine.execFarWriteApplied blk s
  | .farReadTimeout blk => Sys2Proof.Machine.execFarReadTimeout blk s
  | .stepQuery c => Sys2Proof.Machine.execStepQuery c s
  | .chunkSubmit c => Sys2Proof.Machine.execChunkSubmit c s
  | .statePushOpen c => Sys2Proof.Machine.execStatePushOpen c s
  | .statePushPage c => Sys2Proof.Machine.execStatePushPage c s
  | .statePushCutover c => Sys2Proof.Machine.execStatePushCutover c s
  | .statePushAbort c => Sys2Proof.Machine.execStatePushAbort c s
  | .statePullOpen c => Sys2Proof.Machine.execStatePullOpen c s
  | .statePullCopy c => Sys2Proof.Machine.execStatePullCopy c s
  | .statePullPage c => Sys2Proof.Machine.execStatePullPage c s
  | .stateAckOpen c => Sys2Proof.Machine.execStateAckOpen c s
  | .stateAckPull c => Sys2Proof.Machine.execStateAckPull c s
  | .stateAckPage c => Sys2Proof.Machine.execStateAckPage c s
  | .stateAckCredit c => Sys2Proof.Machine.execStateAckCredit c s
  | .stateAckCutover c => Sys2Proof.Machine.execStateAckCutover c s
  | .stateAckDone c => Sys2Proof.Machine.execStateAckDone c s
  | .drainMarkMark c => Sys2Proof.Machine.execDrainMarkMark c s
  | .drainMarkEcho c => Sys2Proof.Machine.execDrainMarkEcho c s
  | .drainMarkComplete c => Sys2Proof.Machine.execDrainMarkComplete c s
  | .movePagePush r => Sys2Proof.Machine.execMovePagePush r s
  | .searchQuery c => Sys2Proof.Machine.execSearchQuery c s
  | .searchInsert c => Sys2Proof.Machine.execSearchInsert c s
  | .searchDelete c => Sys2Proof.Machine.execSearchDelete c s
  | .memRead c => Sys2Proof.Machine.execMemRead c s
  | .memWrite c => Sys2Proof.Machine.execMemWrite c s
  | .memAtomic c => Sys2Proof.Machine.execMemAtomic c s
  | .memCompletion c => Sys2Proof.Machine.execMemCompletion c s
  | .invalidate c => Sys2Proof.Machine.execInvalidate c s
  | .send c => Sys2Proof.Machine.execSend c s
  | .sendAck c => Sys2Proof.Machine.execSendAck c s
  | .sendAckCredit c => Sys2Proof.Machine.execSendAckCredit c s
  | .sendAckGrant c => Sys2Proof.Machine.execSendAckGrant c s
  | .timeSyncRequest port msg => Sys2Proof.Machine.execTimeSyncRequest port msg s
  | .timeSyncResponse port msg => Sys2Proof.Machine.execTimeSyncResponse port msg s
  | .unknownMessage c => Sys2Proof.Machine.execUnknownMessage c s
  | .cellReceive port => Sys2Proof.Machine.execCellReceive port s
  | .messageDeliver c rsp => Sys2Proof.Machine.execMessageDeliver c rsp s
  | .reassemblyTimeout c rsp id => Sys2Proof.Machine.execReassemblyTimeout c rsp id s
  | .reorderSkip c rsp => Sys2Proof.Machine.execReorderSkip c rsp s
  | .completionTimeout req => Sys2Proof.Machine.execCompletionTimeout req s
  | .creditReturnTimer c => Sys2Proof.Machine.execCreditReturnTimer c s
  | .connGrantTimer c => Sys2Proof.Machine.execConnGrantTimer c s
  | .connClosed c => Sys2Proof.Machine.execConnClosed c s
  | .invalidateTimeout req => Sys2Proof.Machine.execInvalidateTimeout req s
  | .coherentRequest line => Sys2Proof.Machine.execCoherentRequest line s
  | .dataFrameReceive port flits => Sys2Proof.Machine.execDataFrameReceive port flits s
  | .linkAck port f => Sys2Proof.Machine.execLinkAck port f s
  | .linkNak port f => Sys2Proof.Machine.execLinkNak port f s
  | .laneReq port f => Sys2Proof.Machine.execLaneReq port f s
  | .laneMap port f => Sys2Proof.Machine.execLaneMap port f s
  | .linkDown port f => Sys2Proof.Machine.execLinkDown port f s
  | .calReq port f => Sys2Proof.Machine.execCalReq port f s
  | .hello port msg => Sys2Proof.Machine.execHello port msg s
  | .helloAck port msg => Sys2Proof.Machine.execHelloAck port msg s
  | .linkRetrain port msg => Sys2Proof.Machine.execLinkRetrain port msg s
  | .retryTimer port express => Sys2Proof.Machine.execRetryTimer port express s
  | .retryLimit port => Sys2Proof.Machine.execRetryLimit port s
  | .laneLockLoss port lane => Sys2Proof.Machine.execLaneLockLoss port lane s
  | .laneRejoin port lane => Sys2Proof.Machine.execLaneRejoin port lane s
  | .laneKeepout port lane => Sys2Proof.Machine.execLaneKeepout port lane s
  | .laneKeepoutEnd port lane => Sys2Proof.Machine.execLaneKeepoutEnd port lane s
  | .laserLaneLow port lane => Sys2Proof.Machine.execLaserLaneLow port lane s
  | .laserAllLow port => Sys2Proof.Machine.execLaserAllLow port s
  | .lightLost port => Sys2Proof.Machine.execLightLost port s
  | .lightPresent port => Sys2Proof.Machine.execLightPresent port s
  | .bringupAttempt port locked => Sys2Proof.Machine.execBringupAttempt port locked s
  | .bringupTimeout port => Sys2Proof.Machine.execBringupTimeout port s
  | .retrainTimeout port => Sys2Proof.Machine.execRetrainTimeout port s
  | .flapHoldEntry port => Sys2Proof.Machine.execFlapHoldEntry port s
  | .flapHoldEnd port => Sys2Proof.Machine.execFlapHoldEnd port s
  | .holdWindowExpiry port => Sys2Proof.Machine.execHoldWindowExpiry port s
  | .portDisableDone port => Sys2Proof.Machine.execPortDisableDone port s
  | .linkRepeatTimer port => Sys2Proof.Machine.execLinkRepeatTimer port s
  | .tuningPeriod port lane act => Sys2Proof.Machine.execTuningPeriod port lane act s
  | .calibrationHold port lane ns => Sys2Proof.Machine.execCalibrationHold port lane ns s
  | .bondMemberReturn port skew => Sys2Proof.Machine.execBondMemberReturn port skew s
  | .frameStart port => Sys2Proof.Machine.execFrameStart port s
  | .gateEntryChange port => Sys2Proof.Machine.execGateEntryChange port s
  | .gateListSwitch port => Sys2Proof.Machine.execGateListSwitch port s
  | .egressSample => Sys2Proof.Machine.execEgressSample s
  | .stepBoundary => Sys2Proof.Machine.execStepBoundary s
  | .idleBoundary => Sys2Proof.Machine.execIdleBoundary s
  | .itemStarved item => Sys2Proof.Machine.execItemStarved item s
  | .memberLayerStart item => Sys2Proof.Machine.execMemberLayerStart item s
  | .scoreBufferGrant crest => Sys2Proof.Machine.execScoreBufferGrant crest s
  | .sliceComplete item k => Sys2Proof.Machine.execSliceComplete item k s
  | .partialArrive item k => Sys2Proof.Machine.execPartialArrive item k s
  | .chunkAppendDone item p => Sys2Proof.Machine.execChunkAppendDone item p s
  | .ridgeUnitComplete item h b seg => Sys2Proof.Machine.execRidgeUnitComplete item h b seg s
  | .pageRecompute item obj tier => Sys2Proof.Machine.execPageRecompute item obj tier s
  | .holdTimerExpiry item => Sys2Proof.Machine.execHoldTimerExpiry item s
  | .stepEnd n => Sys2Proof.Machine.execStepEnd n s
  | .memberGroupComplete item => Sys2Proof.Machine.execMemberGroupComplete item s
  | .straggler ctx => Sys2Proof.Machine.execStraggler ctx s
  | .baselineReady => Sys2Proof.Machine.execBaselineReady s
  | .heldMessageTimeout ctx => Sys2Proof.Machine.execHeldMessageTimeout ctx s
  | .promotionComplete obj => Sys2Proof.Machine.execPromotionComplete obj s
  | .writeDownComplete obj => Sys2Proof.Machine.execWriteDownComplete obj s
  | .pendingDemotionStart => Sys2Proof.Machine.execPendingDemotionStart s
  | .tier0WriteBack obj => Sys2Proof.Machine.execTier0WriteBack obj s
  | .enginePowerDown cls => Sys2Proof.Machine.execEnginePowerDown cls s
  | .enginePowerReady cls => Sys2Proof.Machine.execEnginePowerReady cls s
  | .roleSetTimeout => Sys2Proof.Machine.execRoleSetTimeout s
  | .ttlExpiry ctx => Sys2Proof.Machine.execTtlExpiry ctx s
  | .contextFreed ctx => Sys2Proof.Machine.execContextFreed ctx s
  | .syncWaitTimeout summit w => Sys2Proof.Machine.execSyncWaitTimeout summit w s
  | .stallTimerExpiry r layer page => Sys2Proof.Machine.execStallTimerExpiry r layer page s
  | .pageAckTimeout r layer page => Sys2Proof.Machine.execPageAckTimeout r layer page s
  | .moveOpenTimeout r => Sys2Proof.Machine.execMoveOpenTimeout r s
  | .drainTimeout r c => Sys2Proof.Machine.execDrainTimeout r c s
  | .moveRecordExpiry r => Sys2Proof.Machine.execMoveRecordExpiry r s
  | .searchBatchWindow idx => Sys2Proof.Machine.execSearchBatchWindow idx s
  | .centroidUnitComplete unit bad => Sys2Proof.Machine.execCentroidUnitComplete unit bad s
  | .listBlockScan crest idx blk bad => Sys2Proof.Machine.execListBlockScan crest idx blk bad s
  | .searchQueryTimeout q => Sys2Proof.Machine.execSearchQueryTimeout q s
  | .indexMergeSwitch idx => Sys2Proof.Machine.execIndexMergeSwitch idx s
  | .indexRetired idx => Sys2Proof.Machine.execIndexRetired idx s
  | .oldGenerationFree idx gen => Sys2Proof.Machine.execOldGenerationFree idx gen s
  | .powerGood => Sys2Proof.Machine.execPowerGood s
  | .powerLost => Sys2Proof.Machine.execPowerLost s
  | .powerWarn => Sys2Proof.Machine.execPowerWarn s
  | .perstAssert => Sys2Proof.Machine.execPerstAssert s
  | .perstRelease => Sys2Proof.Machine.execPerstRelease s
  | .pcieFunctionReset => Sys2Proof.Machine.execPcieFunctionReset s
  | .fibreUnmated port => Sys2Proof.Machine.execFibreUnmated port s
  | .fibreMated port => Sys2Proof.Machine.execFibreMated port s
  | .txRefclkLoss => Sys2Proof.Machine.execTxRefclkLoss s
  | .txRefclkReturn => Sys2Proof.Machine.execTxRefclkReturn s
  | .i3cIbi mdb => Sys2Proof.Machine.execI3cIbi mdb s
  | .smbusBlockRead code => Sys2Proof.Machine.execSmbusBlockRead code s
  | .jtagInstruction ins => Sys2Proof.Machine.execJtagInstruction ins s
  | .ppsEdge => Sys2Proof.Machine.execPpsEdge s
  | .ppsHoldover => Sys2Proof.Machine.execPpsHoldover s
  | .ppsOutRise => Sys2Proof.Machine.execPpsOutRise s
  | .ppsOutFall => Sys2Proof.Machine.execPpsOutFall s
  | .syncInterval => Sys2Proof.Machine.execSyncInterval s
  | .syncLost => Sys2Proof.Machine.execSyncLost s
  | .timeLocked => Sys2Proof.Machine.execTimeLocked s
  | .timeCorrection => Sys2Proof.Machine.execTimeCorrection s
  | .bootRomDone passed => Sys2Proof.Machine.execBootRomDone passed s
  | .firmwareVerify => Sys2Proof.Machine.execFirmwareVerify s
  | .configApply => Sys2Proof.Machine.execConfigApply s
  | .trainingDone trained devices => Sys2Proof.Machine.execTrainingDone trained devices s
  | .startupSelftestDone failed links repaired => Sys2Proof.Machine.execStartupSelftestDone failed links repaired s
  | .interfaceRetrain stack margin low => Sys2Proof.Machine.execInterfaceRetrain stack margin low s
  | .selftestSliceStart die => Sys2Proof.Machine.execSelftestSliceStart die s
  | .selftestFenced die => Sys2Proof.Machine.execSelftestFenced die s
  | .selftestSliceEnd die pass repaired => Sys2Proof.Machine.execSelftestSliceEnd die pass repaired s
  | .patrolRead stack frame found => Sys2Proof.Machine.execPatrolRead stack frame found s
  | .cxlSurpriseRemoval device => Sys2Proof.Machine.execCxlSurpriseRemoval device s
  | .temperatureSample temps => Sys2Proof.Machine.execTemperatureSample temps s
  | .thermtrip die => Sys2Proof.Machine.execThermtrip die s
  | .powerSample rails => Sys2Proof.Machine.execPowerSample rails s
  | .railOvercurrent rail => Sys2Proof.Machine.execRailOvercurrent rail s
  | .supplyDroop die mv => Sys2Proof.Machine.execSupplyDroop die mv s
  | .avsAdjust rail mv => Sys2Proof.Machine.execAvsAdjust rail mv s
  | .telemetryRefresh => Sys2Proof.Machine.execTelemetryRefresh s
  | .lifetimeWrite => Sys2Proof.Machine.execLifetimeWrite s
  | .queueCreditReturn q inst prod => Sys2Proof.Machine.execQueueCreditReturn q inst prod s
  | .meshTransferReceive link dir cls good => Sys2Proof.Machine.execMeshTransferReceive link dir cls good s
  | .laserInputRestored port lane => Sys2Proof.Machine.execLaserInputRestored port lane s
  | .pcieReadCompletion req good data => Sys2Proof.Machine.execPcieReadCompletion req good data s

end Sys2Proof.Machine
end

