-- ==== Sys2Proof/Safety.lean ====
section
/-! DEFINITION. What counts as a safe run, and the terms in which the statements speak of commands that run. -/

namespace Sys2Proof.Machine

/-- The step at a state answers a next state. -/
def State.safe (s : State) : Prop := ∃ t, step s = .next t

/-- The request handle of a command is what the command's table wants (step 4 of R369). -/
def handleFits (s : State) (a : Cmd) : Prop :=
  match handleRule a with
  | .zero => a.handle = 0
  | .ctx => s.core.stale s.top a.handle = false
  | .optional => a.handle = 0 ∨ s.core.stale s.top a.handle = false
  | .any => True

/-- Mailbox m of a device with power holds the command `a` of opcode `op`, taken and not yet run; a command that R363 applies in the
order taken is the oldest of these. -/
structure Taken (s : State) (m op : Nat) (a : Cmd) : Prop where
  live : s.top.live = true
  taken : (s.core.mbox m).taken = some a
  fresh : (s.core.mbox m).started = false
  unanswered : (s.core.mbox m).result = none
  opcode : a.opcode = op
  oldest : isSerial op = true → s.core.host.serial.head? = some m

/-- Such a command that passes steps 1 to 4 of R369: its opcode is implemented, its length fits, it is legal in the device state that counts for
it (R363, R370, R376), and its handle is in order. -/
structure Takes (s : State) (m op : Nat) (a : Cmd) : Prop extends Taken s m op a where
  fits : ∃ n, fixedLen op = some n ∧ n ≤ a.length
  short : a.length ≤ 4048
  legal : illegalState a (s.core.mbox m).takenIn s.top.dev = none
  handle : handleFits s a

/-- The state in which the command of mailbox m has run, with `c` for everything but the device's own state, and awaits its end. -/
def State.holds (s : State) (m : Nat) (c : Core) : State := { s with core := c.start m }

/-- The state in which the command of mailbox m has run and is answered with OK and payload `p`. -/
def State.answers (s : State) (m : Nat) (c : Core) (p : List Byte := []) : State :=
  { s with core := (c.start m).stage m .ok 0 p }

/-- The state in which the command of mailbox m is answered with another status: nothing but the mailbox has changed. -/
def State.refuses (s : State) (m : Nat) (st : Status) (d : Nat) : State := { s with core := (s.core.start m).stage m st d [] }

end Sys2Proof.Machine
end

