-- ==== Sys2Proof/Certificates/Slice0/Obligations.lean ====
section
/-! DEFINITION. The statements for the provers, from the numbered rules of the manual. -/

open Sys2Proof Sys2Proof.Machine

/-! ### The whole machine -/

/-- With a command at the front of the queue, a step is that command's meaning on the state with the queue's rest. -/
def Obligations.StepRunsFrontCommand : Prop :=
  ∀ (c : Instr) (rest : List Instr) (s : State), s.pending = c :: rest → step s = exec c { s with pending := rest }

/-- Every command of the table answers a next state in every state: none faults and none is refused; and none touches the queue of
commands. The model's choices in it: log 156. -/
def Obligations.EveryCommandAnswersAndKeepsTheQueue : Prop :=
  ∀ (c : Instr) (s : State), ∃ t, exec c s = .next t ∧ t.pending = s.pending

/-- A device that is OFF, or whose clocks THERMTRIP has stopped, does nothing but take notice of its power and PERST_N pins (R380, R430).
The model's choices in it: log 6. -/
def Obligations.DeadDeviceIsInert : Prop :=
  ∀ (c : Instr) (s : State), s.top.live = false → c ≠ .powerGood → c ≠ .powerLost → c ≠ .perstAssert → c ≠ .perstRelease →
    exec c s = .next s

/-- The transitions of R380 and R376, by the command that causes each. A write of TOP.RESET and PERST_N act in any state. -/
def Claims.devMay (c : Instr) (a b : DevState) : Prop :=
  a = b ∨ match c with
    | .powerGood => a = .off ∧ b = .boot
    | .powerLost => b = .off
    | .deviceReset _ | .registerWrite _ _ _ _ | .perstAssert => a ≠ .off ∧ b = .boot
    | .configApply => a = .boot ∧ b = .train
    | .trainingDone _ _ => a = .train ∧ (b = .selftest ∨ b = .faulted)
    | .startupSelftestDone _ _ _ => a = .selftest ∧ (b = .boot ∨ b = .ready ∨ b = .faulted)
    | .selftestSliceEnd _ _ _ => (a = .ready ∨ a = .bound ∨ a = .draining) ∧ b = .faulted
    | .jobBind _ => a = .ready ∧ b = .bound
    | .jobRelease _ => a = .bound ∧ b = .draining
    | .commandComplete _ => a = .draining ∧ b = .ready
    | _ => False

/-- The device changes state only as R380 and R376 give it, and only by the command that causes that transition.
The model's choices in it: log 6, 57. -/
def Obligations.DeviceStateChangesOnlyAsTabled : Prop :=
  ∀ (c : Instr) (s t : State), exec c s = .next t → Claims.devMay c s.top.dev t.top.dev

/-- What start-up leaves true of the device's own state: five phase ends; a phase in 1 to 3 in BOOT, 4 in TRAIN, 5 in SELFTEST and none
later (R379); a verified firmware, and a Summit that runs it, from phase 3 on (R370, R382); a node ID of 14 bits; TIME.CONTROL with no
reserved bit set and no reserved SOURCE (R37); a rate correction within ±200,000 (R31, R37), an OFFSET that saturates (R37). -/
structure Claims.TopInv (t : Top) : Prop where
  ends : t.phaseEnds.length = 5
  primary : t.primary < 4
  node : t.nodeId ≤ 0x3FFF
  boot : t.dev = .boot → 1 ≤ t.phase ∧ t.phase ≤ 3
  train : t.dev = .train → t.phase = 4
  selftest : t.dev = .selftest → t.phase = 5
  later : t.dev = .ready ∨ t.dev = .bound ∨ t.dev = .draining → t.phase = 0
  verified : (t.dev = .boot ∧ t.phase = 3) ∨ t.dev = .train ∨ t.dev = .selftest ∨ t.dev = .ready ∨ t.dev = .bound ∨ t.dev = .draining →
    t.fwValid = true ∧ t.allFailed = false
  control : t.time.control &&& 0xFFFE00E0#32 = 0#32
  source : t.time.control &&& 3#32 ≠ 3#32
  rate : -200000 ≤ t.time.rate ∧ t.time.rate ≤ 200000
  offset : -2147483648 ≤ t.time.offset ∧ t.time.offset ≤ 2147483647
  ppsOut : t.time.ppsOut = true → t.time.control.getLsbD 16 = true

/-- Every step keeps it. The model's choices in it: log 57. -/
def Obligations.StepKeepsStartUpAndTimeInvariant : Prop :=
  ∀ s t : State, Claims.TopInv s.top → step s = .next t → Claims.TopInv t.top

/-- It holds after reset. The model's choices in it: log 43. -/
def Obligations.ResetMeetsStartUpAndTimeInvariant : Prop := Claims.TopInv State.reset.top

/-- Package time never goes back but at a restart, which begins it again from 0 with the whole TIME block (R28); the fused security
floor never falls (R383); and a die out of service stays out until a restart (R352). -/
def Obligations.TimeFloorAndFailedDiesAreMonotone : Prop :=
  ∀ s t : State, step s = .next t →
    s.top.secFloor ≤ t.top.secFloor ∧
    ((t.top.time = {} ∧ t.top.absent = 0#64) ∨ (s.top.time.now ≤ t.top.time.now ∧ s.top.absent &&& t.top.absent = s.top.absent))

/-- The values that the register tables give for reset, as the registers read right after it (R37, R355, R357, R352): the device is in
BOOT, the event queue is off with a ring of 64 records, package time is 0 with a sync interval of 8, every mailbox is free and IDLE. -/
def Obligations.RegistersReadTheirResetValues : Prop :=
  let s := State.reset
  s.pending = [] ∧ s.core.job = none ∧ s.core.tiers.mem = [] ∧
  [0x00, 0x04, 0x08, 0x0C, 0x10, 0x14, 0x18, 0x1C, 0x20, 0x24, 0x3C].map (s.core.readTop s.top) = [0x00010864, 1, 0, 0, 0, 0, 0xC, 0, 0, 0, 0] ∧
  [0x00, 0x04, 0x08, 0x0C, 0x10, 0x14, 0x18, 0x1C, 0x20, 0x24].map s.top.time.reg = [0, 0, 0, 0, 0x800, 0, 0, 0, 0, 0] ∧
  (∀ m, (s.core.mbox m).owner = 0 ∧ (s.core.mbox m).status = 0) ∧
  (∀ b, s.core.accessStatus s.top b = 0)

/-! ### Mailboxes -/

/-- The mailbox and the opcode of the rows that run a Tsuvar command (R371). -/
def Claims.mailboxRow (i : Instr) : Option (Nat × Nat) :=
  match i with
  | .deviceQuery m => some (m, 0x0101)
  | .capQuery m => some (m, 0x0102)
  | .jobBind m => some (m, 0x0103)
  | .jobRelease m => some (m, 0x0104)
  | .roleSet m => some (m, 0x0105)
  | .mboxReclaim m => some (m, 0x0106)
  | .ctxAdmit m => some (m, 0x0201)
  | .ctxQuery m => some (m, 0x0202)
  | .ctxSet m => some (m, 0x0203)
  | .ctxPause m => some (m, 0x0204)
  | .ctxPark m => some (m, 0x0205)
  | .ctxResume m => some (m, 0x0206)
  | .ctxRetire m => some (m, 0x0207)
  | .ctxList m => some (m, 0x0208)
  | .tierQuery m => some (m, 0x0301)
  | .quotaSet m => some (m, 0x0302)
  | .quotaQuery m => some (m, 0x0303)
  | .tier0Set m => some (m, 0x0304)
  | .stripeSet m => some (m, 0x0305)
  | .poolGrant m => some (m, 0x0306)
  | .poolRevoke m => some (m, 0x0307)
  | .pageQuery m => some (m, 0x0308)
  | .moveStart m => some (m, 0x0401)
  | .moveAbort m => some (m, 0x0402)
  | .moveQuery m => some (m, 0x0403)
  | .moveParamSet m => some (m, 0x0404)
  | .parkTtlSet m => some (m, 0x0405)
  | .schedSet m => some (m, 0x0501)
  | .schedQuery m => some (m, 0x0502)
  | .clientSchedSet m => some (m, 0x0503)
  | .clientSchedQuery m => some (m, 0x0504)
  | .deadlineSet m => some (m, 0x0505)
  | .deadlineQuery m => some (m, 0x0506)
  | .acctQuery m => some (m, 0x0507)
  | .acctCtxQuery m => some (m, 0x0508)
  | .stragglerSet m => some (m, 0x0509)
  | .shapeCheck m => some (m, 0x0601)
  | .shapeQuery m => some (m, 0x0602)
  | .sliceSet m => some (m, 0x0603)
  | .sliceQuery m => some (m, 0x0604)
  | .planQuery m => some (m, 0x0605)
  | .ropeEval m => some (m, 0x0606)
  | .hawkmothQuery m => some (m, 0x0607)
  | .formatQuery m => some (m, 0x0701)
  | .formatPolicySet m => some (m, 0x0702)
  | .formatPolicyQuery m => some (m, 0x0703)
  | .quantEval m => some (m, 0x0704)
  | .expEval m => some (m, 0x0705)
  | .chrysalisQuery m => some (m, 0x0706)
  | .indexCreate m => some (m, 0x0801)
  | .indexLoad m => some (m, 0x0802)
  | .indexSeal m => some (m, 0x0803)
  | .indexMerge m => some (m, 0x0804)
  | .indexQuery m => some (m, 0x0805)
  | .indexDestroy m => some (m, 0x0806)
  | .searchSet m => some (m, 0x0807)
  | .lunaQuery m => some (m, 0x0808)
  | .portQuery m => some (m, 0x0901)
  | .portSet m => some (m, 0x0902)
  | .portBond m _ => some (m, 0x0903)
  | .laneQuery m => some (m, 0x0904)
  | .portRetrain m => some (m, 0x0905)
  | .pdAlloc m => some (m, 0x0A01)
  | .pdFree m => some (m, 0x0A02)
  | .regionRegister m => some (m, 0x0A03)
  | .regionDeregister m => some (m, 0x0A04)
  | .connOpen m => some (m, 0x0A05)
  | .connClose m => some (m, 0x0A06)
  | .connQuery m => some (m, 0x0A07)
  | .recvPost m => some (m, 0x0A08)
  | .sendPost m => some (m, 0x0A09)
  | .memIssue m => some (m, 0x0A0A)
  | .cohSubscribe m => some (m, 0x0A0B)
  | .cohDomainSet m => some (m, 0x0A0C)
  | .fabricSet m => some (m, 0x0A0D)
  | .fabricQuery m => some (m, 0x0A0E)
  | .shaperSet m => some (m, 0x0B01)
  | .shaperQuery m => some (m, 0x0B02)
  | .gateListSet m => some (m, 0x0B03)
  | .gateListQuery m => some (m, 0x0B04)
  | .egressSet m => some (m, 0x0B05)
  | .egressQuery m => some (m, 0x0B06)
  | .eventMaskSet m => some (m, 0x0C01)
  | .eventQuery m => some (m, 0x0C02)
  | .counterSnapshot m => some (m, 0x0C03)
  | .watermarkSet m => some (m, 0x0C04)
  | .watermarkQuery m => some (m, 0x0C05)
  | .lifetimeRead m => some (m, 0x0C06)
  | .lifetimeFlush m => some (m, 0x0C07)
  | .scrubSet m => some (m, 0x0C08)
  | .jobQuiesce m => some (m, 0x0C09)
  | .faultQuery m => some (m, 0x0C0A)
  | .bootQuery m => some (m, 0x0D01)
  | .cfgLoad m => some (m, 0x0D02)
  | .cfgRead m => some (m, 0x0D03)
  | .fwLoad m => some (m, 0x0D04)
  | .selftestSet m => some (m, 0x0D05)
  | .selftestRun m => some (m, 0x0D06)
  | .selftestQuery m => some (m, 0x0D07)
  | .syncAlloc m => some (m, 0x0E01)
  | .syncFree m => some (m, 0x0E02)
  | .syncSet m => some (m, 0x0E03)
  | .syncSignal m => some (m, 0x0E04)
  | .syncWait m => some (m, 0x0E05)
  | .syncQuery m => some (m, 0x0E06)
  | .syncCancel m => some (m, 0x0E07)
  | _ => none
/-- The checks of R369 in their order, for every row that runs a Tsuvar command: a length out of bounds gives BAD_ARG with detail 0xFFFFFF;
then a command not legal in the device state that counts for it gives STATE_REJECT with the device form: for JOB_BIND, JOB_RELEASE and
ROLE_SET the present one, for any other the one in force when it was taken, and in DRAINING none that is legal only while a job is bound runs;
then a handle that must be zero gives BAD_ARG with detail 0xFFFFFE, and a stale one STALE_HANDLE. UNKNOWN_OPCODE: an opcode that is not
implemented gives NOT_SUPPORTED (R11). Nothing but the mailbox changes.
The model's choices in it: log 46, 47, 48, 77. -/
def Obligations.FailedCheckRefusesWithoutSideEffect : Prop :=
  (∀ (m op : Nat) (a : Cmd) (s : State), Taken s m op a → fixedLen op = none →
    exec (.unknownOpcode m) s = .next (s.refuses m .notSupported 0)) ∧
  ∀ (i : Instr) (m op n : Nat) (a : Cmd) (s : State), Claims.mailboxRow i = some (m, op) → Taken s m op a → fixedLen op = some n →
    (4048 < a.length ∨ a.length < n → exec i s = .next (s.refuses m .badArg 0xFFFFFF)) ∧
    (n ≤ a.length → a.length ≤ 4048 →
      let then_ := (s.core.mbox m).takenIn
      (isSerial op = false → legalIn a then_ = false → exec i s = .next (s.refuses m .stateReject (stateDetail .device then_.code))) ∧
      (isSerial op = true → legalIn a s.top.dev = false → exec i s = .next (s.refuses m .stateReject (stateDetail .device s.top.dev.code))) ∧
      (isSerial op = false → legalIn a then_ = true → jobOnly a = true → s.top.dev = .draining →
        exec i s = .next (s.refuses m .stateReject (stateDetail .device DevState.draining.code))) ∧
      (illegalState a then_ s.top.dev = none →
        (handleRule a = .zero → a.handle ≠ 0 → exec i s = .next (s.refuses m .badArg 0xFFFFFE)) ∧
        (handleRule a = .ctx → s.core.stale s.top a.handle = true → exec i s = .next (s.refuses m .staleHandle 0)) ∧
        (handleRule a = .optional → a.handle ≠ 0 → s.core.stale s.top a.handle = true → exec i s = .next (s.refuses m .staleHandle 0))))

/-- R358: the four outcomes of a write to OWNER. -/
def Obligations.OwnerWriteClaimsOrFrees : Prop :=
  ∀ (m : Nat) (v : Word) (s : State), s.top.live = true → m < 64 →
    let b := s.core.mbox m
    (v ≠ 0 → b.owner = 0 → exec (.mailboxClaim m v) s = .next { s with core := s.core.updMbox m (fun b => { b with owner := v }) }) ∧
    (v ≠ 0 → b.owner ≠ 0 → exec (.mailboxClaim m v) s = .next s) ∧
    (b.owner ≠ 0 → b.phase = .idle ∨ b.phase = .done →
      exec (.mailboxRelease m) s = .next { s with core := s.core.updMbox m (fun b => { b with owner := 0, phase := .idle }) }) ∧
    (b.owner ≠ 0 → b.phase = .pending ∨ b.phase = .running → exec (.mailboxRelease m) s = .next s)

/-- R359, R361, R362: a doorbell submits a command or sets DB_REJECT; the oldest PENDING command is taken, copied from the area; its
response is written and PHASE becomes DONE, with the vector where MSIX is set. Other mailboxes stay as they are.
The model's choices in it: log 3. -/
def Obligations.CommandGoesFromDoorbellToDone : Prop :=
  (∀ (m : Nat) (v : Word) (s : State), s.top.live = true → m < 64 → ¬ (s.top.dev = .faulted ∧ s.top.primaryDown = true) →
    let b := s.core.mbox m
    let tag := v.toNat % 65536
    let fit := b.owner ≠ 0 ∧ (b.phase = .idle ∨ b.phase = .done) ∧ tag = (Cmd.ofArea b.area).tag
    (fit → exec (.doorbell m v) s = .next { s with
      core := (s.core.updMbox m (fun b => { b with phase := .pending, tag := tag })).onHost (fun h => { h with dbOrder := h.dbOrder ++ [m] }) }) ∧
    (¬ fit → exec (.doorbell m v) s = .next { s with core := s.core.updMbox m (fun b => { b with dbReject := true }) })) ∧
  (∀ (m : Nat) (rest : List Nat) (s : State), s.top.live = true → s.top.fwValid = true → s.top.primaryDown = false →
    s.core.underTest s.top.primaryDie = false → s.core.host.dbOrder = m :: rest → m ∉ rest → (s.core.mbox m).taken = none →
    ∃ t, exec .commandTake s = .next t ∧ t.top = s.top ∧ t.core.host.dbOrder = rest ∧
      (t.core.mbox m).phase = .running ∧ (t.core.mbox m).taken = some (Cmd.ofArea (s.core.mbox m).area) ∧
      (t.core.mbox m).takenIn = s.top.dev ∧ (t.core.mbox m).started = false ∧ (t.core.mbox m).result = none ∧
      (∀ k, k ≠ m → t.core.mbox k = s.core.mbox k)) ∧
  (∀ (m : Nat) (a : Cmd) (r : Resp) (s : State), s.top.live = true → (s.core.mbox m).taken = some a → (s.core.mbox m).result = some r →
    (s.core.mbox m).discard = false → (s.core.mbox m).reclaim = [] → s.core.job.bind Job.releaseMbox ≠ some m →
    ∃ t, exec (.commandComplete m) s = .next t ∧ t.top = s.top ∧
      (t.core.mbox m).phase = .done ∧ (t.core.mbox m).taken = none ∧ (t.core.mbox m).tag = (s.core.mbox m).tag ∧
      (t.core.mbox m).resp.take (8 + r.payload.length) =
        le 1 r.status.code ++ le 3 r.detail ++ le 2 a.tag ++ le 2 r.payload.length ++ r.payload ∧
      (a.msix = true → a.vector < 2048 → Out.msix a.vector ∈ t.core.out) ∧
      (∀ k, k ≠ m → t.core.mbox k = s.core.mbox k))

/-! ### Registers -/

/-- EVQ_CTRL_WRITE and EVQ_HEAD_WRITE (R355, R365): the fields written, SIZE_LOG2 judged by ENABLE as it stood, TAIL and HEAD cleared with
ENABLE; EVQ_BASE and the mailboxes are untouched. -/
def Obligations.EventQueueRegistersTakeTheirFields : Prop :=
  ∀ (v : Word) (s : State), s.top.live = true →
    let h := s.core.host
    let n := v.toNat / 2 % 32
    (∃ t, exec (.evqCtrlWrite v) s = .next t ∧ t.top = s.top ∧ t.core.host.mboxes = h.mboxes ∧ t.core.host.evqBase = h.evqBase ∧
      t.core.host.evqEnable = v.getLsbD 0 ∧ t.core.host.evqVector = v.toNat / 256 % 2048 ∧ t.core.host.evqVectorEn = v.getLsbD 19 ∧
      t.core.host.evqSize = (if h.evqEnable = false ∧ 6 ≤ n ∧ n ≤ 20 then n else h.evqSize) ∧
      (h.evqEnable = true → v.getLsbD 0 = false → t.core.host.evqTail = 0 ∧ t.core.host.evqHead = 0)) ∧
    (∃ t, exec (.evqHeadWrite v) s = .next t ∧ t.top = s.top ∧ t.core.host.mboxes = h.mboxes ∧ t.core.host.evqBase = h.evqBase ∧
      t.core.host.evqHead = v.toNat % 2 ^ 20 ∧ t.core.host.evqEnable = h.evqEnable ∧ t.core.host.evqSize = h.evqSize)

/-- Alias writes (R354), on RW registers: STEP_HI, and EVQ_BASE_LO while ENABLE is clear, whose write applies the address with the HI that
was written last (R350); on a register with no RW field they change nothing. The model's choices in it: log 32. -/
def Obligations.AliasWriteChangesBitsOfRwFields : Prop :=
  ∀ (v : Word) (s : State), s.top.live = true →
    let hi := fun (w : Word) => ({ s with top := s.top.onTime (fun b => { b with stepHi := w }) } : State)
    let lo := fun (w : Word) => ({ s with core := s.core.onHost (fun h => { h with evqBase := h.evqHi * 2 ^ 32 + w.toNat }) } : State)
    let b := BitVec.ofNat 32 (s.core.host.evqBase % 2 ^ 32)
    exec (.aliasSet 0x0010400C v) s = .next (hi (s.top.time.stepHi ||| v)) ∧
    exec (.aliasClear 0x0010800C v) s = .next (hi (s.top.time.stepHi &&& ~~~v)) ∧
    exec (.aliasInvert 0x0010C00C v) s = .next (hi (s.top.time.stepHi ^^^ v)) ∧
    (s.core.host.evqEnable = false →
      exec (.aliasSet 0x00004010 v) s = .next (lo (b ||| v)) ∧
      exec (.aliasClear 0x00008010 v) s = .next (lo (b &&& ~~~v)) ∧
      exec (.aliasInvert 0x0000C010 v) s = .next (lo (b ^^^ v))) ∧
    (∀ r ∈ [0x0, 0x4, 0x8, 0xC, 0x1C, 0x24, 0x28, 0x2C, 0x30, 0x34, 0x38, 0x3C, 0x3FFC],
      exec (.aliasSet (0x4000 + r) v) s = .next s ∧ exec (.aliasClear (0x8000 + r) v) s = .next s ∧
      exec (.aliasInvert (0xC000 + r) v) s = .next s)

/-- REGISTER_WRITE, FAR_WRITE_APPLIED and FAR_READ_TIMEOUT (R347, R349, R351, R352, R353, R357): an aligned word reaches its register; an access
of another size or alignment sets SIZE_ERR and nothing else; a write to an offset of no block is ignored; one to a far block waits with BUSY,
or is dropped while BUSY is set; a waiting write is applied, and BUSY clears, but while its die is fenced; a far read that times out sets
TIMEOUT, but for an absent die; bytes of a mailbox's command area and of the MSI-X table are stored, and the response area ignores writes.
The model's choices in it: log 31. -/
def Obligations.RegisterWriteReachesItsRegister : Prop :=
  ∀ (a size : Nat) (v : BitVec 64) (s : State), s.top.live = true →
    (exec (.registerWrite 0 0x0010000C 4 v) s =
      .next { s with top := s.top.onTime (fun b => { b with stepHi := v.setWidth 32 }) }) ∧
    (∀ b off, blockAt a = some (b, off) → ¬ (size = 4 ∧ a % 4 = 0) → ¬ (size = 8 ∧ a % 8 = 0) →
      exec (.registerWrite 0 a size v) s = .next { s with core := s.core.setAccess b 5 }) ∧
    (blockAt a = none → exec (.registerWrite 0 a 4 v) s = .next s) ∧
    (∀ b off, blockAt a = some (b, off) → a % 4 = 0 → b.far = true → ¬ (off / 65536 = 0 ∧ off % 0x4000 = 0x3FFC) →
      (b.die.map s.top.gone).getD false = false →
      (s.core.host.farWrites.get? b.num = none →
        exec (.registerWrite 0 a 4 v) s = .next { s with
          core := s.core.onHost (fun h => { h with farWrites := h.farWrites.set b.num (off, v.setWidth 32) }) }) ∧
      (s.core.host.farWrites.get? b.num ≠ none →
        exec (.registerWrite 0 a 4 v) s = .next { s with core := s.core.setAccess b 2 })) ∧
    (∀ b : Block, (b.die.map s.core.fenced).getD false = false → Block.ofNum b.num = some b →
      let h := s.core.host
      (∀ off w, h.farWrites.get? b.num = some (off, w) → ∃ t, exec (.farWriteApplied b.num) s = .next t ∧ t.top = s.top ∧
        t.core.host = { h with farWrites := h.farWrites.del b.num } ∧ (t.core.accessStatus t.top b) % 2 = h.access.getD b.num 0 % 2 ∧
        t.core.ctxs = s.core.ctxs ∧ t.core.tiers = s.core.tiers ∧ t.core.telem = s.core.telem ∧ t.core.out = s.core.out ∧
        (∀ p, b ≠ .oport p → t.core.port p = s.core.port p)) ∧
      (h.farWrites.get? b.num = none → exec (.farWriteApplied b.num) s = .next s)) ∧
    (∀ b : Block, Block.ofNum b.num = some b → (b.die.map s.core.fenced).getD false = true → exec (.farWriteApplied b.num) s = .next s) ∧
    (∀ b : Block, Block.ofNum b.num = some b → ∃ t, exec (.farReadTimeout b.num) s = .next t ∧ t.top = s.top ∧
      t.core.host.farWrites = s.core.host.farWrites ∧ t.core.host.mboxes = s.core.host.mboxes ∧
      bit (t.core.host.access.getD b.num 0) 1 = (bit (s.core.host.access.getD b.num 0) 1 || !(b.die.map s.top.gone).getD false)) ∧
    (∀ m off, m < 64 → off + 8 ≤ 0xFF0 → exec (.registerWrite 2 (0x2000 * m + off) 8 v) s =
      .next { s with core := s.core.updMbox m (fun b => { b with area := b.area.writeN off (le 8 v.toNat) }) }) ∧
    (∀ m off, m < 64 → 0x1000 ≤ off → off < 0x2000 → exec (.registerWrite 2 (0x2000 * m + off) size v) s = .next s) ∧
    (a + 8 ≤ 0x8000 → exec (.registerWrite 4 a 8 v) s =
      .next { s with core := s.core.onHost (fun h => { h with bar4 := h.bar4.writeN a (le 8 v.toNat) }) })

/-- FAR_WRITE_APPLIED, FAR_READ_TIMEOUT and WATERMARK_CLEAR (R351, R352, R353, R405): a posted write to an optical port's block is applied
once its die is not fenced, BUSY clears, and a 1 in CHANGED clears that bit; a read that times out sets TIMEOUT, but for an absent die; a
1 written to CROSSED clears it and leaves LEVEL. -/
def Obligations.FarBlocksAndWatermarkStatus : Prop :=
  ∀ (s : State), s.top.live = true →
    (∀ p off (v : Word), p < 8 → s.core.host.farWrites.get? (54 + p) = some (off, v) → s.core.fenced (portDie p) = false →
      let c := s.core.onHost (fun h => { h with farWrites := h.farWrites.del (54 + p) })
      exec (.farWriteApplied (54 + p)) s = .next { s with
        core := if off = 0 ∧ v.getLsbD 11 = true ∧ s.top.hasPort p = true then c.updPort p (fun x => { x with changed := false }) else c }) ∧
    (∀ k b, Block.ofNum k = some b →
      exec (.farReadTimeout k) s = .next (if (b.die.map s.top.gone).getD false then s else { s with core := s.core.setAccess b 1 })) ∧
    (∀ q k (v : Word), k < qCount q → v.getLsbD 1 = true →
      exec (.watermarkClear q k v) s = .next { s with core := s.core.setWm (wmQueue q k) { s.core.wm (wmQueue q k) with crossed := false } })

/-! ### Package time and its sources -/

/-- TIME_STEP (R32). -/
def Obligations.TimeStepIsForwardAndOnlyBeforeBinding : Prop :=
  ∀ (v : Word) (s : State), s.top.live = true →
    let new := s.top.time.stepHi.toNat * 2 ^ 32 + v.toNat
    let may := s.top.dev = .boot ∨ s.top.dev = .train ∨ s.top.dev = .selftest ∨ s.top.dev = .ready
    (may → s.top.time.now < new → ∃ x y, exec (.timeStep v) s =
      .next { s with top := s.top.onTime (fun b => { b with stepLo := x, now := new, stepSum := y }) }) ∧
    (¬ may ∨ new ≤ s.top.time.now → ∃ x, exec (.timeStep v) s =
      .next { s with top := s.top.onTime (fun b => { b with stepLo := x, stepRefused := true }) })

/-- TIME_CONTROL_WRITE (R37): reserved bits stay 0, the reserved SOURCE leaves that field, a change of SOURCE while LOCKED clears LOCKED and
HOLDOVER, and package time goes on from its value at its rate. The model's choices in it: log 34. -/
def Obligations.TimeControlTakesItsFields : Prop :=
  ∀ (v : Word) (s : State), s.top.live = true →
    ∃ t, exec (.timeControlWrite v) s = .next t ∧
      t.top.time.control = (if v &&& 3#32 = 3#32 then (v &&& 0x0001FF1C#32) ||| (s.top.time.control &&& 3#32) else v &&& 0x0001FF1F#32) ∧
      t.top.time.now = s.top.time.now ∧ t.top.time.rate = s.top.time.rate ∧
      (t.top.time.source ≠ s.top.time.source → s.top.time.locked = true → t.top.time.locked = false ∧ t.top.time.holdover = false) ∧
      (t.top.time.source = s.top.time.source → t.top.time.locked = s.top.time.locked ∧ t.top.time.holdover = s.top.time.holdover) ∧
      t.core.host.mboxes = s.core.host.mboxes ∧ t.core.tiers = s.core.tiers ∧ t.top.dev = s.top.dev

/-- PPS_EDGE, PPS_HOLDOVER, PPS_OUT_RISE and PPS_OUT_FALL (R33, R34): an edge more than 1 ms from the expected point is rejected, another is captured
and ends holdover; 2.5 s without an accepted edge is holdover; the output pin is high for 100 µs from each whole second. The capture is package time
less the input path delay of 2.5 ns (R434), rounded to 2 or to 3: so many ns are the model's free choice. The model's choices in it: log 23, 24, 157.
-/
def Obligations.PpsPinsFollowWholeSeconds : Prop :=
  ∀ (s : State), s.top.live = true →
    let b := s.top.time
    let far := fun (k : Nat) => ppsError (b.now - k) < -1000000 ∨ 1000000 < ppsError (b.now - k)
    (b.source = 1 → b.holdover = false → far 2 → far 3 → ∃ t, exec .ppsEdge s = .next t ∧
      t.top.time = { b with ppsReject := true } ∧ t.core.ctr (.dev 3) = (s.core.ctr (.dev 3)).up 1 ∧ t.core.ports = s.core.ports) ∧
    (b.source = 1 → b.holdover = true ∨ (¬ far 2 ∧ ¬ far 3) → ∃ t, exec .ppsEdge s = .next t ∧
      (t.top.time.ppsCapture = b.now - 2 ∨ t.top.time.ppsCapture = b.now - 3) ∧ t.top.time.lastPps = some b.now ∧
      t.top.time.holdover = false ∧ t.top.time.now = b.now ∧ t.top.time.ppsReject = b.ppsReject ∧
      t.core.ports = s.core.ports ∧ t.core.ctxs = s.core.ctxs) ∧
    (∀ e, b.source = 1 → b.holdover = false → b.lastPps = some e → e + 2500000000 ≤ b.now → ∃ t, exec .ppsHoldover s = .next t ∧
      t.top.time = { b with holdover := true, locked := false, goodRun := 0 }) ∧
    (b.ppsOutEn = true → b.ppsOut = false → b.ppsOutSec < b.now / 1000000000 → ∃ t, exec .ppsOutRise s = .next t ∧
      t.top.time = { b with ppsOut := true, ppsOutSec := b.now / 1000000000 }) ∧
    (b.ppsOut = true → b.ppsOutSec * 1000000000 + 100000 ≤ b.now → ∃ t, exec .ppsOutFall s = .next t ∧
      t.top.time = { b with ppsOut := false })

/-- TIME_SYNC over the fabric and the lock of the servo (R29, R33, R35): a due request raises the sequence; a response of another sequence,
or before any request, is counted and discarded, one whose round trip exceeds 2 µs is discarded, and another gives OFFSET, half its
difference truncated towards zero, and the run of good exchanges; 16 intervals without one set SYNC_LOST and clear LOCKED; 16 good
measurements set LOCKED; once per ms the primary Summit sends its correction to every other die in service, over the control class of the
mesh. The model's choices in it: log 23, 25, 27, 28, 29, 158, 159. -/
def Obligations.FabricTimeSourceSteers : Prop :=
  ∀ (p : Nat) (q : TimeSync) (s : State), s.top.live = true →
    let b := s.top.time
    let t4 : Int := s.top.dieTime (portDie p)
    let trip := wrap64 ((t4 - q.t1) - ((q.t3 : Int) - q.t2))
    let off := (wrap64 (((q.t2 : Int) - q.t1) - (t4 - q.t3))).tdiv 2
    (b.source = 2 → b.syncSentAt + b.syncNs ≤ b.now → s.core.syncPortUp s.top b.syncPort = true → ∃ t, exec .syncInterval s = .next t ∧
      t.top.time = { b with syncSeq := b.syncSeq + 1, syncSentAt := b.now, syncAsked := true }) ∧
    (s.core.syncPortUp s.top p = true →
      (b.syncAsked = false ∨ q.seq ≠ b.syncSeq → exec (.timeSyncResponse p q) s = .next { s with core := s.core.bump (.dev 4) }) ∧
      (b.syncAsked = true → q.seq = b.syncSeq → b.source = 2 → 2000 < trip → exec (.timeSyncResponse p q) s = .next s) ∧
      (b.syncAsked = true → q.seq = b.syncSeq → b.source = 2 → trip ≤ 2000 → ∃ t, exec (.timeSyncResponse p q) s = .next t ∧
        t.top.time.offset = max (-2147483648) (min 2147483647 off) ∧ t.top.time.syncValidAt = b.now ∧
        t.top.time.goodRun = (if -20 ≤ off ∧ off ≤ 20 then b.goodRun + 1 else 0) ∧
        t.top.time.locked = (b.locked && decide (-100 ≤ off) && decide (off ≤ 100)) ∧ t.top.time.now = b.now) ∧
      (((s.core.port p).mayStart true 128 = true ∧ s.core.txRoom s.top p 84 = true) → ∃ t, exec (.timeSyncRequest p q) s = .next t ∧
        t.top = s.top ∧ (t.core.port p).express.next = (s.core.port p).express.next + 1)) ∧
    (b.source = 2 → b.syncValidAt + 16 * b.syncNs ≤ b.now → ∃ t, exec .syncLost s = .next t ∧
      t.top.time = { b with syncLost := true, locked := false, goodRun := 0 }) ∧
    (b.source ≠ 0 → 16 ≤ b.goodRun → ∃ t, exec .timeLocked s = .next t ∧ t.top.time = { b with locked := true }) ∧
    (s.top.primaryDown = false → b.corrected / 1000000 < b.now / 1000000 → ∃ t, exec .timeCorrection s = .next t ∧
      t.top.time.corrected = b.now ∧ t.top.time.now = b.now ∧ Out.timeCorrection ∈ t.core.out ∧
      (∀ d, d < 64 → d ≠ s.top.primaryDie → s.top.gone d = false → ∃ n x, t.core.telem.mesh.get? n = some x ∧ x.cargo = .correction ∧
        x.src = s.top.primaryDie ∧ x.dst = d ∧ x.cls = .control))

/-- DEVICE_RESET (R355, R378): KEY 0xA5 with GO restarts phase 1 with package time 0, no job, no context, every mailbox free and memory
zero, and keeps the flash, the fuse and the MSI-X table; any other write is ignored.
The model's choices in it: log 7, 45. -/
def Obligations.DeviceResetRestartsBoot : Prop :=
  ∀ (v : Word) (s : State), s.top.live = true →
    (v.toNat % 256 = 0xA5 → v.getLsbD 8 = true → ∃ t, exec (.deviceReset v) s = .next t ∧
      t.top.dev = .boot ∧ t.top.phase = 1 ∧ t.top.time = {} ∧ t.top.secFloor = s.top.secFloor ∧ t.top.slot0 = s.top.slot0 ∧
      t.top.slot1 = s.top.slot1 ∧ t.top.bootWord = s.top.bootWord ∧ t.top.cfgFlash = s.top.cfgFlash ∧ t.top.absent = 0#64 ∧
      t.core.host = { bar4 := s.core.host.bar4 } ∧ t.core.job = none ∧ t.core.ctxs = [] ∧ t.core.tiers = {} ∧ t.core.syncs = [] ∧
      t.core.moves = [] ∧ t.core.search = {} ∧ t.core.fabric = {}) ∧
    (¬ (v.toNat % 256 = 0xA5 ∧ v.getLsbD 8 = true) → exec (.deviceReset v) s = .next s)

/-! ### The device and its job -/

/-- DEVICE_QUERY and CAP_QUERY (R372, R373) answer OK and change nothing but their mailbox: the fields of the device record, and the capability
record of 256 bytes with the numbers of Crest dies, ports and contexts in service.
The model's choices in it: log 52, 56. -/
def Obligations.DeviceQueriesReportTheDevice : Prop :=
  ∀ (m : Nat) (a : Cmd) (s : State),
    (Takes s m 0x0101 a → ∃ p, exec (.deviceQuery m) s = .next (s.answers m s.core p) ∧ p.length = 32 ∧
      rd p 0 1 = s.top.dev.code ∧ rd p 1 1 = (if s.core.job.isSome then s.core.pset.role.code else 0) ∧ rd p 4 4 = s.core.jobId % 2 ^ 32 ∧
      rd p 8 8 = s.top.time.now % 2 ^ 64 ∧ rd p 20 4 = s.top.fwVersion % 2 ^ 32 ∧ rd p 24 2 = s.top.nodeId % 2 ^ 16) ∧
    (Takes s m 0x0102 a → ∃ p, exec (.capQuery m) s = .next (s.answers m s.core p) ∧ p.length = 256 ∧
      rd p 4 1 = s.top.crests.length ∧ rd p 6 1 = ((List.range 8).filter s.top.hasPort).length ∧
      rd p 12 4 = maskOf 32 s.top.crests.contains ∧ rd p 24 4 = s.top.contexts % 2 ^ 32 ∧
      rd p 28 4 = 4096 * s.top.summitsUp.length ∧ rd p 102 2 = s.top.nodeId % 2 ^ 16)

/-- JOB_BIND, JOB_RELEASE and ROLE_SET (R145, R374 to R376): a job in order is bound, with its shape, ID, clients, role and the role's Crest
partitions; a release takes the device to DRAINING; a role acts from the next boundary, and with DRAIN the command waits. MBOX_RECLAIM (R372) frees a
mailbox that is IDLE or DONE, and waits for another. DEVICE_QUERY and CAP_QUERY (R372, R373) answer with the role last accepted and the bound
job's ID, and with 256 bytes. The model's choices in it: log 49, 50, 52, 152. -/
def Obligations.JobIsBoundReleasedAndGivenItsRole : Prop :=
  ∀ (m : Nat) (a : Cmd) (s : State),
    (∀ r, Takes s m 0x0103 a → s.top.nodeId ≠ 0x3FFF → shapeCheck (a.args.take 840) = .ok () → a.arg 840 4 ≠ 0 →
      Role.ofCode (a.arg 844 1) = some r → 1 ≤ a.arg 846 2 → a.arg 846 2 ≤ 256 →
      ∃ t j p, exec (.jobBind m) s = .next t ∧ t.top = { s.top with dev := .bound } ∧ t.core.job = some j ∧
        j.id = a.arg 840 4 ∧ j.shape = a.args.take 840 ∧ j.clientCount = a.arg 846 2 ∧ j.quiesced = false ∧
        t.core.pact.role = r ∧ t.core.pset.role = r ∧ t.core.ctxs = s.core.ctxs ∧ t.core.tiers = { s.core.tiers with tier0 := partsOf r } ∧
        t.core.ports = s.core.ports ∧ (t.core.mbox m).result = some ⟨.ok, 0, p⟩ ∧ p.length = 16) ∧
    (Takes s m 0x0104 a → ∃ t, exec (.jobRelease m) s = .next t ∧ t.top = { s.top with dev := .draining } ∧
      (t.core.mbox m).started = true) ∧
    (∀ r, Takes s m 0x0105 a → Role.ofCode (a.arg 0 1) = some r →
      let c := s.core.setNext (fun p => { p with role := r, partsNo := p.partsNo + 1 })
      (a.arg 1 1 % 2 = 0 → exec (.roleSet m) s = .next (s.answers m c)) ∧
      (a.arg 1 1 % 2 = 1 → exec (.roleSet m) s = .next (s.holds m (c.onSched (fun x => { x with
        drains := x.drains ++ [{ mbox := m, role := r, deadline := s.top.time.now + 5000000 }] }))))) ∧
    (∀ k, Takes s m 0x0106 a → a.arg 0 1 = k → k ≠ m → k < 64 →
      ((s.core.mbox k).phase = .idle ∨ (s.core.mbox k).phase = .done →
        exec (.mboxReclaim m) s = .next (s.answers m (s.core.updMbox k (fun b => { b with owner := 0, phase := .idle })))) ∧
      ((s.core.mbox k).phase = .pending ∨ (s.core.mbox k).phase = .running →
        exec (.mboxReclaim m) s = .next (s.holds m (s.core.updMbox k (fun b => { b with reclaim := b.reclaim ++ [m] }))))) ∧
    (Takes s m 0x0101 a → ∃ p, exec (.deviceQuery m) s = .next (s.answers m s.core p) ∧ p.length = 32 ∧
      (∀ j, s.core.job = some j → rd p 1 1 = s.core.pset.role.code ∧ rd p 4 4 = j.id % 2 ^ 32)) ∧
    (Takes s m 0x0102 a → ∃ p, exec (.capQuery m) s = .next (s.answers m s.core p) ∧ p.length = 256 ∧
      rd p 24 4 = s.top.contexts % 2 ^ 32)

/-! ### Contexts -/

/-- CTX_ADMIT (R47, R49, R57, R60): a context that has been FREE since reset is taken from a Summit die's list, enters RESERVED with its
generation raised, its client, priority, class and region; the answer is its handle, and no other context changes.
The model's choices in it: log 5, 58. -/
def Obligations.AdmissionReservesAFreshContext : Prop :=
  ∀ (m q base : Nat) (a : Cmd) (s : State),
    let c := s.core
    let k := a.arg 0 1
    let n := (c.summit q).ctxNext
    let i := ctxFirst q + n
    let g := ((c.ctx i).gen + 1) % 32768
    Takes s m 0x0201 a → c.isClient k = true → (a.arg 1 1 < 8 ∨ a.arg 1 1 = 0xFF) → (a.arg 2 1 < 16 ∨ a.arg 2 1 = 0xFF) →
    a.arg 3 1 = q → q ∈ s.top.summitsUp → 1 ≤ a.arg 4 4 → a.arg 4 4 ≤ shMax c.shape → n < ctxTotal q → 1000000000 ≤ s.top.time.now →
    c.findRegion (a.arg 4 4) = some base →
    ∃ c', exec (.ctxAdmit m) s = .next (s.answers m c' (le 4 (mkHandle i g))) ∧ (c'.ctx i).state = .reserved ∧ (c'.ctx i).gen = g ∧
      (c'.ctx i).client = k ∧ (c'.ctx i).maxLen = a.arg 4 4 ∧ (c'.ctx i).base = base ∧ (c'.ctx i).admitted = s.top.time.now ∧
      (c'.ctx i).prio = (if a.arg 1 1 = 0xFF then (c.pact.client k).prio else a.arg 1 1) ∧
      (c'.ctx i).cls = (if a.arg 2 1 = 0xFF then (c.pact.client k).cls else a.arg 2 1) ∧
      (∀ j, j ≠ i → c'.ctx j = c.ctx j) ∧ c'.tiers = c.tiers ∧ c'.fabric = c.fabric

/-- The other commands that name a context (R57, R58, R62), each with the state in which R58 accepts it, and CTX_LIST (R63). A context that is parked
stays PARKED unless a dirty tier-0 copy of one of its pages fails the check of R101 on its way to tier 1. The model's choices in it: log 59, 60, 165,
167. -/
def Obligations.ContextCommandsFollowTheStateTable : Prop :=
  ∀ (m : Nat) (a : Cmd) (s : State),
    let c := s.core
    let i := hIndex a.handle
    let x := c.ctx i
    let due := fun (c : Core) => c.onSched (fun s => { s with due := true })
    (Takes s m 0x0202 a → ∃ p, exec (.ctxQuery m) s = .next (s.answers m c p) ∧ p.length = 64 ∧ rd p 0 4 = a.handle % 2 ^ 32 ∧
      rd p 4 1 = x.state.code + 16 * x.prior.code ∧ rd p 8 8 = x.base % 2 ^ 64 ∧ rd p 16 4 = x.maxLen % 2 ^ 32) ∧
    (Takes s m 0x0203 a → x.state ≠ .draining → x.state ≠ .faulted → (a.arg 0 1 < 8 ∨ a.arg 0 1 = 0xFF) →
      (a.arg 1 1 < 16 ∨ a.arg 1 1 = 0xFF) → exec (.ctxSet m) s = .next (s.answers m (due (c.updCtx i (fun x => { x with
        prio := if a.arg 0 1 = 0xFF then x.prio else a.arg 0 1
        cls := if a.arg 1 1 = 0xFF then x.cls else a.arg 1 1 }))))) ∧
    (Takes s m 0x0204 a →
      (x.state = .paused → exec (.ctxPause m) s = .next (s.answers m c)) ∧
      (x.state = .generate → exec (.ctxPause m) s =
        .next (s.holds m (due (c.updCtx i (fun x => { x with pauseMbox := x.pauseMbox ++ [m], pauseDue := true })))))) ∧
    (Takes s m 0x0205 a → a.arg 0 4 ≤ 86400 →
      (x.state = .parked → exec (.ctxPark m) s = .next (s.answers m c)) ∧
      (x.state = .paused → ∃ c', exec (.ctxPark m) s = .next (s.answers m c') ∧
        ((∀ r ∈ x.pages.vals, ∀ p, c.page r.obj = some p → p.dirty.getLsbD 0 = false) → (c'.ctx i).state = .parked ∧
          (c'.ctx i).ttlAt = some (s.top.time.now + (if a.arg 0 4 = 0 then (c.client x.client).ttl else a.arg 0 4) * 1000000000)))) ∧
    (Takes s m 0x0206 a →
      (x.state = .paused → exec (.ctxResume m) s = .next (s.answers m c)) ∧
      (x.state = .parked → ∃ c', exec (.ctxResume m) s = .next (s.answers m c') ∧ (c'.ctx i).state = .paused ∧ (c'.ctx i).ttlAt = none)) ∧
    (Takes s m 0x0207 a →
      (x.state = .draining → exec (.ctxRetire m) s = .next (s.answers m c)) ∧
      (x.state ≠ .draining → x.state ≠ .movingOut → x.state ≠ .movingIn →
        ∃ c', exec (.ctxRetire m) s = .next (s.answers m c') ∧ (c'.ctx i).state = .draining)) ∧
    (Takes s m 0x0208 a → (a.arg 3 1 % 2 = 1 ∨ c.isClient (a.arg 2 1) = true) →
      let es := c.ctxs.filter (fun e => decide (a.arg 4 4 ≤ e.1) && !s.top.gone (ctxDie e.1) && e.2.state != .free &&
        bit (a.arg 0 2) e.2.state.code && (bit (a.arg 3 1) 0 || e.2.client == a.arg 2 1))
      ∃ p, exec (.ctxList m) s = .next (s.answers m c p) ∧ p.length = 8 + 4 * min 1020 es.length ∧ rd p 0 4 = min 1020 es.length)

/-- What a state refuses (R56, R58): the commands of the 0x02xx range complete with STATE_REJECT and the context's state, before any argument
is checked. The model's choices in it: log 60. -/
def Obligations.ContextCommandsAreRefusedInOtherStates : Prop :=
  ∀ (m : Nat) (a : Cmd) (s : State),
    let x := s.core.ctx (hIndex a.handle)
    let no := s.refuses m .stateReject (stateDetail .context x.state.code)
    (Takes s m 0x0203 a → x.state = .draining ∨ x.state = .faulted → exec (.ctxSet m) s = .next no) ∧
    (Takes s m 0x0204 a → x.state ≠ .paused → x.state ≠ .generate → exec (.ctxPause m) s = .next no) ∧
    (Takes s m 0x0205 a → x.state ≠ .paused → x.state ≠ .parked → exec (.ctxPark m) s = .next no) ∧
    (Takes s m 0x0206 a → x.state ≠ .paused → x.state ≠ .parked → exec (.ctxResume m) s = .next no) ∧
    (Takes s m 0x0207 a → x.state = .movingOut ∨ x.state = .movingIn → exec (.ctxRetire m) s = .next no)

/-- TTL_EXPIRY and CONTEXT_FREED (R50, R57, R144): a parked context whose time to live has run out drains; a DRAINING one with no work and
no reference left becomes FREE, keeps its generation, and joins the tail of its Summit die's free list.
The model's choices in it: log 59. -/
def Obligations.ContextsExpireAndAreFreed : Prop :=
  ∀ (i d : Nat) (s : State), s.top.live = true →
    let c := s.core
    let x := c.ctx i
    (x.state = .parked → x.ttlAt = some d → d ≤ s.top.time.now →
      ∃ t, exec (.ttlExpiry i) s = .next t ∧ t.top = s.top ∧ (t.core.ctx i).state = .draining ∧ (t.core.ctx i).ttlAt = none) ∧
    (x.state = .parked → x.ttlAt = some d → s.top.time.now < d → exec (.ttlExpiry i) s = .next s) ∧
    (x.state = .draining → x.leaving = false → x.msgs = 0 → x.pins = 0 → x.waits = 0 → c.itemsOf i = [] →
      ∃ t, exec (.contextFreed i) s = .next t ∧ t.top = s.top ∧ t.core.ctx i = { gen := x.gen } ∧
        (t.core.summit (i / 32768)).ctxFree = (c.summit (i / 32768)).ctxFree ++ [(i, s.top.time.now)] ∧
        (∀ j, j ≠ i → (t.core.ctx j).state = (c.ctx j).state)) ∧
    (x.state = .draining → 0 < x.pins → c.itemsOf i = [] → ∃ t, exec (.contextFreed i) s = .next t ∧ (t.core.ctx i).state = .draining)

/-! ### Memory tiers -/

/-- TIER_QUERY, QUOTA_SET, QUOTA_QUERY and TIER0_SET (R91, R104 to R106, R112 to R114): queries change nothing; what is set acts from the
next boundary. What a tier-3 query reports of the cache nodes' grants is free.
The model's choices in it: log 62, 63. -/
def Obligations.TierAndQuotaCommandsAnswer : Prop :=
  ∀ (m : Nat) (a : Cmd) (s : State),
    let c := s.core
    let k := a.arg 0 1
    let tier := a.arg 1 1
    let g := a.arg 8 8
    let ceil := a.arg 16 8
    (Takes s m 0x0301 a → (k < 3 → ∃ p, exec (.tierQuery m) s = .next (s.answers m c p) ∧ p.length = 48 ∧
        (k = 2 → rd p 0 8 = 4096 * s.top.warmUnits % 2 ^ 64 ∧ rd p 8 4 = 4096 ∧ rd p 16 8 = s.top.warmUnits % 2 ^ 64)) ∧
      (k = 3 → ∃ p, exec (.tierQuery m) s = .next (s.answers m { c with nonce := c.nonce + 2 } p) ∧ p.length = 48)) ∧
    (Takes s m 0x0302 a → c.isClient k = true → tier = 1 ∨ tier = 2 → ceil ≠ 2 ^ 64 - 1 → g ≤ ceil → a.arg 2 2 % 2 = 1 →
      exec (.quotaSet m) s = .next (s.answers m (c.setNext (Params.onClient k (fun x =>
        if tier = 1 then { x with q1 := some ⟨g, ceil⟩ } else { x with q2 := some ⟨g, ceil⟩ }))))) ∧
    (Takes s m 0x0303 a → c.isClient k = true → tier = 1 ∨ tier = 2 → ∃ p, exec (.quotaQuery m) s = .next (s.answers m c p) ∧
      p.length = 40 ∧ rd p 0 8 = (c.quota s.top c.pset k tier).1 % 2 ^ 64 ∧ rd p 16 8 = (c.quota s.top c.pset k tier).2 % 2 ^ 64) ∧
    (Takes s m 0x0304 a →
      (a.arg 4 4 % 2 = 1 → exec (.tier0Set m) s = .next (s.answers m (c.setNext (fun p => { p with parts := none, partsNo := p.partsNo + 1 })))) ∧
      (a.arg 4 4 % 2 = 0 → a.arg 0 1 + a.arg 1 1 + a.arg 2 1 + a.arg 3 1 = 64 → 4 ≤ a.arg 0 1 → 4 ≤ a.arg 1 1 → c.tableNeed ≤ a.arg 3 1 →
        exec (.tier0Set m) s = .next (s.answers m (c.setNext (fun p => { p with
          parts := some ⟨a.arg 0 1, a.arg 1 1, a.arg 2 1, a.arg 3 1⟩, partsNo := p.partsNo + 1 })))))

/-- STRIPE_SET, POOL_GRANT, POOL_REVOKE and PAGE_QUERY (R95, R96, R112, R113). A revoked range reads as 0 in the pool's storage, every byte outside it
is unchanged, and the range is kept as revoked. The model's choices in it: log 7, 67, 162. -/
def Obligations.PoolIsGrantedAndRevoked : Prop :=
  ∀ (m : Nat) (a : Cmd) (s : State),
    let c := s.core
    let off := a.arg 0 8
    let size := a.arg 8 8
    (∀ n, Takes s m 0x0305 a → a.arg 2 1 = n → 1 ≤ n → n ≤ 8 →
      (∀ i, i < n → a.arg (8 + 16 * i) 2 ≠ s.top.nodeId ∧ a.arg (8 + 16 * i) 2 < 0x3FFF) →
      (∀ p ∈ c.tiers.pages.vals, p.t3.map Prod.fst ≠ some (a.arg 0 2) ∧ (∀ d, p.down = some d → d.tier = 3 → d.set ≠ a.arg 0 2)) →
      exec (.stripeSet m) s = .next (s.answers m (c.onTiers (fun x => { x with
        stripes := x.stripes.set (a.arg 0 2) ((List.range n).map (fun i => (a.arg (8 + 16 * i) 2, a.arg (16 + 16 * i) 8))) })))) ∧
    (Takes s m 0x0306 a → off % 65536 = 0 → size % 65536 = 0 → 0 < size → off + size ≤ 2 ^ 47 →
      (∀ g ∈ c.tiers.grants, g.off + g.size ≤ off ∨ off + size ≤ g.off) → c.isClient (a.arg 16 1) = true →
      (c.fabric.pds.get? (a.arg 18 2)).isSome = true → size ≤ (c.quota s.top c.pact (a.arg 16 1) 1).2 →
      ∃ c', exec (.poolGrant m) s = .next (s.answers m c') ∧ c'.tiers.grants = c.tiers.grants ++
          [{ off := off, size := size, client := a.arg 16 1, pd := a.arg 18 2, origin := off }] ∧
        c'.tiers.mem = c.tiers.mem ∧ c'.tiers.pages = c.tiers.pages ∧ c'.ctxs = c.ctxs) ∧
    (Takes s m 0x0307 a → off % 65536 = 0 → size % 65536 = 0 → 0 < size → covered c.tiers.grants off size = true →
      ∃ c', exec (.poolRevoke m) s = .next (s.answers m c') ∧ c'.tiers.revoked = c.tiers.revoked ++ [(off, size)] ∧
        (∀ b, c'.tiers.mem.read b =
          if 0x3000000000000 + off ≤ b ∧ b < 0x3000000000000 + off + size then 0 else c.tiers.mem.read b) ∧
        c'.tiers.pages = c.tiers.pages ∧ c'.ctxs = c.ctxs ∧ c'.fabric = c.fabric) ∧
    (Takes s m 0x0308 a → a.arg 0 2 < shLayers c.shape → a.arg 2 2 < (c.ctx (hIndex a.handle)).pagesP →
      ∃ p, exec (.pageQuery m) s = .next (s.answers m c p) ∧ p.length = 36)

/-! ### The scheduler -/

/-- What a SCHED_SET makes of the settings (R173): a selected field takes its value, CLEAR returns the others to the role's default. -/
def Claims.schedNew (c : Core) (a : Cmd) : List (Option Nat) :=
  (if bit (a.arg 0 4) 31 then List.replicate 10 none else c.pset.sched).zipIdx.map (fun e =>
    if bit (a.arg 0 4) e.2 then some (a.arg (schedPlace.getD e.2 (0, 0)).1 (schedPlace.getD e.2 (0, 0)).2) else e.1)

/-- SCHED_SET, CLIENT_SCHED_SET, DEADLINE_SET, STRAGGLER_SET and SLICE_SET (R152, R158, R161, R172, R173, R201): the values are kept, and act
from the next boundary; a chunk size acts at once. A value out of its range refuses the whole command, with the field's offset. -/
def Obligations.SchedulingSettingsActFromTheNextBoundary : Prop :=
  ∀ (m : Nat) (a : Cmd) (s : State),
    let c := s.core
    let sel := a.arg 0 4
    let raw := fun (k : Nat) => (((Claims.schedNew c a)[k]?).getD none).getD (schedDefault c.pset.role k)
    let inRange := fun (n : Nat) => schedRange n (a.arg (schedPlace.getD n (0, 0)).1 (schedPlace.getD n (0, 0)).2) = true
    (Takes s m 0x0501 a →
      ((∀ n < 10, bit sel n = true → inRange n) → (bit sel 1 = true ∨ bit sel 2 = true → raw 2 ≤ raw 1) →
        exec (.schedSet m) s = .next (s.answers m (c.setNext (fun p => { p with sched := Claims.schedNew c a })))) ∧
      (∀ n < 10, bit sel n = true → ¬ inRange n → (∀ k < n, bit sel k = true → inRange k) →
        exec (.schedSet m) s = .next (s.refuses m .badArg (schedPlace.getD n (0, 0)).1))) ∧
    (∀ k, Takes s m 0x0503 a → a.arg 0 1 = k → c.isClient k = true → (a.arg 1 1 < 8 ∨ a.arg 1 1 = 0xFF) →
      (a.arg 2 1 < 16 ∨ a.arg 2 1 = 0xFF) → (a.arg 4 2 = 0 ∨ (256 ≤ a.arg 4 2 ∧ a.arg 4 2 ≤ 4096 ∧ a.arg 4 2 % 256 = 0)) →
      ∃ c', exec (.clientSchedSet m) s = .next (s.answers m c') ∧ c'.pact = c.pact ∧
        c'.pset = Params.onClient k (fun x => { x with
          prio := if a.arg 1 1 = 0xFF then x.prio else a.arg 1 1, cls := if a.arg 2 1 = 0xFF then x.cls else a.arg 2 1,
          skipper := if bit (a.arg 3 1) 7 then bit (a.arg 3 1) 0 else x.skipper }) c.pset ∧
        (c'.client k).chunk = (if a.arg 4 2 = 0 then (c.client k).chunk else a.arg 4 2) ∧
        (∀ j, j ≠ k → c'.client j = c.client j) ∧ c'.ctxs = c.ctxs ∧ c'.tiers = c.tiers) ∧
    (Takes s m 0x0505 a → a.arg 0 1 < 16 → (a.arg 4 4 = 0 ∨ (100 ≤ a.arg 4 4 ∧ a.arg 4 4 ≤ 60000000)) →
      exec (.deadlineSet m) s = .next (s.answers m (c.setNext (fun p => { p with budgets := p.budgets.set (a.arg 0 1) (a.arg 4 4) })))) ∧
    (Takes s m 0x0509 a → (a.arg 0 4 = 0 ∨ (0x00014000 ≤ a.arg 0 4 ∧ a.arg 0 4 ≤ 0x00400000)) → a.arg 4 2 ≤ 1024 →
      exec (.stragglerSet m) s = .next (s.answers m (c.setNext (fun p => { p with
        stragX := if a.arg 0 4 = 0 then 0x00040000 else a.arg 0 4, stragN := if a.arg 4 2 = 0 then 8 else a.arg 4 2,
        stragOn := bit (a.arg 6 2) 0 })))) ∧
    (Takes s m 0x0603 a → a.arg 0 2 ≤ 256 →
      exec (.sliceSet m) s = .next (s.answers m (c.setNext (fun p => { p with slice := if a.arg 0 2 = 0 then 16 else a.arg 0 2 }))))

/-- SCHED_QUERY, CLIENT_SCHED_QUERY, DEADLINE_QUERY, ACCT_QUERY and ACCT_CTX_QUERY (R170, R171, R173) change nothing but their mailbox, and
report the settings as last accepted and the counters as they stand. The model's choices in it: log 75. -/
def Obligations.SchedulingQueriesReport : Prop :=
  ∀ (m : Nat) (a : Cmd) (s : State),
    let c := s.core
    let k := a.arg 0 1
    (Takes s m 0x0502 a → ∃ p, exec (.schedQuery m) s = .next (s.answers m c p) ∧ p.length = 80 ∧
      (∀ e ∈ schedPlace.zipIdx, rd p e.1.1 e.1.2 = c.pset.field e.2 % 256 ^ e.1.2) ∧ rd p 32 4 = c.sched.allowance % 2 ^ 32 ∧
      rd p 40 8 = c.sched.lastStep % 2 ^ 64 ∧ rd p 48 8 = c.sched.completed % 2 ^ 64) ∧
    (Takes s m 0x0504 a → c.isClient k = true →
      exec (.clientSchedQuery m) s = .next (s.answers m c ([BitVec.ofNat 8 (c.pset.client k).prio, BitVec.ofNat 8 (c.pset.client k).cls,
        BitVec.ofNat 8 (b2n (c.pset.client k).skipper), 0] ++ le 2 (c.client k).chunk ++ [0, 0]))) ∧
    (Takes s m 0x0506 a → k < 16 → exec (.deadlineQuery m) s = .next (s.answers m c (le 4 (c.pset.budgets.getD k 0)))) ∧
    (Takes s m 0x0507 a → c.isClient k = true → ∃ p, exec (.acctQuery m) s = .next (s.answers m c p) ∧ p.length = 232 ∧
      (∀ n < 28, (p.drop (8 + 8 * n)).take 8 = (c.ctr (.client k n)).bytes)) ∧
    (Takes s m 0x0508 a → ∃ p, exec (.acctCtxQuery m) s = .next (s.answers m c p) ∧ p.length = 48 ∧ rd p 0 4 = a.handle % 2 ^ 32 ∧
      (p.drop 16).take 8 = (c.ctx (hIndex a.handle)).items.bytes)

/-- Nothing but settings awaits the next boundary: no context leaves or is to be paused, no move and no role change is under way, the
Crest partitions do not change, and free frames stand at the floor. -/
structure Claims.Calm (t : Top) (c : Core) : Prop where
  job : c.job.isSome = true
  slot : c.slotFree = true
  parts : c.pset.partsNo = c.pact.partsNo
  still : ∀ e ∈ c.ctxs, e.2.leaving = false ∧ e.2.pauseDue = false
  drains : c.sched.drains = []
  moves : c.moves = []
  floor : ceilDiv (c.f1Now t * 5) 1000 ≤ c.freeFrames t

/-- STEP_BOUNDARY and IDLE_BOUNDARY (R107, R151, R152, R155, R445): a boundary brings the settings into force; with an eligible decode item that needs
no frame it forms the next step, of which the item is a member; with none, and an effect that waits, it forms none. The model's choices in it: log 68,
166, 171. -/
def Obligations.BoundaryBringsSettingsIntoForceAndFormsSteps : Prop :=
  ∀ (s : State), s.top.live = true → Claims.Calm s.top s.core →
    let c := s.core
    (∀ k it, c.eligible = [(k, it)] → c.sched.items.get? k = some it → it.chunk = false → 1 ≤ c.pset.field 0 →
      c.cooling s.top = false → c.needs it = [] → c.joins it = false →
      ∃ t, exec .stepBoundary s = .next t ∧ t.top = s.top ∧ t.core.pact = c.pset ∧ t.core.sched.lastStep = c.sched.lastStep + 1 ∧
        (∃ x, t.core.sched.items.get? k = some x ∧ x.step = c.sched.lastStep + 1 ∧ x.passed = 0 ∧ x.msgs = it.msgs) ∧
        (∃ r, t.core.sched.steps.get? (c.sched.lastStep + 1) = some r ∧ r.group = it.group ∧ r.formed = s.top.now ∧
          r.hasDecode = true ∧ r.hasChunk = false)) ∧
    (c.eligible = [] → c.sched.due = true → ∃ t, exec .idleBoundary s = .next t ∧ t.top = s.top ∧ t.core.pact = c.pset ∧
      t.core.sched.due = false ∧ t.core.sched.steps = c.sched.steps ∧ t.core.sched.items = c.sched.items ∧
      t.core.sched.lastStep = c.sched.lastStep ∧ t.core.tiers = c.tiers ∧ t.core.fabric = c.fabric ∧
      (∀ i, t.core.ctx i = { c.ctx i with prioAct := (c.ctx i).prio, clsAct := (c.ctx i).cls }))

/-- MEMBER_GROUP_COMPLETE, HOLD_TIMER_EXPIRY and STEP_END (R151, R153, R154, R166, R170, R171): a member whose layers are over leaves and is
counted for its client and context; one that has waited too long is detached and counted; a step with no member left frees its slot.
The model's choices in it: log 69, 71, 149. -/
def Obligations.MembersLeaveStepsAndStepsEnd : Prop :=
  ∀ (k n : Nat) (s : State), s.top.live = true →
    let c := s.core
    (∀ it, c.sched.items.get? k = some it → it.done = true → it.step ≠ 0 → it.leaving = false →
      ∃ t, exec (.memberGroupComplete k) s = .next t ∧ t.top = s.top ∧ t.core.sched.items = c.sched.items.del k ∧
        t.core.ctr (.client (c.ctx it.ctx).client 0) = (c.ctr (.client (c.ctx it.ctx).client 0)).up 1 ∧
        (t.core.ctx it.ctx).items = (c.ctx it.ctx).items.up ∧ (t.core.ctx it.ctx).state = (c.ctx it.ctx).state ∧
        (∀ j, j ≠ it.ctx → t.core.ctx j = c.ctx j) ∧ t.core.tiers = c.tiers ∧ t.core.fabric = c.fabric) ∧
    (∀ it h, c.sched.items.get? k = some it → it.holdAt = some h →
      (h + 1000 * c.pact.field 4 ≤ s.top.now → ∃ t x, exec (.holdTimerExpiry k) s = .next t ∧ t.top = s.top ∧
        t.core.sched.items.get? k = some x ∧ x.step = 0 ∧ x.detached = true ∧ x.run = none ∧ x.msgs = it.msgs ∧
        t.core.ctr (.client (c.ctx it.ctx).client 8) = (c.ctr (.client (c.ctx it.ctx).client 8)).up 1 ∧ t.core.tiers = c.tiers) ∧
      (s.top.now < h + 1000 * c.pact.field 4 → exec (.holdTimerExpiry k) s = .next s)) ∧
    (∀ r, c.sched.steps.get? n = some r → (∀ e ∈ c.sched.items, e.2.step ≠ n) →
      ∃ t, exec (.stepEnd n) s = .next t ∧ t.top = s.top ∧ t.core.sched.steps = c.sched.steps.del n ∧
        t.core.sched.completed = c.sched.completed + 1 ∧ t.core.sched.items = c.sched.items ∧ t.core.ctxs = c.ctxs ∧
        t.core.tiers = c.tiers ∧ t.core.fabric = c.fabric)

/-- ITEM_STARVED, STRAGGLER, BASELINE_READY, ENGINE_POWER_DOWN, ENGINE_POWER_READY and ROLE_SET_TIMEOUT (R145, R155, R157, R169, R172).
The model's choices in it: log 2, 69. -/
def Obligations.SchedulerConditionsTakeEffect : Prop :=
  ∀ (k : Nat) (e : EngineClass) (s : State), s.top.live = true →
    let c := s.core
    let n := engineIdx e
    (∀ it, c.sched.items.get? k = some it →
      exec (.itemStarved k) s = .next { s with
        core := c.updItem k (fun it => if c.pact.field 8 ≤ it.passed then { it with starved := true } else it) }) ∧
    (c.pact.stragOn = true → c.sched.noBaseline = false → (c.ctx k).straggling = false → (c.ctx k).state ≠ .free → 0 < (c.ctx k).run →
      c.pact.stragN ≤ (c.ctx k).run → ∃ t, exec (.straggler k) s = .next t ∧ t.top = s.top ∧
        t.core.ctx k = { c.ctx k with straggling := true } ∧ (∀ j, j ≠ k → t.core.ctx j = c.ctx j) ∧ t.core.sched = c.sched ∧
        (s.top.primaryDown = false → t.core.ctr (.event 5 0) = (c.ctr (.event 5 0)).up 1)) ∧
    ((c.ctx k).run < c.pact.stragN → exec (.straggler k) s = .next s) ∧
    (1024 ≤ c.sched.completed →
      exec .baselineReady s = .next { s with core := c.onSched (fun x => { x with noBaseline := false }) }) ∧
    (c.sched.completed < 1024 → exec .baselineReady s = .next s) ∧
    (∀ last, c.sched.engines[n]? = some (.on, last) → c.job.isSome = true → (keptBy c.pact.role).contains n = false →
      c.engineBusy n = false → last + 10000000 ≤ s.top.now → exec (.enginePowerDown e) s =
        .next { s with core := c.onSched (fun x => { x with engines := x.engines.set n (.off, last) }) }) ∧
    (c.engine n = .rising → ∃ t, exec (.enginePowerReady e) s = .next t ∧ t.top = s.top ∧
      t.core.sched.engines = c.sched.engines.set n (.on, s.top.now) ∧ t.core.sched.items = c.sched.items ∧ t.core.tiers = c.tiers) ∧
    (c.engine n ≠ .rising → exec (.enginePowerReady e) s = .next s) ∧
    (∃ t, exec .roleSetTimeout s = .next t ∧ t.top = s.top ∧
      t.core.sched = { c.sched with drains := c.sched.drains.filter (fun d => s.top.now < d.deadline) } ∧
      (∀ d ∈ c.sched.drains, d.deadline ≤ s.top.now → (c.mbox d.mbox).taken.isSome = true → (c.mbox d.mbox).result = none →
        (t.core.mbox d.mbox).result = some ⟨.timeout, 0, []⟩) ∧
      (∀ j, (∀ d ∈ c.sched.drains, d.mbox ≠ j) → t.core.mbox j = c.mbox j))

/-! ### Attention and formats -/

/-- SHAPE_CHECK, SHAPE_QUERY, SLICE_QUERY, PLAN_QUERY, ROPE_EVAL, HAWKMOTH_QUERY and CHRYSALIS_QUERY (R175, R184, R186, R201 to R203, R244) change
nothing but their mailbox and report the sizes, the bound record with its reserved bits zero, the plan, the rotary phase and the counters. The
score-buffer capacity of a SHAPE_CHECK with no job bound is the model's free choice. The model's choices in it: log 73, 74, 75, 150, 172. -/
def Obligations.AttentionQueriesReport : Prop :=
  ∀ (m : Nat) (a : Cmd) (s : State),
    let c := s.core
    let i := a.arg 0 1
    (Takes s m 0x0601 a → shapeCheck (a.args.take 840) = .ok () → ∃ c' p, exec (.shapeCheck m) s = .next (s.answers m c' p) ∧
      (c' = c ∨ (c.job = none ∧ c' = { c with nonce := c.nonce + 1 })) ∧ p.length = 16 ∧
      rd p 0 4 = shFrame a.args % 2 ^ 32 ∧ rd p 4 4 = shSlot a.args % 2 ^ 32 ∧ rd p 8 4 = shStepBytes a.args % 2 ^ 32) ∧
    (∀ st d, Takes s m 0x0601 a → shapeCheck (a.args.take 840) = .error (st, d) → exec (.shapeCheck m) s = .next (s.refuses m st d)) ∧
    (Takes s m 0x0602 a → ∃ p, exec (.shapeQuery m) s = .next (s.answers m c p) ∧ p.length = 856 ∧ p.take 840 = shapeShown c.shape) ∧
    (Takes s m 0x0604 a → ∃ p, exec (.sliceQuery m) s = .next (s.answers m c p) ∧ p.length = 8 ∧
      rd p 0 2 = c.pset.slice % 2 ^ 16 ∧ rd p 4 2 = min c.pact.slice (capBuf c.scoreBytes (shHq c.shape)) % 2 ^ 16) ∧
    (∀ plan, Takes s m 0x0605 a → a.arg 0 2 < shLayers c.shape → c.curLen (c.ctx (hIndex a.handle)) ≤ a.arg 4 4 →
      a.arg 4 4 < (c.ctx (hIndex a.handle)).maxLen → (shDoc c.shape (a.arg 0 2) = true → a.arg 8 4 ≤ a.arg 4 4) →
      plan = slicePlan (((List.range (a.arg 4 4 / 256 + 1)).filter (admitLo c.shape (a.arg 0 2) (a.arg 4 4) (a.arg 8 4) / 256 ≤ ·)).map
        (fun p => (p, c.stackOf s.top (hIndex a.handle) (a.arg 0 2) p))) c.pact.slice c.scoreBytes (shHq c.shape) →
      a.arg 12 2 < plan.length →
      ∃ p, exec (.planQuery m) s = .next (s.answers m c p) ∧ p.length = 4 + 8 * min 500 (plan.length - a.arg 12 2) ∧
        rd p 0 2 = plan.length % 2 ^ 16) ∧
    (Takes s m 0x0606 a → a.arg 0 2 < rd c.shape 32 2 / 2 → ∃ p, exec (.ropeEval m) s = .next (s.answers m c p) ∧ p.length = 16 ∧
      rd p 0 8 = ((sext 32 (a.arg 4 4) * ((Att.ofShape c.shape).freqs.getD (a.arg 0 2) 0 : Nat)) % (2 ^ 64 : Nat)).toNat) ∧
    (Takes s m 0x0607 a → i ∈ s.top.crests → c.underTest (crestDie i) = false →
      ∃ p, exec (.hawkmothQuery m) s = .next (s.answers m c p) ∧ p.length = 160 ∧
        (∀ n < 20, (p.drop (8 * n)).take 8 = (c.ctr (.hawk i n)).bytes)) ∧
    (Takes s m 0x0706 a → i ∈ s.top.crests → c.underTest (crestDie i) = false →
      ∃ p, exec (.chrysalisQuery m) s = .next (s.answers m c p) ∧ p.length = 96 ∧
        (∀ n < 12, (p.drop (8 * n)).take 8 = (c.ctr (.chrys i n)).bytes)) ∧
    (Takes s m 0x0607 a → i ∈ s.top.crests → c.underTest (crestDie i) = true →
      exec (.hawkmothQuery m) s = .next (s.refuses m .busyTest (c.testLeft s.top (crestDie i))))

/-- FORMAT_QUERY, FORMAT_POLICY_SET, FORMAT_POLICY_QUERY, QUANT_EVAL and EXP_EVAL (R223, R231 to R237, R243, R244): a policy acts for its
client alone; QUANT_EVAL answers with the scale, the codes and the decoded values of its block, and counts its saturations for a Crest die; EXP_EVAL
answers with exp rounded to FP32, and 1 for both zeros. The model's choices in it: log 153, 192. -/
def Obligations.FormatCommandsAnswer : Prop :=
  ∀ (m : Nat) (a : Cmd) (s : State),
    let c := s.core
    let k := a.arg 0 1
    (Takes s m 0x0701 a → ∃ p, exec (.formatQuery m) s = .next (s.answers m c p) ∧ p.length = 4 + 16 * Fmt.all.length ∧
      rd p 0 1 = Fmt.all.length ∧ (∀ e ∈ Fmt.all.zipIdx, rd p (4 + 16 * e.2) 1 = e.1.code ∧ rd p (5 + 16 * e.2) 1 = e.1.bits)) ∧
    (Takes s m 0x0702 a → c.isClient k = true → a.arg 1 1 = 2 ∨ a.arg 1 1 = 3 → (a.arg 2 1 = 0 ∨ (Fmt.ofCode (a.arg 2 1)).isSome = true) →
      ∃ c', exec (.formatPolicySet m) s = .next (s.answers m c') ∧
        (c'.client k).narrow2 = (if a.arg 1 1 = 2 then Fmt.ofCode (a.arg 2 1) else (c.client k).narrow2) ∧
        (c'.client k).narrow3 = (if a.arg 1 1 = 3 then Fmt.ofCode (a.arg 2 1) else (c.client k).narrow3) ∧
        (∀ j, j ≠ k → c'.client j = c.client j) ∧ c'.ctxs = c.ctxs ∧ c'.tiers = c.tiers ∧ c'.pset = c.pset) ∧
    (Takes s m 0x0703 a → c.isClient k = true → exec (.formatPolicyQuery m) s =
      .next (s.answers m c (le 1 (targetCode (c.client k).narrow2) ++ le 1 (targetCode (c.client k).narrow3) ++ [0, 0]))) ∧
    (∀ f, Takes s m 0x0704 a → Fmt.ofCode k = some f →
      let v := quantInputs a (bit (a.arg 1 1) 0)
      let r := (quantEval f (bit (a.arg 1 1) 0) v).go.1
      let n := (quantEval f (bit (a.arg 1 1) 0) v).go.2
      ((∀ x ∈ v, x.special = false) → ∃ cr < 32, exec (.quantEval m) s = .next (s.answers m ({ c with nonce := c.nonce + 1 }.chrysCount cr n)
        (le 2 r.1 ++ [0, 0] ++ fit 64 (le (4 * f.bits) (packNat f.bits r.2.1)) ++ [0, 0, 0, 0] ++ r.2.2.flatMap (fun d => le 4 d.toNat)))) ∧
      ((∃ x ∈ v, x.special = true) → exec (.quantEval m) s = .next (s.refuses m .badArg 0x00000B))) ∧
    (Takes s m 0x0705 a →
      (a.arg 0 4 = 0 ∨ a.arg 0 4 = 0x80000000 → exec (.expEval m) s = .next (s.answers m c (le 4 0x3F800000))) ∧
      (a.arg 0 4 = 0xFF800000 → exec (.expEval m) s = .next (s.answers m c (le 4 0))) ∧
      (0x80000000 < a.arg 0 4 → a.arg 0 4 < 0xFF800000 → exec (.expEval m) s =
        .next (s.answers m c (le 4 (expFp32 (BitVec.ofNat 32 (a.arg 0 4))).toNat))) ∧
      (0 < a.arg 0 4 → a.arg 0 4 < 0x80000000 → exec (.expEval m) s = .next (s.refuses m .badArg 0)))

/-- A page's copy in a tier passes the check of R101. -/
def Claims.copySound (t : Top) (c : Core) (tier : Nat) (p : PageObj) : Prop :=
  p.isBad t tier = false ∧ (p.badDigest = true ∨ p.digest = pageDigest p.fmt (shH c.shape) (shD c.shape) p.data)

/-- The copies that a write to a tail page may move to or from tier 0 (R92) pass the check of R101: the page's own, and those in tier 0. -/
def Claims.CopiesSound (t : Top) (c : Core) (p : PageObj) : Prop :=
  Claims.copySound t c 1 p ∧ ∀ g ∈ c.tiers.pages.vals, g.t0.isSome = true → Claims.copySound t c 0 g

/-- A decode layer at work (R20, R180, R188 to R190): MEMBER_LAYER_START, with a die whose transcoder can append, appends the token and starts the
layer; SLICE_COMPLETE sends the partials of its pages; PARTIAL_ARRIVE takes one that none sent before it is still ahead of, and the last one
completes the layer, which then holds the token. The model's choices in it: log 5, 76, 148, 158. -/
def Obligations.DecodeLayerRunsToItsResult : Prop :=
  ∀ (k : Nat) (it : Item) (r : LayerRun) (m : LayerMsg) (ms : List LayerMsg) (s : State), s.top.live = true →
    let c := s.core
    let sh := c.shape
    let x := c.ctx it.ctx
    let lo := c.lowOf false m m.pos
    c.sched.items.get? k = some it → it.run = some r → it.headMsgs = m :: ms → it.chunk = false →
    (∀ o pg st fr, it.step ≠ 0 → r.started = false → (∀ e ∈ it.needsEngines, c.engine e = .on) → c.awaited it r.summarised = [] →
      m.epoch = x.epoch → m.pos = x.held1 r.layer →
      (∀ p q g, (c.attended it).1 ≤ p → p ≤ (c.attended it).2 → c.pageOf it.ctx r.layer p = some (q, g) → g.poison = false) →
      c.pageOf it.ctx r.layer (m.pos / 256) = some (o, pg) → pg.t1 = some (st, fr) → c.frameBusy (st, fr) = false →
      (c.appendDie s.top (2 * st)).isSome = true → Claims.CopiesSound s.top c pg →
      ∃ t x' r', exec (.memberLayerStart k) s = .next t ∧ t.top = s.top ∧ t.core.sched.items.get? k = some x' ∧ x'.run = some r' ∧
        r'.started = true ∧ r'.merge = 2 * st ∧ r'.layer = r.layer ∧ x'.msgs = it.msgs ∧
        ((t.core.page o).map PageObj.fill) = some (max pg.fill (m.pos % 256 + 1))) ∧
    (∀ n sl, r.slices[n]? = some sl → sl.state = .running →
      let vs := c.views it.ctx r.layer sl.pages
      let q := headsOf m.body 32 (shHq sh) (shD sh)
      let rq : Int := ((m.pos + x.posOff : Nat) : Int)
      ∃ t x' r', exec (.sliceComplete k n) s = .next t ∧ t.top = s.top ∧ t.core.sched.items.get? k = some x' ∧ x'.run = some r' ∧
        r'.slices[n]? = some { sl with
          state := .sent
          parts := (if sl.skipper then ((Att.ofShape sh).skipper q rq vs lo m.pos).go else ((Att.ofShape sh).slice q rq vs lo m.pos).go).1 } ∧
        (∀ j, j ≠ n → r'.slices[j]? = r.slices[j]?) ∧ t.core.ctxs = c.ctxs ∧ t.core.tiers = c.tiers ∧ t.core.fabric = c.fabric) ∧
    (∀ n sl, r.slices[n]? = some sl → sl.state = .sent → m.epoch = x.epoch → c.meshDue .result (.slice k n) = true →
      ((∃ (j : Nat) (y : Slice), j ≠ n ∧ r.slices[j]? = some y ∧ y.state ≠ .arrived) → ∃ t, exec (.partialArrive k n) s = .next t ∧ t.top = s.top ∧
        t.core.ctxs = c.ctxs ∧ t.core.tiers = c.tiers ∧ t.core.fabric = c.fabric) ∧
      ((∀ (j : Nat) (y : Slice), j ≠ n → r.slices[j]? = some y → y.state = .arrived) → ∃ t, exec (.partialArrive k n) s = .next t ∧
        t.top = s.top ∧ (t.core.ctx it.ctx).held1 r.layer = m.pos + 1))

/-- A chunk layer at work, and score buffers (R208 to R214, R220): SCORE_BUFFER_GRANT takes the credits of the next request whose descriptor has come,
or leaves it where the buffer does not fit; CHUNK_APPEND_DONE appends a page's tokens; RIDGE_UNIT_COMPLETE returns its buffer. PAGE_RECOMPUTE (R193,
R412) finds a copy bad: with another good copy the page is restored, else it is poisoned. The model's choices in it: log 5, 66, 76, 158, 192. -/
def Obligations.ChunkLayersAppendAndUnitsReturnTheirBuffers : Prop :=
  ∀ (k : Nat) (s : State), s.top.live = true →
    let c := s.core
    (∀ r, nextScore ((c.sched.waiting.getD k []).filter (fun r => !c.undescribed k r.work)) = some r →
      (c.sched.scoreUsed.getD k 0 + r.credits ≤ 1024 * c.tiers.tier0.score → c.underTest (crestDie k) = false →
        ∃ t, exec (.scoreBufferGrant k) s = .next t ∧ t.top = s.top ∧
          t.core.sched.scoreUsed = c.sched.scoreUsed.set k (c.sched.scoreUsed.getD k 0 + r.credits) ∧
          r ∉ t.core.sched.waiting.getD k [] ∧ t.core.ctxs = c.ctxs ∧ t.core.tiers = c.tiers) ∧
      (1024 * c.tiers.tier0.score < c.sched.scoreUsed.getD k 0 + r.credits → ∃ t, exec (.scoreBufferGrant k) s = .next t ∧ t.top = s.top ∧
        t.core.sched.scoreUsed = c.sched.scoreUsed ∧ t.core.sched.waiting = c.sched.waiting ∧ t.core.ctxs = c.ctxs ∧ t.core.tiers = c.tiers)) ∧
    (∀ it r p o pg fr, c.sched.items.get? k = some it → it.run = some r → r.started = true → p ∈ r.appends →
      c.pageOf it.ctx r.layer p = some (o, pg) → pg.t1 = some fr → c.frameBusy fr = false →
      (∀ j < 2, (c.appendDie s.top (2 * fr.1 + j)).isSome = true) → Claims.CopiesSound s.top c pg →
      ∃ t x r', exec (.chunkAppendDone k p) s = .next t ∧ t.top = s.top ∧ t.core.sched.items.get? k = some x ∧ x.run = some r' ∧
        r'.appends = r.appends.filter (fun q => q != p) ∧ r'.units = r.units ∧ t.core.fabric.conns = c.fabric.conns ∧
        (∃ g, t.core.page o = some g ∧ pg.fill ≤ g.fill)) ∧
    (∀ it r m ms n u, c.sched.items.get? k = some it → it.run = some r → it.headMsgs = m :: ms → m.epoch = (c.ctx it.ctx).epoch →
      r.units[n]? = some u → r.units.findIdx? (fun y => y.head == u.head && y.row == u.row && y.seg == u.seg) = some n →
      u.state = .running → r.appends = [] →
      c.flowClear (crestDie u.crest) (crestDie (c.mergeDie s.top it.ctx r.layer (it.start + 64 * u.row))) .response = true →
      ∃ t, exec (.ridgeUnitComplete k u.head u.row u.seg) s = .next t ∧ t.top = s.top ∧
        t.core.sched.scoreUsed.getD u.crest 0 = c.sched.scoreUsed.getD u.crest 0 - c.unitCredits it.step) ∧
    (∀ it r p o tier sl, c.sched.items.get? k = some it → it.run = some r → sl ∈ r.slices → sl.state = .running →
      (c.placeOf it.ctx o).2 ∈ sl.pages → (c.pageOf it.ctx r.layer (c.placeOf it.ctx o).2).map Prod.fst = some o →
      c.page o = some p → tier ≤ 1 → p.inTier tier = true → p.poison = false →
      ((∃ n ∈ [0, 1, 2, 3], n ≠ tier ∧ p.inTier n = true ∧ p.isBad s.top n = false) → ∃ t, exec (.pageRecompute k o tier) s = .next t ∧
        t.top = s.top ∧ t.core.ctxs = c.ctxs ∧ (t.core.page o).map PageObj.poison = some false ∧
        (t.core.page o).map PageObj.data = some p.data ∧ t.core.ctr (.dev 1) = (c.ctr (.dev 1)).up 1) ∧
      ((∀ n ∈ [0, 1, 2, 3], n ≠ tier → p.inTier n = true → p.isBad s.top n = true) → ∃ t, exec (.pageRecompute k o tier) s = .next t ∧
        t.top = s.top ∧ (∀ g, t.core.page o = some g → g.poison = true)))

/-! ### Pages between tiers -/

/-- PROMOTION_COMPLETE, WRITE_DOWN_COMPLETE, PENDING_DEMOTION_START and TIER0_WRITE_BACK (R92, R94, R98 to R100, R239, R240): a page
that passes its check is copied to the faster or the slower tier with its data, and a narrowed one in its new format; one written down into tier 3
first sends its units to the set's members, and leaves tier 2 when all have answered; a demotion that waits begins when there is room.
The model's choices in it: log 5, 61, 65, 164. -/
def Obligations.PagesMoveBetweenTiers : Prop :=
  ∀ (o : Nat) (p : PageObj) (s : State), s.top.live = true → s.core.page o = some p → p.poison = false →
    let c := s.core
    let good := fun (n : Nat) => Claims.copySound s.top c n p
    let narrowed := fun (d : WriteDown) => if d.fmt = p.fmt then p.data else (narrowData p.fmt d.fmt (shH c.shape) (shD c.shape) p.data).go.1
    (∀ fr c1, p.promoting = true → p.down = none → c.aheadOf s.top p = false → c.promoteFrame s.top o p = some (fr, c1) →
      c1.frameBusy fr = false → p.inTier 2 = true → p.dirty.getLsbD 0 = false → good 2 →
      ∃ t g, exec (.promotionComplete o) s = .next t ∧ t.top = s.top ∧ t.core.page o = some g ∧ g.inTier 1 = true ∧ g.t1 = some fr ∧
        g.promoting = false ∧ g.inTier 2 = true ∧ g.data = p.data ∧ g.fill = p.fill ∧ t.core.ctxs = c.ctxs ∧ t.core.fabric = c.fabric) ∧
    (∀ d, p.down = some d →
      (d.tier = 2 → d.units = none → p.t1.isSome = true → good p.fastest → ∃ t g, exec (.writeDownComplete o) s = .next t ∧ t.top = s.top ∧
        t.core.page o = some g ∧ g.inTier 2 = true ∧ g.inTier 1 = false ∧ g.t1 = none ∧ g.down = none ∧ g.fmt = d.fmt ∧
        g.t2 = some (d.off, c.unitsIn d.fmt) ∧ g.data = narrowed d ∧ t.core.ctxs = c.ctxs ∧ t.core.fabric = c.fabric) ∧
      (d.tier = 3 → d.units = none → good p.fastest → (∀ u < c.unitsIn d.fmt, (c.memberConn (c.unitAddr d.set d.off u).1).isSome = true) →
        ∃ t g, exec (.writeDownComplete o) s = .next t ∧ t.top = s.top ∧ t.core.page o = some g ∧
          g.down = some { d with units := some (List.range (c.unitsIn d.fmt)), data := narrowed d } ∧ g.data = p.data ∧
          g.present = p.present ∧ t.core.ctxs = c.ctxs) ∧
      (d.tier = 3 → d.units = some [] → ∃ t g, exec (.writeDownComplete o) s = .next t ∧ t.top = s.top ∧ t.core.page o = some g ∧
        g.inTier 3 = true ∧ g.inTier 2 = false ∧ g.t3 = some (d.set, d.off) ∧ g.t2 = none ∧ g.down = none ∧ g.fmt = d.fmt ∧
        g.data = d.data ∧ t.core.ctxs = c.ctxs ∧ t.core.fabric = c.fabric)) ∧
    (c.tiers.pages.filter (fun e => e.2.pendingDown) = [(o, p)] → p.t1.isSome = true → p.t0 = none → p.present = 2#4 → p.down = none →
      (c.within s.top (c.payer p) 2 (4096 * c.unitsIn (c.downFmt p 2)) = true → (c.findWarm s.top (c.unitsIn (c.downFmt p 2))).isSome = true →
        ∃ t g d, exec .pendingDemotionStart s = .next t ∧ t.top = s.top ∧ t.core.page o = some g ∧ g.pendingDown = false ∧
          g.down = some d ∧ d.tier = 2 ∧ d.fmt = c.downFmt p 2 ∧ d.given = false ∧ g.data = p.data ∧ t.core.ctxs = c.ctxs) ∧
      (c.within s.top (c.payer p) 2 (4096 * c.unitsIn (c.downFmt p 2)) = false → c.tiers.stripes = [] →
        exec .pendingDemotionStart s = .next s)) ∧
    (p.fill = 256 → p.t0.isSome = true → p.inTier 0 = true → p.dirty.getLsbD 0 = true → good 0 → ∃ t g, exec (.tier0WriteBack o) s = .next t ∧ t.top = s.top ∧
      t.core.page o = some g ∧ g.inTier 0 = true ∧ g.inTier 1 = true ∧ g.dirty.getLsbD 0 = false ∧ g.data = p.data ∧ t.core.ctxs = c.ctxs)

/-! ### Messages of work -/

/-- Connection `cid` of a device with power has delivered message `q`, of the type and kind given, and it is the oldest. -/
def Claims.delivered (s : State) (cid type : Nat) (kind : Option Nat) (q : Msg) : Prop :=
  s.top.live = true ∧ s.core.headMsg cid type kind = some q

/-- Checks 1 to 3 of R179 that a message of work passes, and the row of R58 that accepts it: a bound job without a fault, a handle that is
not stale, the context's epoch. -/
def Claims.workPasses (s : State) (q : Msg) : Prop :=
  let i := hIndex (q.arg 0 4)
  s.top.dev = .bound ∧ s.core.quiesced = false ∧ s.core.stale s.top (q.arg 0 4) = false ∧ q.arg 4 2 = (s.core.ctx i).epoch

/-- STEP_QUERY, CHUNK_SUBMIT and HELD_MESSAGE_TIMEOUT (R51, R58, R133, R149, R178, R179, R205, R206): an accepted message takes a message
reference; the first of a group begins an item, another joins its item; a stale handle is counted; a context that is moving in holds the
message, and one held too long leaves. The model's choices in it: log 70, 72. -/
def Obligations.WorkMessagesBecomeItems : Prop :=
  ∀ (cid : Nat) (q : Msg) (s : State),
    let c := s.core
    let i := hIndex (q.arg 0 4)
    let x := c.ctx i
    let l := q.arg 6 2
    (Claims.delivered s cid 0x10 none q → Claims.workPasses s q → x.workFate false = .accept → x.msgs < 16777215 → c.stepBad i q = none →
      (l % shG c.shape = 0 → ∃ t it, exec (.stepQuery cid) s = .next t ∧ t.top = s.top ∧
        t.core.sched.items.get? c.sched.nextItem = some it ∧ it.ctx = i ∧ it.chunk = false ∧ it.group = l / shG c.shape ∧
        it.start = q.arg 8 4 ∧ it.msgs = [stepMsg cid q] ∧ it.step = 0 ∧ (t.core.ctx i).msgs = x.msgs + 1 ∧
        (t.core.ctx i).state = x.state ∧ t.core.tiers = c.tiers ∧ (∀ j, j ≠ i → t.core.ctx j = c.ctx j)) ∧
      (∀ k it, l % shG c.shape ≠ 0 → c.itemFor i l false = some (k, it) → c.sched.items.get? k = some it →
        ∃ t y, exec (.stepQuery cid) s = .next t ∧ t.top = s.top ∧ t.core.sched.items.get? k = some y ∧
          y.msgs = it.msgs ++ [stepMsg cid q] ∧ y.next = l + 1 ∧ (t.core.ctx i).msgs = x.msgs + 1)) ∧
    (Claims.delivered s cid 0x10 none q → s.top.dev = .bound → c.quiesced = false → c.stale s.top (q.arg 0 4) = true →
      ∃ t, exec (.stepQuery cid) s = .next t ∧ t.top = s.top ∧ t.core.sched.nextItem = c.sched.nextItem ∧
        t.core.ctr (.summit (i / 32768) 0) = (c.ctr (.summit (i / 32768) 0)).up 1) ∧
    (Claims.delivered s cid 0x10 none q → Claims.workPasses s q → x.state = .movingIn → x.cut = false → x.msgs < 16777215 →
      heldCount (x.held ++ [{ conn := cid, cls := q.cls, chunk := false, epoch := x.epoch, body := q.body, at_ := s.top.now }]) ≤ 4 →
      ∃ t, exec (.stepQuery cid) s = .next t ∧ t.top = s.top ∧ (t.core.ctx i).msgs = x.msgs + 1 ∧
        (t.core.ctx i).held = x.held ++ [{ conn := cid, cls := q.cls, chunk := false, epoch := x.epoch, body := q.body, at_ := s.top.now }]) ∧
    (Claims.delivered s cid 0x20 none q → Claims.workPasses s q → x.workFate true = .accept → x.msgs < 16777215 → c.chunkBad i cid q = none →
      q.arg 16 1 = 0 → l % shG c.shape = 0 → ∃ t, exec (.chunkSubmit cid) s = .next t ∧ t.top = s.top ∧ (t.core.ctx i).msgs = x.msgs + 1 ∧
        (t.core.ctx i).state = (if x.state = .generate then .prompt else x.state) ∧ t.core.tiers = c.tiers ∧
        (q.arg 12 2 ≤ 256 → ∃ it, t.core.sched.items.get? c.sched.nextItem = some it ∧ it.ctx = i ∧ it.chunk = true ∧
          it.start = q.arg 8 4 ∧ it.count = q.arg 12 2 ∧ it.msgs = [partMsg cid q]) ∧
        (256 < q.arg 12 2 → ∃ p ∈ t.core.sched.layers, p.ctx = i ∧ p.layer = l ∧ p.parts = [partMsg cid q] ∧ p.count = q.arg 12 2)) ∧
    (∀ k h, s.top.live = true → (c.ctx k).held.find? (fun h => h.at_ + 500000000 ≤ s.top.now) = some h →
      ∃ t, exec (.heldMessageTimeout k) s = .next t ∧ t.top = s.top ∧ (t.core.ctx k).held = (c.ctx k).held.erase h ∧
        (t.core.ctx k).state = (c.ctx k).state ∧ t.core.tiers = c.tiers)

/-! ### Moves -/

/-- MOVE_START of the push types and of RESUME (R57, R115 to R117, R127, R146, R147): the source context of a push enters MOVING_OUT and keeps its
former state as the prior one; a record opens, with an ID that no other record of this node bears, and the command waits for the answer of its peer.
The model's choices in it: log 77, 85, 86, 89, 168. -/
def Obligations.MoveStartOpensARecord : Prop :=
  ∀ (m cid : Nat) (y : MoveType) (a : Cmd) (s : State),
    let c := s.core
    let i := hIndex a.handle
    let x := c.ctx i
    let peer := a.arg 2 2
    let tag := a.arg 8 8
    let new := fun (c' : Core) (mv : Move) => c'.moves.get? c.nextMove = some mv ∧ mv.type = y ∧ mv.phase = .opening ∧
      mv.mbox = some m ∧ mv.conn = cid ∧ mv.peerNode = peer ∧ mv.tag = tag ∧ mv.initiator = s.top.nodeId ∧ mv.ended = none ∧
      (∀ e ∈ c.moves, e.2.initiator = s.top.nodeId → e.2.id ≠ mv.id)
    Takes s m 0x0401 a → MoveType.ofCode (a.arg 0 1) = some y → peer < 0x3FFF → (a.arg 32 2 < 16384 ∨ a.arg 32 2 = 0xFFFF) →
    c.connFor (a.arg 36 2) peer = some cid → (tag = 0 ∨ ∀ e ∈ c.moves, e.2.tag = tag → e.2.ended ≠ none) →
    (c.newMoveId s.top).isSome = true →
    (y = .handoff ∨ y = .migrate ∨ y = .park → x.state ∈ y.from_ → peer ≠ s.top.nodeId →
      (if y = .park then a.arg 1 1 = 4 ∨ a.arg 1 1 = 5 else a.arg 1 1 = 0) →
      (y = .park ∨ a.arg 16 4 = 0 ∨ (c.curLen x ≤ a.arg 16 4 ∧ a.arg 16 4 ≤ x.maxLen)) → c.moveRoom (i / 32768) = true →
      c.hasRef i .msg = true → ∃ c' mv, exec (.moveStart m) s = .next (s.holds m c') ∧ new c' mv ∧ mv.source = true ∧ mv.ctx = i ∧
        mv.newEpoch = (x.epoch + 1) % 65536 ∧ (c'.ctx i).state = .movingOut ∧ (c'.ctx i).prior = x.state ∧
        (∀ j, j ≠ i → c'.ctx j = c.ctx j) ∧ c'.tiers = c.tiers ∧ c'.sched = c.sched) ∧
    (y = .resume → a.arg 1 1 = 0 → c.quiesced = false → (a.arg 34 1 = 0xFF ∨ c.isClient (a.arg 34 1) = true) →
      (bestSummit (c.admissible s.top) (c.moveSummits s.top)).isSome = true →
      ∃ c' mv, exec (.moveStart m) s = .next (s.holds m c') ∧ new c' mv ∧ mv.source = false ∧ mv.ctx = 0 ∧ mv.peerHandle = a.arg 4 4 ∧
        c'.ctxs = c.ctxs ∧ c'.tiers = c.tiers ∧ c'.sched = c.sched)

/-- MOVE_START of ATTACH from a donor on this node (R140, R142, R143), whose full pages are shared, and a tag that a live record bears refuses; MOVE_ABORT (R138), MOVE_QUERY,
MOVE_PARAM_SET and PARK_TTL_SET (R136, R144, R146, R147). The model's choices in it: log 78, 84. -/
def Obligations.AttachAbortAndMoveSettings : Prop :=
  ∀ (m : Nat) (a : Cmd) (s : State),
    let c := s.core
    let i := hIndex a.handle
    let n := a.arg 24 4
    (Takes s m 0x0401 a → a.arg 0 1 = 5 → a.arg 1 1 = 0 → a.arg 2 2 = s.top.nodeId → s.top.nodeId < 0x3FFF →
      (a.arg 32 2 < 16384 ∨ a.arg 32 2 = 0xFFFF) → (a.arg 8 8 = 0 ∨ ∀ e ∈ c.moves, e.2.tag = a.arg 8 8 → e.2.ended ≠ none) →
      (c.ctx i).state = .reserved → c.curLen (c.ctx i) = 0 → (c.ctx i).attaching = false →
      1 ≤ n → n ≤ (c.ctx i).maxLen → n % 256 = 0 → a.arg 28 4 ≤ 1048576 → (c.ctx i).maxLen + a.arg 28 4 ≤ 2097152 →
      c.stale s.top (a.arg 4 4) = false → (c.ctx (hIndex (a.arg 4 4))).state ∈ MoveType.attach.from_ →
      n ≤ c.curLen (c.ctx (hIndex (a.arg 4 4))) → c.moveRoom (i / 32768) = true → (c.newMoveId s.top).isSome = true →
      ∃ c' p, exec (.moveStart m) s = .next (s.answers m c' p) ∧ p.length = 12 ∧ (c'.ctx i).state = .reserved ∧
        (c'.ctx i).posOff = a.arg 28 4 ∧ (∀ l < shLayers c.shape, (c'.ctx i).held1 l = n) ∧
        (∀ l < shLayers c.shape, ∀ k < n / 256, ∀ r, (c.ctx (hIndex (a.arg 4 4))).ref l k = some r →
          ((c'.ctx i).ref l k).map PageRef.obj = some r.obj) ∧ c'.tiers.pages = c.tiers.pages) ∧
    (Takes s m 0x0401 a → a.arg 0 1 = 5 → a.arg 1 1 = 0 → a.arg 2 2 = s.top.nodeId → s.top.nodeId < 0x3FFF →
      (a.arg 32 2 < 16384 ∨ a.arg 32 2 = 0xFFFF) → (c.ctx i).state = .reserved → c.curLen (c.ctx i) = 0 → (c.ctx i).attaching = false →
      1 ≤ n → n ≤ (c.ctx i).maxLen → a.arg 28 4 ≤ 1048576 → (c.ctx i).maxLen + a.arg 28 4 ≤ 2097152 →
      c.stale s.top (a.arg 4 4) = false → (c.ctx (hIndex (a.arg 4 4))).state ∈ MoveType.attach.from_ →
      n ≤ c.curLen (c.ctx (hIndex (a.arg 4 4))) → a.arg 8 8 ≠ 0 → (∃ e ∈ c.moves, e.2.tag = a.arg 8 8 ∧ e.2.ended = none) →
      exec (.moveStart m) s = .next (s.refuses m .busy 0)) ∧
    (∀ r mv, Takes s m 0x0402 a → c.findMove (a.arg 2 2) (a.arg 0 2) = some (r, mv) → c.moves.get? r = some mv → mv.ended = none →
      mv.cut = false → ∃ c', exec (.moveAbort m) s = .next (s.answers m c') ∧
        (∃ mv', c'.moves.get? r = some mv' ∧ mv'.ended = some s.top.now ∧ mv'.phase = .aborted) ∧
        (mv.source = true → mv.type ≠ .attach → (c.ctx mv.ctx).state = .movingOut → (c'.ctx mv.ctx).state = (c.ctx mv.ctx).prior)) ∧
    (∀ r mv, Takes s m 0x0402 a → c.findMove (a.arg 2 2) (a.arg 0 2) = some (r, mv) → mv.cut = true →
      exec (.moveAbort m) s = .next (s.refuses m .stateReject (stateDetail .move mv.phase.code))) ∧
    (∀ r mv, Takes s m 0x0403 a → c.findMove (a.arg 2 2) (a.arg 0 2) = some (r, mv) →
      ∃ p, exec (.moveQuery m) s = .next (s.answers m c p) ∧ p.length = 32 ∧ rd p 0 1 = mv.type.code ∧ rd p 2 1 = mv.phase.code ∧
        rd p 4 4 = mv.carried % 2 ^ 32 ∧ rd p 8 4 = mv.acked % 2 ^ 32) ∧
    (∀ v, Takes s m 0x0404 a → a.arg 0 4 = v → (v = 0 ∨ (10 ≤ v ∧ v ≤ 100000)) →
      exec (.moveParamSet m) s = .next (s.answers m { c with stallUs := if v = 0 then 200 else v })) ∧
    (∀ k v, Takes s m 0x0405 a → a.arg 0 1 = k → a.arg 4 4 = v → c.isClient k = true → v ≤ 86400 →
      exec (.parkTtlSet m) s = .next (s.answers m
        { c with clients := c.clients.set k { c.client k with ttl := if v = 0 then 600 else v } }))

/-- A move message that names a local context by a handle that is not stale (R51), and that R58 does not refuse in the context's state. -/
def Claims.reaches (s : State) (type kind h : Nat) : Prop :=
  s.core.stale s.top h = false ∧
  (type = 0x32 ∨ (type = 0x30 ∧ kind = 4) ∨ ((s.core.ctx (hIndex h)).state ≠ .draining ∧ (s.core.ctx (hIndex h)).state ≠ .faulted))

/-- Connection `cid` has delivered a move message that names record `r`, which bears the message's epoch and has not ended (R119). -/
def Claims.onRecord (s : State) (cid type kind : Nat) (src : Bool) (q : Msg) (r : Nat) (mv : Move) : Prop :=
  Claims.delivered s cid type (some kind) q ∧ Claims.reaches s type kind (if src then q.arg 8 4 else q.arg 12 4) ∧ s.core.findMove (q.arg 4 2 % 2 ^ 14) (q.arg 2 2) = some (r, mv) ∧
  s.core.moves.get? r = some mv ∧ q.arg 6 2 = mv.wire ∧ mv.source = src ∧ mv.ended = none

/-- The context that an accepted OPEN fills (R57, R117, R121). -/
def Claims.openCtx (cid : Nat) (q : Msg) : Ctx :=
  { state := .movingIn, client := q.arg 28 1, prio := q.arg 29 1 % 8, cls := bits (q.arg 29 1) 7 4, maxLen := q.arg 32 4,
    epoch := q.arg 6 2, posOff := q.arg 44 4, conns := [cid] }

/-- The destination of a move (R117, R125, R129, R132 to R138): an OPEN is accepted into a context in MOVING_IN; a fragment is recorded and its stall
timer runs; CUTOVER sets every layer's length; ABORT before cutover drains the context; COMPLETE with every page here ends the move, and the context
enters the state it arrives in. The model's choices in it: log 79, 80, 82, 86, 116, 169, 170, 173. -/
def Obligations.MoveDestinationReceivesTheSequence : Prop :=
  ∀ (cid r : Nat) (q : Msg) (mv : Move) (s : State),
    let c := s.core
    let x := c.ctx mv.ctx
    (∀ sm i c1 c2, Claims.delivered s cid 0x30 (some 1) q → s.top.dev = .bound → q.arg 24 4 = c.jobId → c.quiesced = false →
      c.findMove (q.arg 4 2 % 2 ^ 14) (q.arg 2 2) = none →
      (∀ e ∈ c.moves, q.arg 16 8 = 0 ∨ e.2.tag ≠ q.arg 16 8 ∨ e.2.ended ≠ none ∨ e.2.ctx = 0) → c.openBad q (q.arg 28 1) = none →
      c.fitsMove s.top (q.arg 28 1) (shLayers c.shape * pagesOf (q.arg 40 4)) (decide (q.arg 30 1 = CtxState.parked.code)) = true →
      bestSummit (c.admissible s.top) (c.moveSummits s.top) = some sm →
      (c.takeMsg cid q).takeCtx s.top sm (Claims.openCtx cid q) = .ok (i, c1) →
      c1.commitAll s.top i (pagesOf (q.arg 40 4)) (decide (q.arg 30 1 = CtxState.parked.code)) = some c2 →
      ∃ t mv', exec (.statePushOpen cid) s = .next t ∧ t.top = s.top ∧ t.core.ctxs = c2.ctxs ∧ (t.core.ctx i).state = .movingIn ∧
        (t.core.ctx i).epoch = q.arg 6 2 ∧ (t.core.ctx i).maxLen = q.arg 32 4 ∧ t.core.moves.get? c.nextMove = some mv' ∧
        mv'.source = false ∧ mv'.phase = .bulk ∧ mv'.ctx = i ∧ mv'.id = q.arg 2 2 ∧ mv'.newEpoch = q.arg 6 2 ∧ mv'.carried = q.arg 56 4) ∧
    (∀ l pg o p frag, Claims.onRecord s cid 0x30 2 false q r mv → q.arg 16 2 = l → q.arg 18 2 = pg → frag = (q.body.drop 48).take (q.arg 40 4) →
      l < shLayers c.shape → pg < x.pagesP → q.arg 20 1 ≤ 3 → q.arg 36 4 = 0 → frag.length < q.arg 32 4 → q.arg 40 4 ≤ q.arg 32 4 →
      mv.recvOf l pg = none → c.pageOf mv.ctx l pg = some (o, p) →
      ∃ t mv' g, exec (.statePushPage cid) s = .next t ∧ t.top = s.top ∧ t.core.moves.get? r = some mv' ∧ mv'.recvOf l pg = some g ∧
        g.got = [(0, frag.length)] ∧ g.total = q.arg 32 4 ∧ g.attempt = q.arg 20 1 ∧ g.complete = false ∧
        g.stallAt = some (s.top.now + 1000 * c.stallUs) ∧ mv'.owed = (if mv.owed + 1 < 8 then mv.owed + 1 else 0)) ∧
    (Claims.onRecord s cid 0x30 3 false q r mv → mv.type ≠ .attach → mv.complete = false → x.held = [] →
      ∃ t mv', exec (.statePushCutover cid) s = .next t ∧ t.top = s.top ∧ t.core.moves.get? r = some mv' ∧ mv'.cut = true ∧
        mv'.finalLen = q.arg 16 4 ∧ mv'.carried = q.arg 20 4 ∧ (t.core.ctx mv.ctx).cut = true ∧ (t.core.ctx mv.ctx).state = x.state ∧
        (∀ l < shLayers c.shape, (t.core.ctx mv.ctx).held1 l = q.arg 16 4) ∧ t.core.tiers = c.tiers) ∧
    (Claims.onRecord s cid 0x30 4 false q r mv → mv.cut = false → mv.type ≠ .attach → x.state = .movingIn →
      ∃ t mv', exec (.statePushAbort cid) s = .next t ∧ t.top = s.top ∧ t.core.moves.get? r = some mv' ∧ mv'.phase = .aborted ∧
        mv'.ended = some s.top.now ∧ (t.core.ctx mv.ctx).state = .draining) ∧
    (Claims.onRecord s cid 0x33 3 false q r mv → mv.type ≠ .attach → ∃ t mv', exec (.drainMarkComplete cid) s = .next t ∧ t.top = s.top ∧
      t.core.moves.get? r = some mv' ∧ mv'.complete = true ∧
      ((mv.recv.filter RecvPage.complete).length < mv.carried → mv'.ended = none ∧ t.core.ctxs = c.ctxs) ∧
      (mv.carried ≤ (mv.recv.filter RecvPage.complete).length → mv.cut = true → x.state = .movingIn → mv.arrival ≠ .parked →
        mv'.ended = some s.top.now ∧ mv'.phase = .done ∧ (t.core.ctx mv.ctx).state = mv.arrival))

/-- The source of a move (R127, R128, R130, R134, R136, R142): a pull opens a record; a page asked for again is sent from its start; the
answer to the OPEN sets the peer's handle and the credits; acknowledgements return credits and count pages; DONE ends the move and drains
the context; a fragment goes out against a credit. The model's choices in it: log 79, 82, 83, 89. -/
def Obligations.MoveSourceSendsTheSequence : Prop :=
  ∀ (cid r : Nat) (q : Msg) (mv : Move) (s : State),
    let c := s.core
    let h := q.arg 8 4
    let i := hIndex h
    (Claims.delivered s cid 0x31 (some 1) q → s.top.dev = .bound → c.stale s.top h = false → (c.ctx i).state ∈ MoveType.resume.from_ →
      c.findMove (q.arg 4 2 % 2 ^ 14) (q.arg 2 2) = none → c.moveRoom (i / 32768) = true → c.hasRef i .msg = true →
      ∃ t mv', exec (.statePullOpen cid) s = .next t ∧ t.top = s.top ∧ t.core.moves.get? c.nextMove = some mv' ∧ mv'.type = .resume ∧
        mv'.source = true ∧ mv'.phase = .opening ∧ mv'.ctx = i ∧ (t.core.ctx i).state = .movingOut ∧ (t.core.ctx i).prior = (c.ctx i).state ∧
        (∀ j, j ≠ i → t.core.ctx j = c.ctx j) ∧ t.core.tiers = c.tiers) ∧
    (Claims.delivered s cid 0x31 (some 2) q → s.top.dev = .bound → c.stale s.top h = false → (c.ctx i).state ∈ MoveType.attach.from_ →
      1 ≤ q.arg 24 4 → q.arg 24 4 ≤ c.curLen (c.ctx i) → c.findMove (q.arg 4 2 % 2 ^ 14) (q.arg 2 2) = none → c.moveRoom (i / 32768) = true →
      c.hasRef i .pin (shLayers c.shape * pagesOf (q.arg 24 4)) = true → ∃ t mv', exec (.statePullCopy cid) s = .next t ∧ t.top = s.top ∧ t.core.moves.get? c.nextMove = some mv' ∧ mv'.type = .attach ∧
        mv'.source = true ∧ mv'.prefixLen = q.arg 24 4 ∧ mv'.credits = 32 ∧ (t.core.ctx i).state = (c.ctx i).state ∧
        (t.core.ctx i).pins = (c.ctx i).pins + (shOrder c.shape).length * pagesOf (q.arg 24 4) ∧
        (∀ o g, c.page o = some g → ∃ g', t.core.page o = some g' ∧ g'.data = g.data ∧ g'.fill = g.fill ∧ g'.present = g.present)) ∧
    (Claims.onRecord s cid 0x31 3 true q r mv → q.arg 32 1 ≤ 3 → ∃ t mv', exec (.statePullPage cid) s = .next t ∧ t.top = s.top ∧
      t.core.moves.get? r = some mv' ∧ t.core.tiers = c.tiers ∧
      mv'.sent = mv.sent.map (fun p => if p.layer == q.arg 28 2 && p.page == q.arg 30 2 then
        { p with attempt := q.arg 32 1, sent := 0, acked := false } else p)) ∧
    (Claims.onRecord s cid 0x32 1 true q r mv → mv.phase = .opening → mv.type = .migrate →
      (q.arg 16 1 = Status.ok.code → ∃ t mv', exec (.stateAckOpen cid) s = .next t ∧ t.top = s.top ∧ t.core.moves.get? r = some mv' ∧
        mv'.phase = .bulk ∧ mv'.credits = q.arg 20 2 ∧ mv'.peerHandle = q.arg 12 4 ∧ mv'.mbox = none ∧ mv'.ended = none) ∧
      (q.arg 16 1 = Status.deferredMemory.code → (c.ctx mv.ctx).state = .movingOut → ∃ t mv', exec (.stateAckOpen cid) s = .next t ∧
        t.core.moves.get? r = some mv' ∧ mv'.ended = some s.top.now ∧ (t.core.ctx mv.ctx).state = (c.ctx mv.ctx).prior)) ∧
    (Claims.delivered s cid 0x32 (some 7) q → c.findMove (q.arg 4 2 % 2 ^ 14) (q.arg 2 2) = some (r, mv) → c.moves.get? r = some mv →
      mv.ended = none → mv.source = false → mv.type = .resume → mv.ctx = 0 → q.arg 16 1 = Status.noResource.code →
      (∃ e ∈ c.moveReqs r, e.2.type = 0x31 ∧ (e.2.tag = 1 ∨ e.2.tag = 2)) → ∃ t mv', exec (.stateAckPull cid) s = .next t ∧
        t.top = s.top ∧ t.core.moves.get? r = some mv' ∧ mv'.ended = some s.top.now ∧ mv'.status = .noResource ∧ t.core.tiers = c.tiers) ∧
    (∀ p, Claims.onRecord s cid 0x32 2 true q r mv → q.arg 16 1 = Status.ok.code →
      mv.sent.find? (fun y => y.layer == q.arg 22 2 && y.page == q.arg 24 2) = some p → p.acked = false →
      ∃ t mv', exec (.stateAckPage cid) s = .next t ∧ t.top = s.top ∧ t.core.moves.get? r = some mv' ∧ mv'.acked = mv.acked + 1 ∧
        mv'.credits = mv.credits + q.arg 20 2 ∧ (∀ y ∈ mv'.sent, y.layer = q.arg 22 2 → y.page = q.arg 24 2 → y.acked = true)) ∧
    (Claims.onRecord s cid 0x32 5 true q r mv → ∃ t, exec (.stateAckCredit cid) s = .next t ∧ t.top = s.top ∧
      t.core.moves = c.moves.upd r (fun y => { y with credits := y.credits + q.arg 20 2 }) ∧ t.core.ctxs = c.ctxs ∧ t.core.tiers = c.tiers) ∧
    (Claims.onRecord s cid 0x32 3 true q r mv → ∃ t, exec (.stateAckCutover cid) s = .next t ∧ t.top = s.top ∧ t.core.moves = c.moves ∧
      (∀ e ∈ t.core.moveReqs r, ¬ (e.2.type = 0x30 ∧ e.2.tag = 3)) ∧ t.core.tiers = c.tiers) ∧
    (Claims.onRecord s cid 0x32 6 true q r mv → mv.cut = true → (c.ctx mv.ctx).state = .movingOut → ∃ t mv',
      exec (.stateAckDone cid) s = .next t ∧ t.top = s.top ∧ t.core.moves.get? r = some mv' ∧ mv'.ended = some s.top.now ∧
      mv'.phase = .done ∧ (t.core.ctx mv.ctx).state = .draining) ∧
    (∀ p o g, s.top.live = true → c.noteReady = c → c.moves.get? r = some mv → mv.source = true → mv.ended = none → mv.phase ≠ .opening →
      0 < mv.credits → c.nextToSend mv = some p → 0 < p.sent → c.pageOf mv.ctx p.layer p.page = some (o, g) → g.poison = false →
      ∃ t mv', exec (.movePagePush r) s = .next t ∧ t.top = s.top ∧ t.core.moves.get? r = some mv' ∧ mv'.credits = mv.credits - 1 ∧
        (∃ y ∈ mv'.sent, y.layer = p.layer ∧ y.page = p.page ∧ y.at_ = s.top.now ∧
          y.sent = p.sent + min 65536 (c.streamLen g - p.sent)))

/-- Drain markers and the timers of moves (R134 to R138, R147): a MARK changes no context and no move, and is echoed where this node holds no record
of the move, holds its source, or holds its destination in the MARK's epoch; an ECHO, or its timeout, clears what is awaited; an OPEN that is not answered aborts the move; a page that stalls or is not acknowledged is tried again; a record lives for
1 s after its move. The model's choices in it: log 87, 174. -/
def Obligations.DrainMarkersAndMoveTimers : Prop :=
  ∀ (cid r : Nat) (q : Msg) (mv : Move) (s : State),
    let c := s.core
    let heard := fun (x : Req) => x.mseq = none ∨ ∃ h, c.fabric.heard.get? x.node = some h ∧ x.sent ≤ h
    (Claims.delivered s cid 0x33 (some 1) q → ∃ t, exec (.drainMarkMark cid) s = .next t ∧ t.top = s.top ∧ t.core.ctxs = c.ctxs ∧
      t.core.moves = c.moves ∧ t.core.tiers = c.tiers ∧ (t.core.conn cid).inbox = (c.conn cid).inbox.tail ∧
      ((∀ k m, c.findMove (q.arg 4 2 % 2 ^ 14) (q.arg 2 2) = some (k, m) →
          m.source = true ∨ (q.arg 6 2 = m.wire ∧ Claims.reaches s 0x33 1 (q.arg 12 4))) →
        (c.conn cid).state = .opened → (c.conn cid).rsp.wait = [] → 1 ≤ (c.conn cid).rsp.held → 1 ≤ (c.conn cid).rsp.heldMax →
        (t.core.conn cid).rsp.next = ((c.conn cid).rsp.next + 1) % 2 ^ 32 ∧
          (t.core.conn cid).rsp.held = (c.conn cid).rsp.held - 1)) ∧
    (Claims.onRecord s cid 0x33 2 true q r mv → ∃ t, exec (.drainMarkEcho cid) s = .next t ∧ t.top = s.top ∧
      (∀ e ∈ t.core.moveReqs r, ¬ (e.2.type = 0x33 ∧ e.2.conn = cid)) ∧ t.core.tiers = c.tiers) ∧
    (∀ k x, s.top.live = true → (c.moveReqs r).find? (fun e => c.reqDue s.top e.2 && e.2.type == 0x33 && e.2.conn == cid) = some (k, x) →
      c.fabric.reqs.get? k = some x → heard x → ∃ t, exec (.drainTimeout r cid) s = .next t ∧ t.top = s.top ∧
        t.core.fabric.reqs.get? k = none ∧ t.core.tiers = c.tiers) ∧
    (∀ k x, s.top.live = true → (c.moveReqs r).find? (fun e => c.reqDue s.top e.2 && e.2.movesAlone && e.2.type != 0x33) = some (k, x) →
      c.fabric.reqs.get? k = some x → heard x → c.moves.get? r = some mv → mv.ended = none → mv.source = true → mv.type ≠ .attach →
      (c.ctx mv.ctx).state = .movingOut → ∃ t mv', exec (.moveOpenTimeout r) s = .next t ∧ t.top = s.top ∧
        t.core.moves.get? r = some mv' ∧ mv'.ended = some s.top.now ∧ mv'.phase = .aborted ∧ mv'.status = .timeout ∧
        (t.core.ctx mv.ctx).state = (c.ctx mv.ctx).prior) ∧
    (∀ l pg p e, s.top.live = true → c.moves.get? r = some mv → mv.ended = none → mv.recvOf l pg = some p → p.stallAt = some e →
      c.hasRef mv.ctx .msg = true → e ≤ s.top.now → p.complete = false → p.attempt < 3 → ∃ t mv' g, exec (.stallTimerExpiry r l pg) s = .next t ∧ t.top = s.top ∧
        t.core.moves.get? r = some mv' ∧ mv'.stalls = mv.stalls + 1 ∧ mv'.recvOf l pg = some g ∧ g.attempt = p.attempt + 1 ∧ g.got = []) ∧
    (∀ l pg p o g h, s.top.live = true → c.moves.get? r = some mv → mv.ended = none → mv.source = true →
      mv.sent.find? (fun y => y.layer == l && y.page == pg) = some p → p.acked = false → p.attempt < 3 →
      c.pageOf mv.ctx l pg = some (o, g) → c.streamLen g ≤ p.sent → p.at_ + (c.conn mv.conn).timeoutUs * 1000 ≤ s.top.now →
      c.fabric.heard.get? mv.peerNode = some h → p.at_ ≤ h → ∃ t mv', exec (.pageAckTimeout r l pg) s = .next t ∧ t.top = s.top ∧
        t.core.moves.get? r = some mv' ∧ mv'.sent = mv.sent.map (fun y => if y.layer == l && y.page == pg then
          { y with attempt := y.attempt + 1, sent := 0 } else y) ∧ t.core.tiers = c.tiers) ∧
    (∀ e, s.top.live = true → c.moves.get? r = some mv → mv.ended = some e →
      (e + 1000000000 ≤ s.top.now → exec (.moveRecordExpiry r) s = .next { s with core := { c with moves := c.moves.del r } }) ∧
      (s.top.now < e + 1000000000 → exec (.moveRecordExpiry r) s = .next s))

/-! ### Vector search -/

/-- The 0x08xx commands (R246 to R253, R266 to R268, R271): an index is created LOADING with the parameters given; a load reads host memory; a seal
that passes its checks makes it READY at generation 1 with an empty side list and its digest table filled; a merge takes its cut and waits, and one
refused signals its object all the same; DESTROY retires it; queries and SEARCH_SET. The model's choices in it: log 120, 122, 123, 124, 175. -/
def Obligations.IndexCommandsFollowTheStateTable : Prop :=
  ∀ (m : Nat) (a : Cmd) (s : State),
    let c := s.core
    let x := a.arg 0 1
    (Takes s m 0x0801 a → x < 16 → c.idx x = none → idxParams s.top c a = .ok () → idxBudgets s.top c a = .ok () →
      ∃ c' i, exec (.indexCreate m) s = .next (s.answers m c') ∧ c'.idx x = some i ∧ i.state = .loading ∧ i.fmt = a.arg 1 1 ∧
        i.metric = a.arg 2 1 ∧ i.d = a.arg 4 2 ∧ i.sub = a.arg 6 2 ∧ i.nlist = a.arg 8 4 ∧ i.sideCap = a.arg 12 4 ∧ i.nprobe = a.arg 16 2 ∧
        i.client = a.arg 18 1 ∧ i.pd = a.arg 20 2 ∧ i.budget1 = a.arg 24 8 ∧ i.budget2 = a.arg 32 8 ∧ i.cur = { gen := 0 } ∧
        (∀ y, y ≠ x → c'.idx y = c.idx y) ∧ c'.ctxs = c.ctxs ∧ c'.tiers = c.tiers ∧ c'.fabric = c.fabric) ∧
    (c.idx x ≠ none → Takes s m 0x0801 a → x < 16 → exec (.indexCreate m) s = .next (s.refuses m .busy 0)) ∧
    (∀ i, c.idx x = some i →
      (Takes s m 0x0802 a → loadCheck i a = .ok () →
        exec (.indexLoad m) s = .next (s.holds m (c.readHost (.indexLoad m x) (a.arg 8 8) (a.arg 16 8)))) ∧
      (Takes s m 0x0803 a →
        (i.state = .ready → exec (.indexSeal m) s = .next (s.answers m c i.sealed)) ∧
        (i.state = .loading → i.sealCheck = .ok () → ∃ c' i', exec (.indexSeal m) s = .next (s.answers m c' i'.sealed) ∧
          c'.idx x = some i' ∧ i'.state = .ready ∧ i'.cur = i.fillDigests { gen := 0 } { i.cur with gen := 1 } ∧ i'.head = 0 ∧ i'.tail = 0 ∧ i'.centroids = i.centroids ∧
          (∀ y, y ≠ x → c'.idx y = c.idx y) ∧ c'.ctxs = c.ctxs ∧ c'.tiers = c.tiers) ∧
        (∀ st d, i.state = .loading → i.sealCheck = .error (st, d) → exec (.indexSeal m) s = .next (s.refuses m st d))) ∧
      (Takes s m 0x0804 a → i.state = .ready → (a.arg 2 2 < 16384 ∨ a.arg 2 2 = 0xFFFF) → 0 < a.arg 8 4 → a.arg 4 4 + a.arg 8 4 ≤ i.nlist →
        c.quiesced = false → exec (.indexMerge m) s = .next (s.holds m (c.updIdx x (fun i => { i with
          state := .merging, merge := some { cut := i.tail, first := a.arg 4 4, count := a.arg 8 4, obj := a.arg 2 2, mbox := m } })))) ∧
      (Takes s m 0x0805 a → ∃ p, exec (.indexQuery m) s = .next (s.answers m c p) ∧ p.length = 64 ∧ rd p 0 1 = i.state.code ∧
        rd p 4 2 = i.d % 2 ^ 16 ∧ rd p 16 8 = i.head % 2 ^ 64 ∧ rd p 24 8 = i.tail % 2 ^ 64) ∧
      (Takes s m 0x0806 a → ∃ c' i', exec (.indexDestroy m) s = .next (s.answers m c') ∧ c'.idx x = some i' ∧ i'.state = .retiring ∧
        i'.cur = i.cur ∧ (∀ y, y ≠ x → c'.idx y = c.idx y) ∧ c'.search.queries = c.search.queries ∧ c'.tiers = c.tiers)) ∧
    (∀ st d, Takes s m 0x0804 a → mergeCheck c a = .error (st, d) →
      exec (.indexMerge m) s = .next { s with core := ((c.signalDone s.top (a.arg 2 2)).start m).stage m st d [] }) ∧
    (∀ w cr fl, Takes s m 0x0807 a → a.arg 0 4 = w → a.arg 4 1 = cr → a.arg 5 1 = fl → (w ≤ 1000 ∨ w = 0xFFFFFFFF) → (cr ≤ 64 ∨ cr = 0xFF) →
      (fl ≤ 8 ∨ fl = 0xFF) → exec (.searchSet m) s = .next (s.answers m (c.onSearch (fun y => { y with
        windowUs := if w = 0xFFFFFFFF then y.windowUs else w, lunaCredits := if cr = 0xFF then y.lunaCredits else cr,
        lunaFloor := if fl = 0xFF then y.lunaFloor else fl })))) ∧
    (Takes s m 0x0808 a → x ∈ s.top.crests → c.underTest (crestDie x) = false → ∃ p, exec (.lunaQuery m) s = .next (s.answers m c p) ∧
      p.length = 56 ∧ (∀ n < 7, (p.drop (8 * n)).take 8 = (c.ctr (.luna x n)).bytes))

/-- Requests and their work (R255 to R260, R264, R265): an accepted QUERY takes a slot with the generation and the side list's bounds as they
stand; INSERT and DELETE append under the next sequence number; a batch is cut into centroid units; the return of a unit that runs joins its
candidates; a pass over a block serves the queries that wait on it, which skip a bad one, and waits where R268 withholds every issue; a query ends
after 500 ms.
The model's choices in it: log 117, 118, 119, 125, 126, 127, 192, 193. -/
def Obligations.SearchRequestsRunOnTheirIndex : Prop :=
  ∀ (cid : Nat) (q : Msg) (s : State),
    let c := s.core
    let x := q.arg 1 1
    (∀ i, Claims.delivered s cid 0x40 none q → searchCheck s.top c cid q = .ok i →
      (q.arg 0 1 = 1 → c.search.queries.length < 4096 → ∃ t k, exec (.searchQuery cid) s = .next t ∧ t.top = s.top ∧
        t.core.search.queries.get? c.search.nextQuery = some k ∧ k.idx = x ∧ k.k = q.arg 8 2 ∧ k.gen = i.cur.gen ∧ k.head = i.head ∧
        k.tail = i.tail ∧ k.vec = q.vector i.d ∧ k.since = s.top.now ∧ k.batched = false ∧
        k.nprobe = (if q.arg 10 2 = 0 then i.nprobe else q.arg 10 2) ∧ t.core.search.idxs = c.search.idxs ∧ t.core.ctxs = c.ctxs ∧
        t.core.tiers = c.tiers) ∧
      (q.arg 0 1 = 2 → i.tail - i.head < i.sideCap → ∃ t i' e, exec (.searchInsert cid) s = .next t ∧ t.top = s.top ∧
        t.core.idx x = some i' ∧ i'.tail = i.tail + 1 ∧ i'.side = i.side ++ [e] ∧ e.seq = i.tail ∧ e.vid = q.arg 16 8 ∧ e.del = false ∧
        i'.cur = i.cur ∧ i'.head = i.head ∧ t.core.search.queries = c.search.queries ∧ t.core.tiers = c.tiers) ∧
      (q.arg 0 1 = 3 → i.tail - i.head < i.sideCap → ∃ t i', exec (.searchDelete cid) s = .next t ∧ t.top = s.top ∧ t.core.idx x = some i' ∧
        i'.tail = i.tail + 1 ∧ i'.side = i.side ++ [{ seq := i.tail, vid := q.arg 16 8, del := true, vec := [] }] ∧
        i'.cur = i.cur ∧ i'.head = i.head ∧ t.core.search.queries = c.search.queries ∧ t.core.tiers = c.tiers)) ∧
    (∀ y i ks, s.top.live = true → c.idx y = some i →
      ks = Tbl.keys ((c.search.queries.filter (fun e => e.2.idx == y && !e.2.batched)).take 64) →
      (∃ w rest, c.search.queries.filter (fun e => e.2.idx == y && !e.2.batched) = w :: rest ∧
        (64 ≤ (w :: rest).length ∨ w.2.since + 1000 * c.search.windowUs ≤ s.top.now)) →
      ∃ t, exec (.searchBatchWindow y) s = .next t ∧ t.top = s.top ∧ t.core.search.nextUnit = c.search.nextUnit + ceilDiv i.nlist 1024 ∧
        (∀ k g, c.search.queries.get? k = some g → t.core.search.queries.get? k = some (if ks.contains k then
          { g with batched := true, units := (List.range (ceilDiv i.nlist 1024)).map (c.search.nextUnit + ·) } else g)) ∧
        (∀ b < ceilDiv i.nlist 1024, ∃ w, t.core.search.units.get? (c.search.nextUnit + b) = some w ∧ w.idx = y ∧ w.first = 1024 * b ∧ w.queries = ks) ∧
        t.core.search.idxs = c.search.idxs ∧ t.core.tiers = c.tiers) ∧
    (∀ u w i, s.top.live = true → c.search.units.get? u = some w → c.idx w.idx = some i →
      (w.running = false → ∀ bad, exec (.centroidUnitComplete u bad) s = .next s) ∧
      (w.running = true → ∃ t, exec (.centroidUnitComplete u false) s = .next t ∧ t.top = s.top ∧ t.core.search.units.get? u = none ∧
        (∀ k g, c.search.queries.get? k = some g → k ∈ w.queries → u ∈ g.units → g.probe = none → g.units.filter (· != u) ≠ [] →
          t.core.search.queries.get? k = some (i.joinUnit u w.first g)) ∧ t.core.search.idxs = c.search.idxs ∧ t.core.tiers = c.tiers) ∧
      (w.running = true → i.state = .ready ∨ i.state = .merging → ∃ t i', exec (.centroidUnitComplete u true) s = .next t ∧ t.top = s.top ∧
        t.core.idx w.idx = some i' ∧ i'.state = .faulted ∧ i'.merge = none ∧ i'.cur = i.cur)) ∧
    (∀ crest y blk bad i k g rest place, s.top.live = true → c.idx y = some i →
      c.search.queries.filter (fun e => e.2.idx == y && e.2.blocks.contains blk) = (k, g) :: rest → c.search.queries.get? k = some g →
      i.placeOf (i.genOf g.gen) blk = some place → s.top.gone (crestDie crest) = false → c.underTest (crestDie crest) = false →
      s.top.mayScan crest place = true →
      let issues := place % 2 = 1 ∨ i.isBad (i.genOf g.gen) blk = true ∨ c.lunaIssues crest = true
      (issues → ∃ t, exec (.listBlockScan crest y blk bad) s = .next t ∧ t.top = s.top ∧
        (∀ g', t.core.search.queries.get? k = some g' → blk ∉ g'.blocks ∧ (bad = true → blk ∈ g'.skipped)) ∧ t.core.tiers = c.tiers) ∧
      (¬issues → ∃ t, exec (.listBlockScan crest y blk bad) s = .next t ∧ t.top = s.top ∧ t.core.search = c.search ∧ t.core.ctxs = c.ctxs ∧
        t.core.tiers = c.tiers)) ∧
    (∀ k g, s.top.live = true → c.search.queries.get? k = some g →
      (g.since + 500000000 ≤ s.top.now → ∃ t, exec (.searchQueryTimeout k) s = .next t ∧ t.top = s.top ∧
        t.core.search = { c.search with queries := c.search.queries.del k } ∧ t.core.tiers = c.tiers) ∧
      (s.top.now < g.since + 500000000 → exec (.searchQueryTimeout k) s = .next s))

/-- INDEX_MERGE_SWITCH, INDEX_RETIRED and OLD_GENERATION_FREE (R250, R251, R266, R267): the switch makes the rebuilt lists the present
generation, whose number rises by one, and answers INDEX_MERGE, or finds no room and leaves the lists as they are; a RETIRING index goes once
nothing of it is in flight; an old generation goes with its last query.
The model's choices in it: log 117, 121, 122. -/
def Obligations.MergesSwitchAndIndexesRetire : Prop :=
  ∀ (x : Nat) (i : Idx) (s : State), s.top.live = true → s.core.idx x = some i →
    let c := s.core
    let js := fun (g : Merge) => (List.range g.count).map (g.first + ·)
    (∀ g r n a, i.merge = some g → i.rewriteAll g.cut (i.folds g.cut) (js g) { i.cur with gen := i.cur.gen + 1 } 0 = some (r, n) →
      (c.mbox g.mbox).taken = some a → (c.mbox g.mbox).result = none →
      ∃ t i', exec (.indexMergeSwitch x) s = .next t ∧ t.top = s.top ∧ t.core.idx x = some i' ∧ i'.cur = i.fillDigests i.cur r ∧ r.gen = i.cur.gen + 1 ∧
        i'.state = .ready ∧ i'.merge = none ∧ i'.tail = i.tail ∧
        (t.core.mbox g.mbox).result = some ⟨.ok, 0, le 8 g.cut ++ le 4 r.gen ++ le 4 n⟩ ∧ t.core.tiers = c.tiers) ∧
    (∀ g a, i.merge = some g → i.rewriteAll g.cut (i.folds g.cut) (js g) { i.cur with gen := i.cur.gen + 1 } 0 = none →
      (c.mbox g.mbox).taken = some a → (c.mbox g.mbox).result = none →
      ∃ t i', exec (.indexMergeSwitch x) s = .next t ∧ t.top = s.top ∧ t.core.idx x = some i' ∧ i'.cur = i.cur ∧ i'.merge = none ∧
        (t.core.mbox g.mbox).result = some ⟨.noResource, 0, []⟩ ∧ t.core.tiers = c.tiers) ∧
    (i.state = .retiring → (∀ q ∈ c.search.queries.vals, q.idx ≠ x) → c.indexLoading x = false →
      ∃ t, exec (.indexRetired x) s = .next t ∧ t.top = s.top ∧ t.core.idx x = none ∧ (∀ y, y ≠ x → t.core.idx y = c.idx y) ∧
        t.core.sched.due = true ∧ t.core.search.queries = c.search.queries ∧ t.core.tiers = c.tiers) ∧
    ((∃ q ∈ c.search.queries.vals, q.idx = x) → exec (.indexRetired x) s = .next s) ∧
    (∀ n, (∀ q ∈ c.search.queries.vals, q.idx = x → q.gen ≠ n) → ∃ t i', exec (.oldGenerationFree x n) s = .next t ∧ t.top = s.top ∧
      t.core.idx x = some i' ∧ i'.old = i.old.filter (fun g => g.gen != n) ∧ i'.cur = i.cur ∧ t.core.ctxs = c.ctxs ∧ t.core.tiers = c.tiers)

/-! ### Links -/

/-- What a row of port `p` leaves as it is: every other port but the head that serves its bonded group, and every part of the state beside ports,
events and counters. -/
def Claims.portOnly (s t : State) (p : Nat) : Prop :=
  t.top = s.top ∧ t.core.ctxs = s.core.ctxs ∧ t.core.tiers = s.core.tiers ∧ t.core.sched = s.core.sched ∧
    t.core.fabric = s.core.fabric ∧ ∀ q, q ≠ p → q ≠ s.core.head p → q ≠ s.core.head (s.core.head p) → t.core.port q = s.core.port q

/-- What a row sends beside the new slots of port `p`'s frames in progress, which give way to it (R281, R286). -/
def Claims.sends (s t : State) (p : Nat) (os : List Out) : Prop :=
  ∃ more, t.core.out = s.core.out ++ more ∧ more.filter (fun o => match o with
    | .restriped q _ _ _ => q != p
    | _ => true) = os

/-- PORT_QUERY, PORT_SET, PORT_BOND, LANE_QUERY and PORT_RETRAIN (R290, R292, R296, R300, R303) of ports in service that are not under
test. What only a port's decoders count has risen by a free amount. The model's choices in it: log 92, 94, 95, 97. -/
def Obligations.PortCommandsAnswer : Prop :=
  ∀ (m : Nat) (a : Cmd) (s : State),
    let c := s.core
    let p := a.arg 0 1
    let x := c.port p
    let serves := s.top.hasPort p = true ∧ c.underTest (portDie p) = false
    let least := if a.arg 2 1 = 0 then x.minLanes else a.arg 2 1
    let put := fun (x : Port) => { x with minLanes := least, holdUs := if a.arg 4 4 = 2 ^ 32 - 1 then x.holdUs else a.arg 4 4 }
    let args := (a.arg 2 1 = 0 ∨ (4 ≤ a.arg 2 1 ∧ a.arg 2 1 ≤ 16)) ∧ (a.arg 4 4 ≤ 10000 ∨ a.arg 4 4 = 2 ^ 32 - 1)
    let few := (x.state = .up ∨ x.state = .retrain) ∧ x.attemptAt = none ∧
      (laneCount x.txMap < max least x.peerMin ∨ laneCount x.rxMap < max least x.peerMin)
    let mask := a.arg 0 1
    let bond := bondable mask = true ∧ (∀ q ∈ portsOf mask, s.top.hasPort q = true ∧ ((c.port q).group = 0 ∨ (c.port q).group = mask))
    (Takes s m 0x0901 a → serves → ∃ v w q, exec (.portQuery m) s =
        .next (s.answers m ((({ c with nonce := c.nonce + 2 } : Core).bump (.port p 7) v).bump (.port p 8) w) q) ∧
      rd q 0 1 = x.state.code ∧ rd q 1 1 = x.cause % 256 ∧ rd q 2 1 = x.flags ∧ rd q 4 2 = x.txMap.toNat ∧ rd q 6 2 = x.rxMap.toNat ∧
      rd q 20 4 = x.session.toNat ∧ rd q 24 8 = x.upSince % 2 ^ 64) ∧
    (Takes s m 0x0902 a → serves → args → ¬few →
      (a.arg 1 1 = 0 → exec (.portSet m) s = .next (s.answers m (c.updPort p put))) ∧
      (a.arg 1 1 = 1 → x.state = .disabled → ∃ c', exec (.portSet m) s = .next (s.answers m c') ∧ (c'.port p).state = .training ∧
        (c'.port p).minLanes = least ∧ (c'.port p).normal = {} ∧ (c'.port p).express = {} ∧ (∀ q, q ≠ p → c'.port q = c.port q)) ∧
      (a.arg 1 1 = 2 → x.state ≠ .disabled → x.disableBy = none → ∃ c', exec (.portSet m) s = .next (s.answers m c') ∧
        (c'.port p).state = x.state ∧ (c'.port p).disableBy = some (s.top.now + 1000 * (put x).holdUs) ∧
        (∀ q, q ≠ p → c'.port q = c.port q))) ∧
    (Takes s m 0x0902 a → serves → args → few → a.arg 1 1 = 0 → ∃ c', exec (.portSet m) s = .next (s.answers m c') ∧
      (c'.port p).state = .down ∧ (c'.port p).cause = 1 ∧ (c'.port p).minLanes = least) ∧
    (∀ skew, Takes s m 0x0903 a → bond →
      (a.arg 1 1 = 2 → ∃ c', exec (.portBond m skew) s = .next (s.answers m c' (le 4 0)) ∧ ∀ q ∈ portsOf mask, (c'.port q).group = 0) ∧
      (a.arg 1 1 = 1 → (∀ q ∈ portsOf mask, (c.port q).state = .up) →
        (∀ q ∈ portsOf mask, ∀ r ∈ portsOf mask, (c.port q).peerNode = (c.port r).peerNode) →
        (skew ≤ 64 → ∃ c', exec (.portBond m skew) s = .next (s.answers m c' (le 4 skew)) ∧
          ∀ q ∈ portsOf mask, (c'.port q).group = mask ∧ (c'.port q).state = .up) ∧
        (64 < skew → exec (.portBond m skew) s = .next (s.refuses m .checkFail skew)))) ∧
    (Takes s m 0x0904 a → serves → a.arg 1 1 < 16 → a.arg 2 1 < 2 → ∃ v w q, exec (.laneQuery m) s =
        .next (s.answers m ((({ c with nonce := c.nonce + 3 } : Core).bump (.lane p (a.arg 2 1) (a.arg 1 1) 1) v).bump (.lane p (a.arg 2 1) (a.arg 1 1) 2) w) q) ∧
      bit (rd q 0 1) 1 = (if a.arg 2 1 = 0 then x.rxMap.getLsbD (a.arg 1 1) else x.txMap.getLsbD (a.arg 1 1))) ∧
    (Takes s m 0x0905 a → serves →
      (x.state = .up → ∃ c', exec (.portRetrain m) s = .next (s.answers m c') ∧ (c'.port p).state = .retrain ∧
        (c'.port p).normal.unacked = x.normal.unacked ∧ (c'.port p).express.unacked = x.express.unacked ∧ c'.fabric = c.fabric ∧
        (∀ q, q ≠ p → c'.port q = c.port q)) ∧
      (x.state ≠ .up → exec (.portRetrain m) s = .next (s.refuses m .stateReject (stateDetail .port x.state.code))))

/-- DATA_FRAME_RECEIVE, LINK_ACK, LINK_NAK, RETRY_TIMER and RETRY_LIMIT (R278, R280, R282 to R285): a frame in order is taken and acknowledged; one
before the expected sequence is acknowledged again and dropped; one after it, or one whose check fails, is dropped and a NAK goes out; an
acknowledgement releases frames up to it; a NAK and an expired timer replay; eight retries retrain the link. The model's choices in it: log 176, 177.
-/
def Obligations.FramesAreAcknowledgedAndReplayed : Prop :=
  ∀ (p : Nat) (fs : List Flit) (f : LinkFlit) (s : State), s.top.live = true → s.top.hasPort p = true →
    let c := s.core
    let x := c.port p
    let now := s.top.now
    let sent := x.deskew fs
    let e := bit (flitWord (sent.headD ⟨false, []⟩)) 2
    let data := x.state = .up ∧ x.stopped = false ∧ ∀ g ∈ fs, g.bad = false ∧ bits (flitWord g) 1 0 = 1
    let heard := x.state ≠ .disabled ∧ x.state ≠ .dark ∧ x.stopped = false
    let freed := fun (l : LinkClass) (ack : BitVec 16) => match l.unacked.findIdx? (fun g => g.seq == ack) with
      | some i => l.unacked.drop (i + 1)
      | none => l.unacked
    (∀ q r b, data → checkFrame sent = .good q 1 r b → q = (x.cls e).expect → ∃ t g w, exec (.dataFrameReceive p fs) s = .next t ∧
      Claims.portOnly s t p ∧ ((t.core.port p).cls e).expect = q + 1 ∧ (t.core.port p).cls (!e) = x.cls (!e) ∧
      (t.core.port p).rxq = x.rxq ++ [(r, b)] ∧ t.core.out.getLast? = some (.link p 1 g w) ∧
      g.normalAck = (t.core.port p).normal.expect - 1 ∧ g.expressAck = (t.core.port p).express.expect - 1) ∧
    (∀ q r b, data → checkFrame sent = .good q 1 r b → q ≠ (x.cls e).expect → seqAbove16 q.toNat (x.cls e).expect.toNat = false →
      ∃ t g w, exec (.dataFrameReceive p fs) s = .next t ∧ Claims.portOnly s t p ∧ (t.core.port p).cls e = x.cls e ∧
        (t.core.port p).rxq = x.rxq ∧ Claims.sends s t p [.link p 1 g w]) ∧
    (data → fs ≠ [] → (checkFrame sent = .broken ∨ checkFrame sent = .crc ∨
        ∃ q r b, checkFrame sent = .good q 1 r b ∧ q ≠ (x.cls e).expect ∧ seqAbove16 q.toNat (x.cls e).expect.toNat = true) →
      ∃ t, exec (.dataFrameReceive p fs) s = .next t ∧ Claims.portOnly s t p ∧ ((t.core.port p).cls e).expect = (x.cls e).expect ∧
        (t.core.port p).rxq = x.rxq ∧
        ((x.cls e).nakAt = none → ∃ g w, Claims.sends s t p [.link p 2 g w] ∧ g.nakExpress = e) ∧
        (∀ b, (x.cls e).nakAt = some b → now < b + x.retryNs → t.core.out = c.out)) ∧
    (heard → f.checkOk = true → ∃ t, exec (.linkAck p f) s = .next t ∧ Claims.portOnly s t p ∧ t.core.out = c.out ∧
      (t.core.port p).normal.unacked = freed x.normal f.normalAck ∧ (t.core.port p).express.unacked = freed x.express f.expressAck ∧
      (t.core.port p).gotReq = (x.gotReq + f.reqCredits) % 65536 ∧ (t.core.port p).gotRsp = (x.gotRsp + f.rspCredits) % 65536 ∧
      (freed x.normal f.normalAck ≠ x.normal.unacked → (t.core.port p).normal.retries = 0)) ∧
    (heard → f.checkOk = false → ∃ t, exec (.linkAck p f) s = .next t ∧ t.core.ports = c.ports ∧ t.core.out = c.out ∧ t.core.fabric = c.fabric) ∧
    (heard → x.state = .up → f.checkOk = true → ∃ t, exec (.linkNak p f) s = .next t ∧ Claims.portOnly s t p ∧ t.core.out = c.out ∧
      (let l := (t.core.port p).cls f.nakExpress
       l.unacked = freed (x.cls f.nakExpress) (if f.nakExpress then f.expressAck else f.normalAck) ∧
       (l.unacked ≠ [] → l.replay = l.unacked.length))) ∧
    (∀ z d, x.state = .up → (x.cls z).timerAt = some d →
      (d ≤ now → (x.cls z).unacked ≠ [] → ∃ t, exec (.retryTimer p z) s = .next t ∧ Claims.portOnly s t p ∧
        ((t.core.port p).cls z).replay = (x.cls z).unacked.length ∧ ((t.core.port p).cls z).retries = (x.cls z).retries + 1 ∧
        ((t.core.port p).cls z).timerAt = some (now + x.retryNs) ∧ (t.core.port p).cls (!z) = x.cls (!z)) ∧
      (now < d → exec (.retryTimer p z) s = .next s)) ∧
    ((8 ≤ x.normal.retries ∨ 8 ≤ x.express.retries) → x.state = .up → ∃ t, exec (.retryLimit p) s = .next t ∧ Claims.portOnly s t p ∧
      (t.core.port p).state = .retrain ∧ (t.core.port p).normal.unacked = x.normal.unacked ∧
      (t.core.port p).express.unacked = x.express.unacked) ∧
    (x.normal.retries < 8 → x.express.retries < 8 → exec (.retryLimit p) s = .next s)

/-- LINK_DOWN, CAL_REQ, LANE_REQ, LANE_MAP, HELLO, HELLO_ACK, LINK_RETRAIN, BRINGUP_ATTEMPT, BRINGUP_TIMEOUT and LINK_REPEAT_TIMER (R280, R287, R288,
R290 to R293, R295, R298, R299): what the peer sends while a link comes up, maps its lanes and goes down. A LANE_REQ is met at a frame boundary
(R288). The model's choices in it: log 90, 93, 98, 176, 177. -/
def Obligations.LinksComeUpMapLanesAndGoDown : Prop :=
  ∀ (p : Nat) (f : LinkFlit) (msg : LinkCtrl) (s : State), s.top.live = true → s.top.hasPort p = true →
    let c := s.core
    let x := c.port p
    let now := s.top.now
    let talks := x.state ≠ .disabled ∧ x.state ≠ .dark
    let heard := talks ∧ x.stopped = false ∧ f.checkOk = true
    let least := max x.minLanes x.peerMin
    let offer := f.laneMask &&& ~~~x.laserLow
    let boundary := x.classFree false now = true
    let rtt := (now - msg.t1) - (msg.t3 - msg.t2)
    (heard → x.state = .up ∨ x.state = .retrain → ∃ t, exec (.linkDown p f) s = .next t ∧ Claims.portOnly s t p ∧
      (t.core.port p).state = .down ∧ (t.core.port p).cause = 4 ∧ (t.core.port p).holdUntil = some (now + 1000 * x.holdUs)) ∧
    (heard → f.calLane < 16 → 0 < f.hold → f.hold ≤ 100 → (x.lanes.getD (16 + f.calLane) {}).hold = none →
      (x.lanes.getD (16 + f.calLane) {}).heldAt ≠ now / 1000000 + 1 → ∃ t, exec (.calReq p f) s = .next t ∧ Claims.portOnly s t p ∧
        ((t.core.port p).lanes.getD (16 + f.calLane) {}).hold = some f.hold) ∧
    (heard → boundary → least ≤ laneCount offer → x.attemptAt = none → ∃ t g w, exec (.laneReq p f) s = .next t ∧ Claims.portOnly s t p ∧
      (t.core.port p).txMap = offer ∧ (t.core.port p).peerLocked = f.laneMask ∧ (t.core.port p).state = x.state ∧
      Claims.sends s t p [.link p 4 g w] ∧ g.laneMask = offer) ∧
    (heard → ¬boundary → ∃ t, exec (.laneReq p f) s = .next t ∧ Claims.portOnly s t p ∧ t.core.out = c.out ∧
      (t.core.port p).mapWant = some f.laneMask ∧ (t.core.port p).txMap = x.txMap ∧ (t.core.port p).state = x.state) ∧
    (∀ k, x.mapWant = some k → boundary → least ≤ laneCount (k &&& ~~~x.laserLow) → x.attemptAt = none → ∃ t,
      exec (.linkRepeatTimer p) s = .next t ∧ Claims.portOnly s t p ∧ (t.core.port p).txMap = k &&& ~~~x.laserLow ∧
      (t.core.port p).mapWant = none ∧ ∃ g w, Out.link p 4 g w ∈ t.core.out ∧ g.laneMask = k &&& ~~~x.laserLow) ∧
    (heard → boundary → laneCount offer < least → x.state = .up ∨ x.state = .retrain → ∃ t, exec (.laneReq p f) s = .next t ∧
      Claims.portOnly s t p ∧ (t.core.port p).state = .down ∧ (t.core.port p).cause = 1) ∧
    (talks → f.checkOk = true → x.attemptAt = none →
      (least ≤ laneCount f.laneMask → ∃ t, exec (.laneMap p f) s = .next t ∧ Claims.portOnly s t p ∧ (t.core.port p).rxMap = f.laneMask ∧
        (t.core.port p).stopped = false ∧ (t.core.port p).laneReq = none ∧ (t.core.port p).state = x.state) ∧
      (laneCount f.laneMask < least → x.state = .up ∨ x.state = .retrain → ∃ t, exec (.laneMap p f) s = .next t ∧
        Claims.portOnly s t p ∧ (t.core.port p).state = .down ∧ (t.core.port p).cause = 1)) ∧
    (talks → x.stopped = false → x.attemptAt = none → ∃ t g w, exec (.hello p msg) s = .next t ∧ Claims.portOnly s t p ∧
      Claims.sends s t p [.linkCtrl p 2 g w] ∧ g.t1 = msg.t1 ∧ g.t2 = now ∧ (t.core.port p).state = x.state ∧
      (x.state ≠ .up → (t.core.port p).peerNode = msg.node % 2 ^ 14 ∧ (t.core.port p).peerMin = msg.minLanes ∧
        (t.core.port p).peerSession = msg.session)) ∧
    (∀ b, talks → x.stopped = false → x.state ≠ .up → x.attemptAt = some b → msg.major ≠ 2 → ∃ t, exec (.hello p msg) s = .next t ∧ Claims.portOnly s t p ∧
      (t.core.port p).cause = 7 ∧ (t.core.port p).attemptAt = none ∧ (t.core.port p).retryAt = now + 10000) ∧
    (x.stopped = true → exec (.hello p msg) s = .next s ∧ exec (.helloAck p msg) s = .next s ∧ exec (.linkRetrain p msg) s = .next s) ∧
    (∀ b, talks → x.stopped = false → x.attemptAt = some b →
      (msg.major ≠ 2 → ∃ t, exec (.helloAck p msg) s = .next t ∧ Claims.portOnly s t p ∧ (t.core.port p).cause = 7 ∧
        (t.core.port p).attemptAt = none) ∧
      (msg.major = 2 → 5200 < rtt → ∃ t, exec (.helloAck p msg) s = .next t ∧ Claims.portOnly s t p ∧ (t.core.port p).cause = 6 ∧
        (t.core.port p).rtt = rtt ∧ (t.core.port p).attemptAt = none) ∧
      (msg.major = 2 → rtt ≤ 5200 → (∀ k ∈ [x.txMap, x.rxMap, x.rxLocked, x.peerLocked], max x.minLanes msg.minLanes ≤ laneCount k) →
        ∃ t, exec (.helloAck p msg) s = .next t ∧ t.top = s.top ∧ (t.core.port p).state = .up ∧ (t.core.port p).upSince = now ∧
          (t.core.port p).holdUntil = none ∧ (t.core.port p).attemptAt = none ∧
          (msg.session = x.peerSession → msg.peerSession = x.session → x.sameLink = true →
            (t.core.port p).normal.replay = (t.core.port p).normal.unacked.length ∧
            (t.core.port p).express.replay = (t.core.port p).express.unacked.length) ∧
          (msg.session ≠ x.peerSession → (t.core.port p).normal = {} ∧ (t.core.port p).express = {})) ∧
      (b + 2000000 ≤ now → ∃ t, exec (.bringupTimeout p) s = .next t ∧ Claims.portOnly s t p ∧ (t.core.port p).attemptAt = none ∧
        (t.core.port p).retryAt = now + 10000 ∧ ((t.core.port p).cause = 1 ∨ (t.core.port p).cause = 4)) ∧
      (now < b + 2000000 → exec (.bringupTimeout p) s = .next s)) ∧
    (x.state = .up → x.stopped = false → ∃ t, exec (.linkRetrain p msg) s = .next t ∧ Claims.portOnly s t p ∧ (t.core.port p).state = .retrain ∧
      (t.core.port p).normal.unacked = x.normal.unacked ∧ (t.core.port p).express.unacked = x.express.unacked) ∧
    (∀ k, x.state = .training ∨ x.state = .down ∨ x.state = .retrain → s.top.txRefclk = true → x.mated = true → x.attemptAt = none →
      (x.retryAt ≤ now → ∃ t g h w w', exec (.bringupAttempt p k) s = .next t ∧ Claims.portOnly s t p ∧ (t.core.port p).attemptAt = some now ∧
        Claims.sends s t p [.linkCtrl p 1 g w, .link p 3 h w'] ∧ g.session = x.session ∧ g.t1 = now ∧ h.laneMask = (t.core.port p).rxLocked)) ∧
    (∀ k d, x.laneReq = some k → x.reqAt = some d → talks → x.helloAt = none → x.mapWant = none →
      (d + 1000 ≤ now → ∃ t g w, exec (.linkRepeatTimer p) s = .next t ∧ Claims.portOnly s t p ∧ Out.link p 3 g w ∈ t.core.out ∧
        g.laneMask = x.rxLocked ∧ (t.core.port p).reqAt = some now) ∧
      (x.calAt = none → now < d + 1000 → exec (.linkRepeatTimer p) s = .next s))

/-- LANE_LOCK_LOSS, LANE_REJOIN, LANE_KEEPOUT, LANE_KEEPOUT_END, LASER_LANE_LOW, LASER_INPUT_RESTORED, LASER_ALL_LOW, LIGHT_LOST, LIGHT_PRESENT,
TUNING_PERIOD and CALIBRATION_HOLD (R275, R287 to R290, R297, R298): what a lane's lock, laser and light do to its port. RETRAIN_TIMEOUT,
FLAP_HOLD_ENTRY, FLAP_HOLD_END, HOLD_WINDOW_EXPIRY, PORT_DISABLE_DONE and BOND_MEMBER_RETURN (R290, R294 to R296, R301): the states a port passes
through by time alone. The model's choices in it: log 91, 95, 96, 176, 182. -/
def Obligations.LanesAndPortsChangeByLightLockAndTime : Prop :=
  ∀ (p lane skew : Nat) (s : State), s.top.live = true → s.top.hasPort p = true → lane < 16 →
    let c := s.core
    let x := c.port p
    let now := s.top.now
    let l := x.lanes.getD lane {}
    let one := 1#16 <<< lane
    let inService := x.state = .up ∨ x.state = .retrain
    (∀ no eo, x.rxLocked.getLsbD lane = true → ∃ t, exec (.laneLockLoss p ⟨lane, no, eo⟩) s = .next t ∧ Claims.portOnly s t p ∧
      (t.core.port p).rxLocked = x.rxLocked &&& ~~~one ∧ ((t.core.port p).lanes.getD lane {}).lastLoss = now ∧
      (t.core.port p).state = x.state ∧
      (inService → (t.core.port p).stopped = true ∧ (∃ g w, Out.link p 3 g w ∈ t.core.out ∧ g.laneMask = (t.core.port p).rxLocked) ∧
        (no = true → x.normal.nakAt = none → ∃ g w, Out.link p 2 g w ∈ t.core.out ∧ g.nakExpress = false) ∧
        (eo = true → x.express.nakAt = none → ∃ g w, Out.link p 2 g w ∈ t.core.out ∧ g.nakExpress = true))) ∧
    (∀ no eo, x.rxLocked.getLsbD lane = false → exec (.laneLockLoss p ⟨lane, no, eo⟩) s = .next s) ∧
    (x.rxLocked.getLsbD lane = false ∨ x.rxMap.getLsbD lane = false → c.fenced (portDie p) = false → (l.outUntil = none ∨ ∃ u, l.outUntil = some u ∧ u ≤ now) →
      ∃ t, exec (.laneRejoin p lane) s = .next t ∧ Claims.portOnly s t p ∧ (t.core.port p).rxLocked = x.rxLocked ||| one ∧
        (inService → ∃ g w, Claims.sends s t p [.link p 3 g w] ∧ g.laneMask = x.rxLocked ||| one)) ∧
    (∀ u, l.outUntil = some u → now < u → exec (.laneRejoin p lane) s = .next s ∧ exec (.laneKeepoutEnd p lane) s = .next s) ∧
    (∀ u, l.outUntil = some u → u ≤ now → ∃ t, exec (.laneKeepoutEnd p lane) s = .next t ∧ Claims.portOnly s t p ∧
      ((t.core.port p).lanes.getD lane {}).outUntil = none) ∧
    (∀ a b d e r, l.losses = a :: b :: d :: e :: r → l.outUntil = none → now < a + 1000000000 →
      (a < e + 1000000000 → ∃ t, exec (.laneKeepout p lane) s = .next t ∧ Claims.portOnly s t p ∧
        ((t.core.port p).lanes.getD lane {}).outUntil = some (a + 1000000000)) ∧
      (e + 1000000000 ≤ a → exec (.laneKeepout p lane) s = .next s)) ∧
    (∃ t, exec (.laserLaneLow p lane) s = .next t ∧ t.top = s.top ∧ (t.core.port p).laserLow = x.laserLow ||| one ∧
      (x.mapWant = none → x.txMap.getLsbD lane = true →
        (x.classFree false now = true → (t.core.port p).txMap.getLsbD lane = false) ∧
        (x.classFree false now = false → (t.core.port p).txMap = x.txMap ∧ (t.core.port p).mapWant = some x.txMap)) ∧
      (x.attemptAt = none → Claims.portOnly s t p ∧ (inService → x.txMap.getLsbD lane = true → x.mapWant = none → x.classFree false now = true →
        ((t.core.port p).state = .down ↔ laneCount (x.txMap &&& ~~~(x.laserLow ||| one)) < max x.minLanes x.peerMin)))) ∧
    (∃ t, exec (.laserInputRestored p lane) s = .next t ∧ Claims.portOnly s t p ∧ t.core.out = c.out ∧
      (t.core.port p).laserLow = x.laserLow &&& ~~~one ∧ (t.core.port p).txMap = x.txMap) ∧
    (∃ t, exec (.laserAllLow p) s = .next t ∧ Claims.portOnly s t p ∧ (t.core.port p).laserLow = 0xFFFF ∧ (t.core.port p).txMap = 0 ∧
      (inService → (t.core.port p).state = .down ∧ (t.core.port p).cause = 3) ∧ (¬inService → (t.core.port p).state = x.state)) ∧
    (∃ t, exec (.lightLost p) s = .next t ∧ Claims.portOnly s t p ∧ (t.core.port p).light = false ∧ t.core.out = c.out ∧
      (x.state = .training ∨ x.state = .down → (t.core.port p).state = .dark ∧ (t.core.port p).beforeDark = x.state ∧ (t.core.port p).cause = 8) ∧
      (x.state ≠ .training → x.state ≠ .down → (t.core.port p).state = x.state)) ∧
    (∃ t, exec (.lightPresent p) s = .next t ∧ Claims.portOnly s t p ∧ (t.core.port p).light = true ∧ t.core.out = c.out ∧
      (t.core.port p).state = (if x.state = .dark then x.beforeDark else x.state)) ∧
    (∀ n, x.state ≠ .disabled → x.state ≠ .dark → c.fenced (portDie p) = false → l.hold = none → (x.lanes.getD (16 + lane) {}).hold = none →
      exec (.tuningPeriod p lane .none) s = .next s ∧
      (∀ act dir, (act = .trimRx ∧ dir = 0) ∨ (act = .trimTx ∧ dir = 1) →
        ((x.lanes.getD (16 * dir + lane) {}).trimAt ≠ now / 1000000 + 1 → ∃ t, exec (.tuningPeriod p lane act) s = .next t ∧ Claims.portOnly s t p ∧
          ((t.core.port p).lanes.getD (16 * dir + lane) {}).trims = (x.lanes.getD (16 * dir + lane) {}).trims + 1) ∧
        ((x.lanes.getD (16 * dir + lane) {}).trimAt = now / 1000000 + 1 → exec (.tuningPeriod p lane act) s = .next s)) ∧
      (0 < n → n ≤ 100 → (x.lanes.getD (16 + lane) {}).heldAt ≠ now / 1000000 + 1 → ∃ t, exec (.tuningPeriod p lane (.holdTx n)) s = .next t ∧
        Claims.portOnly s t p ∧ ((t.core.port p).lanes.getD (16 + lane) {}).hold = some n) ∧
      (0 < n → n ≤ 100 → l.heldAt ≠ now / 1000000 + 1 → ∃ t g w, exec (.tuningPeriod p lane (.holdRx n)) s = .next t ∧
        Claims.portOnly s t p ∧ ((t.core.port p).lanes.getD lane {}).hold = some n ∧ Claims.sends s t p [.link p 6 g w] ∧
        g.calLane = lane ∧ g.hold = n)) ∧
    (∀ n, l.hold = some n → l.heldAt = now / 1000000 + 1 → x.state = .up → c.fenced (portDie p) = false → ∃ t,
      exec (.calibrationHold p ⟨0, lane⟩ n) s = .next t ∧ Claims.portOnly s t p ∧ t.core.out = c.out ∧ ((t.core.port p).lanes.getD lane {}).hold = none) ∧
    (∀ n, (x.lanes.getD (16 + lane) {}).hold = some n → (x.lanes.getD (16 + lane) {}).heldAt = now / 1000000 + 1 → x.state = .up →
      c.fenced (portDie p) = false → x.classFree true now = true →
      x.classFree false now = true → x.express.replay = 0 → (c.port (c.head p)).queues = [] → (c.port (c.head p)).gates = none →
      (c.port (c.head p)).gatesNext = none → ∃ t, exec (.calibrationHold p ⟨1, lane⟩ n) s = .next t ∧ Claims.portOnly s t p ∧
        t.core.out = c.out ++ [.idleHold p n] ∧ ((t.core.port p).lanes.getD (16 + lane) {}).hold = none ∧
        (t.core.port p).normalEnd = now + n ∧ (t.core.port p).expressEnd = now + n) ∧
    (x.state = .retrain → x.stateAt + 1000000 ≤ now → ∃ t, exec (.retrainTimeout p) s = .next t ∧ Claims.portOnly s t p ∧
      (t.core.port p).state = .down ∧ (t.core.port p).cause = 2) ∧
    (x.state = .retrain → now < x.stateAt + 1000000 → exec (.retrainTimeout p) s = .next s) ∧
    (x.state = .down →
      (8 ≤ (x.downs.filter (fun d => decide (now < d + 1000000000))).length → ∃ t, exec (.flapHoldEntry p) s = .next t ∧
        Claims.portOnly s t p ∧ (t.core.port p).state = .flapHold ∧ (t.core.port p).cause = 9) ∧
      ((x.downs.filter (fun d => decide (now < d + 1000000000))).length < 8 → exec (.flapHoldEntry p) s = .next s)) ∧
    (x.state = .flapHold →
      (x.stateAt + 1000000000 ≤ now → ∃ t, exec (.flapHoldEnd p) s = .next t ∧ Claims.portOnly s t p ∧ (t.core.port p).state = .down) ∧
      (now < x.stateAt + 1000000000 → exec (.flapHoldEnd p) s = .next s)) ∧
    (∀ u, x.state = .down → x.holdUntil = some u → u ≤ now → ∃ t, exec (.holdWindowExpiry p) s = .next t ∧ t.top = s.top ∧
      (t.core.port p).state = .down ∧ (t.core.port p).holdUntil = none ∧
      ∀ g ∈ (t.core.port p).normal.unacked ++ (t.core.port p).express.unacked, ∀ w, g.until_ = some w → now < w) ∧
    (x.state = .up ∨ x.state = .retrain → exec (.holdWindowExpiry p) s = .next s) ∧
    (∀ u, x.disableBy = some u →
      ((x.normal.unacked = [] ∧ x.express.unacked = []) ∨ u ≤ now → ∃ t, exec (.portDisableDone p) s = .next t ∧ t.top = s.top ∧
        (t.core.port p).state = .disabled ∧ (t.core.port p).cause = 5 ∧ (t.core.port p).txMap = 0 ∧ (t.core.port p).rxMap = 0 ∧
        (t.core.port p).normal.unacked = [] ∧ (t.core.port p).express.unacked = []) ∧
      (x.normal.unacked ≠ [] → now < u → exec (.portDisableDone p) s = .next s)) ∧
    (x.state = .up → x.rejoin ≠ 0 →
      (skew ≤ 64 → ∃ t, exec (.bondMemberReturn p skew) s = .next t ∧ Claims.portOnly s t p ∧ (t.core.port p).group = x.group ∧
        (t.core.port p).rejoin = 0) ∧
      (64 < skew → ∃ t, exec (.bondMemberReturn p skew) s = .next t ∧ t.top = s.top ∧ (t.core.port p).group = 0 ∧
        (t.core.port p).rejoin = 0 ∧ t.core.fabric = c.fabric))

/-! ### Fabric -/

/-- PD_ALLOC, PD_FREE, REGION_REGISTER, REGION_DEREGISTER, COH_SUBSCRIBE, COH_DOMAIN_SET, FABRIC_SET and FABRIC_QUERY (R310, R315, R323, R325,
R330, R331). Which free number a new domain or region bears is free, and differs from those in use where the table that holds them is in
order. The model's choices in it: log 5, 151. -/
def Obligations.DomainsRegionsAndCoherenceAreSetUp : Prop :=
  ∀ (m : Nat) (a : Cmd) (s : State),
    let c := s.core
    let f := c.fabric
    let k := a.arg 0 1
    let id := a.arg 0 2
    let off := a.arg 0 8
    let size := a.arg 8 8
    let flags := a.arg 20 2
    (Takes s m 0x0A01 a → k = 0xFF ∨ (s.top.dev = .bound ∧ c.isClient k = true) → f.pds.length < 1024 →
      ∃ d, exec (.pdAlloc m) s = .next (s.answers m { c with nonce := c.nonce + 1, fabric := { f with pds := f.pds.set d k } } (le 2 d)) ∧
        (Tbl.wf f.pds = true → f.pds.get? d = none)) ∧
    (Takes s m 0x0A02 a → (f.pds.get? id).isSome = true →
      ((∀ n ∈ f.conns.vals, n.state = .closed ∨ n.pd ≠ id) → (∀ r ∈ f.regions.vals, r.pd ≠ id) → (∀ g ∈ c.tiers.grants, g.pd ≠ id) →
        exec (.pdFree m) s = .next (s.answers m { c with fabric := { f with pds := f.pds.del id } })) ∧
      ((∃ r ∈ f.regions.vals, r.pd = id) → exec (.pdFree m) s = .next (s.refuses m .busy 0))) ∧
    (∀ b, Takes s m 0x0A03 a → Backing.ofCode (a.arg 18 1) = some b → off % 65536 = 0 → 0 < size → size % 65536 = 0 →
      (f.pds.get? (a.arg 16 2)).isSome = true → b.window.1 ≤ off → off + size ≤ b.window.2 →
      (∀ r ∈ f.regions.vals, r.off + r.size ≤ off ∨ off + size ≤ r.off) → f.regions.length < 16384 →
      (bit flags 3 = true → f.domain ≠ [] ∧ a.arg 22 1 < 4 ∧
        sumL ((f.regions.vals.filter (fun r => bit r.flags 3 && r.dir == a.arg 22 1)).map (fun r => r.size / 64)) + size / 64 ≤ 1048576) →
      (b = .device → c.framesFit s.top (fun _ => 0) (fun k => unitsOn s.top.stackList.length k (size / 65536) (bit flags 0)) = true ∧
        ((∃ k, c.pdClient (a.arg 16 2) = some k ∧ c.within s.top k 1 size = true) ∨ (c.pdClient (a.arg 16 2) = none ∧
          sumL ((List.range s.top.stackList.length).map (fun k => ceilDiv
            (unitsOn s.top.stackList.length k (size / 65536) (bit flags 0) * 65536) (c.frameF + c.slotB))) ≤ c.freeFrames s.top - c.floor))) →
      ∃ r c', exec (.regionRegister m) s = .next (s.answers m c' (le 2 r)) ∧ c'.fabric.regions.get? r = some
          { off := off, size := size, pd := a.arg 16 2, backing := b, rights := a.arg 19 1 % 8, flags := flags % 16, dir := a.arg 22 1,
            hostAddr := a.arg 24 8 } ∧
        (∀ j, j ≠ r → c'.fabric.regions.get? j = f.regions.get? j) ∧ (Tbl.wf f.regions = true → f.regions.get? r = none) ∧
        c'.ctxs = c.ctxs ∧ c'.tiers = c.tiers ∧ c'.fabric.conns = f.conns) ∧
    (∀ r, Takes s m 0x0A04 a → f.regions.get? id = some r → r.closing = none →
      (f.reads = [] → f.txns = [] → f.lines = [] → ∃ t, exec (.regionDeregister m) s = .next t ∧ t.top = s.top ∧
        t.core.fabric.regions.get? id = none ∧ (t.core.mbox m).result = some ⟨.ok, 0, []⟩ ∧ t.core.ctxs = c.ctxs ∧
        (∀ x, t.core.tiers.mem.read x = if r.backing = .device ∧ r.off ≤ x ∧ x < r.off + r.size then 0 else c.tiers.mem.read x)) ∧
      (∀ n tag cls v i, (∃ e ∈ f.reads, e.2 = (ReadFor.region n tag cls v id, i)) → ∃ t, exec (.regionDeregister m) s = .next t ∧
        t.core.fabric.regions.get? id = some { r with closing := some m } ∧ (t.core.mbox m).result = none ∧ t.core.tiers = c.tiers)) ∧
    (∀ r, Takes s m 0x0A0B a → f.regions.get? id = some r → bit r.flags 2 = true → r.closing = none → a.arg 4 2 < 16384 →
      (c.conn (a.arg 4 2)).state = .opened →
      let rest := r.subs.filter (fun e => e.1 != (c.conn (a.arg 4 2)).peer)
      let put := fun (l : List (Nat × Nat)) => c.onFabric (fun f => { f with regions := f.regions.upd id (fun r => { r with subs := l }) })
      (a.arg 2 1 = 1 → rest.length < 16 →
        exec (.cohSubscribe m) s = .next (s.answers m (put (rest ++ [((c.conn (a.arg 4 2)).peer, a.arg 4 2)])))) ∧
      (a.arg 2 1 = 2 → exec (.cohSubscribe m) s = .next (s.answers m (put rest)))) ∧
    (Takes s m 0x0A0C a → k ≤ 3 → (∀ r ∈ f.regions.vals, bit r.flags 3 = false) →
      let node := fun (i : Nat) => a.arg (2 + 2 * i) 2
      (∀ i < k, node i < 0x3FFF ∧ node i ≠ s.top.nodeId ∧ ∀ j < i, node j ≠ node i) →
      exec (.cohDomainSet m) s = .next (s.answers m { c with fabric := { f with domain := (List.range k).map node } })) ∧
    (Takes s m 0x0A0D a → a.arg 0 4 ≤ 100000 → exec (.fabricSet m) s =
      .next (s.answers m { c with fabric := { f with skewUs := if a.arg 0 4 = 0 then 1000 else a.arg 0 4 } })) ∧
    (Takes s m 0x0A0D a → 100000 < a.arg 0 4 → exec (.fabricSet m) s = .next (s.refuses m .badArg 0)) ∧
    (Takes s m 0x0A0E a → k < 4 → s.top.gone (passDie k) = false → c.underTest (passDie k) = false →
      ∃ p, exec (.fabricQuery m) s = .next (s.answers m c p) ∧ p.length = 104 ∧ ∀ i < 13, rd p (8 * i) 8 = (c.ctr (.pass k i)).toNat)

/-- CONN_OPEN, CONN_CLOSE, CONN_QUERY, RECV_POST, SEND_POST and MEM_ISSUE (R307, R309, R311, R313, R317, R328, R331): a connection opens with its
grants sent; buffers are posted in order; a close lets what was accepted go on; a send or a memory request awaits its answer under a number of its
own. The model's choices in it: log 109, 110, 112, 113, 184. -/
def Obligations.ConnectionsOpenAndCarryRequests : Prop :=
  ∀ (m : Nat) (a : Cmd) (s : State),
    let c := s.core
    let f := c.fabric
    let cid := a.arg 0 2
    let n := c.conn cid
    let mask := a.arg 8 1
    let us := if a.arg 16 4 = 0 then 1000 else a.arg 16 4
    let len := a.arg 16 4
    let carries := s.top.dev ≠ .off ∧ s.top.dev ≠ .faulted ∧ (n.stages ≤ 1 ∨ (s.top.dev = .bound ∧ c.quiesced = false))
    let line := a.arg 8 8 / 64 * 64
    let waitsFor := fun (c' : Core) (type tag : Nat) (p : Purpose) => ∃ x, c'.fabric.reqs.get? f.nextReq = some x ∧ x.conn = cid ∧
      x.node = n.peer ∧ x.type = type ∧ x.tag = tag ∧ x.purpose = p ∧ c'.tiers = c.tiers ∧ c'.ctxs = c.ctxs
    (Takes s m 0x0A05 a → cid < 16384 → n.state = .closed → s.top.nodeId ≠ 0x3FFF → a.arg 2 2 < 0x3FFF → a.arg 4 2 < 16384 →
      (f.pds.get? (a.arg 6 2)).isSome = true → mask ≠ 0 →
      (∀ p ∈ portsOf mask, s.top.hasPort p = true ∧ (c.port p).group &&& mask = (c.port p).group) → a.arg 9 1 ≤ 7 →
      a.arg 10 1 = 1 ∨ a.arg 10 1 = 2 → 1 ≤ a.arg 12 2 → 1 ≤ a.arg 14 2 → 10 ≤ us → us ≤ 10000 →
      sumL ((f.conns.filter (fun e => e.1 / 4096 == cid / 4096 && e.2.state != .closed)).map (fun e => e.2.req.grant + e.2.rsp.grant)) +
        a.arg 12 2 + a.arg 14 2 ≤ 8192 →
      ∃ c', exec (.connOpen m) s = .next (s.answers m c') ∧
        (let y := c'.conn cid
         y.state = .opening ∧ y.peer = a.arg 2 2 ∧ y.peerConn = a.arg 4 2 ∧ y.pd = a.arg 6 2 ∧ y.portMask = mask ∧ y.stages = a.arg 9 1 ∧
         y.hash = decide (a.arg 10 1 = 2) ∧ y.timeoutUs = us ∧ y.granted = false ∧ y.req.grant = a.arg 12 2 ∧ y.rsp.grant = a.arg 14 2 ∧
         y.req.next = 0 ∧ y.rsp.next = 0 ∧ y.bufs = [] ∧ y.inbox = []) ∧
        (∀ k, k ≠ cid → c'.conn k = c.conn k) ∧ c'.ctxs = c.ctxs ∧ c'.tiers = c.tiers) ∧
    (Takes s m 0x0A05 a → cid < 16384 → n.state ≠ .closed → exec (.connOpen m) s = .next (s.refuses m .busy 0)) ∧
    (Takes s m 0x0A06 a → cid < 16384 →
      (n.state = .closed ∨ n.state = .closing → exec (.connClose m) s = .next (s.answers m c)) ∧
      (n.state = .opening ∨ n.state = .opened → exec (.connClose m) s =
        .next (s.answers m (c.updConn cid (fun n => { n with state := .closing, closeAt := s.top.now }))))) ∧
    (Takes s m 0x0A07 a → cid < 16384 → ∃ p, exec (.connQuery m) s = .next (s.answers m c p) ∧ p.length = 32 ∧ rd p 0 1 = n.state.code ∧
      rd p 2 2 = n.peer % 65536 ∧ rd p 8 2 = n.req.held % 65536 ∧ rd p 10 2 = n.rsp.held % 65536 ∧ rd p 12 2 = n.bufs.length % 65536 ∧
      rd p 16 4 = n.req.next % 2 ^ 32 ∧ rd p 20 4 = n.req.expect % 2 ^ 32) ∧
    (∀ r, Takes s m 0x0A08 a → cid < 16384 → n.state = .opening ∨ n.state = .opened → 1 ≤ len → len ≤ 1048576 →
      f.regions.get? (a.arg 2 2) = some r → r.backing ≠ .signal → r.closing = none → a.arg 8 8 + len ≤ r.size →
      (r.pd = n.pd → n.bufs.length < 256 → exec (.recvPost m) s = .next (s.answers m (c.updConn cid (fun n => { n with
        bufs := n.bufs ++ [{ region := a.arg 2 2, off := a.arg 8 8, len := len, tag := a.arg 20 4 }] })))) ∧
      (r.pd ≠ n.pd → exec (.recvPost m) s = .next (s.refuses m .authFail 0))) ∧
    (∀ r, Takes s m 0x0A09 a → cid < 16384 → n.state = .opened → a.arg 2 1 < 8 → 1 ≤ len → len ≤ 1048576 →
      f.regions.get? (a.arg 4 2) = some r → r.backing ≠ .signal → r.closing = none → r.pd = n.pd → a.arg 8 8 + len ≤ r.size →
      (n.granted = false ∨ ceilDiv (40 + len) 4096 ≤ n.req.heldMax) →
      (r.backing = .device → c.memPoisoned (r.off + a.arg 8 8) len = false → ∃ c', exec (.sendPost m) s = .next (s.holds m c') ∧
        waitsFor c' 0x60 (a.arg 20 4) (.sendPost m)) ∧
      (r.backing = .host → ∃ c' k, exec (.sendPost m) s = .next (s.holds m c') ∧
        c'.out = c.out ++ [.hostRead k (r.hostAddr + a.arg 8 8) len] ∧
        c'.fabric.reads.get? k = some (.sendPost m cid (a.arg 2 1) (a.arg 20 4) (a.arg 4 2), len) ∧ c'.fabric.conns = f.conns)) ∧
    (Takes s m 0x0A0A a → cid < 16384 → n.state = .opened → n.peer = addrNode (a.arg 8 8) → n.peer ≠ 0x3FFF →
      let type := a.arg 2 1
      let room := fun (k : Nat) => n.granted = false ∨ ceilDiv (72 + k) 4096 ≤ n.req.heldMax
      (type = 0x50 ∨ type = 0x52 → memOpKnown type (a.arg 3 1) = true → room 0 →
        (type = 0x50 → 1 ≤ len ∧ len ≤ 2048) → (type = 0x52 → len = 4 ∨ len = 8) →
        (carries → c.isDead n.peer = false → ∃ c', exec (.memIssue m) s = .next (s.holds m c') ∧ waitsFor c' type f.nextReq (.memIssue m)) ∧
        (carries → c.isDead n.peer = true → ∃ w, exec (.memIssue m) s = .next { s with core :=
          ((({ c with fabric := { f with writtenBack := w } } : Core).bump (.pass (cid / 4096) 12)).start m).stage m .poisoned 0 [] }) ∧
        (¬carries → exec (.memIssue m) s = .next (s.refuses m .stateReject (stateDetail .device s.top.dev.code)))) ∧
      (carries → type = 0x51 → a.arg 3 1 ≤ 1 → 1 ≤ len → len ≤ 2048 → 40 + len ≤ a.length → room len → len ≤ (a.args.drop 40).length →
        (bit (a.arg 4 1) 0 = true → ∃ c', exec (.memIssue m) s = .next (s.holds m c') ∧ waitsFor c' type f.nextReq (.memIssue m) ∧
          (a.arg 3 1 = 1 → line ∈ c'.fabric.writtenBack)) ∧
        (bit (a.arg 4 1) 0 = false → ∃ c', exec (.memIssue m) s = .next (s.answers m c' (memCompletion 0 .ok 0 0 0 [])) ∧
          c'.fabric.reqs = f.reqs ∧ c'.tiers = c.tiers ∧ c'.ctxs = c.ctxs)))

/-- What a request's answer to its connection makes of the ports and the connections: message `q` is taken, and an answer of a type with a
body goes to its sender in its traffic class. -/
def Claims.replies (s t : State) (cid : Nat) (q : Msg) (type : Nat) (body : List Byte) : Prop :=
  let r := (s.core.takeMsg cid q).answerMsg s.top cid q type body
  t.top = s.top ∧ t.core.ports = r.ports ∧ t.core.fabric.conns = r.fabric.conns ∧ t.core.ctxs = s.core.ctxs

/-- MEM_READ, MEM_WRITE, MEM_ATOMIC, INVALIDATE, MEM_COMPLETION, SEND, SEND_ACK_ACK, COHERENT_REQUEST and the lines of the coherent domain (R96, R310,
R311, R317 to R323, R326): local memory is read and written byte for byte, and nothing outside the access changes; a read that a COMBINE region has
waiting serves an identical one. The model's choices in it: log 7, 103, 105, 106, 107, 180, 184. -/
def Obligations.RemoteMemoryIsReadWrittenAndCoherent : Prop :=
  ∀ (cid : Nat) (q : Msg) (s : State),
    let c := s.core
    let n := q.arg 8 4
    let off := addrLocal (q.arg 0 8)
    let op := q.arg 12 1
    let tag := q.arg 16 4
    let data := (q.body.drop 40).take n
    let mem := c.tiers.mem
    let u := c.takeMsg cid q
    let sends := fun (body : List Byte) => Host.Outcome.next (φ := Fault) (ρ := Refusal) { s with core := u.answerMsg s.top cid q 0x53 body }
    let fits := addrNode (q.arg 0 8) = q.dst ∧ 1 ≤ n ∧ n ≤ 65536 ∧ off + n ≤ 2 ^ 50
    let wrote := fun (t : State) (bs : List Byte) => t.core.tiers.mem.readN off bs.length = bs ∧
      ∀ x, x < off ∨ off + bs.length ≤ x → t.core.tiers.mem.read x = mem.read x
    let plain := fun (r : Region) (k : Nat) => r.pd = (c.conn cid).pd ∧ bit r.rights k = true ∧ r.backing = .device
    let good := c.memPoisoned off n = false
    let same := fun (i : Nat) (j : ReadJoin) => j.open_ && j.rid == i && j.op == op && j.off == off && j.len == n
    (Claims.delivered s cid 0x50 none q → fits →
      (∀ i r, c.memTarget off n false = some (.region i r) → plain r 0 → good → bit r.flags 3 = false →
        (op = 0 → exec (.memRead cid) s = sends (memCompletion tag .ok 0 0 0 (mem.readN off n))) ∧
        (op = 3 → bit r.flags 2 = true → off / 4096 = (off + n - 1) / 4096 →
          exec (.memRead cid) s = sends (memCompletion tag .ok 0 (r.versions.getD (off / 4096 - r.off / 4096) 1) 0 (mem.readN off n)))) ∧
      (∀ i r, c.memTarget off n false = some (.region i r) → r.pd = (c.conn cid).pd → bit r.rights 0 = true → r.backing = .host →
        bit r.flags 3 = false → op = 0 →
        (bit r.flags 1 = false ∨ (∀ e ∈ c.fabric.joins, same i e.2 = false) → ∃ t k, exec (.memRead cid) s = .next t ∧
          t.core.out = c.out ++ [.hostRead k (r.hostAddr + (off - r.off)) n] ∧
          t.core.fabric.reads.get? k = some (.region cid tag q.cls 0 i, n) ∧ t.core.ports = c.ports) ∧
        (∀ k j rest, bit r.flags 1 = true → c.fabric.joins.filter (fun e => same i e.2) = (k, j) :: rest → c.fabric.joins.get? k = some j →
          ∃ t, exec (.memRead cid) s = .next t ∧ t.core.fabric.joins.get? k = some { j with more := j.more ++ [(cid, tag, q.cls)] } ∧
            t.core.fabric.reads = c.fabric.reads ∧ t.core.out = c.out ∧ t.core.ports = c.ports)) ∧
      (∀ g, c.memTarget off n false = some (.grant g) → g.pd = (c.conn cid).pd → op = 0 → good →
        exec (.memRead cid) s = sends (memCompletion tag .ok 0 0 0 (mem.readN off n))) ∧
      (c.memTarget off n false = none →
        (c.inRevoked off n = true → exec (.memRead cid) s = sends (memCompletion tag .poisoned 0 0 0 [])) ∧
        (c.inRevoked off n = false → ∃ t, exec (.memRead cid) s = .next t ∧ Claims.replies s t cid q 0x53 (memCompletion tag .authFail 0 0 0 []) ∧
          t.core.tiers = c.tiers)) ∧
      (∀ i r, c.memTarget off n false = some (.region i r) → plain r 0 → good → bit r.flags 3 = true → c.inDomain s.top q.src = true →
        off % 64 = 0 → n = 64 → (c.line (off / 64)).busy = none → c.lineAhead c.fabric.nextLineReq (off / 64) = false →
        ((c.line (off / 64)).state = .uncached → op = 1 ∨ op = 2 → ∃ t, exec (.memRead cid) s = .next t ∧
          Claims.replies s t cid q 0x53 (memCompletion tag .ok 0 0 0 (mem.readN off n)) ∧
          (t.core.line (off / 64)).state = (if op = 1 then .shared [q.src] else .exclusive q.src)) ∧
        (∀ o, (c.line (off / 64)).state = .exclusive o → op = 1 ∨ op = 2 → ∃ t, exec (.memRead cid) s = .next t ∧ t.top = s.top ∧
          (t.core.line (off / 64)).busy = some ({ conn := cid, node := q.src, msg := q, no := c.fabric.nextLineReq }, [o]) ∧
          (t.core.line (off / 64)).state = .exclusive o ∧ t.core.tiers = c.tiers))) ∧
    (Claims.delivered s cid 0x51 none q → fits → n ≤ (q.body.drop 40).length →
      (∀ i r, c.memTarget off n false = some (.region i r) → c.fabric.regions.get? i = some r → plain r 1 → bit r.flags 2 = false →
        bit r.flags 3 = false → op = 0 → ∃ t, exec (.memWrite cid) s = .next t ∧ wrote t data ∧
          (bit (q.arg 13 1) 0 = true → Claims.replies s t cid q 0x53 (memCompletion tag .ok 0 0 0 [])) ∧
          (bit (q.arg 13 1) 0 = false → t.core.ports = c.ports ∧ t.core.out = c.out)) ∧
      (∀ g, c.memTarget off n false = some (.grant g) → g.pd = (c.conn cid).pd → op = 0 →
        (g.fresh off n = [] → ∃ t, exec (.memWrite cid) s = .next t ∧ wrote t data ∧ t.core.tiers.grants = c.tiers.grants) ∧
        ((c.commitGrant s.top g off n).isSome = true → ∃ t, exec (.memWrite cid) s = .next t ∧ wrote t data) ∧
        (g.fresh off n ≠ [] → c.within s.top g.client 1 (65536 * (g.fresh off n).length) = false → bit (q.arg 13 1) 0 = true →
          exec (.memWrite cid) s = sends (memCompletion tag .noResource 0 0 0 []))) ∧
      (c.memTarget off n false = none → ∃ t, exec (.memWrite cid) s = .next t ∧ t.core.tiers = c.tiers ∧
        t.core.fabric.regions = c.fabric.regions)) ∧
    (Claims.delivered s cid 0x52 none q → fits → n = 4 ∨ n = 8 → off % n = 0 →
      ∀ i r v, c.memTarget off n false = some (.region i r) → c.fabric.regions.get? i = some r → plain r 2 → good → bit r.flags 2 = false →
        bit r.flags 3 = false → atomicOp op (8 * n) (rd (mem.readN off n) 0 n) (q.arg 24 8) (q.arg 32 8) = some v → 1 ≤ op → op ≤ 6 →
        ∃ t, exec (.memAtomic cid) s = .next t ∧ wrote t (le n v) ∧
          Claims.replies s t cid q 0x53 (memCompletion tag .ok 0 0 (rd (mem.readN off n) 0 n) [])) ∧
    (Claims.delivered s cid 0x54 none q →
      let sent := decide (q.arg 12 1 ≠ 1) && c.fabric.writtenBack.contains (q.arg 0 8)
      exec (.invalidate cid) s = sends (memCompletion tag .ok (b2n sent) 0 0 [])) ∧
    (∀ k x m st, Claims.delivered s cid 0x53 none q → Status.ofCode (q.arg 4 1) = some st →
      c.findReq cid (fun k x => (x.type == 0x50 || x.type == 0x51 || x.type == 0x52 || x.type == 0x54) && k % 2 ^ 32 == q.arg 0 4) = some (k, x) →
      x.purpose = .memIssue m → exec (.memCompletion cid) s =
        .next { s with core := (u.dropReq k).stage m st (q.arg 5 3) (q.body.take (24 + q.arg 12 4)) }) ∧
    (Claims.delivered s cid 0x60 none q →
      ((c.conn cid).bufs = [] → exec (.send cid) s =
        .next { s with core := u.answerMsg s.top cid q 0x61 (sendAck (q.arg 0 4) .noResource 0 0) }) ∧
      (∀ b r rest, (c.conn cid).bufs = b :: rest → (q.body.drop 8).length ≤ b.len → c.fabric.regions.get? b.region = some r →
        r.pd = (c.conn cid).pd → r.closing = none → r.backing = .device → ∃ t, exec (.send cid) s = .next t ∧ t.top = s.top ∧ (t.core.conn cid).bufs = rest ∧
          t.core.tiers.mem.readN (r.off + b.off) (q.body.drop 8).length = q.body.drop 8 ∧
          (∀ x, x < r.off + b.off ∨ r.off + b.off + (q.body.drop 8).length ≤ x → t.core.tiers.mem.read x = mem.read x))) ∧
    (∀ k x m st, Claims.delivered s cid 0x61 (some 1) q → Status.ofCode (q.arg 1 1) = some st →
      c.findReq cid (fun _ x => x.type == 0x60 && x.tag == q.arg 4 4) = some (k, x) → x.purpose = .sendPost m →
      let w := (u.dropReq k).stage m st (q.arg 12 3) (le 1 st.code ++ zeros 3 ++ le 4 (q.arg 8 4))
      exec (.sendAck cid) s = .next { s with core := w }) ∧
    (∀ l, s.top.live = true →
      ((c.line l).busy.isSome = true → exec (.coherentRequest l) s = .next s) ∧
      ((c.line l).queue = [] → exec (.coherentRequest l) s = .next s) ∧
      (∀ w rest i r, (c.line l).busy = none → (c.line l).state = .uncached → (c.line l).queue = w :: rest → c.lineAhead w.no l = false → w.conn = cid → w.msg = q →
        q.type = 0x50 → op = 1 → fits → off = 64 * l → n = 64 → c.memTarget off n true = some (.region i r) → plain r 0 → good →
        bit r.flags 3 = true → c.inDomain s.top q.src = true → (∀ e ∈ c.fabric.regions, e.2.closing = none) →
        ∃ t, exec (.coherentRequest l) s = .next t ∧ (t.core.line l).queue = rest ∧ (t.core.line l).state = .shared [q.src] ∧
          t.core.tiers = c.tiers))

/-- CELL_RECEIVE, MESSAGE_DELIVER, REASSEMBLY_TIMEOUT, REORDER_SKIP, COMPLETION_TIMEOUT, INVALIDATE_TIMEOUT, CREDIT_RETURN_TIMER, CONN_GRANT_TIMER,
CONN_CLOSED, SEND_ACK_CREDIT, SEND_ACK_GRANT and UNKNOWN_MESSAGE (R11, R306, R307, R313 to R317, R323, R328). The model's choices in it: log 99, 100,
101, 102, 104, 114, 115, 181, 182, 183. -/
def Obligations.CellsBecomeMessagesAndConnectionsAgeOut : Prop :=
  ∀ (cid : Nat) (rsp : Bool) (q : Msg) (s : State), s.top.live = true →
    let c := s.core
    let n := c.conn cid
    let ch := n.chan rsp
    let now := s.top.now
    (∀ p b rest, p < 8 → (c.port p).rxq = b :: rest → c.frameIn p = true →
      let x := Cell.ofBytes b.2
      (x.dst = s.top.nodeId → x.conn < 16384 → (c.conn x.conn).state = .opened → (c.conn x.conn).peer = x.src → x.control = false →
        x.consistent = true → ((c.conn x.conn).chan x.rsp).slots.get? x.id = none → ((c.conn x.conn).chan x.rsp).ready.get? x.id = none →
        ((c.conn x.conn).chan x.rsp).expect = x.id → ceilDiv x.total 4096 ≤ ((c.conn x.conn).chan x.rsp).grant →
        ∃ t, exec (.cellReceive p) s = .next t ∧ t.top = s.top ∧ (t.core.port p).rxq = rest ∧ t.core.ctxs = c.ctxs ∧
          (x.data.length = x.total → ((t.core.conn x.conn).chan x.rsp).ready.get? x.id =
              some (x.msg x.data, s.top.dieTime (passDie (x.conn / 4096))) ∧
            ((t.core.conn x.conn).chan x.rsp).slots.get? x.id = none) ∧
          (x.data.length < x.total → ∃ y, ((t.core.conn x.conn).chan x.rsp).slots.get? x.id = some y ∧ y.total = x.total ∧
            y.got = [(x.off, x.data.length)] ∧ y.opened = now)) ∧
      (x.dst ≠ s.top.nodeId → ∃ t, exec (.cellReceive p) s = .next t ∧ (t.core.port p).rxq = rest ∧ t.core.fabric = c.fabric ∧
        (if b.1 then (t.core.port p).freedRsp = ((c.port p).freedRsp + frameFlits b.2.length) % 65536
         else (t.core.port p).freedReq = ((c.port p).freedReq + frameFlits b.2.length) % 65536))) ∧
    (∀ p, (c.port p).rxq = [] → exec (.cellReceive p) s = .next s) ∧
    (∀ at_, cid < 16384 → ch.ready.get? ch.expect = some (q, at_) → ch.ready.get? ((ch.expect + 1) % 2 ^ 32) = none → n.state = .opened →
      n.peer = q.src → q.connless = false → knownType q.type = true → q.type ≠ 0x70 →
      (staleStamp at_ q.stamp c.fabric.skewUs = false → (q.type = 0x60 ∨ q.type = 0x61 ∨ q.job = c.jobId) → c.carried s.top n.stages q = true →
        ∃ t, exec (.messageDeliver cid rsp) s = .next t ∧ t.top = s.top ∧ (t.core.conn cid).inbox = n.inbox ++ [q] ∧
          ((t.core.conn cid).chan rsp).expect = (ch.expect + 1) % 2 ^ 32 ∧ t.core.ctxs = c.ctxs ∧ t.core.tiers = c.tiers) ∧
      (staleStamp at_ q.stamp c.fabric.skewUs = true → ∃ t, exec (.messageDeliver cid rsp) s = .next t ∧ (t.core.conn cid).inbox = n.inbox ∧
        ((t.core.conn cid).chan rsp).expect = (ch.expect + 1) % 2 ^ 32 ∧
        t.core.ctr (.pass (cid / 4096) 0) = (c.ctr (.pass (cid / 4096) 0)).up 1)) ∧
    (ch.ready.get? ch.expect = none → exec (.messageDeliver cid rsp) s = .next s) ∧
    (∀ id w, ch.slots.get? id = some w →
      (w.opened + n.timeoutUs * 1000 ≤ now → ∃ t, exec (.reassemblyTimeout cid rsp id) s = .next t ∧ t.top = s.top ∧
        ((t.core.conn cid).chan rsp).slots.get? id = none ∧ ((t.core.conn cid).chan rsp).owed = ch.owed + ceilDiv w.total 4096 ∧
        (t.core.conn cid).chan (!rsp) = n.chan (!rsp)) ∧
      (now < w.opened + n.timeoutUs * 1000 → exec (.reassemblyTimeout cid rsp id) s = .next s)) ∧
    (ch.ready.get? ch.expect = none →
      ((∃ e ∈ ch.ready, e.2.2 + n.timeoutUs * 1000 ≤ now) → ∃ t, exec (.reorderSkip cid rsp) s = .next t ∧ t.top = s.top ∧
        ((t.core.conn cid).chan rsp).expect = (ch.expect + 1) % 2 ^ 32 ∧ (t.core.conn cid).lost = n.lost.up ∧ (t.core.conn cid).inbox = n.inbox) ∧
      ((∀ e ∈ ch.ready, now < e.2.2 + n.timeoutUs * 1000) → exec (.reorderSkip cid rsp) s = .next s)) ∧
    (∀ r x, c.fabric.reqs.get? r = some x →
      let due := x.sent + (c.conn x.conn).timeoutUs * 1000 ≤ now
      let alive := x.mseq = none ∨ ∃ h, c.fabric.heard.get? x.node = some h ∧ x.sent ≤ h
      (¬due → exec (.completionTimeout r) s = .next s ∧ exec (.invalidateTimeout r) s = .next s) ∧
      (∀ m, due → alive → x.purpose = .memIssue m → (c.mbox m).taken.isSome = true → (c.mbox m).result = none →
        ∃ t, exec (.completionTimeout r) s = .next t ∧ t.top = s.top ∧ t.core.fabric.reqs.get? r = none ∧
          (t.core.mbox m).result = some ⟨.timeout, 0, []⟩ ∧ t.core.ctxs = c.ctxs) ∧
      (∀ m k, due → x.mseq = some k → c.fabric.heard.get? x.node = none → x.purpose = .memIssue m →
        ∃ t, exec (.completionTimeout r) s = .next t ∧ t.top = s.top ∧ t.core.isDead x.node = true) ∧
      (∀ k y, due → alive → x.purpose = .version k → c.fabric.txns.get? k = some y → y.waiting = 1 →
        ∃ t, exec (.invalidateTimeout r) s = .next t ∧ t.top = s.top ∧ t.core.fabric.txns.get? k = none ∧ t.core.ctxs = c.ctxs)) ∧
    (n.state ≠ .closed → 0 < n.req.owed + n.rsp.owed →
      (n.lastSent + 2000 ≤ now → ∃ t, exec (.creditReturnTimer cid) s = .next t ∧ t.top = s.top ∧ (t.core.conn cid).req.owed = 0 ∧
        (t.core.conn cid).rsp.owed = 0 ∧ (t.core.conn cid).lastSent = now ∧ (t.core.conn cid).req.next = n.req.next ∧
        (∀ k, k ≠ cid → t.core.conn k = c.conn k)) ∧
      (now < n.lastSent + 2000 → exec (.creditReturnTimer cid) s = .next s)) ∧
    (n.state = .opening →
      (n.lastGrant + 100000 ≤ now → ∃ t, exec (.connGrantTimer cid) s = .next t ∧ t.top = s.top ∧ (t.core.conn cid).state = .opening ∧
        (t.core.conn cid).lastGrant = now ∧ (∀ k, k ≠ cid → t.core.conn k = c.conn k)) ∧
      (now < n.lastGrant + 100000 → exec (.connGrantTimer cid) s = .next s)) ∧
    (n.state = .closing →
      (n.closeAt + n.timeoutUs * 1000 ≤ now → (∀ e ∈ c.fabric.reqs, e.2.conn ≠ cid) → c.isDead n.peer = true → ∃ t,
        exec (.connClosed cid) s = .next t ∧ t.top = s.top ∧ t.core.conn cid = { state := .closed, inbox := n.inbox } ∧
        (∀ k, k ≠ cid → t.core.conn k = c.conn k) ∧ t.core.ctxs = c.ctxs) ∧
      (∀ r x m, n.closeAt + n.timeoutUs * 1000 ≤ now → c.fabric.reqs = [(r, x)] → x.conn = cid → x.purpose = .memIssue m →
        (c.mbox m).taken.isSome = true → (c.mbox m).result = none → ∃ t, exec (.connClosed cid) s = .next t ∧ t.top = s.top ∧
          (t.core.conn cid).state = .closed ∧ (t.core.mbox m).result = some ⟨.portDown, 0, []⟩) ∧
      (now < n.closeAt + n.timeoutUs * 1000 → n.req.slots ≠ [] → exec (.connClosed cid) s = .next s)) ∧
    (Claims.delivered s cid 0x61 (some 2) q → n.req.wait = [] → n.rsp.wait = [] → n.req.held ≤ n.req.heldMax → n.rsp.held ≤ n.rsp.heldMax →
      ∃ t, exec (.sendAckCredit cid) s = .next t ∧ t.top = s.top ∧ t.core.conn cid = { n with inbox := n.inbox.tail } ∧
        (∀ k, k ≠ cid → t.core.conn k = c.conn k)) ∧
    (Claims.delivered s cid 0x61 (some 3) q → n.granted = false → n.req.wait = [] → n.rsp.wait = [] → ∃ t, exec (.sendAckGrant cid) s = .next t ∧
      t.top = s.top ∧ (t.core.conn cid).granted = true ∧ (t.core.conn cid).req.held = q.crReq ∧ (t.core.conn cid).req.heldMax = q.crReq ∧
      (t.core.conn cid).rsp.held = q.crRsp ∧ (t.core.conn cid).rsp.heldMax = q.crRsp ∧ (t.core.conn cid).inbox = n.inbox.tail) ∧
    (∀ rest, n.inbox = q :: rest →
      (∀ k, unhandled q = some k → exec (.unknownMessage cid) s = .next { s with core := (c.takeMsg cid q).bump k }) ∧
      (unhandled q = none → exec (.unknownMessage cid) s = .next s) ∧
      (knownType q.type = false → unhandled q = some (.dev 2)))

/-! ### Traffic gates and shapers -/

/-- SHAPER_SET, SHAPER_QUERY, GATE_LIST_SET, GATE_LIST_QUERY, EGRESS_SET, EGRESS_QUERY, FRAME_START, GATE_ENTRY_CHANGE, GATE_LIST_SWITCH and
EGRESS_SAMPLE (R282, R284, R333, R334, R337, R338, R340, R343 to R346): a new gate list takes over at base + k × C, at least 10 µs from the command; a
frame started takes the next sequence of its class and stays in the retry buffer; a replayed one keeps its own; the queues are sampled once for each
microsecond that package time reaches. The model's choices in it: log 16, 116, 176, 179. -/
def Obligations.EgressQueuesFollowShapersAndGates : Prop :=
  (∀ (m : Nat) (a : Cmd) (s : State),
    let c := s.core
    let p := a.arg 0 1
    let h := c.head p
    let k := a.arg 1 1
    let x := c.port h
    let now := s.top.now
    let serves := s.top.hasPort p = true ∧ c.underTest (portDie p) = false
    (Takes s m 0x0B01 a → serves → k < 8 → 1 ≤ a.arg 4 4 → a.arg 4 4 ≤ 400000 → 4096 ≤ a.arg 8 4 → a.arg 8 4 ≤ 16777216 →
      ∃ c', exec (.shaperSet m) s = .next (s.answers m c') ∧
        (let y := (c'.port h).shapers.getD k {}
         y.on = bit (a.arg 2 1) 0 ∧ y.rate = a.arg 4 4 ∧ y.burst = a.arg 8 4 ∧ (x.q k = [] → y.tokens ≤ 4096 * 65536) ∧
         (x.q k ≠ [] → (x.shapers.getD k {}).rate ≠ a.arg 4 4 → y.tokens = if bit (a.arg 2 1) 1 then a.arg 8 4 * 65536 else 0)) ∧
        (∀ j, (c'.port h).q j = x.q j) ∧ (∀ q, q ≠ h → q ≠ c.head h → c'.port q = c.port q) ∧ c'.fabric = c.fabric) ∧
    (Takes s m 0x0B02 a → serves → k < 8 → ∃ b, exec (.shaperQuery m) s = .next (s.answers m c b) ∧ b.length = 16 ∧
      rd b 0 1 = b2n (x.shapers.getD k {}).on ∧ rd b 4 4 = (x.shapers.getD k {}).rate % 2 ^ 32 ∧
      rd b 8 4 = (x.shapers.getD k {}).burst % 2 ^ 32) ∧
    (Takes s m 0x0B03 a → serves → a.arg 2 2 ≤ 256 → 16 + 8 * a.arg 2 2 ≤ a.length →
      let g : GateList := { base := a.arg 8 8, entries := gateEntries a (a.arg 2 2) }
      ((∀ e ∈ g.entries, 50 ≤ e.2 ∧ e.2 ≤ 100000000) → g.cycle ≤ 1000000000 → ∃ w,
        exec (.gateListSet m) s = .next (s.answers m (c.updPort h (fun x => { x with gatesNext := some (g, w) })) (le 8 w)) ∧
        now + 10000 ≤ w ∧ (g.entries ≠ [] → (∃ n, w = g.base + n * g.cycle) ∧ (w = g.base ∨ w < now + 10000 + g.cycle))) ∧
      (∀ i < a.arg 2 2, (∀ j < i, 50 ≤ a.arg (20 + 8 * j) 4 ∧ a.arg (20 + 8 * j) 4 ≤ 100000000) → a.arg (20 + 8 * i) 4 < 50 →
        exec (.gateListSet m) s = .next (s.refuses m .badArg (20 + 8 * i)))) ∧
    (Takes s m 0x0B04 a → serves →
      (∀ g, k = 0 → x.gates = some g → ∃ b, exec (.gateListQuery m) s = .next (s.answers m c b) ∧ b.length = 24 + 8 * g.entries.length ∧
        rd b 0 2 = g.entries.length % 65536 ∧ rd b 2 2 = g.entryAt now % 65536 ∧ rd b 8 8 = g.base % 2 ^ 64 ∧ rd b 16 8 = g.cycle % 2 ^ 64) ∧
      (∀ g w, k = 1 → x.gatesNext = some (g, w) → ∃ b, exec (.gateListQuery m) s = .next (s.answers m c b) ∧
        rd b 0 2 = g.entries.length % 65536 ∧ rd b 2 2 = 0xFFFF ∧ rd b 8 8 = g.base % 2 ^ 64) ∧
      ((k = 0 ∧ x.gates = none) ∨ (k = 1 ∧ x.gatesNext = none) → ∃ b, exec (.gateListQuery m) s = .next (s.answers m c b) ∧ rd b 0 2 = 0)) ∧
    (Takes s m 0x0B05 a → serves →
      exec (.egressSet m) s = .next (s.answers m (c.updPort h (fun x => { x with expressMask := k % 128 + 128 })))) ∧
    (Takes s m 0x0B06 a → serves → k < 8 → ∃ c' b, exec (.egressQuery m) s = .next (s.answers m c' b) ∧ b.length = 320 ∧
      bit (rd b 0 1) 0 = x.express_ k ∧ bit (rd b 0 1) 1 = bit (gateMask x.gates now) k ∧ rd b 2 2 = min 512 (x.q k).length ∧
      (∀ j, (c'.port h).q j = x.q j) ∧ c'.fabric = c.fabric)) ∧
  (∀ (p : Nat) (s : State), s.top.live = true → s.top.hasPort p = true →
    let c := s.core
    let x := c.port p
    let h := c.head p
    let now := s.top.now
    let kept := fun (t : State) => t.top = s.top ∧ t.core.ctxs = c.ctxs ∧ t.core.tiers = c.tiers ∧ t.core.fabric = c.fabric
    (∀ e k f rest, x.carries = true → x.classFree e now = true → (e = false → c.nextStart s.top p true = none) → x.disableBy = none →
      (x.cls e).replay = 0 → c.freest ((c.members p).filter (fun q => (c.port q).carries)) = some p →
      (c.port h).bestQueue now (laneCount x.txMap) e = some k → (c.port h).q k = f :: rest → x.mapWant = none →
      c.txRoom s.top p f.payload.length = true →
      x.mayStart e (64 * frameFlits f.payload.length) = true → ∃ t w, exec (.frameStart p) s = .next t ∧ kept t ∧
        (t.core.port h).q k = enter now rest ∧
        ((t.core.port p).cls e).next = (x.cls e).next + 1 ∧ Out.frame p e (x.cls e).next.toNat f.payload w ∈ t.core.out ∧
        (∃ g, ((t.core.port p).cls e).unacked = (x.cls e).unacked ++ [g] ∧ g.seq = (x.cls e).next ∧ g.payload = f.payload)) ∧
    (∀ e f, x.carries = true → x.classFree e now = true → (e = false → c.nextStart s.top p true = none) → 0 < (x.cls e).replay →
      x.mapWant = none → c.txRoom s.top p f.payload.length = true →
      (x.cls e).unacked[(x.cls e).unacked.length - (x.cls e).replay]? = some f → ∃ t w, exec (.frameStart p) s = .next t ∧ kept t ∧
        ((t.core.port p).cls e).next = (x.cls e).next ∧ ((t.core.port p).cls e).replay = (x.cls e).replay - 1 ∧
        ((t.core.port p).cls e).unacked = (x.cls e).unacked ∧ Out.frame p e f.seq.toNat f.payload w ∈ t.core.out) ∧
    ((∀ k, (c.port h).q k = []) → x.mapWant = none → x.normal.replay = 0 → x.express.replay = 0 → exec (.frameStart p) s = .next s) ∧
    (∀ g, x.gates = some g → ∃ t, exec (.gateEntryChange p) s = .next t ∧ kept t ∧ (t.core.port p).gateEntry = g.entryAt now ∧
      (t.core.port p).gates = some g ∧ t.core.out = c.out) ∧
    (x.gates = none → exec (.gateEntryChange p) s = .next s) ∧
    (∀ g w, x.gatesNext = some (g, w) →
      (w ≤ now → ∃ t, exec (.gateListSwitch p) s = .next t ∧ kept t ∧ (t.core.port p).gates = some g ∧ (t.core.port p).gatesNext = none ∧
        (t.core.port p).gateEntry = g.entryAt now) ∧
      (now < w → exec (.gateListSwitch p) s = .next s)) ∧
    (x.gatesNext = none → exec (.gateListSwitch p) s = .next s) ∧
    (c.telem.sampled < now / 1000 → h = p → ∃ t, exec .egressSample s = .next t ∧ kept t ∧ t.core.telem.sampled = now / 1000 ∧ ∀ k < 8,
      let b := 8 + egressBin 1 (min 512 (x.q k).length)
      t.core.ctr (.egress p k b) = (c.ctr (.egress p k b)).up 1) ∧
    (now / 1000 ≤ c.telem.sampled → exec .egressSample s = .next s))

/-! ### Telemetry, faults, self-test and start-up -/

/-- EVENT_MASK_SET, EVENT_QUERY, COUNTER_SNAPSHOT, WATERMARK_SET, WATERMARK_QUERY, LIFETIME_READ, LIFETIME_FLUSH, SCRUB_SET, JOB_QUIESCE,
FAULT_QUERY, TELEMETRY_REFRESH, LIFETIME_WRITE, WATERMARK_CLEAR, QUEUE_CREDIT_RETURN, MESH_TRANSFER_RECEIVE and PATROL_READ (R18 to R22, R24, R29,
R42, R103, R401, R403 to R406, R409 to R418): the next unit of the oldest transfer on a link crosses it, or is replayed. Fields that no rule gives
a value are free. The model's choices in it: log 5, 129, 130, 133, 134, 135, 137, 158, 159. -/
def Obligations.TelemetryCountsAndFaultsQuiesce : Prop :=
  (∀ (m : Nat) (a : Cmd) (s : State),
    let c := s.core
    let id := a.arg 0 4
    let f := a.arg 4 4
    (Takes s m 0x0C01 a → exec (.eventMaskSet m) s = .next (s.answers m (c.onHost (fun h => { h with
      evMask := if bit (a.arg 0 2) 1 then a.arg 0 2 - 2 else a.arg 0 2 })))) ∧
    (Takes s m 0x0C02 a → ∃ p, exec (.eventQuery m) s = .next (s.answers m c p) ∧ p.length = 260 ∧ rd p 0 2 = c.host.evMask % 65536 ∧
      ∀ k < 16, rd p (4 + 8 * k) 8 = (c.ctr (.event k 0)).toNat ∧ rd p (132 + 8 * k) 8 = (c.ctr (.event k 1)).toNat) ∧
    (Takes s m 0x0C03 a → qCount (a.arg 0 1) ≠ 0 → a.arg 2 2 < qCount (a.arg 0 1) → exec (.counterSnapshot m) s =
      .next (s.holds m (c.onTelem (fun x => { x with snaps := x.snaps ++ [(m, a.arg 0 1, a.arg 2 2, s.top.now + 10000)] })))) ∧
    (∀ up d v src, Takes s m 0x0C04 a → c.watermark s.top id = some (up, d, v, src) →
      (bit f 2 = true ∨ (if up then a.arg 12 4 ≤ a.arg 8 4 else a.arg 8 4 ≤ a.arg 12 4)) →
      ∃ c', exec (.watermarkSet m) s = .next (s.answers m c') ∧ (c'.wm id).on = bit f 0 ∧
        (c'.wm id).set = (if bit f 2 then none else some (a.arg 8 4, a.arg 12 4)) ∧ c'.ctxs = c.ctxs ∧ c'.tiers = c.tiers ∧ c'.fabric = c.fabric) ∧
    (Takes s m 0x0C04 a → c.watermark s.top id = none → exec (.watermarkSet m) s = .next (s.refuses m .badArg 0)) ∧
    (∀ up d v src, Takes s m 0x0C05 a → c.watermark s.top id = some (up, d, v, src) →
      ∃ p, exec (.watermarkQuery m) s = .next (s.answers m c p) ∧ p.length = 24 ∧ bit (rd p 0 1) 0 = (c.wm id).on ∧
        bit (rd p 0 1) 1 = (c.wm id).level ∧ bit (rd p 0 1) 2 = (c.wm id).crossed ∧ rd p 4 4 = ((c.wm id).levels d).1 % 2 ^ 32 ∧
        rd p 8 4 = ((c.wm id).levels d).2 % 2 ^ 32 ∧ rd p 16 8 = (c.ctr (.cross id)).toNat) ∧
    (Takes s m 0x0C06 a → a.arg 0 1 < 64 → a.arg 1 1 < 4 → a.arg 4 4 % 4 = 0 → a.arg 4 4 < 131072 →
      ∃ p, exec (.lifetimeRead m) s = .next (s.answers m c p) ∧ bit (rd p 0 1) 0 =
          (!s.top.gone (summitDie (a.arg 0 1 / 16)) && (c.telem.lifePrimary.get? (a.arg 0 1)).isSome) ∧ bit (rd p 0 1) 1 =
          (!s.top.gone (summitDie (Nat.xor (a.arg 0 1 / 16) 2)) && (c.telem.lifeMirror.get? (a.arg 0 1)).isSome) ∧ p.length = 8 + rd p 4 4 ∧
        (a.arg 1 1 = 3 → rd p 4 4 = min 4080 (131072 - a.arg 4 4))) ∧
    (Takes s m 0x0C07 a →
      (c.telem.lifeBusy = false → exec (.lifetimeFlush m) s =
        .next (s.holds m (c.onTelem (fun x => { x with lifeBusy := true, lifeBegan := s.top.now, flush := [m] })))) ∧
      (c.telem.lifeBusy = true → exec (.lifetimeFlush m) s = .next (s.refuses m .busy 0))) ∧
    (Takes s m 0x0C08 a → a.arg 0 2 ≤ 168 → exec (.scrubSet m) s = .next (s.answers m (c.onTiers (fun x => { x with
      patrolH := if a.arg 0 2 = 0 then x.patrolH else a.arg 0 2
      warmPatrol := if bit (a.arg 2 2) 15 then bit (a.arg 2 2) 0 else x.warmPatrol })))) ∧
    (Takes s m 0x0C09 a →
      (c.jobId ≠ id → exec (.jobQuiesce m) s = .next (s.refuses m .badArg 0)) ∧
      (c.jobId = id → c.quiesced = true → exec (.jobQuiesce m) s = .next (s.answers m c)) ∧
      (∀ j, c.job = some j → j.id = id → j.quiesced = false → ∃ c', exec (.jobQuiesce m) s = .next (s.answers m c') ∧ c'.quiesced = true ∧
        c'.telem.firstFault = some ⟨4, 0, 0⟩)) ∧
    (Takes s m 0x0C0A a → ∃ p, exec (.faultQuery m) s = .next (s.answers m c p) ∧ p.length = 144 ∧ rd p 1 1 = b2n c.quiesced ∧
      rd p 0 1 = ((c.telem.firstFault.map JobFault.cause).getD 0) % 256 ∧ rd p 136 8 = c.tiers.retired.length % 2 ^ 64)) ∧
  (∀ (s : State), s.top.live = true →
    let c := s.core
    let now := s.top.now
    (c.telem.refreshed / 1000 < now / 1000 → ∃ t, exec .telemetryRefresh s = .next t ∧ t.top = s.top ∧ t.core.telem.refreshed = now ∧
      t.core.host = c.host ∧ t.core.fabric = c.fabric) ∧
    (now / 1000 ≤ c.telem.refreshed / 1000 → exec .telemetryRefresh s = .next s) ∧
    (c.telem.lifeBusy = true → ∃ t, exec .lifetimeWrite s = .next t ∧ t.top = s.top ∧ t.core.telem.lifeBusy = false ∧ t.core.telem.flush = [] ∧
      ∀ m ∈ c.telem.flush, (c.mbox m).taken.isSome = true → (c.mbox m).result = none → (t.core.mbox m).result = some ⟨.ok, 0, le 8 c.telem.lifeBegan⟩) ∧
    (c.telem.lifeBusy = false → c.telem.lifeBegan / 600000000000 < now / 600000000000 → exec .lifetimeWrite s =
      .next { s with core := c.onTelem (fun x => { x with lifeBusy := true, lifeBegan := now, flush := [] }) }) ∧
    (c.telem.lifeBusy = false → now / 600000000000 ≤ c.telem.lifeBegan / 600000000000 → exec .lifetimeWrite s = .next s) ∧
    (∀ (q k : Nat) (v : Word), k < qCount q → v.getLsbD 1 = true → exec (.watermarkClear q k v) s =
      .next { s with core := c.setWm (wmQueue q k) { c.wm (wmQueue q k) with crossed := false } }) ∧
    (∀ (q k : Nat) (v : Word), qCount q ≤ k ∨ v.getLsbD 1 = false → exec (.watermarkClear q k v) s = .next s) ∧
    (∀ q i p, q ≠ 0x0B → q ≠ 0x10 → i < qCount q → s.top.gone (qDie q i) = false → c.underTest (qDie q i) = false →
      let y := c.queue q i
      let other := q ≠ 0x01 ∧ q ≠ 0x03 ∧ q < 0x0D
      (other → 0 < y.used p → y.waiting p = 0 → ∃ t, exec (.queueCreditReturn q i p) s = .next t ∧ t.top = s.top ∧
        (t.core.queue q i).depth = y.depth - 1 ∧ (t.core.queue q i).used p = y.used p - 1 ∧ t.core.fabric = c.fabric) ∧
      (other → 0 < y.waiting p → 0 < y.used p → ∃ t, exec (.queueCreditReturn q i p) s = .next t ∧
        (t.core.queue q i).depth = y.depth ∧ (t.core.queue q i).used p = y.used p ∧ (t.core.queue q i).waiting p = y.waiting p - 1) ∧
      (q = 0x01 → 0 < y.used p → (∀ e ∈ y.entries, e.wait = 0) → ∃ t, exec (.queueCreditReturn q i p) s = .next t ∧
        (t.core.queue 0x01 i).depth = y.depth - 1 ∧ (t.core.queue 0x03 i).depth = (c.queue 0x03 i).depth + 1 ∧ t.core.fabric = c.fabric) ∧
      (y.used p = 0 → exec (.queueCreditReturn q i p) s = .next s)) ∧
    (∀ l dir cls, c.meshOn l dir cls = none → ∀ good, exec (.meshTransferReceive l dir cls good) s = .next s) ∧
    (∀ l dir cls n x, c.meshOn l dir cls = some (n, x) →
      (∃ t, exec (.meshTransferReceive l dir cls false) s = .next t ∧ t.top = s.top ∧ t.core.telem.mesh.get? n = some { x with replay := true } ∧
        t.core.ctr (.mesh l) = (c.ctr (.mesh l)).up 1 ∧ t.core.telem.queues = c.telem.queues) ∧
      (1 < x.left → ∃ t, exec (.meshTransferReceive l dir cls true) s = .next t ∧ t.top = s.top ∧
        t.core.telem.mesh.get? n = some { x with left := x.left - 1, replay := false } ∧ t.core.telem.queues = c.telem.queues) ∧
      (∀ e k d rest, x.left ≤ 1 → x.route = e :: (k, d) :: rest → ∃ t, exec (.meshTransferReceive l dir cls true) s = .next t ∧ t.top = s.top ∧
        t.core.telem.mesh.get? n = some { x with left := x.units, route := (k, d) :: rest, replay := false } ∧
        (t.core.queue (meshQueue x.cls) (2 * k + d)).depth = (c.queue (meshQueue x.cls) (2 * k + d)).depth +
          min (c.qRoom s.top (meshQueue x.cls) (2 * k + d) 0) x.units) ∧
      (∀ e, x.left ≤ 1 → x.route = [e] → x.cargo ≠ .correction → ∃ t, exec (.meshTransferReceive l dir cls true) s = .next t ∧ t.top = s.top ∧
        t.core.telem.mesh.get? n = some { x with left := x.units, route := [], replay := false } ∧ t.core.telem.queues = c.telem.queues) ∧
      (∀ e d, x.left ≤ 1 → x.route = [e] → x.cargo = .correction → x.work = .time d → ∃ t k, exec (.meshTransferReceive l dir cls true) s = .next t ∧
        t.top = s.top.onTime (fun b => b.correctCopy d k) ∧ t.core.telem.mesh.get? n = none ∧ t.core.telem.queues = c.telem.queues)) ∧
    (∀ st fr o p, st < 16 → s.top.gone (saddleDie st) = false → s.top.stackMask.getLsbD st = true → c.fenced (saddleDie st) = false →
      c.job.isSome = true → c.tiers.warmPatrol = false → fr < c.perStack → c.tiers.retired.contains (st, fr) = false →
      c.tiers.pages.find? (fun e => e.2.t1 == some (st, fr) && e.2.holdsFrame) = some (o, p) → c.page o = some p →
      (p.fill < 256 → (c.tiers.corrections.getD (st * 2 ^ 20 + fr) 0 = 0 → ∃ t, exec (.patrolRead st fr .corrected) s = .next t ∧
          t.top = s.top ∧ t.core.page o = some p ∧ t.core.tiers.corrections.getD (st * 2 ^ 20 + fr) 0 = 1) ∧
        (∃ t, exec (.patrolRead st fr .clean) s = .next t ∧ t.core.page o = some p ∧ t.core.tiers.corrections.get? (st * 2 ^ 20 + fr) = none) ∧
        (∃ t, exec (.patrolRead st fr .digest) s = .next t ∧ t.core.page o = some { p with badDigest := true })) ∧
      (c.namers o = [] → ∃ t g, exec (.patrolRead st fr .entry) s = .next t ∧ t.core.page o = some g ∧ g.poison = true ∧ g.entryLost = true) ∧
      (p.inTier 1 = false → ∃ t g, exec (.patrolRead st fr .uncorrectable) s = .next t ∧ t.core.page o = some g ∧ g.retireWhy = 1)))

/-- BOOT_QUERY, CFG_LOAD, CFG_READ, FW_LOAD, SELFTEST_SET, SELFTEST_RUN, SELFTEST_QUERY, BOOT_ROM_DONE, FIRMWARE_VERIFY, CONFIG_APPLY, TRAINING_DONE,
STARTUP_SELFTEST_DONE, INTERFACE_RETRAIN, SELFTEST_SLICE_START, SELFTEST_FENCED, SELFTEST_SLICE_END and PCIE_READ_COMPLETION (R40, R43, R379, R380,
R382 to R385, R388 to R400, R435): each phase of start-up is ended by its own command and leads to the next or to FAULTED, an image is taken only if
it passes its checks, a slice of self-test drains, runs and ends, and the end of the start-up test loads every die's copy of package time (R29). The
model's choices in it: log 57, 138, 139, 140, 141, 142, 143, 145, 146, 159, 188. -/
def Obligations.StartUpRunsItsPhasesAndTestsItsDies : Prop :=
  (∀ (m : Nat) (a : Cmd) (s : State),
    let c := s.core
    let d := a.arg 0 1
    let len := a.arg 8 4
    (Takes s m 0x0D01 a → s.top.phaseEnds.length = 5 → ∃ p, exec (.bootQuery m) s = .next (s.answers m c p) ∧ p.length = 64 ∧
      rd p 40 1 = s.top.fwSlot % 256 ∧ rd p 41 1 = b2n s.top.fwFallback ∧ rd p 48 8 = s.top.failedStart.toNat ∧
      rd p 56 4 = s.top.fwVersion % 2 ^ 32 ∧ ∀ k < 5, rd p (8 * k) 8 = s.top.phaseEnds.getD k 0 % 2 ^ 64) ∧
    (Takes s m 0x0D02 a → 24 ≤ len → len ≤ 65536 →
      (c.loading = false → ∃ c' k, exec (.cfgLoad m) s = .next (s.holds m c') ∧ c'.fabric.reads.get? k = some (.cfgLoad m, len) ∧
        c'.out = c.out ++ [.hostRead k (a.arg 0 8) len]) ∧
      (c.loading = true → exec (.cfgLoad m) s = .next (s.refuses m .busy 0))) ∧
    (Takes s m 0x0D03 a → a.arg 0 4 % 4 = 0 → exec (.cfgRead m) s =
      .next (s.answers m c (le 4 s.top.cfgImage.length ++ (s.top.cfgImage.drop (a.arg 0 4)).take 4080))) ∧
    (Takes s m 0x0D04 a → 513 ≤ len → len ≤ 16777216 →
      (c.loading = false → ∃ c' k, exec (.fwLoad m) s = .next (s.holds m c') ∧ c'.fabric.reads.get? k = some (.fwLoad m, len) ∧
        c'.out = c.out ++ [.hostRead k (a.arg 0 8) len]) ∧
      (c.loading = true → exec (.fwLoad m) s = .next (s.refuses m .busy 0))) ∧
    (Takes s m 0x0D05 a → a.arg 4 4 = 0 ∨ (3600 ≤ a.arg 4 4 ∧ a.arg 4 4 ≤ 2592000) → exec (.selftestSet m) s =
      .next (s.answers m (c.onTelem (fun x => { x with
        testOn := bit (a.arg 0 4) 0
        testPeriod := if a.arg 4 4 = 0 then x.testPeriod else a.arg 4 4 })))) ∧
    (Takes s m 0x0D06 a → d < 64 → s.top.gone d = false →
      (c.underTest d = false → exec (.selftestRun m) s = .next (s.holds m (c.updTest d (fun r => { r with runners := r.runners ++ [m] })))) ∧
      (c.underTest d = true → exec (.selftestRun m) s = .next (s.refuses m .busy 0))) ∧
    (Takes s m 0x0D07 a → d < 64 → ∃ p, exec (.selftestQuery m) s = .next (s.answers m c p) ∧ p.length = 32 ∧
      rd p 0 1 = (if s.top.gone d = true ∧ (c.test d).state ≠ 3 then 4 else (c.test d).state % 256) ∧ rd p 8 4 = (c.test d).passes % 2 ^ 32)) ∧
  (∀ (s : State), s.top.live = true →
    let c := s.core
    let u := s.top
    let want := if u.bootWord = 0x00005A01#32 then 1 else 0
    let slot := fun (n : Nat) => if n = 1 then u.slot1 else u.slot0
    (∀ ok : BitVec 4, u.dev = .boot → u.phase = 1 → u.perst = false → u.allFailed = false →
      (ok &&& ~~~u.summitFail ≠ 0 → ∃ t, exec (.bootRomDone ok) s = .next t ∧ t.core = { c with nonce := c.nonce + 64 } ∧
        t.top.dev = .boot ∧ t.top.phase = 2 ∧ t.top.candidates = ok &&& ~~~u.summitFail ∧ t.top.allFailed = false ∧
        ∀ d < 64, ∃ x, t.top.time.copies.get? d = some x ∧ x.delay = Config.timeDelay d ∧ x.least = u.now ∧ -5 ≤ x.off ∧ x.off ≤ 5) ∧
      (ok &&& ~~~u.summitFail = 0 → ∃ t, exec (.bootRomDone ok) s = .next t ∧ t.core = c ∧ t.top.dev = .boot ∧ t.top.allFailed = true)) ∧
    (∀ q, u.dev = .boot → u.phase = 2 → u.allFailed = false → (List.range 4).find? (fun q => u.candidates.getLsbD q) = some q →
      (∀ n, (n = want ∨ (n = 1 - want ∧ fwCheck u.secFloor (slot want) ≠ none)) → fwCheck u.secFloor (slot n) = none →
        ∃ t, exec .firmwareVerify s = .next t ∧ t.top.phase = 3 ∧ t.top.primary = q ∧ t.top.fwValid = true ∧ t.top.fwSlot = n ∧
          t.top.fwFallback = decide (n ≠ want) ∧ t.top.fwVersion = rd (slot n) 8 4 ∧ t.core.telem.lifeLoaded = true) ∧
      (fwCheck u.secFloor (slot 0) ≠ none → fwCheck u.secFloor (slot 1) ≠ none → ∃ t, exec .firmwareVerify s = .next t ∧ t.core = c ∧
        t.top.dev = .boot ∧ t.top.phase = 2 ∧ t.top.candidates = u.candidates &&& ~~~(1#4 <<< q) ∧
        t.top.absent.getLsbD (summitDie q) = true)) ∧
    (∀ k, u.dev = .boot → u.phase = 3 → cfgCheck u.cfgFlash = some k → ∃ t, exec .configApply s = .next t ∧ t.top.dev = .train ∧
      t.top.phase = 4 ∧ t.top.cfgDefaulted = true ∧ t.top.cfgCause = k ∧ t.top.nodeId = u.nodeId ∧
      ∀ p < 8, u.cfgPorts.getLsbD p = true → u.hasPort p = true → (c.port p).state = .disabled → (t.core.port p).state = .training) ∧
    (u.dev = .boot → u.phase = 3 → cfgCheck u.cfgFlash = none → ∃ t, exec .configApply s = .next t ∧ t.top.dev = .train ∧ t.top.phase = 4 ∧
      t.top.cfgDefaulted = false ∧ t.top.cfgSeq = rd u.cfgFlash 12 4 ∧ t.top.cfgImage = u.cfgFlash.take (rd u.cfgFlash 8 4)) ∧
    (∀ (mask : BitVec 16) ds, u.dev = .train → (∀ k < 16, mask.getLsbD k = true → u.gone (saddleDie k) = false) →
      (mask ≠ 0 → ∃ t, exec (.trainingDone mask ds) s = .next t ∧ t.core = c ∧ t.top.dev = .selftest ∧ t.top.phase = 5 ∧
        t.top.stackMask = mask ∧ t.top.warmDevices = ds) ∧
      (mask = 0 → ∃ t, exec (.trainingDone mask ds) s = .next t ∧ t.top.dev = .faulted)) ∧
    (∀ bad links rep, u.dev = .selftest →
      (bad = 0 → links = [] → u.crests ≠ [] → u.stackMask ≠ 0 → ∃ t, exec (.startupSelftestDone bad links rep) s = .next t ∧
        t.top.dev = .ready ∧ t.top.phase = 0 ∧ t.top.absent = u.absent ∧ t.top.stackMask = u.stackMask ∧ t.core.ports = c.ports) ∧
      (bad.getLsbD u.primaryDie = true → ∃ t, exec (.startupSelftestDone bad links rep) s = .next t ∧ t.top.dev = .boot ∧ t.top.phase = 1 ∧
        t.top.fwValid = false) ∧
      (∀ q < 4, bad.getLsbD (passDie q) = true → u.gone (passDie q) = false → bad.getLsbD u.primaryDie = false →
        ∃ t, exec (.startupSelftestDone bad links rep) s = .next t ∧ t.top.dev = .faulted)) ∧
    (∀ st v low, st < 16 → u.gone (saddleDie st) = false → u.stackMask.getLsbD st = true → c.fenced (saddleDie st) = false →
      ∃ t, exec (.interfaceRetrain st v low) s = .next t ∧ t.top = u ∧ t.core.tiers = c.tiers ∧
        ((t.core.telem.life.getD (saddleDie st) {}).items.getD (lifeKey 6 (min 15 (v / 4))) {}) =
          ((c.telem.life.getD (saddleDie st) {}).items.getD (lifeKey 6 (min 15 (v / 4))) {}).up 1) ∧
    (∀ d, d < 64 → u.gone d = false →
      (u.dev = .ready ∨ u.dev = .bound → (c.test d).runners ≠ [] → (∀ k < 16, c.underTest (16 * (d / 16) + k) = false) →
        ∃ t, exec (.selftestSliceStart d) s = .next t ∧ t.top = u ∧ (t.core.test d).state = 1 ∧ (t.core.test d).runners = (c.test d).runners) ∧
      (c.telem.testOn = false → (c.test d).runners = [] → exec (.selftestSliceStart d) s = .next s) ∧
      ((c.test d).state = 1 → (∀ i, dieType d = (.crest, i) → c.crestBusy i = false) → ∃ t, exec (.selftestFenced d) s = .next t ∧ t.top = u ∧
        (t.core.test d).state = 2 ∧ (t.core.test d).began = u.now ∧ t.core.sched = c.sched) ∧
      ((c.test d).state ≠ 1 → exec (.selftestFenced d) s = .next s) ∧
      (∀ rows, u.dev = .ready ∨ u.dev = .bound ∨ u.dev = .draining ∨ u.dev = .faulted → (c.test d).state = 2 →
        (∃ t, exec (.selftestSliceEnd d true rows) s = .next t ∧ t.top = u ∧ (t.core.test d).state = 0 ∧ (t.core.test d).last = 0 ∧
          (t.core.test d).runners = [] ∧ (∀ m ∈ (c.test d).runners, (c.mbox m).taken.isSome = true → (c.mbox m).result = none →
            (t.core.mbox m).result = some ⟨.ok, 0, []⟩)) ∧
        (∀ p, dieType d = (.port, p) → ∃ t, exec (.selftestSliceEnd d false rows) s = .next t ∧ t.top.absent.getLsbD d = true ∧
          t.top.dev = u.dev ∧ (t.core.test d).state = 3 ∧ (t.core.port p).state = .disabled))) ∧
    (∀ r m n bs, c.fabric.reads.get? r = some (.cfgLoad m, n) → bs.length = n → (c.mbox m).taken.isSome = true → (c.mbox m).result = none →
      (cfgCheck bs = none → ∃ t, exec (.pcieReadCompletion r true bs) s = .next t ∧ t.top = { u with cfgFlash := bs } ∧
        (t.core.mbox m).result = some ⟨.ok, 0, []⟩ ∧ t.core.fabric.reads.get? r = none) ∧
      (∀ k, cfgCheck bs = some k → ∃ t, exec (.pcieReadCompletion r true bs) s = .next t ∧ t.top = u ∧
        (t.core.mbox m).result = some ⟨.checkFail, k, []⟩) ∧
      (∃ t, exec (.pcieReadCompletion r false bs) s = .next t ∧ t.top = u ∧ (t.core.mbox m).result = some ⟨.timeout, 0, []⟩)) ∧
    (∀ r m n a bs, c.fabric.reads.get? r = some (.fwLoad m, n) → bs.length = n → (c.mbox m).taken = some a → (c.mbox m).result = none →
      (fwCheck u.secFloor bs = none → ∃ t, exec (.pcieReadCompletion r true bs) s = .next t ∧
        (if u.fwSlot = 0 then t.top.slot1 = bs ∧ t.top.slot0 = u.slot0 else t.top.slot0 = bs ∧ t.top.slot1 = u.slot1) ∧
        t.top.secFloor = (if bit (a.arg 12 4) 0 then max u.secFloor u.fwSecurity else u.secFloor)) ∧
      (∀ k, fwCheck u.secFloor bs = some k → ∃ t, exec (.pcieReadCompletion r true bs) s = .next t ∧ t.top = u ∧
        (t.core.mbox m).result = some ⟨.checkFail, k, []⟩)))

/-! ### Synchronisation -/

/-- SYNC_ALLOC, SYNC_FREE, SYNC_SET, SYNC_SIGNAL, SYNC_WAIT, SYNC_QUERY, SYNC_CANCEL, SYNC_WAIT_TIMEOUT and the signal window (R64 to R74): values
stop at their limit with SAT, a waiter that qualifies is released at the value after the operation, and a timed-out or cancelled one leaves the list
without it. A signal that names a FREE object is counted as stale. Which free number a waiter bears is free. The model's choices in it: log 5, 160,
161. -/
def Obligations.SyncObjectsCountAndReleaseWaiters : Prop :=
  (∀ (m : Nat) (a : Cmd) (s : State),
    let c := s.core
    let q := a.arg 1 1
    let n := a.arg 2 2
    let id := a.arg 0 2
    let v := a.arg 4 4
    let at_ := fun (c : Core) => c.syncs.get? id
    let others := fun (c' : Core) => (∀ k, k ≠ id → c'.syncs.get? k = c.syncs.get? k) ∧ c'.ctxs = c.ctxs ∧ c'.tiers = c.tiers ∧ c'.fabric = c.fabric
    (∀ kind, Takes s m 0x0E01 a → SyncKind.ofCode (a.arg 0 1) = some kind → q ∈ s.top.summitsUp → 1 ≤ n → n ≤ 256 →
      (kind = .barrier → a.arg 8 4 ≠ 0) →
      let o := (({ kind := kind, value := 0, threshold := a.arg 8 4 } : SyncObj).clamp v).1
      let first := 4096 * q + (c.summit q).syncNext
      ((c.summit q).syncNext + n ≤ 4096 → ∃ c', exec (.syncAlloc m) s =
          .next (s.answers m c' (le 2 n ++ (List.range n).flatMap (fun i => le 2 (first + i)))) ∧
        (∀ i < n, c'.syncs.get? (first + i) = some o) ∧ (∀ k, k < first ∨ first + n ≤ k → c'.syncs.get? k = c.syncs.get? k) ∧
        (c'.summit q).syncNext = (c.summit q).syncNext + n ∧ c'.ctxs = c.ctxs) ∧
      (∀ e rest, (c.summit q).syncNext = 4096 → n = 1 → (c.syncReady s.top q).2 = e :: rest → ∃ c', exec (.syncAlloc m) s =
          .next (s.answers m c' (le 2 1 ++ le 2 (4096 * q + e.1))) ∧ c'.syncs.get? (4096 * q + e.1) = some o) ∧
      (c.syncCount s.top q < n → exec (.syncAlloc m) s = .next (s.refuses m .noResource 0))) ∧
    (Takes s m 0x0E02 a → syncExists s.top id = true →
      (∀ o, at_ c = some o → ∃ c', exec (.syncFree m) s = .next (s.answers m c') ∧ at_ c' = none ∧ c'.waitersOf id = [] ∧
        (∀ k, k ≠ id → c'.syncs.get? k = c.syncs.get? k) ∧
        (c'.summit (id / 4096)).syncFree = (c.summit (id / 4096)).syncFree ++ [(id % 4096, s.top.now)] ∧ c'.tiers = c.tiers) ∧
      (at_ c = none → exec (.syncFree m) s = .next (s.refuses m .stateReject (stateDetail .sync 0)))) ∧
    (∀ o, Takes s m 0x0E03 a → syncExists s.top id = true → at_ c = some o → o.kind ≠ .barrier → c.waitersOf id = [] →
      let thr := if bit n 1 then a.arg 8 4 else o.threshold
      let top := if o.kind = .semaphore then semCeiling thr else 0xFFFFFFFF
      ∃ c' y, exec (.syncSet m) s = .next (s.answers m c') ∧ at_ c' = some y ∧ others c' ∧ y.kind = o.kind ∧ y.threshold = thr ∧
        y.value = min top (if bit n 0 then v else o.value)) ∧
    (∀ o, Takes s m 0x0E04 a → syncExists s.top id = true → at_ c = some o → c.quiesced = false → c.waitersOf id = [] →
      let done := fun (y : SyncObj) => ∃ c', exec (.syncSignal m) s = .next (s.answers m c' (le 4 y.value)) ∧ at_ c' = some y ∧ others c'
      (a.arg 2 1 = 1 → o.kind = .counter ∨ o.kind = .semaphore → o.value + v ≤ o.limit → done { o with value := o.value + v }) ∧
      (a.arg 2 1 = 1 → o.kind = .counter ∨ o.kind = .semaphore → o.limit < o.value + v → done { o with value := o.limit, sat := true }) ∧
      (a.arg 2 1 = 1 → o.kind = .event → done { o with value := o.value ||| v }) ∧
      (a.arg 2 1 = 2 → o.kind = .event → done { o with value := o.value &&& (0xFFFFFFFF - v) }) ∧
      (a.arg 2 1 = 1 → o.kind = .barrier → 0 < o.threshold → o.threshold ≤ o.value + v → o.value + v ≤ 0xFFFFFFFF →
        done { o with value := (o.value + v) % o.threshold, completions := o.completions.up ((o.value + v) / o.threshold) })) ∧
    (Takes s m 0x0E04 a → syncExists s.top id = true → at_ c = none → exec (.syncSignal m) s =
      .next { s with core := ((c.staleSync id).start m).stage m .stateReject (stateDetail .sync 0) [] }) ∧
    (∀ o w k, Takes s m 0x0E04 a → syncExists s.top id = true → at_ c = some o → c.quiesced = false → c.waitersOf id = [w] → a.arg 2 1 = 1 →
      w.kind = .mailbox k → k ≠ m → (c.mbox k).taken.isSome = true → (c.mbox k).result = none → o.kind = .counter → o.value + v ≤ 0xFFFFFFFF →
      o.threshold ≤ o.value + v → ∃ c', exec (.syncSignal m) s = .next (s.answers m c' (le 4 (o.value + v))) ∧
        (c'.mbox k).result = some ⟨.ok, 0, le 4 (o.value + v)⟩ ∧ c'.waitersOf id = []) ∧
    (∀ o, Takes s m 0x0E04 a → syncExists s.top id = true → at_ c = some o → c.quiesced = true → a.arg 2 1 = 1 →
      ∃ t, exec (.syncSignal m) s = .next t ∧ t.top = s.top ∧ t.core.syncs = c.syncs ∧ (t.core.mbox m).result = some ⟨.jobFaulted, 0, []⟩) ∧
    (∀ o, Takes s m 0x0E05 a → syncExists s.top id = true → at_ c = some o → o.kind = .counter → c.quiesced = false → a.handle = 0 →
      (c.summit (id / 4096)).waiters.length < 16384 →
      (a.arg 2 1 = 1 → v ≤ 10000000 → o.value < o.threshold → ∃ c' w, exec (.syncWait m) s = .next (s.holds m c') ∧
        (c'.summit (id / 4096)).waiters = (c.summit (id / 4096)).waiters ++ [w] ∧ w.obj = id ∧ w.kind = .mailbox m ∧ w.ctx = none ∧
        w.deadline = (if v = 0 then none else some (s.top.now + 1000 * v)) ∧ (∀ x ∈ (c.summit (id / 4096)).waiters, x.num ≠ w.num) ∧
        c'.syncs = c.syncs ∧ c'.ctxs = c.ctxs) ∧
      (a.arg 2 1 = 1 → v ≤ 10000000 → o.threshold ≤ o.value → c.waitersOf id = [] → ∃ c', exec (.syncWait m) s = .next (s.holds m c') ∧
        (c'.mbox m).result = some ⟨.ok, 0, le 4 o.value⟩ ∧ c'.waitersOf id = [] ∧ c'.syncs = c.syncs) ∧
      (a.arg 2 1 = 2 → v ≤ 2047 → o.value < o.threshold → ∃ c' w, exec (.syncWait m) s = .next (s.answers m c' (le 2 w.num)) ∧
        (c'.summit (id / 4096)).waiters = (c.summit (id / 4096)).waiters ++ [w] ∧ w.obj = id ∧ w.kind = .msix v (bit (a.arg 3 1) 0))) ∧
    (∀ o, Takes s m 0x0E05 a → syncExists s.top id = true → at_ c = some o → o.kind = .counter → o.value < o.threshold → c.quiesced = false →
      a.handle ≠ 0 → (c.ctx (hIndex a.handle)).state ≠ .draining → (c.ctx (hIndex a.handle)).waits < 16777215 → a.arg 2 1 = 1 → v ≤ 10000000 →
      (c.summit (id / 4096)).waiters.length < 16384 → ∃ c', exec (.syncWait m) s = .next (s.holds m c') ∧
        (c'.ctx (hIndex a.handle)).waits = (c.ctx (hIndex a.handle)).waits + 1) ∧
    (Takes s m 0x0E06 a → syncExists s.top id = true →
      (at_ c = none → exec (.syncQuery m) s = .next (s.answers m c (zeros 16))) ∧
      (∀ o, at_ c = some o → exec (.syncQuery m) s = .next (s.answers m c (le 1 1 ++ le 1 o.kind.code ++ le 1 (b2n o.sat) ++ zeros 1 ++
        le 4 o.value ++ le 4 o.threshold ++ le 4 (o.completions.toNat % 2 ^ 32))))) ∧
    (Takes s m 0x0E07 a → syncExists s.top id = true →
      ((∀ w ∈ c.waitersOf id, w.num ≠ n) → exec (.syncCancel m) s = .next (s.answers m c)) ∧
      (∀ w k, (c.waitersOf id).find? (fun w => w.num == n) = some w → w.kind = .mailbox k → (c.mbox k).taken.isSome = true →
        (c.mbox k).result = none → k ≠ m → ∃ c', exec (.syncCancel m) s = .next (s.answers m c') ∧
          (c'.mbox k).result = some ⟨.staleHandle, 0, []⟩ ∧ (∀ x ∈ (c'.summit (id / 4096)).waiters, x.num ≠ n) ∧ c'.syncs = c.syncs))) ∧
  (∀ (q num k d : Nat) (w : Waiter) (s : State), s.top.live = true → (s.core.summit q).waiters.find? (fun w => w.num == num) = some w →
    w.obj / 4096 = q → w.deadline = some d → w.kind = .mailbox k → (s.core.mbox k).taken.isSome = true → (s.core.mbox k).result = none →
    (d ≤ s.top.now → ∃ t, exec (.syncWaitTimeout q num) s = .next t ∧ t.top = s.top ∧ (t.core.mbox k).result = some ⟨.timeout, 0, []⟩ ∧
      (∀ x ∈ (t.core.summit q).waiters, x.num ≠ num) ∧ t.core.syncs = s.core.syncs) ∧
    (s.top.now < d → exec (.syncWaitTimeout q num) s = .next s)) ∧
  (∀ (cid : Nat) (q : Msg) (i : Nat) (r : Region) (o : SyncObj) (s : State),
    let c := s.core
    let off := addrLocal (q.arg 0 8)
    let id := (off - signalBase) / 8
    addrNode (q.arg 0 8) = q.dst → c.memTarget off (q.arg 8 4) false = some (.region i r) → r.backing = .signal → r.pd = (c.conn cid).pd →
    (off - signalBase) % 8 = 0 → off % 4 = 0 → off + q.arg 8 4 ≤ 2 ^ 50 → c.syncs.get? id = some o → c.quiesced = false →
    (Claims.delivered s cid 0x50 none q → bit r.rights 0 = true → q.arg 8 4 = 8 → q.arg 12 1 = 0 →
      let w := (c.takeMsg cid q).answerMsg s.top cid q 0x53 (memCompletion (q.arg 16 4) .ok 0 0 0 (le 4 o.value ++ le 4 o.threshold))
      exec (.memRead cid) s = .next { s with core := w }) ∧
    (Claims.delivered s cid 0x52 none q → bit r.rights 2 = true → q.arg 8 4 = 4 → q.arg 12 1 = 1 → o.kind = .counter → c.waitersOf id = [] →
      o.value + q.arg 24 4 ≤ 0xFFFFFFFF → ∃ t, exec (.memAtomic cid) s = .next t ∧
        Claims.replies s t cid q 0x53 (memCompletion (q.arg 16 4) .ok 0 0 o.value []) ∧
        t.core.syncs.get? id = some { o with value := o.value + q.arg 24 4 } ∧ t.core.tiers.mem = c.tiers.mem))

/-! ### Pins, power and temperature -/

/-- The rows of pins and sensors (R378 to R380, R421, R424 to R426, R428 to R430, R433, R435 to R437, R439 to R441): what power, PERST_N and a function
reset leave, how a fibre, a reference clock and a laser module take ports down, and what a sample of temperature or power counts.
The model's choices in it: log 33, 35, 36, 37, 38, 39, 40, 42, 44, 45. -/
def Obligations.PinsAndSensorsActOnTheDevice : Prop :=
  (∀ s : State,
    (s.top.dev = .off → ∃ t, exec .powerGood s = .next t ∧ t.top.dev = .boot ∧ t.top.phase = 1 ∧ t.top.time = {} ∧ t.core.job = none ∧
      t.core.ctxs = [] ∧ t.core.tiers = {} ∧ t.core.host = {} ∧ t.top.cfgFlash = s.top.cfgFlash ∧ t.top.slot0 = s.top.slot0) ∧
    (s.top.dev ≠ .off → exec .powerGood s = .next s) ∧
    (∃ t, exec .powerLost s = .next t ∧ t.top.dev = .off ∧ t.top.thermtrip = false ∧ t.core.job = none ∧ t.core.ctxs = [] ∧ t.core.tiers = {} ∧
      t.core.host = {} ∧ t.core.telem.lifePrimary = s.core.telem.lifePrimary ∧ t.top.secFloor = s.top.secFloor) ∧
    (s.top.live = true → s.top.perst = false → ∃ t, exec .perstAssert s = .next t ∧ t.top.dev = .boot ∧ t.top.phase = 1 ∧
      t.top.perst = true ∧ t.core.job = none ∧ t.core.ctxs = [] ∧ t.core.host = {}) ∧
    (s.top.live = true → s.top.perst = true → exec .perstAssert s = .next s) ∧
    (s.top.live = false → exec .perstAssert s = .next { s with top := { s.top with perst := true } }) ∧
    exec .perstRelease s = .next { s with top := { s.top with perst := false } }) ∧
  (∀ s : State, s.top.live = true →
    let c := s.core
    let u := s.top
    let now := u.now
    let kept := fun (t : State) => t.top = u ∧ t.core.ctxs = c.ctxs ∧ t.core.tiers = c.tiers ∧ t.core.sched = c.sched ∧ t.core.fabric = c.fabric
    (c.telem.lifeBusy = true → exec .powerWarn s = .next s) ∧
    (c.telem.lifeBusy = false → exec .powerWarn s = .next { s with
      core := c.onTelem (fun x => { x with lifeBusy := true, lifeBegan := now, flush := [] }) }) ∧
    (c.fabric.reads = [] → ∃ t, exec .pcieFunctionReset s = .next t ∧ t.top = u ∧ t.core.host.evqEnable = false ∧ t.core.host.bar4 = [] ∧
      t.core.host.dbOrder = [] ∧ (∀ m, (t.core.mbox m).owner = 0 ∧ (t.core.mbox m).phase = .idle ∧ (t.core.mbox m).taken = (c.mbox m).taken) ∧
      t.core.job = c.job ∧ t.core.ctxs = c.ctxs ∧ t.core.tiers = c.tiers ∧ t.core.fabric = c.fabric ∧ t.core.ports = c.ports) ∧
    (∀ p, u.hasPort p = true →
      (∃ t, exec (.fibreUnmated p) s = .next t ∧ kept t ∧ (t.core.port p).mated = false ∧ (t.core.port p).laserEn = false ∧
        ((c.port p).state = .up ∨ (c.port p).state = .retrain → (t.core.port p).state = .down ∧ (t.core.port p).cause = 3)) ∧
      exec (.fibreMated p) s = .next { s with core := c.updPort p (fun x => { x with mated := true, laserEn := x.state != .disabled }) } ∧
      (∃ t, exec .txRefclkLoss s = .next t ∧ t.top = { u with txRefclk := false } ∧
        (t.core.port p).state = (if (c.port p).state = .disabled then .disabled else .down) ∧
        ((c.port p).state ≠ .disabled → (t.core.port p).cause = 1)) ∧
      (∀ b : Byte, b.toNat % 8 = p → b.getLsbD 7 = true → (c.port p).state = .up → ∃ t, exec (.i3cIbi b) s = .next t ∧ kept t ∧
        (t.core.port p).state = .down ∧ (t.core.port p).cause = 3)) ∧
    exec .txRefclkReturn s = .next { s with top := { u with txRefclk := true } } ∧
    (∀ b : Byte, b.getLsbD 7 = false → exec (.i3cIbi b) s = .next s) ∧
    (∀ code : Byte, ∃ v, exec (.smbusBlockRead code) s = .next { s with core := c.emit (.smbus v) } ∧
      (code = 1#8 → v.toNat = u.dev.code) ∧ (code = 6#8 → v.toNat = u.nodeId % 2 ^ 32) ∧ (7 ≤ code.toNat → v = 0xFFFFFFFF#32)) ∧
    (∀ ins, ∃ f, exec (.jtagInstruction ins) s = .next { s with top := { u with jtag := ins }, core := c.emit (.jtag f) } ∧
      ((ins = .extest ∨ ins = .clamp ∨ ins = .highz) → f = if u.perst then ins else .bypass) ∧ (ins = .idcode → f = .idcode)) ∧
    (∀ k, (k < u.warmDevices.length → u.warmRemoved.contains k = false →
        exec (.cxlSurpriseRemoval k) s = .next { s with top := { u with warmRemoved := u.warmRemoved ++ [k] } }) ∧
      (u.warmDevices.length ≤ k → exec (.cxlSurpriseRemoval k) s = .next s)) ∧
    (∀ vs, (c.power.tempAt / 1000000 < now / 1000000 → ∃ t, exec (.temperatureSample vs) s = .next t ∧ kept t ∧ t.core.power.tempAt = now ∧
        ∀ d < 64, u.gone d = false → t.core.power.temps.getD d 0 = vs.getD d 0 ∧ t.core.power.thermal.getD d 16 =
          (let k := c.power.thermal.getD d 16
           if 100 ≤ vs.getD d 0 then max 8 (k - 1) else if vs.getD d 0 < 97 then min 16 (k + 1) else k)) ∧
      (now / 1000000 ≤ c.power.tempAt / 1000000 → exec (.temperatureSample vs) s = .next s)) ∧
    (∀ d, u.gone d = false → ∃ t, exec (.thermtrip d) s = .next t ∧ t.top = { u with thermtrip := true } ∧
      t.core.out = c.out ++ [.thermtrip] ∧ ∀ p, (c.ports.get? p).isSome = true → (t.core.port p).laserEn = false) ∧
    (∀ rs, (c.power.powerAt / 100000 < now / 100000 → ∃ t, exec (.powerSample rs) s = .next t ∧ t.top = u ∧ t.core.ctxs = c.ctxs ∧
        t.core.tiers = c.tiers ∧ t.core.fabric = c.fabric ∧ t.core.power.powerAt = now ∧
        t.core.power.samples = (t.core.power.watts :: c.power.samples).take 10) ∧
      (now / 100000 ≤ c.power.powerAt / 100000 → exec (.powerSample rs) s = .next s)) ∧
    (∀ k, (k < 11 → ∃ t, exec (.railOvercurrent k) s = .next t ∧ kept t ∧ t.core.power.current = 8 ∧ t.core.power.over_.get? k = some now) ∧
      (11 ≤ k → exec (.railOvercurrent k) s = .next s)) ∧
    (∀ d mv, u.gone d = false → ∃ t, exec (.supplyDroop d mv) s = .next t ∧ kept t ∧
      t.core.power.droop = (c.power.droop || decide (50 < mv)) ∧ t.core.power.worst.getD d 0 = max mv (c.power.worst.getD d 0)) ∧
    (∀ rail mv k lo hi, avsRail rail = some (k, lo, hi) → u.phase ≠ 1 →
      (lo ≤ mv → mv ≤ hi → c.power.avs.getD k 800 ≤ mv + 10 → mv ≤ c.power.avs.getD k 800 + 10 → c.power.avsAt.getD k 0 + 20000 ≤ now →
        ∃ t, exec (.avsAdjust rail mv) s = .next t ∧ kept t ∧ t.core.out = c.out ++ [.avs rail mv] ∧
          (k < c.power.avs.length → t.core.power.avs[k]? = some mv)) ∧
      (c.power.avs.getD k 800 + 10 < mv → exec (.avsAdjust rail mv) s = .next s)))
end

