-- ==== Sys2Proof/Laws/State.lean ====
section
/-! SUPPORT. What each elementary update of the state leaves of every field: one lemma per field and update, by which later proofs
need not unfold a record update. -/

namespace Sys2Proof.Machine

/-! #### onHost -/

@[simp] theorem Core.onHost_job (f : HostIf → HostIf) (c : Core) : (c.onHost f).job = c.job := rfl
@[simp] theorem Core.onHost_pset (f : HostIf → HostIf) (c : Core) : (c.onHost f).pset = c.pset := rfl
@[simp] theorem Core.onHost_pact (f : HostIf → HostIf) (c : Core) : (c.onHost f).pact = c.pact := rfl
@[simp] theorem Core.onHost_clients (f : HostIf → HostIf) (c : Core) : (c.onHost f).clients = c.clients := rfl
@[simp] theorem Core.onHost_ctxs (f : HostIf → HostIf) (c : Core) : (c.onHost f).ctxs = c.ctxs := rfl
@[simp] theorem Core.onHost_summits (f : HostIf → HostIf) (c : Core) : (c.onHost f).summits = c.summits := rfl
@[simp] theorem Core.onHost_tiers (f : HostIf → HostIf) (c : Core) : (c.onHost f).tiers = c.tiers := rfl
@[simp] theorem Core.onHost_syncs (f : HostIf → HostIf) (c : Core) : (c.onHost f).syncs = c.syncs := rfl
@[simp] theorem Core.onHost_moves (f : HostIf → HostIf) (c : Core) : (c.onHost f).moves = c.moves := rfl
@[simp] theorem Core.onHost_nextMove (f : HostIf → HostIf) (c : Core) : (c.onHost f).nextMove = c.nextMove := rfl
@[simp] theorem Core.onHost_usedIds (f : HostIf → HostIf) (c : Core) : (c.onHost f).usedIds = c.usedIds := rfl
@[simp] theorem Core.onHost_stallUs (f : HostIf → HostIf) (c : Core) : (c.onHost f).stallUs = c.stallUs := rfl
@[simp] theorem Core.onHost_sched (f : HostIf → HostIf) (c : Core) : (c.onHost f).sched = c.sched := rfl
@[simp] theorem Core.onHost_search (f : HostIf → HostIf) (c : Core) : (c.onHost f).search = c.search := rfl
@[simp] theorem Core.onHost_ports (f : HostIf → HostIf) (c : Core) : (c.onHost f).ports = c.ports := rfl
@[simp] theorem Core.onHost_fabric (f : HostIf → HostIf) (c : Core) : (c.onHost f).fabric = c.fabric := rfl
@[simp] theorem Core.onHost_telem (f : HostIf → HostIf) (c : Core) : (c.onHost f).telem = c.telem := rfl
@[simp] theorem Core.onHost_power (f : HostIf → HostIf) (c : Core) : (c.onHost f).power = c.power := rfl
@[simp] theorem Core.onHost_out (f : HostIf → HostIf) (c : Core) : (c.onHost f).out = c.out := rfl
@[simp] theorem Core.onHost_nonce (f : HostIf → HostIf) (c : Core) : (c.onHost f).nonce = c.nonce := rfl

@[simp] theorem Core.onHost_host (f : HostIf → HostIf) (c : Core) : (c.onHost f).host = f c.host := rfl

/-! #### onTiers -/

@[simp] theorem Core.onTiers_host (f : Tiers → Tiers) (c : Core) : (c.onTiers f).host = c.host := rfl
@[simp] theorem Core.onTiers_job (f : Tiers → Tiers) (c : Core) : (c.onTiers f).job = c.job := rfl
@[simp] theorem Core.onTiers_pset (f : Tiers → Tiers) (c : Core) : (c.onTiers f).pset = c.pset := rfl
@[simp] theorem Core.onTiers_pact (f : Tiers → Tiers) (c : Core) : (c.onTiers f).pact = c.pact := rfl
@[simp] theorem Core.onTiers_clients (f : Tiers → Tiers) (c : Core) : (c.onTiers f).clients = c.clients := rfl
@[simp] theorem Core.onTiers_ctxs (f : Tiers → Tiers) (c : Core) : (c.onTiers f).ctxs = c.ctxs := rfl
@[simp] theorem Core.onTiers_summits (f : Tiers → Tiers) (c : Core) : (c.onTiers f).summits = c.summits := rfl
@[simp] theorem Core.onTiers_syncs (f : Tiers → Tiers) (c : Core) : (c.onTiers f).syncs = c.syncs := rfl
@[simp] theorem Core.onTiers_moves (f : Tiers → Tiers) (c : Core) : (c.onTiers f).moves = c.moves := rfl
@[simp] theorem Core.onTiers_nextMove (f : Tiers → Tiers) (c : Core) : (c.onTiers f).nextMove = c.nextMove := rfl
@[simp] theorem Core.onTiers_usedIds (f : Tiers → Tiers) (c : Core) : (c.onTiers f).usedIds = c.usedIds := rfl
@[simp] theorem Core.onTiers_stallUs (f : Tiers → Tiers) (c : Core) : (c.onTiers f).stallUs = c.stallUs := rfl
@[simp] theorem Core.onTiers_sched (f : Tiers → Tiers) (c : Core) : (c.onTiers f).sched = c.sched := rfl
@[simp] theorem Core.onTiers_search (f : Tiers → Tiers) (c : Core) : (c.onTiers f).search = c.search := rfl
@[simp] theorem Core.onTiers_ports (f : Tiers → Tiers) (c : Core) : (c.onTiers f).ports = c.ports := rfl
@[simp] theorem Core.onTiers_fabric (f : Tiers → Tiers) (c : Core) : (c.onTiers f).fabric = c.fabric := rfl
@[simp] theorem Core.onTiers_telem (f : Tiers → Tiers) (c : Core) : (c.onTiers f).telem = c.telem := rfl
@[simp] theorem Core.onTiers_power (f : Tiers → Tiers) (c : Core) : (c.onTiers f).power = c.power := rfl
@[simp] theorem Core.onTiers_out (f : Tiers → Tiers) (c : Core) : (c.onTiers f).out = c.out := rfl
@[simp] theorem Core.onTiers_nonce (f : Tiers → Tiers) (c : Core) : (c.onTiers f).nonce = c.nonce := rfl

@[simp] theorem Core.onTiers_tiers (f : Tiers → Tiers) (c : Core) : (c.onTiers f).tiers = f c.tiers := rfl

/-! #### onSched -/

@[simp] theorem Core.onSched_host (f : Sched → Sched) (c : Core) : (c.onSched f).host = c.host := rfl
@[simp] theorem Core.onSched_job (f : Sched → Sched) (c : Core) : (c.onSched f).job = c.job := rfl
@[simp] theorem Core.onSched_pset (f : Sched → Sched) (c : Core) : (c.onSched f).pset = c.pset := rfl
@[simp] theorem Core.onSched_pact (f : Sched → Sched) (c : Core) : (c.onSched f).pact = c.pact := rfl
@[simp] theorem Core.onSched_clients (f : Sched → Sched) (c : Core) : (c.onSched f).clients = c.clients := rfl
@[simp] theorem Core.onSched_ctxs (f : Sched → Sched) (c : Core) : (c.onSched f).ctxs = c.ctxs := rfl
@[simp] theorem Core.onSched_summits (f : Sched → Sched) (c : Core) : (c.onSched f).summits = c.summits := rfl
@[simp] theorem Core.onSched_tiers (f : Sched → Sched) (c : Core) : (c.onSched f).tiers = c.tiers := rfl
@[simp] theorem Core.onSched_syncs (f : Sched → Sched) (c : Core) : (c.onSched f).syncs = c.syncs := rfl
@[simp] theorem Core.onSched_moves (f : Sched → Sched) (c : Core) : (c.onSched f).moves = c.moves := rfl
@[simp] theorem Core.onSched_nextMove (f : Sched → Sched) (c : Core) : (c.onSched f).nextMove = c.nextMove := rfl
@[simp] theorem Core.onSched_usedIds (f : Sched → Sched) (c : Core) : (c.onSched f).usedIds = c.usedIds := rfl
@[simp] theorem Core.onSched_stallUs (f : Sched → Sched) (c : Core) : (c.onSched f).stallUs = c.stallUs := rfl
@[simp] theorem Core.onSched_search (f : Sched → Sched) (c : Core) : (c.onSched f).search = c.search := rfl
@[simp] theorem Core.onSched_ports (f : Sched → Sched) (c : Core) : (c.onSched f).ports = c.ports := rfl
@[simp] theorem Core.onSched_fabric (f : Sched → Sched) (c : Core) : (c.onSched f).fabric = c.fabric := rfl
@[simp] theorem Core.onSched_telem (f : Sched → Sched) (c : Core) : (c.onSched f).telem = c.telem := rfl
@[simp] theorem Core.onSched_power (f : Sched → Sched) (c : Core) : (c.onSched f).power = c.power := rfl
@[simp] theorem Core.onSched_out (f : Sched → Sched) (c : Core) : (c.onSched f).out = c.out := rfl
@[simp] theorem Core.onSched_nonce (f : Sched → Sched) (c : Core) : (c.onSched f).nonce = c.nonce := rfl

@[simp] theorem Core.onSched_sched (f : Sched → Sched) (c : Core) : (c.onSched f).sched = f c.sched := rfl

/-! #### onSearch -/

@[simp] theorem Core.onSearch_host (f : Search → Search) (c : Core) : (c.onSearch f).host = c.host := rfl
@[simp] theorem Core.onSearch_job (f : Search → Search) (c : Core) : (c.onSearch f).job = c.job := rfl
@[simp] theorem Core.onSearch_pset (f : Search → Search) (c : Core) : (c.onSearch f).pset = c.pset := rfl
@[simp] theorem Core.onSearch_pact (f : Search → Search) (c : Core) : (c.onSearch f).pact = c.pact := rfl
@[simp] theorem Core.onSearch_clients (f : Search → Search) (c : Core) : (c.onSearch f).clients = c.clients := rfl
@[simp] theorem Core.onSearch_ctxs (f : Search → Search) (c : Core) : (c.onSearch f).ctxs = c.ctxs := rfl
@[simp] theorem Core.onSearch_summits (f : Search → Search) (c : Core) : (c.onSearch f).summits = c.summits := rfl
@[simp] theorem Core.onSearch_tiers (f : Search → Search) (c : Core) : (c.onSearch f).tiers = c.tiers := rfl
@[simp] theorem Core.onSearch_syncs (f : Search → Search) (c : Core) : (c.onSearch f).syncs = c.syncs := rfl
@[simp] theorem Core.onSearch_moves (f : Search → Search) (c : Core) : (c.onSearch f).moves = c.moves := rfl
@[simp] theorem Core.onSearch_nextMove (f : Search → Search) (c : Core) : (c.onSearch f).nextMove = c.nextMove := rfl
@[simp] theorem Core.onSearch_usedIds (f : Search → Search) (c : Core) : (c.onSearch f).usedIds = c.usedIds := rfl
@[simp] theorem Core.onSearch_stallUs (f : Search → Search) (c : Core) : (c.onSearch f).stallUs = c.stallUs := rfl
@[simp] theorem Core.onSearch_sched (f : Search → Search) (c : Core) : (c.onSearch f).sched = c.sched := rfl
@[simp] theorem Core.onSearch_ports (f : Search → Search) (c : Core) : (c.onSearch f).ports = c.ports := rfl
@[simp] theorem Core.onSearch_fabric (f : Search → Search) (c : Core) : (c.onSearch f).fabric = c.fabric := rfl
@[simp] theorem Core.onSearch_telem (f : Search → Search) (c : Core) : (c.onSearch f).telem = c.telem := rfl
@[simp] theorem Core.onSearch_power (f : Search → Search) (c : Core) : (c.onSearch f).power = c.power := rfl
@[simp] theorem Core.onSearch_out (f : Search → Search) (c : Core) : (c.onSearch f).out = c.out := rfl
@[simp] theorem Core.onSearch_nonce (f : Search → Search) (c : Core) : (c.onSearch f).nonce = c.nonce := rfl

@[simp] theorem Core.onSearch_search (f : Search → Search) (c : Core) : (c.onSearch f).search = f c.search := rfl

/-! #### onFabric -/

@[simp] theorem Core.onFabric_host (f : Fabric → Fabric) (c : Core) : (c.onFabric f).host = c.host := rfl
@[simp] theorem Core.onFabric_job (f : Fabric → Fabric) (c : Core) : (c.onFabric f).job = c.job := rfl
@[simp] theorem Core.onFabric_pset (f : Fabric → Fabric) (c : Core) : (c.onFabric f).pset = c.pset := rfl
@[simp] theorem Core.onFabric_pact (f : Fabric → Fabric) (c : Core) : (c.onFabric f).pact = c.pact := rfl
@[simp] theorem Core.onFabric_clients (f : Fabric → Fabric) (c : Core) : (c.onFabric f).clients = c.clients := rfl
@[simp] theorem Core.onFabric_ctxs (f : Fabric → Fabric) (c : Core) : (c.onFabric f).ctxs = c.ctxs := rfl
@[simp] theorem Core.onFabric_summits (f : Fabric → Fabric) (c : Core) : (c.onFabric f).summits = c.summits := rfl
@[simp] theorem Core.onFabric_tiers (f : Fabric → Fabric) (c : Core) : (c.onFabric f).tiers = c.tiers := rfl
@[simp] theorem Core.onFabric_syncs (f : Fabric → Fabric) (c : Core) : (c.onFabric f).syncs = c.syncs := rfl
@[simp] theorem Core.onFabric_moves (f : Fabric → Fabric) (c : Core) : (c.onFabric f).moves = c.moves := rfl
@[simp] theorem Core.onFabric_nextMove (f : Fabric → Fabric) (c : Core) : (c.onFabric f).nextMove = c.nextMove := rfl
@[simp] theorem Core.onFabric_usedIds (f : Fabric → Fabric) (c : Core) : (c.onFabric f).usedIds = c.usedIds := rfl
@[simp] theorem Core.onFabric_stallUs (f : Fabric → Fabric) (c : Core) : (c.onFabric f).stallUs = c.stallUs := rfl
@[simp] theorem Core.onFabric_sched (f : Fabric → Fabric) (c : Core) : (c.onFabric f).sched = c.sched := rfl
@[simp] theorem Core.onFabric_search (f : Fabric → Fabric) (c : Core) : (c.onFabric f).search = c.search := rfl
@[simp] theorem Core.onFabric_ports (f : Fabric → Fabric) (c : Core) : (c.onFabric f).ports = c.ports := rfl
@[simp] theorem Core.onFabric_telem (f : Fabric → Fabric) (c : Core) : (c.onFabric f).telem = c.telem := rfl
@[simp] theorem Core.onFabric_power (f : Fabric → Fabric) (c : Core) : (c.onFabric f).power = c.power := rfl
@[simp] theorem Core.onFabric_out (f : Fabric → Fabric) (c : Core) : (c.onFabric f).out = c.out := rfl
@[simp] theorem Core.onFabric_nonce (f : Fabric → Fabric) (c : Core) : (c.onFabric f).nonce = c.nonce := rfl

@[simp] theorem Core.onFabric_fabric (f : Fabric → Fabric) (c : Core) : (c.onFabric f).fabric = f c.fabric := rfl

/-! #### onTelem -/

@[simp] theorem Core.onTelem_host (f : Telem → Telem) (c : Core) : (c.onTelem f).host = c.host := rfl
@[simp] theorem Core.onTelem_job (f : Telem → Telem) (c : Core) : (c.onTelem f).job = c.job := rfl
@[simp] theorem Core.onTelem_pset (f : Telem → Telem) (c : Core) : (c.onTelem f).pset = c.pset := rfl
@[simp] theorem Core.onTelem_pact (f : Telem → Telem) (c : Core) : (c.onTelem f).pact = c.pact := rfl
@[simp] theorem Core.onTelem_clients (f : Telem → Telem) (c : Core) : (c.onTelem f).clients = c.clients := rfl
@[simp] theorem Core.onTelem_ctxs (f : Telem → Telem) (c : Core) : (c.onTelem f).ctxs = c.ctxs := rfl
@[simp] theorem Core.onTelem_summits (f : Telem → Telem) (c : Core) : (c.onTelem f).summits = c.summits := rfl
@[simp] theorem Core.onTelem_tiers (f : Telem → Telem) (c : Core) : (c.onTelem f).tiers = c.tiers := rfl
@[simp] theorem Core.onTelem_syncs (f : Telem → Telem) (c : Core) : (c.onTelem f).syncs = c.syncs := rfl
@[simp] theorem Core.onTelem_moves (f : Telem → Telem) (c : Core) : (c.onTelem f).moves = c.moves := rfl
@[simp] theorem Core.onTelem_nextMove (f : Telem → Telem) (c : Core) : (c.onTelem f).nextMove = c.nextMove := rfl
@[simp] theorem Core.onTelem_usedIds (f : Telem → Telem) (c : Core) : (c.onTelem f).usedIds = c.usedIds := rfl
@[simp] theorem Core.onTelem_stallUs (f : Telem → Telem) (c : Core) : (c.onTelem f).stallUs = c.stallUs := rfl
@[simp] theorem Core.onTelem_sched (f : Telem → Telem) (c : Core) : (c.onTelem f).sched = c.sched := rfl
@[simp] theorem Core.onTelem_search (f : Telem → Telem) (c : Core) : (c.onTelem f).search = c.search := rfl
@[simp] theorem Core.onTelem_ports (f : Telem → Telem) (c : Core) : (c.onTelem f).ports = c.ports := rfl
@[simp] theorem Core.onTelem_fabric (f : Telem → Telem) (c : Core) : (c.onTelem f).fabric = c.fabric := rfl
@[simp] theorem Core.onTelem_power (f : Telem → Telem) (c : Core) : (c.onTelem f).power = c.power := rfl
@[simp] theorem Core.onTelem_out (f : Telem → Telem) (c : Core) : (c.onTelem f).out = c.out := rfl
@[simp] theorem Core.onTelem_nonce (f : Telem → Telem) (c : Core) : (c.onTelem f).nonce = c.nonce := rfl

@[simp] theorem Core.onTelem_telem (f : Telem → Telem) (c : Core) : (c.onTelem f).telem = f c.telem := rfl

/-! #### onPower -/

@[simp] theorem Core.onPower_host (f : Power → Power) (c : Core) : (c.onPower f).host = c.host := rfl
@[simp] theorem Core.onPower_job (f : Power → Power) (c : Core) : (c.onPower f).job = c.job := rfl
@[simp] theorem Core.onPower_pset (f : Power → Power) (c : Core) : (c.onPower f).pset = c.pset := rfl
@[simp] theorem Core.onPower_pact (f : Power → Power) (c : Core) : (c.onPower f).pact = c.pact := rfl
@[simp] theorem Core.onPower_clients (f : Power → Power) (c : Core) : (c.onPower f).clients = c.clients := rfl
@[simp] theorem Core.onPower_ctxs (f : Power → Power) (c : Core) : (c.onPower f).ctxs = c.ctxs := rfl
@[simp] theorem Core.onPower_summits (f : Power → Power) (c : Core) : (c.onPower f).summits = c.summits := rfl
@[simp] theorem Core.onPower_tiers (f : Power → Power) (c : Core) : (c.onPower f).tiers = c.tiers := rfl
@[simp] theorem Core.onPower_syncs (f : Power → Power) (c : Core) : (c.onPower f).syncs = c.syncs := rfl
@[simp] theorem Core.onPower_moves (f : Power → Power) (c : Core) : (c.onPower f).moves = c.moves := rfl
@[simp] theorem Core.onPower_nextMove (f : Power → Power) (c : Core) : (c.onPower f).nextMove = c.nextMove := rfl
@[simp] theorem Core.onPower_usedIds (f : Power → Power) (c : Core) : (c.onPower f).usedIds = c.usedIds := rfl
@[simp] theorem Core.onPower_stallUs (f : Power → Power) (c : Core) : (c.onPower f).stallUs = c.stallUs := rfl
@[simp] theorem Core.onPower_sched (f : Power → Power) (c : Core) : (c.onPower f).sched = c.sched := rfl
@[simp] theorem Core.onPower_search (f : Power → Power) (c : Core) : (c.onPower f).search = c.search := rfl
@[simp] theorem Core.onPower_ports (f : Power → Power) (c : Core) : (c.onPower f).ports = c.ports := rfl
@[simp] theorem Core.onPower_fabric (f : Power → Power) (c : Core) : (c.onPower f).fabric = c.fabric := rfl
@[simp] theorem Core.onPower_telem (f : Power → Power) (c : Core) : (c.onPower f).telem = c.telem := rfl
@[simp] theorem Core.onPower_out (f : Power → Power) (c : Core) : (c.onPower f).out = c.out := rfl
@[simp] theorem Core.onPower_nonce (f : Power → Power) (c : Core) : (c.onPower f).nonce = c.nonce := rfl

@[simp] theorem Core.onPower_power (f : Power → Power) (c : Core) : (c.onPower f).power = f c.power := rfl

/-! #### emit -/

@[simp] theorem Core.emit_host (x : Out) (c : Core) : (c.emit x).host = c.host := rfl
@[simp] theorem Core.emit_job (x : Out) (c : Core) : (c.emit x).job = c.job := rfl
@[simp] theorem Core.emit_pset (x : Out) (c : Core) : (c.emit x).pset = c.pset := rfl
@[simp] theorem Core.emit_pact (x : Out) (c : Core) : (c.emit x).pact = c.pact := rfl
@[simp] theorem Core.emit_clients (x : Out) (c : Core) : (c.emit x).clients = c.clients := rfl
@[simp] theorem Core.emit_ctxs (x : Out) (c : Core) : (c.emit x).ctxs = c.ctxs := rfl
@[simp] theorem Core.emit_summits (x : Out) (c : Core) : (c.emit x).summits = c.summits := rfl
@[simp] theorem Core.emit_tiers (x : Out) (c : Core) : (c.emit x).tiers = c.tiers := rfl
@[simp] theorem Core.emit_syncs (x : Out) (c : Core) : (c.emit x).syncs = c.syncs := rfl
@[simp] theorem Core.emit_moves (x : Out) (c : Core) : (c.emit x).moves = c.moves := rfl
@[simp] theorem Core.emit_nextMove (x : Out) (c : Core) : (c.emit x).nextMove = c.nextMove := rfl
@[simp] theorem Core.emit_usedIds (x : Out) (c : Core) : (c.emit x).usedIds = c.usedIds := rfl
@[simp] theorem Core.emit_stallUs (x : Out) (c : Core) : (c.emit x).stallUs = c.stallUs := rfl
@[simp] theorem Core.emit_sched (x : Out) (c : Core) : (c.emit x).sched = c.sched := rfl
@[simp] theorem Core.emit_search (x : Out) (c : Core) : (c.emit x).search = c.search := rfl
@[simp] theorem Core.emit_ports (x : Out) (c : Core) : (c.emit x).ports = c.ports := rfl
@[simp] theorem Core.emit_fabric (x : Out) (c : Core) : (c.emit x).fabric = c.fabric := rfl
@[simp] theorem Core.emit_telem (x : Out) (c : Core) : (c.emit x).telem = c.telem := rfl
@[simp] theorem Core.emit_power (x : Out) (c : Core) : (c.emit x).power = c.power := rfl
@[simp] theorem Core.emit_nonce (x : Out) (c : Core) : (c.emit x).nonce = c.nonce := rfl

@[simp] theorem Core.emit_out (x : Out) (c : Core) : (c.emit x).out = c.out ++ [x] := rfl

/-! #### updMbox -/

@[simp] theorem Core.updMbox_job (m : Nat) (f : Mbox → Mbox) (c : Core) : (c.updMbox m f).job = c.job := rfl
@[simp] theorem Core.updMbox_pset (m : Nat) (f : Mbox → Mbox) (c : Core) : (c.updMbox m f).pset = c.pset := rfl
@[simp] theorem Core.updMbox_pact (m : Nat) (f : Mbox → Mbox) (c : Core) : (c.updMbox m f).pact = c.pact := rfl
@[simp] theorem Core.updMbox_clients (m : Nat) (f : Mbox → Mbox) (c : Core) : (c.updMbox m f).clients = c.clients := rfl
@[simp] theorem Core.updMbox_ctxs (m : Nat) (f : Mbox → Mbox) (c : Core) : (c.updMbox m f).ctxs = c.ctxs := rfl
@[simp] theorem Core.updMbox_summits (m : Nat) (f : Mbox → Mbox) (c : Core) : (c.updMbox m f).summits = c.summits := rfl
@[simp] theorem Core.updMbox_tiers (m : Nat) (f : Mbox → Mbox) (c : Core) : (c.updMbox m f).tiers = c.tiers := rfl
@[simp] theorem Core.updMbox_syncs (m : Nat) (f : Mbox → Mbox) (c : Core) : (c.updMbox m f).syncs = c.syncs := rfl
@[simp] theorem Core.updMbox_moves (m : Nat) (f : Mbox → Mbox) (c : Core) : (c.updMbox m f).moves = c.moves := rfl
@[simp] theorem Core.updMbox_nextMove (m : Nat) (f : Mbox → Mbox) (c : Core) : (c.updMbox m f).nextMove = c.nextMove := rfl
@[simp] theorem Core.updMbox_usedIds (m : Nat) (f : Mbox → Mbox) (c : Core) : (c.updMbox m f).usedIds = c.usedIds := rfl
@[simp] theorem Core.updMbox_stallUs (m : Nat) (f : Mbox → Mbox) (c : Core) : (c.updMbox m f).stallUs = c.stallUs := rfl
@[simp] theorem Core.updMbox_sched (m : Nat) (f : Mbox → Mbox) (c : Core) : (c.updMbox m f).sched = c.sched := rfl
@[simp] theorem Core.updMbox_search (m : Nat) (f : Mbox → Mbox) (c : Core) : (c.updMbox m f).search = c.search := rfl
@[simp] theorem Core.updMbox_ports (m : Nat) (f : Mbox → Mbox) (c : Core) : (c.updMbox m f).ports = c.ports := rfl
@[simp] theorem Core.updMbox_fabric (m : Nat) (f : Mbox → Mbox) (c : Core) : (c.updMbox m f).fabric = c.fabric := rfl
@[simp] theorem Core.updMbox_telem (m : Nat) (f : Mbox → Mbox) (c : Core) : (c.updMbox m f).telem = c.telem := rfl
@[simp] theorem Core.updMbox_power (m : Nat) (f : Mbox → Mbox) (c : Core) : (c.updMbox m f).power = c.power := rfl
@[simp] theorem Core.updMbox_out (m : Nat) (f : Mbox → Mbox) (c : Core) : (c.updMbox m f).out = c.out := rfl
@[simp] theorem Core.updMbox_nonce (m : Nat) (f : Mbox → Mbox) (c : Core) : (c.updMbox m f).nonce = c.nonce := rfl

/-! #### updCtx -/

@[simp] theorem Core.updCtx_host (i : Nat) (f : Ctx → Ctx) (c : Core) : (c.updCtx i f).host = c.host := rfl
@[simp] theorem Core.updCtx_job (i : Nat) (f : Ctx → Ctx) (c : Core) : (c.updCtx i f).job = c.job := rfl
@[simp] theorem Core.updCtx_pset (i : Nat) (f : Ctx → Ctx) (c : Core) : (c.updCtx i f).pset = c.pset := rfl
@[simp] theorem Core.updCtx_pact (i : Nat) (f : Ctx → Ctx) (c : Core) : (c.updCtx i f).pact = c.pact := rfl
@[simp] theorem Core.updCtx_clients (i : Nat) (f : Ctx → Ctx) (c : Core) : (c.updCtx i f).clients = c.clients := rfl
@[simp] theorem Core.updCtx_summits (i : Nat) (f : Ctx → Ctx) (c : Core) : (c.updCtx i f).summits = c.summits := rfl
@[simp] theorem Core.updCtx_tiers (i : Nat) (f : Ctx → Ctx) (c : Core) : (c.updCtx i f).tiers = c.tiers := rfl
@[simp] theorem Core.updCtx_syncs (i : Nat) (f : Ctx → Ctx) (c : Core) : (c.updCtx i f).syncs = c.syncs := rfl
@[simp] theorem Core.updCtx_moves (i : Nat) (f : Ctx → Ctx) (c : Core) : (c.updCtx i f).moves = c.moves := rfl
@[simp] theorem Core.updCtx_nextMove (i : Nat) (f : Ctx → Ctx) (c : Core) : (c.updCtx i f).nextMove = c.nextMove := rfl
@[simp] theorem Core.updCtx_usedIds (i : Nat) (f : Ctx → Ctx) (c : Core) : (c.updCtx i f).usedIds = c.usedIds := rfl
@[simp] theorem Core.updCtx_stallUs (i : Nat) (f : Ctx → Ctx) (c : Core) : (c.updCtx i f).stallUs = c.stallUs := rfl
@[simp] theorem Core.updCtx_sched (i : Nat) (f : Ctx → Ctx) (c : Core) : (c.updCtx i f).sched = c.sched := rfl
@[simp] theorem Core.updCtx_search (i : Nat) (f : Ctx → Ctx) (c : Core) : (c.updCtx i f).search = c.search := rfl
@[simp] theorem Core.updCtx_ports (i : Nat) (f : Ctx → Ctx) (c : Core) : (c.updCtx i f).ports = c.ports := rfl
@[simp] theorem Core.updCtx_fabric (i : Nat) (f : Ctx → Ctx) (c : Core) : (c.updCtx i f).fabric = c.fabric := rfl
@[simp] theorem Core.updCtx_telem (i : Nat) (f : Ctx → Ctx) (c : Core) : (c.updCtx i f).telem = c.telem := rfl
@[simp] theorem Core.updCtx_power (i : Nat) (f : Ctx → Ctx) (c : Core) : (c.updCtx i f).power = c.power := rfl
@[simp] theorem Core.updCtx_out (i : Nat) (f : Ctx → Ctx) (c : Core) : (c.updCtx i f).out = c.out := rfl
@[simp] theorem Core.updCtx_nonce (i : Nat) (f : Ctx → Ctx) (c : Core) : (c.updCtx i f).nonce = c.nonce := rfl

/-! #### updConn -/

@[simp] theorem Core.updConn_host (n : Nat) (f : Conn → Conn) (c : Core) : (c.updConn n f).host = c.host := rfl
@[simp] theorem Core.updConn_job (n : Nat) (f : Conn → Conn) (c : Core) : (c.updConn n f).job = c.job := rfl
@[simp] theorem Core.updConn_pset (n : Nat) (f : Conn → Conn) (c : Core) : (c.updConn n f).pset = c.pset := rfl
@[simp] theorem Core.updConn_pact (n : Nat) (f : Conn → Conn) (c : Core) : (c.updConn n f).pact = c.pact := rfl
@[simp] theorem Core.updConn_clients (n : Nat) (f : Conn → Conn) (c : Core) : (c.updConn n f).clients = c.clients := rfl
@[simp] theorem Core.updConn_ctxs (n : Nat) (f : Conn → Conn) (c : Core) : (c.updConn n f).ctxs = c.ctxs := rfl
@[simp] theorem Core.updConn_summits (n : Nat) (f : Conn → Conn) (c : Core) : (c.updConn n f).summits = c.summits := rfl
@[simp] theorem Core.updConn_tiers (n : Nat) (f : Conn → Conn) (c : Core) : (c.updConn n f).tiers = c.tiers := rfl
@[simp] theorem Core.updConn_syncs (n : Nat) (f : Conn → Conn) (c : Core) : (c.updConn n f).syncs = c.syncs := rfl
@[simp] theorem Core.updConn_moves (n : Nat) (f : Conn → Conn) (c : Core) : (c.updConn n f).moves = c.moves := rfl
@[simp] theorem Core.updConn_nextMove (n : Nat) (f : Conn → Conn) (c : Core) : (c.updConn n f).nextMove = c.nextMove := rfl
@[simp] theorem Core.updConn_usedIds (n : Nat) (f : Conn → Conn) (c : Core) : (c.updConn n f).usedIds = c.usedIds := rfl
@[simp] theorem Core.updConn_stallUs (n : Nat) (f : Conn → Conn) (c : Core) : (c.updConn n f).stallUs = c.stallUs := rfl
@[simp] theorem Core.updConn_sched (n : Nat) (f : Conn → Conn) (c : Core) : (c.updConn n f).sched = c.sched := rfl
@[simp] theorem Core.updConn_search (n : Nat) (f : Conn → Conn) (c : Core) : (c.updConn n f).search = c.search := rfl
@[simp] theorem Core.updConn_ports (n : Nat) (f : Conn → Conn) (c : Core) : (c.updConn n f).ports = c.ports := rfl
@[simp] theorem Core.updConn_telem (n : Nat) (f : Conn → Conn) (c : Core) : (c.updConn n f).telem = c.telem := rfl
@[simp] theorem Core.updConn_power (n : Nat) (f : Conn → Conn) (c : Core) : (c.updConn n f).power = c.power := rfl
@[simp] theorem Core.updConn_out (n : Nat) (f : Conn → Conn) (c : Core) : (c.updConn n f).out = c.out := rfl
@[simp] theorem Core.updConn_nonce (n : Nat) (f : Conn → Conn) (c : Core) : (c.updConn n f).nonce = c.nonce := rfl

/-! #### updPage -/

@[simp] theorem Core.updPage_host (n : Nat) (f : PageObj → PageObj) (c : Core) : (c.updPage n f).host = c.host := rfl
@[simp] theorem Core.updPage_job (n : Nat) (f : PageObj → PageObj) (c : Core) : (c.updPage n f).job = c.job := rfl
@[simp] theorem Core.updPage_pset (n : Nat) (f : PageObj → PageObj) (c : Core) : (c.updPage n f).pset = c.pset := rfl
@[simp] theorem Core.updPage_pact (n : Nat) (f : PageObj → PageObj) (c : Core) : (c.updPage n f).pact = c.pact := rfl
@[simp] theorem Core.updPage_clients (n : Nat) (f : PageObj → PageObj) (c : Core) : (c.updPage n f).clients = c.clients := rfl
@[simp] theorem Core.updPage_ctxs (n : Nat) (f : PageObj → PageObj) (c : Core) : (c.updPage n f).ctxs = c.ctxs := rfl
@[simp] theorem Core.updPage_summits (n : Nat) (f : PageObj → PageObj) (c : Core) : (c.updPage n f).summits = c.summits := rfl
@[simp] theorem Core.updPage_syncs (n : Nat) (f : PageObj → PageObj) (c : Core) : (c.updPage n f).syncs = c.syncs := rfl
@[simp] theorem Core.updPage_moves (n : Nat) (f : PageObj → PageObj) (c : Core) : (c.updPage n f).moves = c.moves := rfl
@[simp] theorem Core.updPage_nextMove (n : Nat) (f : PageObj → PageObj) (c : Core) : (c.updPage n f).nextMove = c.nextMove := rfl
@[simp] theorem Core.updPage_usedIds (n : Nat) (f : PageObj → PageObj) (c : Core) : (c.updPage n f).usedIds = c.usedIds := rfl
@[simp] theorem Core.updPage_stallUs (n : Nat) (f : PageObj → PageObj) (c : Core) : (c.updPage n f).stallUs = c.stallUs := rfl
@[simp] theorem Core.updPage_sched (n : Nat) (f : PageObj → PageObj) (c : Core) : (c.updPage n f).sched = c.sched := rfl
@[simp] theorem Core.updPage_search (n : Nat) (f : PageObj → PageObj) (c : Core) : (c.updPage n f).search = c.search := rfl
@[simp] theorem Core.updPage_ports (n : Nat) (f : PageObj → PageObj) (c : Core) : (c.updPage n f).ports = c.ports := rfl
@[simp] theorem Core.updPage_fabric (n : Nat) (f : PageObj → PageObj) (c : Core) : (c.updPage n f).fabric = c.fabric := rfl
@[simp] theorem Core.updPage_telem (n : Nat) (f : PageObj → PageObj) (c : Core) : (c.updPage n f).telem = c.telem := rfl
@[simp] theorem Core.updPage_power (n : Nat) (f : PageObj → PageObj) (c : Core) : (c.updPage n f).power = c.power := rfl
@[simp] theorem Core.updPage_out (n : Nat) (f : PageObj → PageObj) (c : Core) : (c.updPage n f).out = c.out := rfl
@[simp] theorem Core.updPage_nonce (n : Nat) (f : PageObj → PageObj) (c : Core) : (c.updPage n f).nonce = c.nonce := rfl

/-! #### updMove -/

@[simp] theorem Core.updMove_host (r : Nat) (f : Move → Move) (c : Core) : (c.updMove r f).host = c.host := rfl
@[simp] theorem Core.updMove_job (r : Nat) (f : Move → Move) (c : Core) : (c.updMove r f).job = c.job := rfl
@[simp] theorem Core.updMove_pset (r : Nat) (f : Move → Move) (c : Core) : (c.updMove r f).pset = c.pset := rfl
@[simp] theorem Core.updMove_pact (r : Nat) (f : Move → Move) (c : Core) : (c.updMove r f).pact = c.pact := rfl
@[simp] theorem Core.updMove_clients (r : Nat) (f : Move → Move) (c : Core) : (c.updMove r f).clients = c.clients := rfl
@[simp] theorem Core.updMove_ctxs (r : Nat) (f : Move → Move) (c : Core) : (c.updMove r f).ctxs = c.ctxs := rfl
@[simp] theorem Core.updMove_summits (r : Nat) (f : Move → Move) (c : Core) : (c.updMove r f).summits = c.summits := rfl
@[simp] theorem Core.updMove_tiers (r : Nat) (f : Move → Move) (c : Core) : (c.updMove r f).tiers = c.tiers := rfl
@[simp] theorem Core.updMove_syncs (r : Nat) (f : Move → Move) (c : Core) : (c.updMove r f).syncs = c.syncs := rfl
@[simp] theorem Core.updMove_nextMove (r : Nat) (f : Move → Move) (c : Core) : (c.updMove r f).nextMove = c.nextMove := rfl
@[simp] theorem Core.updMove_usedIds (r : Nat) (f : Move → Move) (c : Core) : (c.updMove r f).usedIds = c.usedIds := rfl
@[simp] theorem Core.updMove_stallUs (r : Nat) (f : Move → Move) (c : Core) : (c.updMove r f).stallUs = c.stallUs := rfl
@[simp] theorem Core.updMove_sched (r : Nat) (f : Move → Move) (c : Core) : (c.updMove r f).sched = c.sched := rfl
@[simp] theorem Core.updMove_search (r : Nat) (f : Move → Move) (c : Core) : (c.updMove r f).search = c.search := rfl
@[simp] theorem Core.updMove_ports (r : Nat) (f : Move → Move) (c : Core) : (c.updMove r f).ports = c.ports := rfl
@[simp] theorem Core.updMove_fabric (r : Nat) (f : Move → Move) (c : Core) : (c.updMove r f).fabric = c.fabric := rfl
@[simp] theorem Core.updMove_telem (r : Nat) (f : Move → Move) (c : Core) : (c.updMove r f).telem = c.telem := rfl
@[simp] theorem Core.updMove_power (r : Nat) (f : Move → Move) (c : Core) : (c.updMove r f).power = c.power := rfl
@[simp] theorem Core.updMove_out (r : Nat) (f : Move → Move) (c : Core) : (c.updMove r f).out = c.out := rfl
@[simp] theorem Core.updMove_nonce (r : Nat) (f : Move → Move) (c : Core) : (c.updMove r f).nonce = c.nonce := rfl

/-! #### updItem -/

@[simp] theorem Core.updItem_host (i : Nat) (f : Item → Item) (c : Core) : (c.updItem i f).host = c.host := rfl
@[simp] theorem Core.updItem_job (i : Nat) (f : Item → Item) (c : Core) : (c.updItem i f).job = c.job := rfl
@[simp] theorem Core.updItem_pset (i : Nat) (f : Item → Item) (c : Core) : (c.updItem i f).pset = c.pset := rfl
@[simp] theorem Core.updItem_pact (i : Nat) (f : Item → Item) (c : Core) : (c.updItem i f).pact = c.pact := rfl
@[simp] theorem Core.updItem_clients (i : Nat) (f : Item → Item) (c : Core) : (c.updItem i f).clients = c.clients := rfl
@[simp] theorem Core.updItem_ctxs (i : Nat) (f : Item → Item) (c : Core) : (c.updItem i f).ctxs = c.ctxs := rfl
@[simp] theorem Core.updItem_summits (i : Nat) (f : Item → Item) (c : Core) : (c.updItem i f).summits = c.summits := rfl
@[simp] theorem Core.updItem_tiers (i : Nat) (f : Item → Item) (c : Core) : (c.updItem i f).tiers = c.tiers := rfl
@[simp] theorem Core.updItem_syncs (i : Nat) (f : Item → Item) (c : Core) : (c.updItem i f).syncs = c.syncs := rfl
@[simp] theorem Core.updItem_moves (i : Nat) (f : Item → Item) (c : Core) : (c.updItem i f).moves = c.moves := rfl
@[simp] theorem Core.updItem_nextMove (i : Nat) (f : Item → Item) (c : Core) : (c.updItem i f).nextMove = c.nextMove := rfl
@[simp] theorem Core.updItem_usedIds (i : Nat) (f : Item → Item) (c : Core) : (c.updItem i f).usedIds = c.usedIds := rfl
@[simp] theorem Core.updItem_stallUs (i : Nat) (f : Item → Item) (c : Core) : (c.updItem i f).stallUs = c.stallUs := rfl
@[simp] theorem Core.updItem_search (i : Nat) (f : Item → Item) (c : Core) : (c.updItem i f).search = c.search := rfl
@[simp] theorem Core.updItem_ports (i : Nat) (f : Item → Item) (c : Core) : (c.updItem i f).ports = c.ports := rfl
@[simp] theorem Core.updItem_fabric (i : Nat) (f : Item → Item) (c : Core) : (c.updItem i f).fabric = c.fabric := rfl
@[simp] theorem Core.updItem_telem (i : Nat) (f : Item → Item) (c : Core) : (c.updItem i f).telem = c.telem := rfl
@[simp] theorem Core.updItem_power (i : Nat) (f : Item → Item) (c : Core) : (c.updItem i f).power = c.power := rfl
@[simp] theorem Core.updItem_out (i : Nat) (f : Item → Item) (c : Core) : (c.updItem i f).out = c.out := rfl
@[simp] theorem Core.updItem_nonce (i : Nat) (f : Item → Item) (c : Core) : (c.updItem i f).nonce = c.nonce := rfl

/-! #### updSummit -/

@[simp] theorem Core.updSummit_host (q : Nat) (f : Summit → Summit) (c : Core) : (c.updSummit q f).host = c.host := rfl
@[simp] theorem Core.updSummit_job (q : Nat) (f : Summit → Summit) (c : Core) : (c.updSummit q f).job = c.job := rfl
@[simp] theorem Core.updSummit_pset (q : Nat) (f : Summit → Summit) (c : Core) : (c.updSummit q f).pset = c.pset := rfl
@[simp] theorem Core.updSummit_pact (q : Nat) (f : Summit → Summit) (c : Core) : (c.updSummit q f).pact = c.pact := rfl
@[simp] theorem Core.updSummit_clients (q : Nat) (f : Summit → Summit) (c : Core) : (c.updSummit q f).clients = c.clients := rfl
@[simp] theorem Core.updSummit_ctxs (q : Nat) (f : Summit → Summit) (c : Core) : (c.updSummit q f).ctxs = c.ctxs := rfl
@[simp] theorem Core.updSummit_tiers (q : Nat) (f : Summit → Summit) (c : Core) : (c.updSummit q f).tiers = c.tiers := rfl
@[simp] theorem Core.updSummit_syncs (q : Nat) (f : Summit → Summit) (c : Core) : (c.updSummit q f).syncs = c.syncs := rfl
@[simp] theorem Core.updSummit_moves (q : Nat) (f : Summit → Summit) (c : Core) : (c.updSummit q f).moves = c.moves := rfl
@[simp] theorem Core.updSummit_nextMove (q : Nat) (f : Summit → Summit) (c : Core) : (c.updSummit q f).nextMove = c.nextMove := rfl
@[simp] theorem Core.updSummit_usedIds (q : Nat) (f : Summit → Summit) (c : Core) : (c.updSummit q f).usedIds = c.usedIds := rfl
@[simp] theorem Core.updSummit_stallUs (q : Nat) (f : Summit → Summit) (c : Core) : (c.updSummit q f).stallUs = c.stallUs := rfl
@[simp] theorem Core.updSummit_sched (q : Nat) (f : Summit → Summit) (c : Core) : (c.updSummit q f).sched = c.sched := rfl
@[simp] theorem Core.updSummit_search (q : Nat) (f : Summit → Summit) (c : Core) : (c.updSummit q f).search = c.search := rfl
@[simp] theorem Core.updSummit_ports (q : Nat) (f : Summit → Summit) (c : Core) : (c.updSummit q f).ports = c.ports := rfl
@[simp] theorem Core.updSummit_fabric (q : Nat) (f : Summit → Summit) (c : Core) : (c.updSummit q f).fabric = c.fabric := rfl
@[simp] theorem Core.updSummit_telem (q : Nat) (f : Summit → Summit) (c : Core) : (c.updSummit q f).telem = c.telem := rfl
@[simp] theorem Core.updSummit_power (q : Nat) (f : Summit → Summit) (c : Core) : (c.updSummit q f).power = c.power := rfl
@[simp] theorem Core.updSummit_out (q : Nat) (f : Summit → Summit) (c : Core) : (c.updSummit q f).out = c.out := rfl
@[simp] theorem Core.updSummit_nonce (q : Nat) (f : Summit → Summit) (c : Core) : (c.updSummit q f).nonce = c.nonce := rfl

/-! #### updPort, pick, bump -/

@[simp] theorem Core.updPort_host (p : Nat) (f : Port → Port) (c : Core) : (c.updPort p f).host = c.host := by
  unfold Core.updPort; split <;> rfl
@[simp] theorem Core.updPort_job (p : Nat) (f : Port → Port) (c : Core) : (c.updPort p f).job = c.job := by
  unfold Core.updPort; split <;> rfl
@[simp] theorem Core.updPort_pset (p : Nat) (f : Port → Port) (c : Core) : (c.updPort p f).pset = c.pset := by
  unfold Core.updPort; split <;> rfl
@[simp] theorem Core.updPort_pact (p : Nat) (f : Port → Port) (c : Core) : (c.updPort p f).pact = c.pact := by
  unfold Core.updPort; split <;> rfl
@[simp] theorem Core.updPort_clients (p : Nat) (f : Port → Port) (c : Core) : (c.updPort p f).clients = c.clients := by
  unfold Core.updPort; split <;> rfl
@[simp] theorem Core.updPort_ctxs (p : Nat) (f : Port → Port) (c : Core) : (c.updPort p f).ctxs = c.ctxs := by
  unfold Core.updPort; split <;> rfl
@[simp] theorem Core.updPort_summits (p : Nat) (f : Port → Port) (c : Core) : (c.updPort p f).summits = c.summits := by
  unfold Core.updPort; split <;> rfl
@[simp] theorem Core.updPort_tiers (p : Nat) (f : Port → Port) (c : Core) : (c.updPort p f).tiers = c.tiers := by
  unfold Core.updPort; split <;> rfl
@[simp] theorem Core.updPort_syncs (p : Nat) (f : Port → Port) (c : Core) : (c.updPort p f).syncs = c.syncs := by
  unfold Core.updPort; split <;> rfl
@[simp] theorem Core.updPort_moves (p : Nat) (f : Port → Port) (c : Core) : (c.updPort p f).moves = c.moves := by
  unfold Core.updPort; split <;> rfl
@[simp] theorem Core.updPort_nextMove (p : Nat) (f : Port → Port) (c : Core) : (c.updPort p f).nextMove = c.nextMove := by
  unfold Core.updPort; split <;> rfl
@[simp] theorem Core.updPort_usedIds (p : Nat) (f : Port → Port) (c : Core) : (c.updPort p f).usedIds = c.usedIds := by
  unfold Core.updPort; split <;> rfl
@[simp] theorem Core.updPort_stallUs (p : Nat) (f : Port → Port) (c : Core) : (c.updPort p f).stallUs = c.stallUs := by
  unfold Core.updPort; split <;> rfl
@[simp] theorem Core.updPort_sched (p : Nat) (f : Port → Port) (c : Core) : (c.updPort p f).sched = c.sched := by
  unfold Core.updPort; split <;> rfl
@[simp] theorem Core.updPort_search (p : Nat) (f : Port → Port) (c : Core) : (c.updPort p f).search = c.search := by
  unfold Core.updPort; split <;> rfl
@[simp] theorem Core.updPort_fabric (p : Nat) (f : Port → Port) (c : Core) : (c.updPort p f).fabric = c.fabric := by
  unfold Core.updPort; split <;> rfl
@[simp] theorem Core.updPort_telem (p : Nat) (f : Port → Port) (c : Core) : (c.updPort p f).telem = c.telem := by
  unfold Core.updPort; split <;> rfl
@[simp] theorem Core.updPort_power (p : Nat) (f : Port → Port) (c : Core) : (c.updPort p f).power = c.power := by
  unfold Core.updPort; split <;> rfl
@[simp] theorem Core.updPort_out (p : Nat) (f : Port → Port) (c : Core) : (c.updPort p f).out = c.out := by
  unfold Core.updPort; split <;> rfl
@[simp] theorem Core.updPort_nonce (p : Nat) (f : Port → Port) (c : Core) : (c.updPort p f).nonce = c.nonce := by
  unfold Core.updPort; split <;> rfl
@[simp] theorem Core.pick_host (c : Core) : c.pick.2.host = c.host := rfl
@[simp] theorem Core.pick_job (c : Core) : c.pick.2.job = c.job := rfl
@[simp] theorem Core.pick_pset (c : Core) : c.pick.2.pset = c.pset := rfl
@[simp] theorem Core.pick_pact (c : Core) : c.pick.2.pact = c.pact := rfl
@[simp] theorem Core.pick_clients (c : Core) : c.pick.2.clients = c.clients := rfl
@[simp] theorem Core.pick_ctxs (c : Core) : c.pick.2.ctxs = c.ctxs := rfl
@[simp] theorem Core.pick_summits (c : Core) : c.pick.2.summits = c.summits := rfl
@[simp] theorem Core.pick_tiers (c : Core) : c.pick.2.tiers = c.tiers := rfl
@[simp] theorem Core.pick_syncs (c : Core) : c.pick.2.syncs = c.syncs := rfl
@[simp] theorem Core.pick_moves (c : Core) : c.pick.2.moves = c.moves := rfl
@[simp] theorem Core.pick_nextMove (c : Core) : c.pick.2.nextMove = c.nextMove := rfl
@[simp] theorem Core.pick_usedIds (c : Core) : c.pick.2.usedIds = c.usedIds := rfl
@[simp] theorem Core.pick_stallUs (c : Core) : c.pick.2.stallUs = c.stallUs := rfl
@[simp] theorem Core.pick_sched (c : Core) : c.pick.2.sched = c.sched := rfl
@[simp] theorem Core.pick_search (c : Core) : c.pick.2.search = c.search := rfl
@[simp] theorem Core.pick_ports (c : Core) : c.pick.2.ports = c.ports := rfl
@[simp] theorem Core.pick_fabric (c : Core) : c.pick.2.fabric = c.fabric := rfl
@[simp] theorem Core.pick_telem (c : Core) : c.pick.2.telem = c.telem := rfl
@[simp] theorem Core.pick_power (c : Core) : c.pick.2.power = c.power := rfl
@[simp] theorem Core.pick_out (c : Core) : c.pick.2.out = c.out := rfl
@[simp] theorem Core.pick_nonce (c : Core) : c.pick.2.nonce = c.nonce + 1 := rfl
@[simp] theorem Core.bump_host (k : Ctr) (n : Nat) (c : Core) : (c.bump k n).host = c.host := by
  unfold Core.bump; split <;> rfl
@[simp] theorem Core.bump_job (k : Ctr) (n : Nat) (c : Core) : (c.bump k n).job = c.job := by
  unfold Core.bump; split <;> rfl
@[simp] theorem Core.bump_pset (k : Ctr) (n : Nat) (c : Core) : (c.bump k n).pset = c.pset := by
  unfold Core.bump; split <;> rfl
@[simp] theorem Core.bump_pact (k : Ctr) (n : Nat) (c : Core) : (c.bump k n).pact = c.pact := by
  unfold Core.bump; split <;> rfl
@[simp] theorem Core.bump_clients (k : Ctr) (n : Nat) (c : Core) : (c.bump k n).clients = c.clients := by
  unfold Core.bump; split <;> rfl
@[simp] theorem Core.bump_ctxs (k : Ctr) (n : Nat) (c : Core) : (c.bump k n).ctxs = c.ctxs := by
  unfold Core.bump; split <;> rfl
@[simp] theorem Core.bump_summits (k : Ctr) (n : Nat) (c : Core) : (c.bump k n).summits = c.summits := by
  unfold Core.bump; split <;> rfl
@[simp] theorem Core.bump_tiers (k : Ctr) (n : Nat) (c : Core) : (c.bump k n).tiers = c.tiers := by
  unfold Core.bump; split <;> rfl
@[simp] theorem Core.bump_syncs (k : Ctr) (n : Nat) (c : Core) : (c.bump k n).syncs = c.syncs := by
  unfold Core.bump; split <;> rfl
@[simp] theorem Core.bump_moves (k : Ctr) (n : Nat) (c : Core) : (c.bump k n).moves = c.moves := by
  unfold Core.bump; split <;> rfl
@[simp] theorem Core.bump_nextMove (k : Ctr) (n : Nat) (c : Core) : (c.bump k n).nextMove = c.nextMove := by
  unfold Core.bump; split <;> rfl
@[simp] theorem Core.bump_usedIds (k : Ctr) (n : Nat) (c : Core) : (c.bump k n).usedIds = c.usedIds := by
  unfold Core.bump; split <;> rfl
@[simp] theorem Core.bump_stallUs (k : Ctr) (n : Nat) (c : Core) : (c.bump k n).stallUs = c.stallUs := by
  unfold Core.bump; split <;> rfl
@[simp] theorem Core.bump_sched (k : Ctr) (n : Nat) (c : Core) : (c.bump k n).sched = c.sched := by
  unfold Core.bump; split <;> rfl
@[simp] theorem Core.bump_search (k : Ctr) (n : Nat) (c : Core) : (c.bump k n).search = c.search := by
  unfold Core.bump; split <;> rfl
@[simp] theorem Core.bump_ports (k : Ctr) (n : Nat) (c : Core) : (c.bump k n).ports = c.ports := by
  unfold Core.bump; split <;> rfl
@[simp] theorem Core.bump_fabric (k : Ctr) (n : Nat) (c : Core) : (c.bump k n).fabric = c.fabric := by
  unfold Core.bump; split <;> rfl
@[simp] theorem Core.bump_power (k : Ctr) (n : Nat) (c : Core) : (c.bump k n).power = c.power := by
  unfold Core.bump; split <;> rfl
@[simp] theorem Core.bump_out (k : Ctr) (n : Nat) (c : Core) : (c.bump k n).out = c.out := by
  unfold Core.bump; split <;> rfl
@[simp] theorem Core.bump_nonce (k : Ctr) (n : Nat) (c : Core) : (c.bump k n).nonce = c.nonce := by
  unfold Core.bump; split <;> rfl
@[simp] theorem Core.stage_job (m : Nat) (st : Status) (d : Nat) (p : List Byte) (c : Core) :
    (c.stage m st d p).job = c.job := rfl
@[simp] theorem Core.stage_pset (m : Nat) (st : Status) (d : Nat) (p : List Byte) (c : Core) :
    (c.stage m st d p).pset = c.pset := rfl
@[simp] theorem Core.stage_pact (m : Nat) (st : Status) (d : Nat) (p : List Byte) (c : Core) :
    (c.stage m st d p).pact = c.pact := rfl
@[simp] theorem Core.stage_clients (m : Nat) (st : Status) (d : Nat) (p : List Byte) (c : Core) :
    (c.stage m st d p).clients = c.clients := rfl
@[simp] theorem Core.stage_ctxs (m : Nat) (st : Status) (d : Nat) (p : List Byte) (c : Core) :
    (c.stage m st d p).ctxs = c.ctxs := rfl
@[simp] theorem Core.stage_summits (m : Nat) (st : Status) (d : Nat) (p : List Byte) (c : Core) :
    (c.stage m st d p).summits = c.summits := rfl
@[simp] theorem Core.stage_tiers (m : Nat) (st : Status) (d : Nat) (p : List Byte) (c : Core) :
    (c.stage m st d p).tiers = c.tiers := rfl
@[simp] theorem Core.stage_syncs (m : Nat) (st : Status) (d : Nat) (p : List Byte) (c : Core) :
    (c.stage m st d p).syncs = c.syncs := rfl
@[simp] theorem Core.stage_moves (m : Nat) (st : Status) (d : Nat) (p : List Byte) (c : Core) :
    (c.stage m st d p).moves = c.moves := rfl
@[simp] theorem Core.stage_nextMove (m : Nat) (st : Status) (d : Nat) (p : List Byte) (c : Core) :
    (c.stage m st d p).nextMove = c.nextMove := rfl
@[simp] theorem Core.stage_usedIds (m : Nat) (st : Status) (d : Nat) (p : List Byte) (c : Core) :
    (c.stage m st d p).usedIds = c.usedIds := rfl
@[simp] theorem Core.stage_stallUs (m : Nat) (st : Status) (d : Nat) (p : List Byte) (c : Core) :
    (c.stage m st d p).stallUs = c.stallUs := rfl
@[simp] theorem Core.stage_sched (m : Nat) (st : Status) (d : Nat) (p : List Byte) (c : Core) :
    (c.stage m st d p).sched = c.sched := rfl
@[simp] theorem Core.stage_search (m : Nat) (st : Status) (d : Nat) (p : List Byte) (c : Core) :
    (c.stage m st d p).search = c.search := rfl
@[simp] theorem Core.stage_ports (m : Nat) (st : Status) (d : Nat) (p : List Byte) (c : Core) :
    (c.stage m st d p).ports = c.ports := rfl
@[simp] theorem Core.stage_fabric (m : Nat) (st : Status) (d : Nat) (p : List Byte) (c : Core) :
    (c.stage m st d p).fabric = c.fabric := rfl
@[simp] theorem Core.stage_telem (m : Nat) (st : Status) (d : Nat) (p : List Byte) (c : Core) :
    (c.stage m st d p).telem = c.telem := rfl
@[simp] theorem Core.stage_power (m : Nat) (st : Status) (d : Nat) (p : List Byte) (c : Core) :
    (c.stage m st d p).power = c.power := rfl
@[simp] theorem Core.stage_out (m : Nat) (st : Status) (d : Nat) (p : List Byte) (c : Core) :
    (c.stage m st d p).out = c.out := rfl
@[simp] theorem Core.stage_nonce (m : Nat) (st : Status) (d : Nat) (p : List Byte) (c : Core) :
    (c.stage m st d p).nonce = c.nonce := rfl
@[simp] theorem Core.start_job (m : Nat) (c : Core) : (c.start m).job = c.job := rfl
@[simp] theorem Core.start_pset (m : Nat) (c : Core) : (c.start m).pset = c.pset := rfl
@[simp] theorem Core.start_pact (m : Nat) (c : Core) : (c.start m).pact = c.pact := rfl
@[simp] theorem Core.start_clients (m : Nat) (c : Core) : (c.start m).clients = c.clients := rfl
@[simp] theorem Core.start_ctxs (m : Nat) (c : Core) : (c.start m).ctxs = c.ctxs := rfl
@[simp] theorem Core.start_summits (m : Nat) (c : Core) : (c.start m).summits = c.summits := rfl
@[simp] theorem Core.start_tiers (m : Nat) (c : Core) : (c.start m).tiers = c.tiers := rfl
@[simp] theorem Core.start_syncs (m : Nat) (c : Core) : (c.start m).syncs = c.syncs := rfl
@[simp] theorem Core.start_moves (m : Nat) (c : Core) : (c.start m).moves = c.moves := rfl
@[simp] theorem Core.start_nextMove (m : Nat) (c : Core) : (c.start m).nextMove = c.nextMove := rfl
@[simp] theorem Core.start_usedIds (m : Nat) (c : Core) : (c.start m).usedIds = c.usedIds := rfl
@[simp] theorem Core.start_stallUs (m : Nat) (c : Core) : (c.start m).stallUs = c.stallUs := rfl
@[simp] theorem Core.start_sched (m : Nat) (c : Core) : (c.start m).sched = c.sched := rfl
@[simp] theorem Core.start_search (m : Nat) (c : Core) : (c.start m).search = c.search := rfl
@[simp] theorem Core.start_ports (m : Nat) (c : Core) : (c.start m).ports = c.ports := rfl
@[simp] theorem Core.start_fabric (m : Nat) (c : Core) : (c.start m).fabric = c.fabric := rfl
@[simp] theorem Core.start_telem (m : Nat) (c : Core) : (c.start m).telem = c.telem := rfl
@[simp] theorem Core.start_power (m : Nat) (c : Core) : (c.start m).power = c.power := rfl
@[simp] theorem Core.start_out (m : Nat) (c : Core) : (c.start m).out = c.out := rfl
@[simp] theorem Core.start_nonce (m : Nat) (c : Core) : (c.start m).nonce = c.nonce := rfl

/-! #### The whole state -/

@[simp] theorem State.onCore_pending (f : Top → Core → Core) (s : State) : (s.onCore f).pending = s.pending := by
  unfold State.onCore; split <;> rfl
@[simp] theorem State.onCore_top (f : Top → Core → Core) (s : State) : (s.onCore f).top = s.top := by
  unfold State.onCore; split <;> rfl
theorem State.onCore_live (f : Top → Core → Core) (s : State) (h : s.top.live = true) : s.onCore f = { s with core := f s.top s.core } := by
  simp [State.onCore, h]
theorem State.onCore_dead (f : Top → Core → Core) (s : State) (h : s.top.live = false) : s.onCore f = s := by
  simp [State.onCore, h]
@[simp] theorem State.onBoth_pending (f : Top → Core → Top × Core) (s : State) : (s.onBoth f).pending = s.pending := by
  unfold State.onBoth; split <;> rfl
theorem State.onBoth_live (f : Top → Core → Top × Core) (s : State) (h : s.top.live = true) :
    s.onBoth f = { s with top := (f s.top s.core).1, core := (f s.top s.core).2 } := by
  simp [State.onBoth, h]
theorem State.onBoth_dead (f : Top → Core → Top × Core) (s : State) (h : s.top.live = false) : s.onBoth f = s := by
  simp [State.onBoth, h]

/-! #### The device's own state -/

@[simp] theorem Top.onTime_dev (f : TimeBlk → TimeBlk) (t : Top) : (t.onTime f).dev = t.dev := rfl
@[simp] theorem Top.onTime_phase (f : TimeBlk → TimeBlk) (t : Top) : (t.onTime f).phase = t.phase := rfl
@[simp] theorem Top.onTime_phaseEnds (f : TimeBlk → TimeBlk) (t : Top) : (t.onTime f).phaseEnds = t.phaseEnds := rfl
@[simp] theorem Top.onTime_candidates (f : TimeBlk → TimeBlk) (t : Top) : (t.onTime f).candidates = t.candidates := rfl
@[simp] theorem Top.onTime_primary (f : TimeBlk → TimeBlk) (t : Top) : (t.onTime f).primary = t.primary := rfl
@[simp] theorem Top.onTime_summitFail (f : TimeBlk → TimeBlk) (t : Top) : (t.onTime f).summitFail = t.summitFail := rfl
@[simp] theorem Top.onTime_allFailed (f : TimeBlk → TimeBlk) (t : Top) : (t.onTime f).allFailed = t.allFailed := rfl
@[simp] theorem Top.onTime_fwValid (f : TimeBlk → TimeBlk) (t : Top) : (t.onTime f).fwValid = t.fwValid := rfl
@[simp] theorem Top.onTime_cfgDefaulted (f : TimeBlk → TimeBlk) (t : Top) : (t.onTime f).cfgDefaulted = t.cfgDefaulted := rfl
@[simp] theorem Top.onTime_cfgReject (f : TimeBlk → TimeBlk) (t : Top) : (t.onTime f).cfgReject = t.cfgReject := rfl
@[simp] theorem Top.onTime_cfgUnknown (f : TimeBlk → TimeBlk) (t : Top) : (t.onTime f).cfgUnknown = t.cfgUnknown := rfl
@[simp] theorem Top.onTime_cfgCause (f : TimeBlk → TimeBlk) (t : Top) : (t.onTime f).cfgCause = t.cfgCause := rfl
@[simp] theorem Top.onTime_cfgSeq (f : TimeBlk → TimeBlk) (t : Top) : (t.onTime f).cfgSeq = t.cfgSeq := rfl
@[simp] theorem Top.onTime_cfgImage (f : TimeBlk → TimeBlk) (t : Top) : (t.onTime f).cfgImage = t.cfgImage := rfl
@[simp] theorem Top.onTime_fwSlot (f : TimeBlk → TimeBlk) (t : Top) : (t.onTime f).fwSlot = t.fwSlot := rfl
@[simp] theorem Top.onTime_fwFallback (f : TimeBlk → TimeBlk) (t : Top) : (t.onTime f).fwFallback = t.fwFallback := rfl
@[simp] theorem Top.onTime_fwVersion (f : TimeBlk → TimeBlk) (t : Top) : (t.onTime f).fwVersion = t.fwVersion := rfl
@[simp] theorem Top.onTime_fwSecurity (f : TimeBlk → TimeBlk) (t : Top) : (t.onTime f).fwSecurity = t.fwSecurity := rfl
@[simp] theorem Top.onTime_secFloor (f : TimeBlk → TimeBlk) (t : Top) : (t.onTime f).secFloor = t.secFloor := rfl
@[simp] theorem Top.onTime_slot0 (f : TimeBlk → TimeBlk) (t : Top) : (t.onTime f).slot0 = t.slot0 := rfl
@[simp] theorem Top.onTime_slot1 (f : TimeBlk → TimeBlk) (t : Top) : (t.onTime f).slot1 = t.slot1 := rfl
@[simp] theorem Top.onTime_bootWord (f : TimeBlk → TimeBlk) (t : Top) : (t.onTime f).bootWord = t.bootWord := rfl
@[simp] theorem Top.onTime_cfgFlash (f : TimeBlk → TimeBlk) (t : Top) : (t.onTime f).cfgFlash = t.cfgFlash := rfl
@[simp] theorem Top.onTime_cfgPorts (f : TimeBlk → TimeBlk) (t : Top) : (t.onTime f).cfgPorts = t.cfgPorts := rfl
@[simp] theorem Top.onTime_nodeId (f : TimeBlk → TimeBlk) (t : Top) : (t.onTime f).nodeId = t.nodeId := rfl
@[simp] theorem Top.onTime_failedStart (f : TimeBlk → TimeBlk) (t : Top) : (t.onTime f).failedStart = t.failedStart := rfl
@[simp] theorem Top.onTime_absent (f : TimeBlk → TimeBlk) (t : Top) : (t.onTime f).absent = t.absent := rfl
@[simp] theorem Top.onTime_stackMask (f : TimeBlk → TimeBlk) (t : Top) : (t.onTime f).stackMask = t.stackMask := rfl
@[simp] theorem Top.onTime_stackBytes (f : TimeBlk → TimeBlk) (t : Top) : (t.onTime f).stackBytes = t.stackBytes := rfl
@[simp] theorem Top.onTime_warmDevices (f : TimeBlk → TimeBlk) (t : Top) : (t.onTime f).warmDevices = t.warmDevices := rfl
@[simp] theorem Top.onTime_warmRemoved (f : TimeBlk → TimeBlk) (t : Top) : (t.onTime f).warmRemoved = t.warmRemoved := rfl
@[simp] theorem Top.onTime_perst (f : TimeBlk → TimeBlk) (t : Top) : (t.onTime f).perst = t.perst := rfl
@[simp] theorem Top.onTime_powerWarn (f : TimeBlk → TimeBlk) (t : Top) : (t.onTime f).powerWarn = t.powerWarn := rfl
@[simp] theorem Top.onTime_thermtrip (f : TimeBlk → TimeBlk) (t : Top) : (t.onTime f).thermtrip = t.thermtrip := rfl
@[simp] theorem Top.onTime_txRefclk (f : TimeBlk → TimeBlk) (t : Top) : (t.onTime f).txRefclk = t.txRefclk := rfl
@[simp] theorem Top.onTime_i2cAddr (f : TimeBlk → TimeBlk) (t : Top) : (t.onTime f).i2cAddr = t.i2cAddr := rfl
@[simp] theorem Top.onTime_byReset (f : TimeBlk → TimeBlk) (t : Top) : (t.onTime f).byReset = t.byReset := rfl
@[simp] theorem Top.onTime_jtag (f : TimeBlk → TimeBlk) (t : Top) : (t.onTime f).jtag = t.jtag := rfl
@[simp] theorem Top.onTime_time (f : TimeBlk → TimeBlk) (t : Top) : (t.onTime f).time = f t.time := rfl

end Sys2Proof.Machine
end

