-- ==== Sys2Proof/Laws/Tables.lean ====
section
/-! SUPPORT. Tables and byte storage: a read after a write, and the canonical form that every operation keeps. -/

namespace Sys2Proof.Machine

variable {α β : Type}

/-! ### Lookup -/

@[simp] theorem Tbl.get?_set_self (t : Tbl α) (k : Nat) (v : α) : (Tbl.set t k v).get? k = some v := by
  induction t with
  | nil => simp [Tbl.set, Tbl.get?]
  | cons e t ih =>
    obtain ⟨j, x⟩ := e
    unfold Tbl.set
    split
    · simp [Tbl.get?]
    · split
      · simp [Tbl.get?]
      · rename_i h1 h2
        have : j ≠ k := by omega
        simp [Tbl.get?, this, ih]

/-- Setting a key leaves every other key's entry. -/
theorem Tbl.get?_set_other (t : Tbl α) (k i : Nat) (v : α) (h : i ≠ k) : (Tbl.set t k v).get? i = t.get? i := by
  induction t with
  | nil => simp [Tbl.set, Tbl.get?, Ne.symm h]
  | cons e t ih =>
    obtain ⟨j, x⟩ := e
    unfold Tbl.set
    split
    · simp [Tbl.get?, Ne.symm h]
    · split
      · rename_i h1 h2; subst h2
        simp [Tbl.get?, Ne.symm h]
      · by_cases hj : j = i <;> simp [Tbl.get?, hj, ih]

/-- A deleted key has no entry. -/
theorem Tbl.get?_del_self (t : Tbl α) (k : Nat) : (Tbl.del t k).get? k = none := by
  induction t with
  | nil => rfl
  | cons e t ih =>
    obtain ⟨j, x⟩ := e
    by_cases h : j = k
    · simp [Tbl.del, h] at ih ⊢; exact ih
    · simp [Tbl.del, h, Tbl.get?] at ih ⊢; exact ih

/-- Deleting a key leaves every other key's entry. -/
theorem Tbl.get?_del_other (t : Tbl α) (k i : Nat) (h : i ≠ k) : (Tbl.del t k).get? i = t.get? i := by
  induction t with
  | nil => rfl
  | cons e t ih =>
    obtain ⟨j, x⟩ := e
    simp only [Tbl.del] at ih
    by_cases h1 : j = k
    · subst h1; simp [Tbl.del, Tbl.get?, Ne.symm h, ih]
    · have h3 : Tbl.del ((j, x) :: t) k = (j, x) :: Tbl.del t k := by simp [Tbl.del, h1]
      rw [h3]
      by_cases h2 : j = i
      · simp [Tbl.get?, h2]
      · simp only [Tbl.get?, h2, if_false]; exact ih

/-! ### The canonical form -/

/-- Every key of a table is above a bound. -/
def Tbl.above (b : Nat) (t : Tbl α) : Prop := ∀ e ∈ t, b < e.1

theorem Tbl.wf_cons (j : Nat) (v : α) (t : Tbl α) : Tbl.wf ((j, v) :: t) = true ↔ Tbl.above j t ∧ Tbl.wf t = true := by
  induction t generalizing j v with
  | nil => simp [Tbl.wf, Tbl.above]
  | cons e t ih =>
    obtain ⟨k, w⟩ := e
    have hk := ih k w
    simp only [Tbl.wf, Bool.and_eq_true, decide_eq_true_eq]
    constructor
    · rintro ⟨h, hw⟩
      refine ⟨?_, hw⟩
      intro e he
      rcases List.mem_cons.1 he with rfl | he
      · exact h
      · have := (hk.1 hw).1 e he; omega
    · rintro ⟨h, hw⟩
      exact ⟨h (k, w) (List.mem_cons_self ..), hw⟩

theorem Tbl.mem_set (t : Tbl α) (k : Nat) (v : α) (e : Nat × α) (h : e ∈ Tbl.set t k v) : e = (k, v) ∨ e ∈ t := by
  induction t with
  | nil => simpa [Tbl.set] using h
  | cons x t ih =>
    obtain ⟨j, w⟩ := x
    unfold Tbl.set at h
    split at h
    · simpa using h
    · split at h
      · rcases List.mem_cons.1 h with h | h
        · exact .inl h
        · exact .inr (List.mem_cons_of_mem _ h)
      · rcases List.mem_cons.1 h with h | h
        · exact .inr (h ▸ List.mem_cons_self ..)
        · rcases ih h with h | h
          · exact .inl h
          · exact .inr (List.mem_cons_of_mem _ h)

theorem Tbl.wf_set (t : Tbl α) (k : Nat) (v : α) (h : Tbl.wf t = true) : Tbl.wf (Tbl.set t k v) = true := by
  induction t with
  | nil => rfl
  | cons x t ih =>
    obtain ⟨j, w⟩ := x
    have h' := (Tbl.wf_cons j w t).1 h
    unfold Tbl.set
    split
    · rename_i hk
      refine (Tbl.wf_cons k v _).2 ⟨?_, h⟩
      intro e he
      rcases List.mem_cons.1 he with rfl | he
      · exact hk
      · have := h'.1 e he; omega
    · split
      · rename_i hk; subst hk
        exact (Tbl.wf_cons k v t).2 h'
      · refine (Tbl.wf_cons j w _).2 ⟨?_, ih h'.2⟩
        intro e he
        rcases Tbl.mem_set t k v e he with rfl | he
        · show j < k; omega
        · exact h'.1 e he

theorem Tbl.wf_filter (p : Nat × α → Bool) (t : Tbl α) (h : Tbl.wf t = true) : Tbl.wf (t.filter p) = true := by
  induction t with
  | nil => rfl
  | cons x t ih =>
    obtain ⟨j, w⟩ := x
    have h' := (Tbl.wf_cons j w t).1 h
    by_cases hp : p (j, w) = true
    · rw [List.filter_cons_of_pos hp]
      refine (Tbl.wf_cons j w _).2 ⟨?_, ih h'.2⟩
      intro e he
      exact h'.1 e (List.mem_of_mem_filter he)
    · rw [List.filter_cons_of_neg hp]
      exact ih h'.2

theorem Tbl.wf_del (t : Tbl α) (k : Nat) (h : Tbl.wf t = true) : Tbl.wf (Tbl.del t k) = true := Tbl.wf_filter _ t h

theorem Tbl.wf_upd (t : Tbl α) (k : Nat) (f : α → α) (h : Tbl.wf t = true) : Tbl.wf (Tbl.upd t k f) = true := by
  unfold Tbl.upd; split
  · exact Tbl.wf_set _ _ _ h
  · exact h

theorem Tbl.wf_mapVal (t : Tbl α) (f : Nat → α → β) (h : Tbl.wf t = true) : Tbl.wf (Tbl.mapVal t f) = true := by
  induction t with
  | nil => rfl
  | cons x t ih =>
    obtain ⟨j, w⟩ := x
    have h' := (Tbl.wf_cons j w t).1 h
    refine (Tbl.wf_cons j (f j w) _).2 ⟨?_, ih h'.2⟩
    intro e he
    simp only [List.mem_map] at he
    obtain ⟨y, hy, rfl⟩ := he
    exact h'.1 y hy

/-! ### Byte storage -/

/-- A byte reads as it was written. -/
theorem Mem.read_write_self (m : Mem) (a : Nat) (b : Byte) : (m.write a b).read a = b := by
  unfold Mem.write Mem.read
  split
  · rename_i h; rw [Tbl.get?_del_self, h]; rfl
  · rw [Tbl.get?_set_self]; rfl

/-- A write leaves every other byte. -/
theorem Mem.read_write_other (m : Mem) (a i : Nat) (b : Byte) (h : i ≠ a) : (m.write a b).read i = m.read i := by
  unfold Mem.write Mem.read
  split
  · rw [Tbl.get?_del_other _ _ _ h]
  · rw [Tbl.get?_set_other _ _ _ _ h]

/-- A write of several bytes leaves every byte outside them. -/
theorem Mem.read_writeN_other (bs : List Byte) (m : Mem) (a i : Nat) (h : i < a ∨ a + bs.length ≤ i) :
    (m.writeN a bs).read i = m.read i := by
  induction bs generalizing m a with
  | nil => rfl
  | cons b bs ih =>
    simp only [List.length_cons] at h
    rw [Mem.writeN, ih _ _ (by omega), Mem.read_write_other _ _ _ _ (by omega)]

/-- Bytes written read back. -/
theorem Mem.read_writeN (bs : List Byte) (m : Mem) (a k : Nat) (h : k < bs.length) : (m.writeN a bs).read (a + k) = bs[k] := by
  induction bs generalizing m a k with
  | nil => simp at h
  | cons b bs ih =>
    rw [Mem.writeN]
    cases k with
    | zero => rw [Mem.read_writeN_other _ _ _ _ (by omega)]; exact Mem.read_write_self m a b
    | succ k =>
      have := ih (m.write a b) (a + 1) k (by simpa using h)
      rw [show a + (k + 1) = a + 1 + k by omega, this]; rfl

theorem Mem.wf_iff (m : Mem) : m.wf = true ↔ Tbl.wf m = true ∧ ∀ c ∈ m, c.2 ≠ Mem.empty := by
  simp [Mem.wf]

theorem Mem.wf_write (m : Mem) (a : Nat) (b : Byte) (h : m.wf = true) : (m.write a b).wf = true := by
  obtain ⟨h1, h2⟩ := (Mem.wf_iff m).1 h
  unfold Mem.write
  split
  · exact (Mem.wf_iff _).2 ⟨Tbl.wf_del _ _ h1, fun c hc => h2 c (List.mem_of_mem_filter hc)⟩
  · rename_i hb
    refine (Mem.wf_iff _).2 ⟨Tbl.wf_set _ _ _ h1, fun c hc => ?_⟩
    rcases Tbl.mem_set m a b c hc with rfl | hc
    · exact hb
    · exact h2 c hc

theorem Mem.wf_writeN (bs : List Byte) (m : Mem) (a : Nat) (h : m.wf = true) : (m.writeN a bs).wf = true := by
  induction bs generalizing m a with
  | nil => exact h
  | cons b bs ih => exact ih _ _ (Mem.wf_write m a b h)

theorem Mem.wf_zero (m : Mem) (a n : Nat) (h : m.wf = true) : (m.zero a n).wf = true := by
  obtain ⟨h1, h2⟩ := (Mem.wf_iff m).1 h
  exact (Mem.wf_iff _).2 ⟨Tbl.wf_filter _ _ h1, fun c hc => h2 c (List.mem_of_mem_filter hc)⟩

theorem Tbl.get?_filter (t : Tbl α) (p : Nat → Bool) (i : Nat) :
    Tbl.get? (t.filter (fun c => p c.1)) i = if p i then t.get? i else none := by
  induction t with
  | nil => simp [Tbl.get?]
  | cons x t ih =>
    obtain ⟨j, w⟩ := x
    by_cases hj : j = i
    · subst hj
      by_cases hp : p j = true
      · simp [Tbl.get?, hp]
      · simp [hp] at ih ⊢; simpa [hp] using ih
    · by_cases hp : p j = true
      · simp [Tbl.get?, hp, hj, ih]
      · simp [Tbl.get?, hp, hj, ih]

/-- Zeroed bytes read 0. -/
theorem Mem.read_zero (m : Mem) (a n i : Nat) : (m.zero a n).read i = if a ≤ i ∧ i < a + n then 0 else m.read i := by
  have := Tbl.get?_filter m (fun k => decide (k < a) || decide (a + n ≤ k)) i
  simp only [Mem.read, Mem.zero, this]
  by_cases h : a ≤ i ∧ i < a + n
  · have : ¬ (i < a) ∧ ¬ (a + n ≤ i) := by omega
    simp [h, this, Mem.empty]
  · have : i < a ∨ a + n ≤ i := by omega
    rw [if_neg h]
    rcases this with h | h <;> simp [h]

end Sys2Proof.Machine
end

