-- ==== Sys2Proof/Laws/Commands.lean ====
section
/-! SUPPORT. What running a mailbox command does, once for all commands (R359, R369). -/

namespace Sys2Proof.Machine

theorem need_true (st : Status) (d : Nat) : need true st d = .ok () := rfl
theorem need_false (st : Status) (d : Nat) : need false st d = .error (st, d) := rfl


@[simp] theorem Core.mbox_updMbox_self (c : Core) (m : Nat) (f : Mbox → Mbox) : (c.updMbox m f).mbox m = f (c.mbox m) := by
  simp [Core.mbox, Core.updMbox, Core.onHost, Tbl.getD]

/-- A command ready to run. -/
theorem Taken.ready {s : State} {m op : Nat} {a : Cmd} (h : Taken s m op a) : s.core.ready m op = some a := by
  have ho := h.opcode
  simp only [Core.ready, h.taken, h.fresh, h.unanswered, ho]
  cases hs : isSerial op with
  | false => simp
  | true => simp [h.oldest hs]

/-- A command that passes steps 1 to 4 of R369. -/
theorem Takes.precheck {s : State} {m op : Nat} {a : Cmd} (h : Takes s m op a) : precheck s.top s.core m a = .ok () := by
  obtain ⟨n, hn, hl⟩ := h.fits
  have ho := h.opcode
  have h2 := h.handle
  unfold handleFits at h2
  unfold Machine.precheck
  rw [ho, hn]
  simp only [h.legal, h.short, hl]
  revert h2
  cases handleRule a <;> intro h2 <;> simp_all [need, bind, Except.bind, pure, Except.pure]

/-- Running a command that passes its checks. -/
theorem runCommand_takes {s : State} {m op : Nat} {a : Cmd} (h : Takes s m op a) (body : Top → Core → Nat → Cmd → Ans) :
    runCommand m op body s = { s with core := s.core.finish m (body s.top s.core m a) } := by
  simp only [runCommand, h.toTaken.ready, State.onCore_live _ _ h.live, h.precheck, bind, Except.bind]

/-- A command whose body answers at once. -/
theorem runCommand_answers {s : State} {m op : Nat} {a : Cmd} (h : Takes s m op a) {body : Top → Core → Nat → Cmd → Ans} {c : Core}
    {p : List Byte} (hb : body s.top s.core m a = ok c p) : runCommand m op body s = s.answers m c p := by
  rw [runCommand_takes h, hb]; rfl

/-- A command whose body lets it wait. -/
theorem runCommand_holds {s : State} {m op : Nat} {a : Cmd} (h : Takes s m op a) {body : Top → Core → Nat → Cmd → Ans} {c : Core}
    (hb : body s.top s.core m a = waits c) : runCommand m op body s = s.holds m c := by
  rw [runCommand_takes h, hb]; rfl

/-- A command whose body refuses. -/
theorem runCommand_refuses {s : State} {m op : Nat} {a : Cmd} (h : Takes s m op a) {body : Top → Core → Nat → Cmd → Ans} {st : Status}
    {d : Nat} (hb : body s.top s.core m a = .error (st, d)) : runCommand m op body s = s.refuses m st d := by
  rw [runCommand_takes h, hb]; rfl

/-- What the mailbox holds once its command is answered. -/
theorem State.answers_result {s : State} {m : Nat} {a : Cmd} (c : Core) (p : List Byte)
    (hc : (c.mbox m).taken = some a) (hr : (c.mbox m).result = none) : ((s.answers m c p).core.mbox m).result = some ⟨.ok, 0, p⟩ := by
  have : ∀ f : HostIf → HostIf, (∀ x, (f x).mboxes = x.mboxes) → ∀ c : Core, (c.onHost f).mbox m = c.mbox m := by
    intro f hf c; simp [Core.mbox, Core.onHost, hf]
  simp [State.answers, Core.stage, Core.start, this, hc, hr]

/-! ### The ways in which a row acts, and what they leave alone -/

@[simp] theorem runCommand_pending (m op : Nat) (body : Top → Core → Nat → Cmd → Ans) (s : State) : (runCommand m op body s).pending = s.pending := by
  unfold runCommand; (try split) <;> simp
@[simp] theorem runCommand_top (m op : Nat) (body : Top → Core → Nat → Cmd → Ans) (s : State) : (runCommand m op body s).top = s.top := by
  unfold runCommand; (try split) <;> simp
theorem runCommand_dead (m op : Nat) (body : Top → Core → Nat → Cmd → Ans) (s : State) (h : s.top.live = false) : runCommand m op body s = s := by
  unfold runCommand; (try split) <;> simp [State.onCore, h]
@[simp] theorem runTop_pending (m op : Nat) (body : Top → Core → Nat → Cmd → Chk (Top × Core × Option Resp)) (s : State) : (runTop m op body s).pending = s.pending := by
  unfold runTop; (try split) <;> simp
theorem runTop_dead (m op : Nat) (body : Top → Core → Nat → Cmd → Chk (Top × Core × Option Resp)) (s : State) (h : s.top.live = false) : runTop m op body s = s := by
  unfold runTop; (try split) <;> simp [State.onBoth, h]
@[simp] theorem onMsg_pending (cid type : Nat) (kind : Option Nat) (f : Top → Core → Nat → Msg → Core) (s : State) : (onMsg cid type kind f s).pending = s.pending := by
  unfold onMsg; (try split) <;> simp
@[simp] theorem onMsg_top (cid type : Nat) (kind : Option Nat) (f : Top → Core → Nat → Msg → Core) (s : State) : (onMsg cid type kind f s).top = s.top := by
  unfold onMsg; (try split) <;> simp
theorem onMsg_dead (cid type : Nat) (kind : Option Nat) (f : Top → Core → Nat → Msg → Core) (s : State) (h : s.top.live = false) : onMsg cid type kind f s = s := by
  unfold onMsg; (try split) <;> simp [State.onCore, h]
@[simp] theorem onControl_pending (cid kind : Nat) (f : Top → Core → Nat → Msg → Core) (s : State) : (onControl cid kind f s).pending = s.pending := by
  unfold onControl; (try split) <;> simp
@[simp] theorem onControl_top (cid kind : Nat) (f : Top → Core → Nat → Msg → Core) (s : State) : (onControl cid kind f s).top = s.top := by
  unfold onControl; (try split) <;> simp
theorem onControl_dead (cid kind : Nat) (f : Top → Core → Nat → Msg → Core) (s : State) (h : s.top.live = false) : onControl cid kind f s = s := by
  unfold onControl; (try split) <;> simp [State.onCore, h]
@[simp] theorem onPort_pending (p : Nat) (f : Top → Core → Core) (s : State) : (onPort p f s).pending = s.pending := by
  unfold onPort; simp
@[simp] theorem onPort_top (p : Nat) (f : Top → Core → Core) (s : State) : (onPort p f s).top = s.top := by
  unfold onPort; simp
theorem onPort_dead (p : Nat) (f : Top → Core → Core) (s : State) (h : s.top.live = false) : onPort p f s = s := by
  unfold onPort; simp [State.onCore, h]
@[simp] theorem onLink_pending (p kind : Nat) (f : LinkFlit) (g : Top → Core → Core) (s : State) : (onLink p kind f g s).pending = s.pending := by
  unfold onLink; (try split) <;> simp
@[simp] theorem onLink_top (p kind : Nat) (f : LinkFlit) (g : Top → Core → Core) (s : State) : (onLink p kind f g s).top = s.top := by
  unfold onLink; (try split) <;> simp
theorem onLink_dead (p kind : Nat) (f : LinkFlit) (g : Top → Core → Core) (s : State) (h : s.top.live = false) : onLink p kind f g s = s := by
  unfold onLink; (try split) <;> simp [State.onCore, h]
@[simp] theorem onTimeBlk_pending (f : TimeBlk → TimeBlk) (s : State) : (onTimeBlk f s).pending = s.pending := by
  unfold onTimeBlk; simp
theorem onTimeBlk_dead (f : TimeBlk → TimeBlk) (s : State) (h : s.top.live = false) : onTimeBlk f s = s := by
  unfold onTimeBlk; simp [State.onBoth, h]

end Sys2Proof.Machine
end

