-- ==== Sys2Proof/Laws/Flow.lean ====
section
/-! SUPPORT. What events, counters, queues and the mesh leave alone: everything that a job's work is made of. -/

namespace Sys2Proof.Machine

/-- Two states of the machine differ at most in what its event queue, its counters and telemetry, its queues and its output hold. -/
structure Core.SameWork (a b : Core) : Prop where
  mboxes : b.host.mboxes = a.host.mboxes
  job : b.job = a.job
  pset : b.pset = a.pset
  pact : b.pact = a.pact
  clients : b.clients = a.clients
  ctxs : b.ctxs = a.ctxs
  summits : b.summits = a.summits
  tiers : b.tiers = a.tiers
  syncs : b.syncs = a.syncs
  moves : b.moves = a.moves
  nextMove : b.nextMove = a.nextMove
  usedIds : b.usedIds = a.usedIds
  stallUs : b.stallUs = a.stallUs
  sched : b.sched = a.sched
  search : b.search = a.search
  ports : b.ports = a.ports
  fabric : b.fabric = a.fabric
  power : b.power = a.power
  nonce : b.nonce = a.nonce

theorem Core.SameWork.refl (c : Core) : c.SameWork c := by constructor <;> rfl

theorem Core.SameWork.trans {a b c : Core} (h : a.SameWork b) (k : b.SameWork c) : a.SameWork c := by
  constructor
  · exact k.mboxes.trans h.mboxes
  · exact k.job.trans h.job
  · exact k.pset.trans h.pset
  · exact k.pact.trans h.pact
  · exact k.clients.trans h.clients
  · exact k.ctxs.trans h.ctxs
  · exact k.summits.trans h.summits
  · exact k.tiers.trans h.tiers
  · exact k.syncs.trans h.syncs
  · exact k.moves.trans h.moves
  · exact k.nextMove.trans h.nextMove
  · exact k.usedIds.trans h.usedIds
  · exact k.stallUs.trans h.stallUs
  · exact k.sched.trans h.sched
  · exact k.search.trans h.search
  · exact k.ports.trans h.ports
  · exact k.fabric.trans h.fabric
  · exact k.power.trans h.power
  · exact k.nonce.trans h.nonce

theorem Core.sameWork_telem (f : Telem → Telem) (c : Core) : c.SameWork (c.onTelem f) := by constructor <;> rfl
theorem Core.sameWork_emit (x : Out) (c : Core) : c.SameWork (c.emit x) := by constructor <;> rfl
theorem Core.sameWork_host (f : HostIf → HostIf) (c : Core) (h : (f c.host).mboxes = c.host.mboxes) : c.SameWork (c.onHost f) := by
  constructor <;> first | exact h | rfl
theorem Core.sameWork_bump (k : Ctr) (n : Nat) (c : Core) : c.SameWork (c.bump k n) := by constructor <;> simp
theorem Core.sameWork_setWm (id : Nat) (w : Wm) (c : Core) : c.SameWork (c.setWm id w) := c.sameWork_telem _

theorem Core.sameWork_foldl {α : Type} (f : Core → α → Core) (h : ∀ (c : Core) (x : α), c.SameWork (f c x)) (xs : List α) (c : Core) :
    c.SameWork (xs.foldl f c) := by
  induction xs generalizing c with
  | nil => exact .refl c
  | cons x xs ih => exact (h c x).trans (ih _)

theorem Core.sameWork_msix (v : Nat) (c : Core) : c.SameWork (c.msix v) := by
  unfold Core.msix; split
  · exact c.sameWork_emit _
  · exact .refl c

/-- An event (R365, R366, R409). -/
theorem Core.sameWork_evWrite (t : Top) (code src subject : Nat) (detail : List Byte) (c : Core) :
    c.SameWork (c.evWrite t code src subject detail) := by
  unfold Core.evWrite
  split
  · exact .refl c
  dsimp only
  refine (c.sameWork_bump (.event (code / 256) 0) 1).trans ?_
  split
  · exact Core.sameWork_bump _ _ _
  split
  · refine (Core.sameWork_bump (.dev 6) 1 _).trans ?_
    constructor <;> rfl
  split
  · refine Core.SameWork.trans ?_ (Core.sameWork_msix _ _)
    constructor <;> rfl
  · constructor <;> rfl

theorem Core.sameWork_wmStep (id : Nat) (up : Bool) (thr clr v : Nat) (c : Core) : c.SameWork (c.wmStep id up thr clr v).1 := by
  unfold Core.wmStep
  dsimp only
  split
  · exact (Core.sameWork_setWm _ _ _).trans (Core.sameWork_bump _ _ _)
  · exact Core.sameWork_setWm _ _ _

theorem Core.sameWork_evqWatch (t : Top) (c : Core) : c.SameWork (c.evqWatch t) := by
  unfold Core.evqWatch
  dsimp only
  split
  · exact ((Core.sameWork_wmStep _ _ _ _ _ _).trans (Core.sameWork_evWrite _ _ _ _ _ _)).trans (Core.sameWork_setWm _ _ _)
  · exact Core.sameWork_wmStep _ _ _ _ _ _

/-- An event raised, and what its queue's own watermark makes of it (R405, R408). -/
theorem Core.sameWork_raise (t : Top) (code src subject : Nat) (detail : List Byte) (c : Core) :
    c.SameWork (c.raise t code src subject detail) := (Core.sameWork_evWrite _ _ _ _ _ _).trans (Core.sameWork_evqWatch _ _)

/-- A watermark evaluated (R405). -/
theorem Core.sameWork_watch (t : Top) (id : Nat) (up : Bool) (dflt : Nat × Nat) (v src : Nat) (c : Core) :
    c.SameWork (c.watch t id up dflt v src) := by
  unfold Core.watch
  dsimp only
  split
  · exact (Core.sameWork_wmStep _ _ _ _ _ _).trans (Core.sameWork_raise _ _ _ _ _ _)
  · exact Core.sameWork_wmStep _ _ _ _ _ _

/-- A lifetime counter raised (R410). -/
theorem Core.sameWork_life (t : Top) (die item sub n : Nat) (c : Core) : c.SameWork (c.life t die item sub n) := by
  unfold Core.life
  split
  · exact .refl c
  dsimp only
  split
  · exact (Core.sameWork_telem _ _).trans (Core.sameWork_raise _ _ _ _ _ _)
  · exact Core.sameWork_telem _ _

/-- A queue instance's entries stored (R22, R25). -/
theorem Core.sameWork_putQueue (t : Top) (id inst : Nat) (es : List QEntry) (c : Core) : c.SameWork (c.putQueue t id inst es) := by
  unfold Core.putQueue
  dsimp only
  refine Core.SameWork.trans ?_ ((Core.sameWork_telem _ _).trans (Core.sameWork_watch _ _ _ _ _ _ _))
  split
  · exact .refl c
  · exact Core.sameWork_bump _ _ _

/-- Entries sent to a queue, or made to wait (R22). -/
theorem Core.sameWork_qSend (t : Top) (id inst prod n : Nat) (w : Work) (c : Core) : c.SameWork (c.qSend t id inst prod n w) := by
  unfold Core.qSend
  split
  · exact .refl c
  · exact Core.sameWork_putQueue _ _ _ _ _

theorem Core.sameWork_qRefill (t : Top) (id inst : Nat) (c : Core) : c.SameWork (c.qRefill t id inst) := by
  refine Core.sameWork_foldl _ (fun c e => ?_) _ _
  split
  · exact .refl c
  dsimp only
  split
  · exact .refl c
  · exact Core.sameWork_putQueue _ _ _ _ _

/-- A credit returned (R22). -/
theorem Core.sameWork_qReturn (t : Top) (id inst prod : Nat) (ready : QEntry → Bool) (c : Core) :
    c.SameWork (c.qReturn t id inst prod ready) := by
  unfold Core.qReturn
  split
  · exact .refl c
  split
  · exact ((Core.sameWork_putQueue _ _ _ _ _).trans (Core.sameWork_putQueue _ _ _ _ _)).trans (Core.sameWork_qRefill _ _ _ _)
  · exact (Core.sameWork_putQueue _ _ _ _ _).trans (Core.sameWork_qRefill _ _ _ _)
  · exact Core.sameWork_putQueue _ _ _ _ _

/-- The entries of ended work freed (R22). -/
theorem Core.sameWork_qEnd (t : Top) (id inst : Nat) (p : Work → Bool) (c : Core) : c.SameWork (c.qEnd t id inst p) := by
  unfold Core.qEnd
  split
  · exact (Core.sameWork_putQueue _ _ _ _ _).trans (Core.sameWork_qRefill _ _ _ _)
  · exact .refl c

theorem Core.sameWork_qEndAll (t : Top) (ids : Nat → Bool) (p : Work → Bool) (c : Core) : c.SameWork (c.qEndAll t ids p) :=
  Core.sameWork_foldl _ (fun c _ => c.sameWork_qEnd _ _ _ _) _ _

/-- A transfer put on the mesh (R18, R19). -/
theorem Core.sameWork_meshSend (t : Top) (src dst : Nat) (cls : MeshClass) (cargo : Cargo) (w : Work) (units : Nat) (c : Core) :
    c.SameWork (c.meshSend t src dst cls cargo w units) := by
  unfold Core.meshSend
  split
  · exact .refl c
  · exact (Core.sameWork_telem _ _).trans (Core.sameWork_qSend _ _ _ _ _ _ _)

/-- Transfers ended. -/
theorem Core.sameWork_meshEnd (t : Top) (p : Transfer → Bool) (c : Core) : c.SameWork (c.meshEnd t p) := by
  unfold Core.meshEnd
  dsimp only
  split
  · exact .refl c
  · exact (Core.sameWork_telem _ _).trans (Core.sameWork_qEndAll _ _ _ _)

end Sys2Proof.Machine
end

