-- ==== Sys2Proof/Laws/PerInstr.lean ====
section
/-! SUPPORT. What holds of every command as syntax, command by command. -/

namespace Sys2Proof.Laws.Words

/-- No word of any length spells the command: the table gives it no bits (log 4). -/
def Statement (i : Instr) : Prop := ∀ nbits w : Nat, decodeTableWord nbits w ≠ some i

/-- No command has a word. -/
theorem unspelt (i : Instr) : Statement i := fun _ _ h => nomatch h

theorem deviceQuery : ∀ a, Statement (.deviceQuery a) := fun _ => unspelt _
theorem capQuery : ∀ a, Statement (.capQuery a) := fun _ => unspelt _
theorem jobBind : ∀ a, Statement (.jobBind a) := fun _ => unspelt _
theorem jobRelease : ∀ a, Statement (.jobRelease a) := fun _ => unspelt _
theorem roleSet : ∀ a, Statement (.roleSet a) := fun _ => unspelt _
theorem mboxReclaim : ∀ a, Statement (.mboxReclaim a) := fun _ => unspelt _
theorem ctxAdmit : ∀ a, Statement (.ctxAdmit a) := fun _ => unspelt _
theorem ctxQuery : ∀ a, Statement (.ctxQuery a) := fun _ => unspelt _
theorem ctxSet : ∀ a, Statement (.ctxSet a) := fun _ => unspelt _
theorem ctxPause : ∀ a, Statement (.ctxPause a) := fun _ => unspelt _
theorem ctxPark : ∀ a, Statement (.ctxPark a) := fun _ => unspelt _
theorem ctxResume : ∀ a, Statement (.ctxResume a) := fun _ => unspelt _
theorem ctxRetire : ∀ a, Statement (.ctxRetire a) := fun _ => unspelt _
theorem ctxList : ∀ a, Statement (.ctxList a) := fun _ => unspelt _
theorem tierQuery : ∀ a, Statement (.tierQuery a) := fun _ => unspelt _
theorem quotaSet : ∀ a, Statement (.quotaSet a) := fun _ => unspelt _
theorem quotaQuery : ∀ a, Statement (.quotaQuery a) := fun _ => unspelt _
theorem tier0Set : ∀ a, Statement (.tier0Set a) := fun _ => unspelt _
theorem stripeSet : ∀ a, Statement (.stripeSet a) := fun _ => unspelt _
theorem poolGrant : ∀ a, Statement (.poolGrant a) := fun _ => unspelt _
theorem poolRevoke : ∀ a, Statement (.poolRevoke a) := fun _ => unspelt _
theorem pageQuery : ∀ a, Statement (.pageQuery a) := fun _ => unspelt _
theorem moveStart : ∀ a, Statement (.moveStart a) := fun _ => unspelt _
theorem moveAbort : ∀ a, Statement (.moveAbort a) := fun _ => unspelt _
theorem moveQuery : ∀ a, Statement (.moveQuery a) := fun _ => unspelt _
theorem moveParamSet : ∀ a, Statement (.moveParamSet a) := fun _ => unspelt _
theorem parkTtlSet : ∀ a, Statement (.parkTtlSet a) := fun _ => unspelt _
theorem schedSet : ∀ a, Statement (.schedSet a) := fun _ => unspelt _
theorem schedQuery : ∀ a, Statement (.schedQuery a) := fun _ => unspelt _
theorem clientSchedSet : ∀ a, Statement (.clientSchedSet a) := fun _ => unspelt _
theorem clientSchedQuery : ∀ a, Statement (.clientSchedQuery a) := fun _ => unspelt _
theorem deadlineSet : ∀ a, Statement (.deadlineSet a) := fun _ => unspelt _
theorem deadlineQuery : ∀ a, Statement (.deadlineQuery a) := fun _ => unspelt _
theorem acctQuery : ∀ a, Statement (.acctQuery a) := fun _ => unspelt _
theorem acctCtxQuery : ∀ a, Statement (.acctCtxQuery a) := fun _ => unspelt _
theorem stragglerSet : ∀ a, Statement (.stragglerSet a) := fun _ => unspelt _
theorem shapeCheck : ∀ a, Statement (.shapeCheck a) := fun _ => unspelt _
theorem shapeQuery : ∀ a, Statement (.shapeQuery a) := fun _ => unspelt _
theorem sliceSet : ∀ a, Statement (.sliceSet a) := fun _ => unspelt _
theorem sliceQuery : ∀ a, Statement (.sliceQuery a) := fun _ => unspelt _
theorem planQuery : ∀ a, Statement (.planQuery a) := fun _ => unspelt _
theorem ropeEval : ∀ a, Statement (.ropeEval a) := fun _ => unspelt _
theorem hawkmothQuery : ∀ a, Statement (.hawkmothQuery a) := fun _ => unspelt _
theorem formatQuery : ∀ a, Statement (.formatQuery a) := fun _ => unspelt _
theorem formatPolicySet : ∀ a, Statement (.formatPolicySet a) := fun _ => unspelt _
theorem formatPolicyQuery : ∀ a, Statement (.formatPolicyQuery a) := fun _ => unspelt _
theorem quantEval : ∀ a, Statement (.quantEval a) := fun _ => unspelt _
theorem expEval : ∀ a, Statement (.expEval a) := fun _ => unspelt _
theorem chrysalisQuery : ∀ a, Statement (.chrysalisQuery a) := fun _ => unspelt _
theorem indexCreate : ∀ a, Statement (.indexCreate a) := fun _ => unspelt _
theorem indexLoad : ∀ a, Statement (.indexLoad a) := fun _ => unspelt _
theorem indexSeal : ∀ a, Statement (.indexSeal a) := fun _ => unspelt _
theorem indexMerge : ∀ a, Statement (.indexMerge a) := fun _ => unspelt _
theorem indexQuery : ∀ a, Statement (.indexQuery a) := fun _ => unspelt _
theorem indexDestroy : ∀ a, Statement (.indexDestroy a) := fun _ => unspelt _
theorem searchSet : ∀ a, Statement (.searchSet a) := fun _ => unspelt _
theorem lunaQuery : ∀ a, Statement (.lunaQuery a) := fun _ => unspelt _
theorem portQuery : ∀ a, Statement (.portQuery a) := fun _ => unspelt _
theorem portSet : ∀ a, Statement (.portSet a) := fun _ => unspelt _
theorem portBond : ∀ a b, Statement (.portBond a b) := fun _ _ => unspelt _
theorem laneQuery : ∀ a, Statement (.laneQuery a) := fun _ => unspelt _
theorem portRetrain : ∀ a, Statement (.portRetrain a) := fun _ => unspelt _
theorem pdAlloc : ∀ a, Statement (.pdAlloc a) := fun _ => unspelt _
theorem pdFree : ∀ a, Statement (.pdFree a) := fun _ => unspelt _
theorem regionRegister : ∀ a, Statement (.regionRegister a) := fun _ => unspelt _
theorem regionDeregister : ∀ a, Statement (.regionDeregister a) := fun _ => unspelt _
theorem connOpen : ∀ a, Statement (.connOpen a) := fun _ => unspelt _
theorem connClose : ∀ a, Statement (.connClose a) := fun _ => unspelt _
theorem connQuery : ∀ a, Statement (.connQuery a) := fun _ => unspelt _
theorem recvPost : ∀ a, Statement (.recvPost a) := fun _ => unspelt _
theorem sendPost : ∀ a, Statement (.sendPost a) := fun _ => unspelt _
theorem memIssue : ∀ a, Statement (.memIssue a) := fun _ => unspelt _
theorem cohSubscribe : ∀ a, Statement (.cohSubscribe a) := fun _ => unspelt _
theorem cohDomainSet : ∀ a, Statement (.cohDomainSet a) := fun _ => unspelt _
theorem fabricSet : ∀ a, Statement (.fabricSet a) := fun _ => unspelt _
theorem fabricQuery : ∀ a, Statement (.fabricQuery a) := fun _ => unspelt _
theorem shaperSet : ∀ a, Statement (.shaperSet a) := fun _ => unspelt _
theorem shaperQuery : ∀ a, Statement (.shaperQuery a) := fun _ => unspelt _
theorem gateListSet : ∀ a, Statement (.gateListSet a) := fun _ => unspelt _
theorem gateListQuery : ∀ a, Statement (.gateListQuery a) := fun _ => unspelt _
theorem egressSet : ∀ a, Statement (.egressSet a) := fun _ => unspelt _
theorem egressQuery : ∀ a, Statement (.egressQuery a) := fun _ => unspelt _
theorem eventMaskSet : ∀ a, Statement (.eventMaskSet a) := fun _ => unspelt _
theorem eventQuery : ∀ a, Statement (.eventQuery a) := fun _ => unspelt _
theorem counterSnapshot : ∀ a, Statement (.counterSnapshot a) := fun _ => unspelt _
theorem watermarkSet : ∀ a, Statement (.watermarkSet a) := fun _ => unspelt _
theorem watermarkQuery : ∀ a, Statement (.watermarkQuery a) := fun _ => unspelt _
theorem lifetimeRead : ∀ a, Statement (.lifetimeRead a) := fun _ => unspelt _
theorem lifetimeFlush : ∀ a, Statement (.lifetimeFlush a) := fun _ => unspelt _
theorem scrubSet : ∀ a, Statement (.scrubSet a) := fun _ => unspelt _
theorem jobQuiesce : ∀ a, Statement (.jobQuiesce a) := fun _ => unspelt _
theorem faultQuery : ∀ a, Statement (.faultQuery a) := fun _ => unspelt _
theorem bootQuery : ∀ a, Statement (.bootQuery a) := fun _ => unspelt _
theorem cfgLoad : ∀ a, Statement (.cfgLoad a) := fun _ => unspelt _
theorem cfgRead : ∀ a, Statement (.cfgRead a) := fun _ => unspelt _
theorem fwLoad : ∀ a, Statement (.fwLoad a) := fun _ => unspelt _
theorem selftestSet : ∀ a, Statement (.selftestSet a) := fun _ => unspelt _
theorem selftestRun : ∀ a, Statement (.selftestRun a) := fun _ => unspelt _
theorem selftestQuery : ∀ a, Statement (.selftestQuery a) := fun _ => unspelt _
theorem syncAlloc : ∀ a, Statement (.syncAlloc a) := fun _ => unspelt _
theorem syncFree : ∀ a, Statement (.syncFree a) := fun _ => unspelt _
theorem syncSet : ∀ a, Statement (.syncSet a) := fun _ => unspelt _
theorem syncSignal : ∀ a, Statement (.syncSignal a) := fun _ => unspelt _
theorem syncWait : ∀ a, Statement (.syncWait a) := fun _ => unspelt _
theorem syncQuery : ∀ a, Statement (.syncQuery a) := fun _ => unspelt _
theorem syncCancel : ∀ a, Statement (.syncCancel a) := fun _ => unspelt _
theorem unknownOpcode : ∀ a, Statement (.unknownOpcode a) := fun _ => unspelt _
theorem mailboxClaim : ∀ a b, Statement (.mailboxClaim a b) := fun _ _ => unspelt _
theorem mailboxRelease : ∀ a, Statement (.mailboxRelease a) := fun _ => unspelt _
theorem doorbell : ∀ a b, Statement (.doorbell a b) := fun _ _ => unspelt _
theorem commandTake : Statement (.commandTake) := unspelt _
theorem commandComplete : ∀ a, Statement (.commandComplete a) := fun _ => unspelt _
theorem deviceReset : ∀ a, Statement (.deviceReset a) := fun _ => unspelt _
theorem timeStep : ∀ a, Statement (.timeStep a) := fun _ => unspelt _
theorem timeControlWrite : ∀ a, Statement (.timeControlWrite a) := fun _ => unspelt _
theorem evqCtrlWrite : ∀ a, Statement (.evqCtrlWrite a) := fun _ => unspelt _
theorem evqHeadWrite : ∀ a, Statement (.evqHeadWrite a) := fun _ => unspelt _
theorem watermarkClear : ∀ a b c, Statement (.watermarkClear a b c) := fun _ _ _ => unspelt _
theorem aliasSet : ∀ a b, Statement (.aliasSet a b) := fun _ _ => unspelt _
theorem aliasClear : ∀ a b, Statement (.aliasClear a b) := fun _ _ => unspelt _
theorem aliasInvert : ∀ a b, Statement (.aliasInvert a b) := fun _ _ => unspelt _
theorem registerWrite : ∀ a b c d, Statement (.registerWrite a b c d) := fun _ _ _ _ => unspelt _
theorem farWriteApplied : ∀ a, Statement (.farWriteApplied a) := fun _ => unspelt _
theorem farReadTimeout : ∀ a, Statement (.farReadTimeout a) := fun _ => unspelt _
theorem stepQuery : ∀ a, Statement (.stepQuery a) := fun _ => unspelt _
theorem chunkSubmit : ∀ a, Statement (.chunkSubmit a) := fun _ => unspelt _
theorem statePushOpen : ∀ a, Statement (.statePushOpen a) := fun _ => unspelt _
theorem statePushPage : ∀ a, Statement (.statePushPage a) := fun _ => unspelt _
theorem statePushCutover : ∀ a, Statement (.statePushCutover a) := fun _ => unspelt _
theorem statePushAbort : ∀ a, Statement (.statePushAbort a) := fun _ => unspelt _
theorem statePullOpen : ∀ a, Statement (.statePullOpen a) := fun _ => unspelt _
theorem statePullCopy : ∀ a, Statement (.statePullCopy a) := fun _ => unspelt _
theorem statePullPage : ∀ a, Statement (.statePullPage a) := fun _ => unspelt _
theorem stateAckOpen : ∀ a, Statement (.stateAckOpen a) := fun _ => unspelt _
theorem stateAckPull : ∀ a, Statement (.stateAckPull a) := fun _ => unspelt _
theorem stateAckPage : ∀ a, Statement (.stateAckPage a) := fun _ => unspelt _
theorem stateAckCredit : ∀ a, Statement (.stateAckCredit a) := fun _ => unspelt _
theorem stateAckCutover : ∀ a, Statement (.stateAckCutover a) := fun _ => unspelt _
theorem stateAckDone : ∀ a, Statement (.stateAckDone a) := fun _ => unspelt _
theorem drainMarkMark : ∀ a, Statement (.drainMarkMark a) := fun _ => unspelt _
theorem drainMarkEcho : ∀ a, Statement (.drainMarkEcho a) := fun _ => unspelt _
theorem drainMarkComplete : ∀ a, Statement (.drainMarkComplete a) := fun _ => unspelt _
theorem movePagePush : ∀ a, Statement (.movePagePush a) := fun _ => unspelt _
theorem searchQuery : ∀ a, Statement (.searchQuery a) := fun _ => unspelt _
theorem searchInsert : ∀ a, Statement (.searchInsert a) := fun _ => unspelt _
theorem searchDelete : ∀ a, Statement (.searchDelete a) := fun _ => unspelt _
theorem memRead : ∀ a, Statement (.memRead a) := fun _ => unspelt _
theorem memWrite : ∀ a, Statement (.memWrite a) := fun _ => unspelt _
theorem memAtomic : ∀ a, Statement (.memAtomic a) := fun _ => unspelt _
theorem memCompletion : ∀ a, Statement (.memCompletion a) := fun _ => unspelt _
theorem invalidate : ∀ a, Statement (.invalidate a) := fun _ => unspelt _
theorem send : ∀ a, Statement (.send a) := fun _ => unspelt _
theorem sendAck : ∀ a, Statement (.sendAck a) := fun _ => unspelt _
theorem sendAckCredit : ∀ a, Statement (.sendAckCredit a) := fun _ => unspelt _
theorem sendAckGrant : ∀ a, Statement (.sendAckGrant a) := fun _ => unspelt _
theorem timeSyncRequest : ∀ a b, Statement (.timeSyncRequest a b) := fun _ _ => unspelt _
theorem timeSyncResponse : ∀ a b, Statement (.timeSyncResponse a b) := fun _ _ => unspelt _
theorem unknownMessage : ∀ a, Statement (.unknownMessage a) := fun _ => unspelt _
theorem cellReceive : ∀ a, Statement (.cellReceive a) := fun _ => unspelt _
theorem messageDeliver : ∀ a b, Statement (.messageDeliver a b) := fun _ _ => unspelt _
theorem reassemblyTimeout : ∀ a b c, Statement (.reassemblyTimeout a b c) := fun _ _ _ => unspelt _
theorem reorderSkip : ∀ a b, Statement (.reorderSkip a b) := fun _ _ => unspelt _
theorem completionTimeout : ∀ a, Statement (.completionTimeout a) := fun _ => unspelt _
theorem creditReturnTimer : ∀ a, Statement (.creditReturnTimer a) := fun _ => unspelt _
theorem connGrantTimer : ∀ a, Statement (.connGrantTimer a) := fun _ => unspelt _
theorem connClosed : ∀ a, Statement (.connClosed a) := fun _ => unspelt _
theorem invalidateTimeout : ∀ a, Statement (.invalidateTimeout a) := fun _ => unspelt _
theorem coherentRequest : ∀ a, Statement (.coherentRequest a) := fun _ => unspelt _
theorem dataFrameReceive : ∀ a b, Statement (.dataFrameReceive a b) := fun _ _ => unspelt _
theorem linkAck : ∀ a b, Statement (.linkAck a b) := fun _ _ => unspelt _
theorem linkNak : ∀ a b, Statement (.linkNak a b) := fun _ _ => unspelt _
theorem laneReq : ∀ a b, Statement (.laneReq a b) := fun _ _ => unspelt _
theorem laneMap : ∀ a b, Statement (.laneMap a b) := fun _ _ => unspelt _
theorem linkDown : ∀ a b, Statement (.linkDown a b) := fun _ _ => unspelt _
theorem calReq : ∀ a b, Statement (.calReq a b) := fun _ _ => unspelt _
theorem hello : ∀ a b, Statement (.hello a b) := fun _ _ => unspelt _
theorem helloAck : ∀ a b, Statement (.helloAck a b) := fun _ _ => unspelt _
theorem linkRetrain : ∀ a b, Statement (.linkRetrain a b) := fun _ _ => unspelt _
theorem retryTimer : ∀ a b, Statement (.retryTimer a b) := fun _ _ => unspelt _
theorem retryLimit : ∀ a, Statement (.retryLimit a) := fun _ => unspelt _
theorem laneLockLoss : ∀ a b, Statement (.laneLockLoss a b) := fun _ _ => unspelt _
theorem laneRejoin : ∀ a b, Statement (.laneRejoin a b) := fun _ _ => unspelt _
theorem laneKeepout : ∀ a b, Statement (.laneKeepout a b) := fun _ _ => unspelt _
theorem laneKeepoutEnd : ∀ a b, Statement (.laneKeepoutEnd a b) := fun _ _ => unspelt _
theorem laserLaneLow : ∀ a b, Statement (.laserLaneLow a b) := fun _ _ => unspelt _
theorem laserAllLow : ∀ a, Statement (.laserAllLow a) := fun _ => unspelt _
theorem lightLost : ∀ a, Statement (.lightLost a) := fun _ => unspelt _
theorem lightPresent : ∀ a, Statement (.lightPresent a) := fun _ => unspelt _
theorem bringupAttempt : ∀ a b, Statement (.bringupAttempt a b) := fun _ _ => unspelt _
theorem bringupTimeout : ∀ a, Statement (.bringupTimeout a) := fun _ => unspelt _
theorem retrainTimeout : ∀ a, Statement (.retrainTimeout a) := fun _ => unspelt _
theorem flapHoldEntry : ∀ a, Statement (.flapHoldEntry a) := fun _ => unspelt _
theorem flapHoldEnd : ∀ a, Statement (.flapHoldEnd a) := fun _ => unspelt _
theorem holdWindowExpiry : ∀ a, Statement (.holdWindowExpiry a) := fun _ => unspelt _
theorem portDisableDone : ∀ a, Statement (.portDisableDone a) := fun _ => unspelt _
theorem linkRepeatTimer : ∀ a, Statement (.linkRepeatTimer a) := fun _ => unspelt _
theorem tuningPeriod : ∀ a b c, Statement (.tuningPeriod a b c) := fun _ _ _ => unspelt _
theorem calibrationHold : ∀ a b c, Statement (.calibrationHold a b c) := fun _ _ _ => unspelt _
theorem bondMemberReturn : ∀ a b, Statement (.bondMemberReturn a b) := fun _ _ => unspelt _
theorem frameStart : ∀ a, Statement (.frameStart a) := fun _ => unspelt _
theorem gateEntryChange : ∀ a, Statement (.gateEntryChange a) := fun _ => unspelt _
theorem gateListSwitch : ∀ a, Statement (.gateListSwitch a) := fun _ => unspelt _
theorem egressSample : Statement (.egressSample) := unspelt _
theorem stepBoundary : Statement (.stepBoundary) := unspelt _
theorem idleBoundary : Statement (.idleBoundary) := unspelt _
theorem itemStarved : ∀ a, Statement (.itemStarved a) := fun _ => unspelt _
theorem memberLayerStart : ∀ a, Statement (.memberLayerStart a) := fun _ => unspelt _
theorem scoreBufferGrant : ∀ a, Statement (.scoreBufferGrant a) := fun _ => unspelt _
theorem sliceComplete : ∀ a b, Statement (.sliceComplete a b) := fun _ _ => unspelt _
theorem partialArrive : ∀ a b, Statement (.partialArrive a b) := fun _ _ => unspelt _
theorem chunkAppendDone : ∀ a b, Statement (.chunkAppendDone a b) := fun _ _ => unspelt _
theorem ridgeUnitComplete : ∀ a b c d, Statement (.ridgeUnitComplete a b c d) := fun _ _ _ _ => unspelt _
theorem pageRecompute : ∀ a b c, Statement (.pageRecompute a b c) := fun _ _ _ => unspelt _
theorem holdTimerExpiry : ∀ a, Statement (.holdTimerExpiry a) := fun _ => unspelt _
theorem stepEnd : ∀ a, Statement (.stepEnd a) := fun _ => unspelt _
theorem memberGroupComplete : ∀ a, Statement (.memberGroupComplete a) := fun _ => unspelt _
theorem straggler : ∀ a, Statement (.straggler a) := fun _ => unspelt _
theorem baselineReady : Statement (.baselineReady) := unspelt _
theorem heldMessageTimeout : ∀ a, Statement (.heldMessageTimeout a) := fun _ => unspelt _
theorem promotionComplete : ∀ a, Statement (.promotionComplete a) := fun _ => unspelt _
theorem writeDownComplete : ∀ a, Statement (.writeDownComplete a) := fun _ => unspelt _
theorem pendingDemotionStart : Statement (.pendingDemotionStart) := unspelt _
theorem tier0WriteBack : ∀ a, Statement (.tier0WriteBack a) := fun _ => unspelt _
theorem enginePowerDown : ∀ a, Statement (.enginePowerDown a) := fun _ => unspelt _
theorem enginePowerReady : ∀ a, Statement (.enginePowerReady a) := fun _ => unspelt _
theorem roleSetTimeout : Statement (.roleSetTimeout) := unspelt _
theorem ttlExpiry : ∀ a, Statement (.ttlExpiry a) := fun _ => unspelt _
theorem contextFreed : ∀ a, Statement (.contextFreed a) := fun _ => unspelt _
theorem syncWaitTimeout : ∀ a b, Statement (.syncWaitTimeout a b) := fun _ _ => unspelt _
theorem stallTimerExpiry : ∀ a b c, Statement (.stallTimerExpiry a b c) := fun _ _ _ => unspelt _
theorem pageAckTimeout : ∀ a b c, Statement (.pageAckTimeout a b c) := fun _ _ _ => unspelt _
theorem moveOpenTimeout : ∀ a, Statement (.moveOpenTimeout a) := fun _ => unspelt _
theorem drainTimeout : ∀ a b, Statement (.drainTimeout a b) := fun _ _ => unspelt _
theorem moveRecordExpiry : ∀ a, Statement (.moveRecordExpiry a) := fun _ => unspelt _
theorem searchBatchWindow : ∀ a, Statement (.searchBatchWindow a) := fun _ => unspelt _
theorem centroidUnitComplete : ∀ a b, Statement (.centroidUnitComplete a b) := fun _ _ => unspelt _
theorem listBlockScan : ∀ a b c d, Statement (.listBlockScan a b c d) := fun _ _ _ _ => unspelt _
theorem searchQueryTimeout : ∀ a, Statement (.searchQueryTimeout a) := fun _ => unspelt _
theorem indexMergeSwitch : ∀ a, Statement (.indexMergeSwitch a) := fun _ => unspelt _
theorem indexRetired : ∀ a, Statement (.indexRetired a) := fun _ => unspelt _
theorem oldGenerationFree : ∀ a b, Statement (.oldGenerationFree a b) := fun _ _ => unspelt _
theorem powerGood : Statement (.powerGood) := unspelt _
theorem powerLost : Statement (.powerLost) := unspelt _
theorem powerWarn : Statement (.powerWarn) := unspelt _
theorem perstAssert : Statement (.perstAssert) := unspelt _
theorem perstRelease : Statement (.perstRelease) := unspelt _
theorem pcieFunctionReset : Statement (.pcieFunctionReset) := unspelt _
theorem fibreUnmated : ∀ a, Statement (.fibreUnmated a) := fun _ => unspelt _
theorem fibreMated : ∀ a, Statement (.fibreMated a) := fun _ => unspelt _
theorem txRefclkLoss : Statement (.txRefclkLoss) := unspelt _
theorem txRefclkReturn : Statement (.txRefclkReturn) := unspelt _
theorem i3cIbi : ∀ a, Statement (.i3cIbi a) := fun _ => unspelt _
theorem smbusBlockRead : ∀ a, Statement (.smbusBlockRead a) := fun _ => unspelt _
theorem jtagInstruction : ∀ a, Statement (.jtagInstruction a) := fun _ => unspelt _
theorem ppsEdge : Statement (.ppsEdge) := unspelt _
theorem ppsHoldover : Statement (.ppsHoldover) := unspelt _
theorem ppsOutRise : Statement (.ppsOutRise) := unspelt _
theorem ppsOutFall : Statement (.ppsOutFall) := unspelt _
theorem syncInterval : Statement (.syncInterval) := unspelt _
theorem syncLost : Statement (.syncLost) := unspelt _
theorem timeLocked : Statement (.timeLocked) := unspelt _
theorem timeCorrection : Statement (.timeCorrection) := unspelt _
theorem bootRomDone : ∀ a, Statement (.bootRomDone a) := fun _ => unspelt _
theorem firmwareVerify : Statement (.firmwareVerify) := unspelt _
theorem configApply : Statement (.configApply) := unspelt _
theorem trainingDone : ∀ a b, Statement (.trainingDone a b) := fun _ _ => unspelt _
theorem startupSelftestDone : ∀ a b c, Statement (.startupSelftestDone a b c) := fun _ _ _ => unspelt _
theorem interfaceRetrain : ∀ a b c, Statement (.interfaceRetrain a b c) := fun _ _ _ => unspelt _
theorem selftestSliceStart : ∀ a, Statement (.selftestSliceStart a) := fun _ => unspelt _
theorem selftestFenced : ∀ a, Statement (.selftestFenced a) := fun _ => unspelt _
theorem selftestSliceEnd : ∀ a b c, Statement (.selftestSliceEnd a b c) := fun _ _ _ => unspelt _
theorem patrolRead : ∀ a b c, Statement (.patrolRead a b c) := fun _ _ _ => unspelt _
theorem cxlSurpriseRemoval : ∀ a, Statement (.cxlSurpriseRemoval a) := fun _ => unspelt _
theorem temperatureSample : ∀ a, Statement (.temperatureSample a) := fun _ => unspelt _
theorem thermtrip : ∀ a, Statement (.thermtrip a) := fun _ => unspelt _
theorem powerSample : ∀ a, Statement (.powerSample a) := fun _ => unspelt _
theorem railOvercurrent : ∀ a, Statement (.railOvercurrent a) := fun _ => unspelt _
theorem supplyDroop : ∀ a b, Statement (.supplyDroop a b) := fun _ _ => unspelt _
theorem avsAdjust : ∀ a b, Statement (.avsAdjust a b) := fun _ _ => unspelt _
theorem telemetryRefresh : Statement (.telemetryRefresh) := unspelt _
theorem lifetimeWrite : Statement (.lifetimeWrite) := unspelt _
theorem queueCreditReturn : ∀ a b c, Statement (.queueCreditReturn a b c) := fun _ _ _ => unspelt _
theorem meshTransferReceive : ∀ a b c d, Statement (.meshTransferReceive a b c d) := fun _ _ _ _ => unspelt _
theorem laserInputRestored : ∀ a b, Statement (.laserInputRestored a b) := fun _ _ => unspelt _
theorem pcieReadCompletion : ∀ a b c, Statement (.pcieReadCompletion a b c) := fun _ _ _ => unspelt _

end Sys2Proof.Laws.Words
end

