-- ==== Sys2Proof/WellFormed.lean ====
section
/-! DEFINITION. When a command's operands lie in the ranges the manual gives them (counts of R7, R14, R24, R357, R64):
what a sender may send. A command outside the ranges names nothing in the device, and its meaning finds no record to act
on. -/

namespace Sys2Proof

/-- A flit is 64 bytes (R276). -/
def Flit.wf (f : Flit) : Bool := f.bytes.length == 64

/-- The fields of a LINK flit fit their widths (R280). -/
def LinkFlit.wf (f : LinkFlit) : Bool :=
  f.reqCredits < 65536 && f.rspCredits < 65536 && f.cause < 256 && f.calLane < 256 && f.hold < 65536

/-- The fields of a LINK_CTRL body fit their widths (R299). -/
def LinkCtrl.wf (c : LinkCtrl) : Bool :=
  c.major < 256 && c.minor < 256 && c.port < 256 && c.node < 65536 && c.minLanes < 256 &&
  c.t1 < 2 ^ 64 && c.t2 < 2 ^ 64 && c.t3 < 2 ^ 64

/-- The fields of a TIME_SYNC message fit their widths (R36). -/
def TimeSync.wf (t : TimeSync) : Bool := t.src < 16384 && t.cls < 8 && t.t1 < 2 ^ 64 && t.t2 < 2 ^ 64 && t.t3 < 2 ^ 64

/-- The operands of a command lie in their ranges. -/
def Instr.wf (i : Instr) : Bool :=
  match i with
  | .deviceQuery m => m < 64
  | .capQuery m => m < 64
  | .jobBind m => m < 64
  | .jobRelease m => m < 64
  | .roleSet m => m < 64
  | .mboxReclaim m => m < 64
  | .ctxAdmit m => m < 64
  | .ctxQuery m => m < 64
  | .ctxSet m => m < 64
  | .ctxPause m => m < 64
  | .ctxPark m => m < 64
  | .ctxResume m => m < 64
  | .ctxRetire m => m < 64
  | .ctxList m => m < 64
  | .tierQuery m => m < 64
  | .quotaSet m => m < 64
  | .quotaQuery m => m < 64
  | .tier0Set m => m < 64
  | .stripeSet m => m < 64
  | .poolGrant m => m < 64
  | .poolRevoke m => m < 64
  | .pageQuery m => m < 64
  | .moveStart m => m < 64
  | .moveAbort m => m < 64
  | .moveQuery m => m < 64
  | .moveParamSet m => m < 64
  | .parkTtlSet m => m < 64
  | .schedSet m => m < 64
  | .schedQuery m => m < 64
  | .clientSchedSet m => m < 64
  | .clientSchedQuery m => m < 64
  | .deadlineSet m => m < 64
  | .deadlineQuery m => m < 64
  | .acctQuery m => m < 64
  | .acctCtxQuery m => m < 64
  | .stragglerSet m => m < 64
  | .shapeCheck m => m < 64
  | .shapeQuery m => m < 64
  | .sliceSet m => m < 64
  | .sliceQuery m => m < 64
  | .planQuery m => m < 64
  | .ropeEval m => m < 64
  | .hawkmothQuery m => m < 64
  | .formatQuery m => m < 64
  | .formatPolicySet m => m < 64
  | .formatPolicyQuery m => m < 64
  | .quantEval m => m < 64
  | .expEval m => m < 64
  | .chrysalisQuery m => m < 64
  | .indexCreate m => m < 64
  | .indexLoad m => m < 64
  | .indexSeal m => m < 64
  | .indexMerge m => m < 64
  | .indexQuery m => m < 64
  | .indexDestroy m => m < 64
  | .searchSet m => m < 64
  | .lunaQuery m => m < 64
  | .portQuery m => m < 64
  | .portSet m => m < 64
  | .portBond m _ => m < 64
  | .laneQuery m => m < 64
  | .portRetrain m => m < 64
  | .pdAlloc m => m < 64
  | .pdFree m => m < 64
  | .regionRegister m => m < 64
  | .regionDeregister m => m < 64
  | .connOpen m => m < 64
  | .connClose m => m < 64
  | .connQuery m => m < 64
  | .recvPost m => m < 64
  | .sendPost m => m < 64
  | .memIssue m => m < 64
  | .cohSubscribe m => m < 64
  | .cohDomainSet m => m < 64
  | .fabricSet m => m < 64
  | .fabricQuery m => m < 64
  | .shaperSet m => m < 64
  | .shaperQuery m => m < 64
  | .gateListSet m => m < 64
  | .gateListQuery m => m < 64
  | .egressSet m => m < 64
  | .egressQuery m => m < 64
  | .eventMaskSet m => m < 64
  | .eventQuery m => m < 64
  | .counterSnapshot m => m < 64
  | .watermarkSet m => m < 64
  | .watermarkQuery m => m < 64
  | .lifetimeRead m => m < 64
  | .lifetimeFlush m => m < 64
  | .scrubSet m => m < 64
  | .jobQuiesce m => m < 64
  | .faultQuery m => m < 64
  | .bootQuery m => m < 64
  | .cfgLoad m => m < 64
  | .cfgRead m => m < 64
  | .fwLoad m => m < 64
  | .selftestSet m => m < 64
  | .selftestRun m => m < 64
  | .selftestQuery m => m < 64
  | .syncAlloc m => m < 64
  | .syncFree m => m < 64
  | .syncSet m => m < 64
  | .syncSignal m => m < 64
  | .syncWait m => m < 64
  | .syncQuery m => m < 64
  | .syncCancel m => m < 64
  | .unknownOpcode m => m < 64
  | .mailboxClaim m _ => m < 64
  | .mailboxRelease m => m < 64
  | .doorbell m _ => m < 64
  | .commandTake => true
  | .commandComplete m => m < 64
  | .deviceReset _ => true
  | .timeStep _ => true
  | .timeControlWrite _ => true
  | .evqCtrlWrite _ => true
  | .evqHeadWrite _ => true
  | .watermarkClear q _ _ => 1 ≤ q && q ≤ 16
  | .aliasSet _ _ => true
  | .aliasClear _ _ => true
  | .aliasInvert _ _ => true
  | .registerWrite bar _ _ _ => (bar == 0 || bar == 2 || bar == 4)
  | .farWriteApplied blk => blk < 68
  | .farReadTimeout blk => blk < 68
  | .stepQuery c => c < 16384
  | .chunkSubmit c => c < 16384
  | .statePushOpen c => c < 16384
  | .statePushPage c => c < 16384
  | .statePushCutover c => c < 16384
  | .statePushAbort c => c < 16384
  | .statePullOpen c => c < 16384
  | .statePullCopy c => c < 16384
  | .statePullPage c => c < 16384
  | .stateAckOpen c => c < 16384
  | .stateAckPull c => c < 16384
  | .stateAckPage c => c < 16384
  | .stateAckCredit c => c < 16384
  | .stateAckCutover c => c < 16384
  | .stateAckDone c => c < 16384
  | .drainMarkMark c => c < 16384
  | .drainMarkEcho c => c < 16384
  | .drainMarkComplete c => c < 16384
  | .movePagePush _ => true
  | .searchQuery c => c < 16384
  | .searchInsert c => c < 16384
  | .searchDelete c => c < 16384
  | .memRead c => c < 16384
  | .memWrite c => c < 16384
  | .memAtomic c => c < 16384
  | .memCompletion c => c < 16384
  | .invalidate c => c < 16384
  | .send c => c < 16384
  | .sendAck c => c < 16384
  | .sendAckCredit c => c < 16384
  | .sendAckGrant c => c < 16384
  | .timeSyncRequest port msg => port < 8 && msg.wf
  | .timeSyncResponse port msg => port < 8 && msg.wf
  | .unknownMessage c => c < 16384
  | .cellReceive port => port < 8
  | .messageDeliver c _ => c < 16384
  | .reassemblyTimeout c _ id => c < 16384 && id < 65536
  | .reorderSkip c _ => c < 16384
  | .completionTimeout _ => true
  | .creditReturnTimer c => c < 16384
  | .connGrantTimer c => c < 16384
  | .connClosed c => c < 16384
  | .invalidateTimeout _ => true
  | .coherentRequest _ => true
  | .dataFrameReceive port flits => port < 8 && flits.all Flit.wf
  | .linkAck port f => port < 8 && f.wf
  | .linkNak port f => port < 8 && f.wf
  | .laneReq port f => port < 8 && f.wf
  | .laneMap port f => port < 8 && f.wf
  | .linkDown port f => port < 8 && f.wf
  | .calReq port f => port < 8 && f.wf
  | .hello port msg => port < 8 && msg.wf
  | .helloAck port msg => port < 8 && msg.wf
  | .linkRetrain port msg => port < 8 && msg.wf
  | .retryTimer port _ => port < 8
  | .retryLimit port => port < 8
  | .laneLockLoss port lane => port < 8 && lane.lane < 16
  | .laneRejoin port lane => port < 8 && lane < 16
  | .laneKeepout port lane => port < 8 && lane < 16
  | .laneKeepoutEnd port lane => port < 8 && lane < 16
  | .laserLaneLow port lane => port < 8 && lane < 16
  | .laserAllLow port => port < 8
  | .lightLost port => port < 8
  | .lightPresent port => port < 8
  | .bringupAttempt port _ => port < 8
  | .bringupTimeout port => port < 8
  | .retrainTimeout port => port < 8
  | .flapHoldEntry port => port < 8
  | .flapHoldEnd port => port < 8
  | .holdWindowExpiry port => port < 8
  | .portDisableDone port => port < 8
  | .linkRepeatTimer port => port < 8
  | .tuningPeriod port lane _ => port < 8 && lane < 16
  | .calibrationHold port lane _ => port < 8 && lane.dir < 2 && lane.lane < 16
  | .bondMemberReturn port _ => port < 8
  | .frameStart port => port < 8
  | .gateEntryChange port => port < 8
  | .gateListSwitch port => port < 8
  | .egressSample => true
  | .stepBoundary => true
  | .idleBoundary => true
  | .itemStarved _ => true
  | .memberLayerStart _ => true
  | .scoreBufferGrant crest => crest < 32
  | .sliceComplete _ _ => true
  | .partialArrive _ _ => true
  | .chunkAppendDone _ _ => true
  | .ridgeUnitComplete _ h _ _ => h < 128
  | .pageRecompute _ _ tier => tier < 4
  | .holdTimerExpiry _ => true
  | .stepEnd _ => true
  | .memberGroupComplete _ => true
  | .straggler ctx => ctx < 131072
  | .baselineReady => true
  | .heldMessageTimeout ctx => ctx < 131072
  | .promotionComplete _ => true
  | .writeDownComplete _ => true
  | .pendingDemotionStart => true
  | .tier0WriteBack _ => true
  | .enginePowerDown _ => true
  | .enginePowerReady _ => true
  | .roleSetTimeout => true
  | .ttlExpiry ctx => ctx < 131072
  | .contextFreed ctx => ctx < 131072
  | .syncWaitTimeout summit w => summit < 4 && w < 16384
  | .stallTimerExpiry _ layer page => layer < 160 && page < 4096
  | .pageAckTimeout _ layer page => layer < 160 && page < 4096
  | .moveOpenTimeout _ => true
  | .drainTimeout _ c => c < 16384
  | .moveRecordExpiry _ => true
  | .searchBatchWindow idx => idx < 16
  | .centroidUnitComplete _ _ => true
  | .listBlockScan crest idx _ _ => crest < 32 && idx < 16
  | .searchQueryTimeout _ => true
  | .indexMergeSwitch idx => idx < 16
  | .indexRetired idx => idx < 16
  | .oldGenerationFree idx _ => idx < 16
  | .powerGood => true
  | .powerLost => true
  | .powerWarn => true
  | .perstAssert => true
  | .perstRelease => true
  | .pcieFunctionReset => true
  | .fibreUnmated port => port < 8
  | .fibreMated port => port < 8
  | .txRefclkLoss => true
  | .txRefclkReturn => true
  | .i3cIbi _ => true
  | .smbusBlockRead _ => true
  | .jtagInstruction _ => true
  | .ppsEdge => true
  | .ppsHoldover => true
  | .ppsOutRise => true
  | .ppsOutFall => true
  | .syncInterval => true
  | .syncLost => true
  | .timeLocked => true
  | .timeCorrection => true
  | .bootRomDone _ => true
  | .firmwareVerify => true
  | .configApply => true
  | .trainingDone _ _ => true
  | .startupSelftestDone _ links repaired => links.all (· < 124) && repaired.all (· < 64)
  | .interfaceRetrain stack _ _ => stack < 16
  | .selftestSliceStart die => die < 64
  | .selftestFenced die => die < 64
  | .selftestSliceEnd die _ _ => die < 64
  | .patrolRead stack _ _ => stack < 16
  | .cxlSurpriseRemoval _ => true
  | .temperatureSample temps => temps.length == 64
  | .thermtrip die => die < 64
  | .powerSample rails => rails.length == 11
  | .railOvercurrent rail => rail < 11
  | .supplyDroop die _ => die < 64
  | .avsAdjust rail _ => rail < 11
  | .telemetryRefresh => true
  | .lifetimeWrite => true
  | .queueCreditReturn q _ prod => 1 ≤ q && q ≤ 16 && prod < 64
  | .meshTransferReceive link dir _ _ => link < 124 && dir < 2
  | .laserInputRestored port lane => port < 8 && lane < 16
  | .pcieReadCompletion _ _ _ => true

end Sys2Proof
end

