-- ==== Sys2Proof/Tests/Slice0.lean ====
section
/-! SUPPORT. Tests by evaluation: for each statement states and operands that meet the hypotheses of its clauses, at the edges of
their ranges; an ill-formed command for each check of operands; and the manual's worked examples, whose numbers are its own. -/

open Sys2Proof Sys2Proof.Machine
namespace Sys2Proof.Tests

set_option Elab.async false

/-! ### States to test on -/

/-- A device that start-up has made ready, at 2 s of package time, with node ID 1. -/
def readyS : State := { State.reset with
  top := { ({} : Top) with dev := .ready, phase := 0, fwValid := true, nodeId := 1, time := { now := 2000000000 } } }

/-- A shape of one layer with one head of dimension 64, in BF16, and sequences of 1,024 tokens. -/
def shapeB : List Byte :=
  [1, 1, 1, 1] ++ le 2 1 ++ le 2 1 ++ le 2 1 ++ le 2 64 ++ le 4 1024 ++ le 2 1 ++ [1, 1] ++ le 4 0 ++ le 4 0x461C4000 ++ le 4 0 ++
  le 2 64 ++ [1, 1] ++ zeros 804

/-- A device with a job of that shape bound to it. -/
def boundS : State := { readyS with
  top := { readyS.top with dev := .bound }
  core := { readyS.core with
    job := some { id := 5, shape := shapeB, clientCount := 2, framesPerStack := 1000, f1 := 16000 }
    tiers := { readyS.core.tiers with tier0 := partsOf readyS.core.pact.role } } }

/-- A command of an opcode with some argument bytes and a handle. -/
def mk (op : Nat) (args : List Byte) (h : Nat := 0) : Cmd :=
  { opcode := op, tag := 1, length := args.length, handle := h, flags := 0, vector := 0, args := args }

/-- The state with that command taken from mailbox 0. -/
def put (s : State) (a : Cmd) : State := { s with core := s.core.onHost (fun h => { h with
  mboxes := Tbl.set h.mboxes 0 { owner := 1, phase := .running, tag := 1, taken := some a, takenIn := s.top.dev }, serial := [0] }) }

/-- The state with a command of that opcode, arguments and handle taken. -/
def at_ (s : State) (op : Nat) (args : List Byte) (h : Nat := 0) : State := put s (mk op args h)

/-- The state with a context given, as index 1, of generation 1. -/
def withCtx (x : Ctx) (s : State) : State := { s with core := { s.core with ctxs := [(1, { x with gen := 1 })] } }

/-- The handle of that context. -/
def h1 : Nat := mkHandle 1 1

/-- Whether mailbox m holds a command of opcode op that is not yet run. -/
def takenB (s : State) (m op : Nat) (a : Cmd) : Bool :=
  s.top.live && (s.core.mbox m).taken == some a && !(s.core.mbox m).started && (s.core.mbox m).result.isNone && a.opcode == op &&
  (!isSerial op || s.core.host.serial.head? == some m)

theorem taken_of {s : State} {m op : Nat} {a : Cmd} (h : takenB s m op a = true) : Taken s m op a := by
  simp only [takenB, Bool.and_eq_true, Bool.or_eq_true, beq_iff_eq, Bool.not_eq_true', Option.isNone_iff_eq_none] at h
  obtain ⟨⟨⟨⟨⟨h1, h2⟩, h3⟩, h4⟩, h5⟩, h6⟩ := h
  refine ⟨h1, h2, h3, h4, h5, fun hs => ?_⟩
  rcases h6 with h6 | h6
  · simp [hs] at h6
  · exact h6

/-- Whether the command passes the checks of length, state and handle as well. -/
def takesB (s : State) (m op : Nat) (a : Cmd) : Bool :=
  takenB s m op a && ((fixedLen op).map (fun n => decide (n ≤ a.length))).getD false && decide (a.length ≤ 4048) &&
  illegalState a (s.core.mbox m).takenIn s.top.dev == none &&
  (match handleRule a with
  | .zero => a.handle == 0
  | .ctx => !s.core.stale s.top a.handle
  | .optional => a.handle == 0 || !s.core.stale s.top a.handle
  | .any => true)

theorem takes_of {s : State} {m op : Nat} {a : Cmd} (h : takesB s m op a = true) : Takes s m op a := by
  unfold takesB at h
  simp only [Bool.and_eq_true, beq_iff_eq, decide_eq_true_eq] at h
  obtain ⟨⟨⟨⟨h1, h2⟩, h3⟩, h4⟩, h6⟩ := h
  have hf : ∃ n, fixedLen op = some n ∧ n ≤ a.length := by
    cases hn : fixedLen op with
    | none => simp [hn] at h2
    | some n => exact ⟨n, rfl, by simpa [hn] using h2⟩
  have hh : handleFits s a := by
    unfold handleFits
    cases hr : handleRule a <;> simp_all
  exact ⟨taken_of h1, hf, h3, h4, hh⟩

/-! ### Witnesses: the whole machine, mailboxes and registers -/

theorem test_step_front : ({ readyS with pending := [.telemetryRefresh] } : State).pending = [.telemetryRefresh] := rfl
theorem test_dead : ({ readyS with top := { readyS.top with dev := .off } } : State).top.live = false := by decide +kernel
theorem test_power_good : ∃ t, exec .powerGood { readyS with top := { readyS.top with dev := .off } } = .next t ∧ t.top.dev = .boot :=
  ⟨_, rfl, by decide +kernel⟩
theorem test_top_inv : Claims.TopInv readyS.top := by constructor <;> decide
theorem test_step_ready : ∃ t, step readyS = .next t := ⟨_, rfl⟩
theorem test_opcode_unknown : Taken (at_ readyS 0x0F01 []) 0 0x0F01 (mk 0x0F01 []) ∧ fixedLen 0x0F01 = none := ⟨taken_of (by decide +kernel), by decide +kernel⟩
theorem test_length_short : Taken (at_ boundS 0x0203 [1]) 0 0x0203 (mk 0x0203 [1]) ∧ (mk 0x0203 [1]).length < 2 := ⟨taken_of (by decide +kernel), by decide +kernel⟩
theorem test_length_long : let a := { mk 0x0101 [] with length := 4049 }
    Taken (put readyS a) 0 0x0101 a ∧ 4048 < a.length := ⟨taken_of (by decide +kernel), by decide +kernel⟩
theorem test_illegal_then : let s := at_ readyS 0x0202 [] h1
    Taken s 0 0x0202 (mk 0x0202 [] h1) ∧ isSerial 0x0202 = false ∧ legalIn (mk 0x0202 [] h1) (s.core.mbox 0).takenIn = false :=
  ⟨taken_of (by decide +kernel), by decide +kernel⟩
theorem test_illegal_now : let s := at_ readyS 0x0104 (zeros 4)
    Taken s 0 0x0104 (mk 0x0104 (zeros 4)) ∧ isSerial 0x0104 = true ∧ legalIn (mk 0x0104 (zeros 4)) s.top.dev = false :=
  ⟨taken_of (by decide +kernel), by decide +kernel⟩
theorem test_illegal_draining : let s := { at_ boundS 0x0202 [] h1 with top := { boundS.top with dev := .draining } }
    Taken s 0 0x0202 (mk 0x0202 [] h1) ∧ isSerial 0x0202 = false ∧ legalIn (mk 0x0202 [] h1) (s.core.mbox 0).takenIn = true ∧
    jobOnly (mk 0x0202 [] h1) = true ∧ s.top.dev = .draining := ⟨taken_of (by decide +kernel), by decide +kernel⟩
theorem test_handle_not_zero : let a := mk 0x0101 [] 7
    Taken (put readyS a) 0 0x0101 a ∧ illegalState a .ready .ready = none ∧ handleRule a = .zero ∧ a.handle ≠ 0 := ⟨taken_of (by decide +kernel), by decide +kernel⟩
theorem test_handle_stale : let a := mk 0x0202 [] h1
    Taken (put boundS a) 0 0x0202 a ∧ illegalState a .bound .bound = none ∧ handleRule a = .ctx ∧ (put boundS a).core.stale boundS.top a.handle = true :=
  ⟨taken_of (by decide +kernel), by decide +kernel⟩
theorem test_handle_optional : let a := mk 0x0E05 (zeros 32) h1
    Taken (put boundS a) 0 0x0E05 a ∧ illegalState a .bound .bound = none ∧ handleRule a = .optional ∧ a.handle ≠ 0 ∧
    (put boundS a).core.stale boundS.top a.handle = true := ⟨taken_of (by decide +kernel), by decide +kernel⟩
/-- Mailbox 63 with an owner and a phase. -/
def boxS (o : Word) (p : Phase) : State := { readyS with core := readyS.core.updMbox 63 (fun b => { b with owner := o, phase := p }) }
theorem test_claim_free : readyS.top.live = true ∧ (readyS.core.mbox 63).owner = 0 := by decide +kernel
theorem test_release_done : ((boxS 9 .done).core.mbox 63).owner ≠ 0 ∧ ((boxS 9 .done).core.mbox 63).phase = .done := by decide +kernel
theorem test_release_running : ((boxS 9 .running).core.mbox 63).owner ≠ 0 ∧ ((boxS 9 .running).core.mbox 63).phase = .running := by decide +kernel
theorem test_doorbell_fits : let b := (boxS 9 .idle).core.mbox 63
    ¬ (readyS.top.dev = .faulted ∧ readyS.top.primaryDown = true) ∧ b.owner ≠ 0 ∧ b.phase = .idle ∧ (0 : Word).toNat % 65536 = (Cmd.ofArea b.area).tag := by
  decide
theorem test_doorbell_wrong_tag : (1 : Word).toNat % 65536 ≠ (Cmd.ofArea ((boxS 9 .idle).core.mbox 63).area).tag := by decide +kernel
theorem test_take : let s : State := { boxS 9 .pending with core := (boxS 9 .pending).core.onHost (fun h => { h with dbOrder := [63] }) }
    s.top.live = true ∧ s.top.fwValid = true ∧ s.top.primaryDown = false ∧ s.core.underTest s.top.primaryDie = false ∧
    s.core.host.dbOrder = [63] ∧ (s.core.mbox 63).taken = none := by decide +kernel
theorem test_complete : let s : State := { put readyS (mk 0x0101 []) with core := (put readyS (mk 0x0101 [])).core.stage 0 .ok 0 [] }
    (s.core.mbox 0).taken = some (mk 0x0101 []) ∧ (s.core.mbox 0).result = some ⟨.ok, 0, []⟩ ∧ (s.core.mbox 0).discard = false ∧
    (s.core.mbox 0).reclaim = [] ∧ s.core.job.bind Job.releaseMbox ≠ some 0 := by decide +kernel
theorem test_evq_disable : ({ readyS with core := readyS.core.onHost (fun h => { h with evqEnable := true }) } : State).core.host.evqEnable = true ∧
    (0 : Word).getLsbD 0 = false := by decide +kernel
theorem test_evq_disabled : readyS.core.host.evqEnable = false := by decide +kernel
theorem test_bad_size : blockAt 0x0010FFFC = some (.time, 0xFFFC) ∧ ¬ ((2 : Nat) = 4 ∧ 0x0010FFFC % 4 = 0) ∧ ¬ ((2 : Nat) = 8 ∧ 0x0010FFFC % 8 = 0) := by decide +kernel
theorem test_no_block : blockAt 0x00110000 = none ∧ blockAt 0x10000000 = none ∧ blockAt 0x01200000 = none := by decide +kernel
theorem test_far_write : blockAt 0x077FFFF8 = some (.oport 7, 0xFFFF8) ∧ 0x077FFFF8 % 4 = 0 ∧ (Block.oport 7).far = true ∧
    ¬ (0xFFFF8 / 65536 = 0 ∧ 0xFFFF8 % 0x4000 = 0x3FFC) ∧ ((Block.oport 7).die.map readyS.top.gone).getD false = false ∧
    readyS.core.host.farWrites.get? (Block.oport 7).num = none := by decide +kernel
/-- A state in which a write to port 7's block waits. -/
def farS : State := { readyS with core := readyS.core.onHost (fun h => { h with farWrites := [(61, (0, 0x800#32))] }) }
theorem test_far_busy : farS.core.host.farWrites.get? (Block.oport 7).num ≠ none := by decide +kernel
theorem test_area_edges : (63 : Nat) < 64 ∧ 0xFE8 + 8 ≤ 0xFF0 ∧ 0x1000 ≤ 0x1FFF ∧ 0x1FFF < 0x2000 ∧ 0x7FF8 + 8 ≤ 0x8000 := by decide +kernel
theorem test_far_applied : farS.core.host.farWrites.get? (54 + 7) = some (0, 0x800#32) ∧ farS.core.fenced (portDie 7) = false ∧
    readyS.core.host.farWrites.get? (Block.oport 7).num = none ∧ Block.ofNum (Block.oport 7).num = some (.oport 7) ∧
    ((Block.oport 7).die.map farS.core.fenced).getD false = false := by decide +kernel
theorem test_far_fenced : let c := farS.core.onTelem (fun x => { x with tests := [(portDie 7, { state := 2 })] })
    ((Block.oport 7).die.map c.fenced).getD false = true := by decide +kernel
theorem test_far_read : Block.ofNum 61 = some (.oport 7) ∧ readyS.top.live = true := by decide +kernel
theorem test_wm_clear : 3 < qCount 1 ∧ (2 : Word).getLsbD 1 = true := by decide +kernel

/-! ### Witnesses: time, reset and the device -/

/-- The ready device with another TIME block. -/
def timeS (b : TimeBlk) : State := { readyS with top := { readyS.top with time := b } }
theorem test_step_forward : readyS.top.dev = .ready ∧ readyS.top.time.now < readyS.top.time.stepHi.toNat * 2 ^ 32 + (2000000001 : Word).toNat := by decide +kernel
theorem test_step_back : readyS.top.time.stepHi.toNat * 2 ^ 32 + (2000000000 : Word).toNat ≤ readyS.top.time.now := by decide +kernel
theorem test_step_bound : ¬ (boundS.top.dev = .boot ∨ boundS.top.dev = .train ∨ boundS.top.dev = .selftest ∨ boundS.top.dev = .ready) := by decide +kernel
theorem test_source_change : let b : TimeBlk := { control := 0x801, locked := true }
    (timeS b).top.time.locked = true ∧ (timeS b).top.live = true ∧ b.source = 1 := by decide +kernel
theorem test_pps_reject : let b : TimeBlk := { now := 2001000004, control := 0x801 }
    b.source = 1 ∧ b.holdover = false ∧ 1000000 < ppsError (b.now - 2) ∧ 1000000 < ppsError (b.now - 3) := by decide +kernel
theorem test_pps_edge : let b : TimeBlk := { now := 2001000002, control := 0x801 }
    b.source = 1 ∧ ¬ (ppsError (b.now - 2) < -1000000 ∨ 1000000 < ppsError (b.now - 2)) ∧
    ¬ (ppsError (b.now - 3) < -1000000 ∨ 1000000 < ppsError (b.now - 3)) := by decide +kernel
theorem test_pps_late : let b : TimeBlk := { now := 2500000000, control := 0x801, lastPps := some 0 }
    b.source = 1 ∧ b.holdover = false ∧ b.lastPps = some 0 ∧ 0 + 2500000000 ≤ b.now := by decide +kernel
theorem test_pps_rise : let b : TimeBlk := { now := 2000000000, control := 0x10800, ppsOutSec := 1 }
    b.ppsOutEn = true ∧ b.ppsOut = false ∧ b.ppsOutSec < b.now / 1000000000 := by decide +kernel
theorem test_pps_fall : let b : TimeBlk := { now := 2000100000, ppsOut := true, ppsOutSec := 2 }
    b.ppsOut = true ∧ b.ppsOutSec * 1000000000 + 100000 ≤ b.now := by decide +kernel
/-- A device whose port 0 is UP with a peer, and whose time follows the fabric. -/
def syncS : State := { timeS { now := 2000000000, control := 0x802, syncSeq := 9, goodRun := 16, syncAsked := true } with
  core := { readyS.core with ports := [(0, { state := .up, txMap := 0xFFFF, rxMap := 0xFFFF, rxLocked := 0xFFFF })] } }
theorem test_sync_due : let b := syncS.top.time
    b.source = 2 ∧ b.syncSentAt + b.syncNs ≤ b.now ∧ syncS.core.syncPortUp syncS.top b.syncPort = true := by decide +kernel
theorem test_sync_other : (8 : Word) ≠ syncS.top.time.syncSeq ∧ readyS.top.time.syncAsked = false := by decide +kernel
theorem test_sync_answer : let b := syncS.top.time
    let t4 : Int := syncS.top.dieTime (portDie 0)
    let q : TimeSync := { src := 2, cls := 0, seq := 9, t1 := 1999998000, t2 := 1999998999, t3 := 1999999000 }
    q.seq = b.syncSeq ∧ b.syncAsked = true ∧ b.source = 2 ∧ syncS.core.syncPortUp syncS.top 0 = true ∧
    wrap64 ((t4 - q.t1) - ((q.t3 : Int) - q.t2)) ≤ 2000 ∧ wrap64 (((q.t2 : Int) - q.t1) - (t4 - q.t3)) = -1 ∧ (-1 : Int).tdiv 2 = 0 := by decide +kernel
theorem test_sync_slow : let b := syncS.top.time
    let t4 : Int := syncS.top.dieTime (portDie 0)
    let q : TimeSync := { src := 2, cls := 0, seq := 9, t1 := 1999997999, t2 := 1999999000, t3 := 1999999000 }
    q.seq = b.syncSeq ∧ 2000 < wrap64 ((t4 - q.t1) - ((q.t3 : Int) - q.t2)) := by decide +kernel
theorem test_sync_request : (syncS.core.port 0).state = .up ∧ (syncS.core.port 0).mayStart true 128 = true ∧ syncS.core.txRoom syncS.top 0 84 = true := by decide +kernel
theorem test_sync_lost : syncS.top.time.syncValidAt + 16 * syncS.top.time.syncNs ≤ syncS.top.time.now := by decide +kernel
theorem test_lock : syncS.top.time.source ≠ 0 ∧ 16 ≤ syncS.top.time.goodRun := by decide +kernel
theorem test_correct : syncS.top.primaryDown = false ∧ syncS.top.time.corrected / 1000000 < syncS.top.time.now / 1000000 ∧
    syncS.top.primaryDie ≠ 63 ∧ syncS.top.gone 63 = false := by decide +kernel
theorem test_reset_key : (0x1A5 : Word).toNat % 256 = 0xA5 ∧ (0x1A5 : Word).getLsbD 8 = true ∧
    ¬ ((0xA5 : Word).toNat % 256 = 0xA5 ∧ (0xA5 : Word).getLsbD 8 = true) := by decide +kernel
theorem test_device_query : Takes (at_ readyS 0x0101 []) 0 0x0101 (mk 0x0101 []) ∧ Takes (at_ readyS 0x0102 []) 0 0x0102 (mk 0x0102 []) :=
  ⟨takes_of (by decide +kernel), takes_of (by decide +kernel)⟩
/-- A shape record that passes its checks, by evaluation. -/
theorem shape_fine {q : List Byte} (h : (match shapeCheck q with
    | .ok _ => true
    | .error _ => false) = true) : shapeCheck q = .ok () := by
  cases hc : shapeCheck q with
  | ok u => rfl
  | error e => rw [hc] at h; exact absurd h Bool.false_ne_true
theorem test_job_bind : let a := mk 0x0103 (shapeB ++ le 4 5 ++ [1, 0] ++ le 2 256 ++ zeros 16)
    Takes (put readyS a) 0 0x0103 a ∧ readyS.top.nodeId ≠ 0x3FFF ∧ shapeCheck (a.args.take 840) = .ok () ∧ a.arg 840 4 ≠ 0 ∧
    Role.ofCode (a.arg 844 1) = some .prompt ∧ 1 ≤ a.arg 846 2 ∧ a.arg 846 2 ≤ 256 := ⟨takes_of (by decide +kernel), by decide +kernel, shape_fine (by decide +kernel), by decide +kernel⟩
theorem test_job_release : Takes (at_ boundS 0x0104 (zeros 4)) 0 0x0104 (mk 0x0104 (zeros 4)) := takes_of (by decide +kernel)
theorem test_role_set : Takes (at_ boundS 0x0105 [1, 1, 0, 0]) 0 0x0105 (mk 0x0105 [1, 1, 0, 0]) ∧ Role.ofCode 1 = some .prompt ∧
    Takes (at_ boundS 0x0105 [2, 0, 0, 0]) 0 0x0105 (mk 0x0105 [2, 0, 0, 0]) := ⟨takes_of (by decide +kernel), by decide +kernel, takes_of (by decide +kernel)⟩
theorem test_reclaim : Takes (put (boxS 9 .idle) (mk 0x0106 [63, 0, 0, 0])) 0 0x0106 (mk 0x0106 [63, 0, 0, 0]) ∧
    Takes (put (boxS 9 .running) (mk 0x0106 [63, 0, 0, 0])) 0 0x0106 (mk 0x0106 [63, 0, 0, 0]) ∧
    ((put (boxS 9 .idle) (mk 0x0106 [63, 0, 0, 0])).core.mbox 63).phase = .idle ∧
    ((put (boxS 9 .running) (mk 0x0106 [63, 0, 0, 0])).core.mbox 63).phase = .running := ⟨takes_of (by decide +kernel), takes_of (by decide +kernel), by decide +kernel⟩

/-! ### Witnesses: contexts and tiers -/

theorem test_ctx_admit : let a := mk 0x0201 ([1, 7, 15, 3] ++ le 4 1024 ++ zeros 8)
    let s := put boundS a
    Takes s 0 0x0201 a ∧ s.core.isClient 1 = true ∧ 3 ∈ s.top.summitsUp ∧ 1024 ≤ shMax s.core.shape ∧ (s.core.summit 3).ctxNext < ctxTotal 3 ∧
    1000000000 ≤ s.top.time.now ∧ s.core.findRegion 1024 = some 0 := ⟨takes_of (by decide +kernel), by decide +kernel⟩
/-- The bound device with context 1 in a state. -/
def ctxS (st : CtxState) : State := withCtx { state := st, maxLen := 1024, ttlAt := some 2000000000 } boundS
theorem test_ctx_query : Takes (at_ (ctxS .generate) 0x0202 [] h1) 0 0x0202 (mk 0x0202 [] h1) := takes_of (by decide +kernel)
theorem test_ctx_set : Takes (at_ (ctxS .generate) 0x0203 [7, 15] h1) 0 0x0203 (mk 0x0203 [7, 15] h1) := takes_of (by decide +kernel)
theorem test_ctx_set_no : Takes (at_ (ctxS .faulted) 0x0203 [7, 15] h1) 0 0x0203 (mk 0x0203 [7, 15] h1) := takes_of (by decide +kernel)
theorem test_ctx_pause : Takes (at_ (ctxS .generate) 0x0204 [] h1) 0 0x0204 (mk 0x0204 [] h1) ∧
    Takes (at_ (ctxS .paused) 0x0204 [] h1) 0 0x0204 (mk 0x0204 [] h1) := ⟨takes_of (by decide +kernel), takes_of (by decide +kernel)⟩
theorem test_ctx_pause_no : Takes (at_ (ctxS .parked) 0x0204 [] h1) 0 0x0204 (mk 0x0204 [] h1) := takes_of (by decide +kernel)
theorem test_ctx_park : Takes (at_ (ctxS .paused) 0x0205 (le 4 86400) h1) 0 0x0205 (mk 0x0205 (le 4 86400) h1) ∧ rd (le 4 86400) 0 4 ≤ 86400 ∧
    Takes (at_ (ctxS .parked) 0x0205 (le 4 0) h1) 0 0x0205 (mk 0x0205 (le 4 0) h1) := ⟨takes_of (by decide +kernel), by decide +kernel, takes_of (by decide +kernel)⟩
theorem test_ctx_park_no : Takes (at_ (ctxS .generate) 0x0205 (le 4 0) h1) 0 0x0205 (mk 0x0205 (le 4 0) h1) := takes_of (by decide +kernel)
theorem test_ctx_resume : Takes (at_ (ctxS .paused) 0x0206 [] h1) 0 0x0206 (mk 0x0206 [] h1) ∧
    Takes (at_ (ctxS .parked) 0x0206 [] h1) 0 0x0206 (mk 0x0206 [] h1) := ⟨takes_of (by decide +kernel), takes_of (by decide +kernel)⟩
theorem test_ctx_resume_no : Takes (at_ (ctxS .generate) 0x0206 [] h1) 0 0x0206 (mk 0x0206 [] h1) := takes_of (by decide +kernel)
theorem test_ctx_retire : Takes (at_ (ctxS .paused) 0x0207 [] h1) 0 0x0207 (mk 0x0207 [] h1) ∧
    Takes (at_ (ctxS .draining) 0x0207 [] h1) 0 0x0207 (mk 0x0207 [] h1) := ⟨takes_of (by decide +kernel), takes_of (by decide +kernel)⟩
theorem test_ctx_retire_no : Takes (at_ (ctxS .movingIn) 0x0207 [] h1) 0 0x0207 (mk 0x0207 [] h1) := takes_of (by decide +kernel)
theorem test_ctx_list : let a := mk 0x0208 (le 2 0x3FE ++ [1, 1] ++ le 4 0)
    Takes (put (ctxS .paused) a) 0 0x0208 a ∧ a.arg 3 1 % 2 = 1 ∧ (put (ctxS .paused) a).core.isClient (a.arg 2 1) = true := ⟨takes_of (by decide +kernel), by decide +kernel⟩
theorem test_ttl_over : let x := (ctxS .parked).core.ctx 1
    x.state = .parked ∧ x.ttlAt = some 2000000000 ∧ 2000000000 ≤ (ctxS .parked).top.time.now := by decide +kernel
theorem test_ttl_before : let s := withCtx { state := .parked, ttlAt := some 2000000001 } boundS
    (s.core.ctx 1).ttlAt = some 2000000001 ∧ s.top.time.now < 2000000001 := by decide +kernel
theorem test_ctx_freed : let x := (ctxS .draining).core.ctx 1
    x.state = .draining ∧ x.leaving = false ∧ x.msgs = 0 ∧ x.pins = 0 ∧ x.waits = 0 ∧ (ctxS .draining).core.itemsOf 1 = [] := by decide +kernel
theorem test_ctx_held : let s := withCtx { state := .draining, pins := 1 } boundS
    (s.core.ctx 1).state = .draining ∧ 0 < (s.core.ctx 1).pins ∧ s.core.itemsOf 1 = [] := by decide +kernel
theorem test_tier_query : Takes (at_ readyS 0x0301 [2]) 0 0x0301 (mk 0x0301 [2]) ∧ Takes (at_ boundS 0x0301 [3]) 0 0x0301 (mk 0x0301 [3]) :=
  ⟨takes_of (by decide +kernel), takes_of (by decide +kernel)⟩
theorem test_quota_set : let a := mk 0x0302 ([1, 2] ++ le 2 1 ++ zeros 4 ++ le 8 7 ++ le 8 7)
    Takes (put boundS a) 0 0x0302 a ∧ boundS.core.isClient 1 = true ∧ a.arg 16 8 ≠ 2 ^ 64 - 1 ∧ a.arg 8 8 ≤ a.arg 16 8 ∧ a.arg 2 2 % 2 = 1 :=
  ⟨takes_of (by decide +kernel), by decide +kernel⟩
theorem test_quota_query : Takes (at_ boundS 0x0303 [1, 1]) 0 0x0303 (mk 0x0303 [1, 1]) ∧ boundS.core.isClient 1 = true := ⟨takes_of (by decide +kernel), by decide +kernel⟩
theorem test_tier0_default : Takes (at_ boundS 0x0304 (zeros 4 ++ le 4 1)) 0 0x0304 (mk 0x0304 (zeros 4 ++ le 4 1)) := takes_of (by decide +kernel)
theorem test_tier0_set : let a := mk 0x0304 ([4, 4, 0, 56] ++ le 4 0)
    Takes (put boundS a) 0 0x0304 a ∧ a.arg 0 1 + a.arg 1 1 + a.arg 2 1 + a.arg 3 1 = 64 ∧ (put boundS a).core.tableNeed ≤ a.arg 3 1 :=
  ⟨takes_of (by decide +kernel), by decide +kernel⟩
theorem test_stripe_set : let a := mk 0x0305 (le 2 65535 ++ [1] ++ zeros 5 ++ le 2 2 ++ zeros 6 ++ le 8 0 ++ zeros 112)
    Takes (put boundS a) 0 0x0305 a ∧ a.arg 2 1 = 1 ∧ (∀ i, i < 1 → a.arg (8 + 16 * i) 2 ≠ boundS.top.nodeId ∧ a.arg (8 + 16 * i) 2 < 0x3FFF) ∧
    (∀ p ∈ (put boundS a).core.tiers.pages.vals, p.t3.map Prod.fst ≠ some (a.arg 0 2)) := ⟨takes_of (by decide +kernel), by decide +kernel⟩
/-- The bound device with protection domain 3 and a pool grant. -/
def poolS : State := { boundS with core := { boundS.core with
  fabric := { boundS.core.fabric with pds := [(3, 0)] }
  tiers := { boundS.core.tiers with grants := [{ off := 0, size := 131072, client := 1, pd := 3, origin := 0 }], mem := [(0x3000000000005, 1)] } } }
theorem test_pool_grant : let a := mk 0x0306 (le 8 131072 ++ le 8 65536 ++ [1, 0] ++ le 2 3)
    Takes (put poolS a) 0 0x0306 a ∧ a.arg 0 8 + a.arg 8 8 ≤ 2 ^ 47 ∧
    (∀ g ∈ poolS.core.tiers.grants, g.off + g.size ≤ a.arg 0 8 ∨ a.arg 0 8 + a.arg 8 8 ≤ g.off) ∧ poolS.core.isClient 1 = true ∧
    (poolS.core.fabric.pds.get? 3).isSome = true ∧ a.arg 8 8 ≤ (poolS.core.quota poolS.top poolS.core.pact 1 1).2 := ⟨takes_of (by decide +kernel), by decide +kernel⟩
theorem test_pool_revoke : let a := mk 0x0307 (le 8 65536 ++ le 8 65536)
    Takes (put poolS a) 0 0x0307 a ∧ covered poolS.core.tiers.grants 65536 65536 = true := ⟨takes_of (by decide +kernel), by decide +kernel⟩
theorem test_page_query : let a := mk 0x0308 (le 2 0 ++ le 2 3) h1
    Takes (put (ctxS .paused) a) 0 0x0308 a ∧ a.arg 0 2 < shLayers (ctxS .paused).core.shape ∧ a.arg 2 2 < ((ctxS .paused).core.ctx 1).pagesP :=
  ⟨takes_of (by decide +kernel), by decide +kernel⟩

/-! ### Witnesses: the scheduler -/

theorem test_sched_set : let a := mk 0x0501 (le 4 6 ++ le 4 0 ++ le 4 256 ++ le 4 256 ++ zeros 16)
    Takes (put boundS a) 0 0x0501 a ∧ (∀ n < 10, bit (a.arg 0 4) n = true → schedRange n (a.arg (schedPlace.getD n (0, 0)).1 (schedPlace.getD n (0, 0)).2) = true) ∧
    (((Claims.schedNew (put boundS a).core a)[2]?).getD none) = some 256 ∧ (((Claims.schedNew (put boundS a).core a)[1]?).getD none) = some 256 :=
  ⟨takes_of (by decide +kernel), by decide +kernel⟩
theorem test_sched_bad : let a := mk 0x0501 (le 4 2 ++ le 4 0 ++ le 4 255 ++ zeros 20)
    Takes (put boundS a) 0 0x0501 a ∧ bit (a.arg 0 4) 1 = true ∧ ¬ schedRange 1 (a.arg 8 4) = true ∧ (∀ k < 1, bit (a.arg 0 4) k = false) :=
  ⟨takes_of (by decide +kernel), by decide +kernel⟩
theorem test_client_sched_set : let a := mk 0x0503 ([1, 7, 15, 0x81] ++ le 2 4096 ++ zeros 2)
    Takes (put boundS a) 0 0x0503 a ∧ boundS.core.isClient (a.arg 0 1) = true ∧ a.arg 4 2 ≤ 4096 ∧ a.arg 4 2 % 256 = 0 := ⟨takes_of (by decide +kernel), by decide +kernel⟩
theorem test_deadline_set : Takes (at_ boundS 0x0505 ([15, 0, 0, 0] ++ le 4 60000000)) 0 0x0505 (mk 0x0505 ([15, 0, 0, 0] ++ le 4 60000000)) := takes_of (by decide +kernel)
theorem test_straggler_set : Takes (at_ boundS 0x0509 (le 4 0x14000 ++ le 2 1024 ++ le 2 1)) 0 0x0509 (mk 0x0509 (le 4 0x14000 ++ le 2 1024 ++ le 2 1)) :=
  takes_of (by decide +kernel)
theorem test_slice_set : Takes (at_ boundS 0x0603 (le 2 256 ++ zeros 2)) 0 0x0603 (mk 0x0603 (le 2 256 ++ zeros 2)) := takes_of (by decide +kernel)
theorem test_sched_queries : Takes (at_ boundS 0x0502 []) 0 0x0502 (mk 0x0502 []) ∧ Takes (at_ boundS 0x0504 [1]) 0 0x0504 (mk 0x0504 [1]) ∧
    Takes (at_ boundS 0x0506 [15]) 0 0x0506 (mk 0x0506 [15]) ∧ Takes (at_ boundS 0x0507 [1]) 0 0x0507 (mk 0x0507 [1]) ∧
    Takes (at_ (ctxS .paused) 0x0508 [] h1) 0 0x0508 (mk 0x0508 [] h1) :=
  ⟨takes_of (by decide +kernel), takes_of (by decide +kernel), takes_of (by decide +kernel), takes_of (by decide +kernel), takes_of (by decide +kernel)⟩
/-- A page in tier 1 alone, of context 1. -/
def page1 : PageObj := { fmt := .bf16, fill := 1, present := 2#4, t1 := some (0, 0), owner := 1 }
/-- One accepted message of layer 0 and position 0 of a sequence. -/
def msg0 : LayerMsg := { layer := 0, conn := 0, epoch := 0, pos := 0, len := 1, body := zeros 416, obj := 0xFFFF, tag := 0 }
/-- A decode item of context 1 that waits. -/
def item1 : Item := { ctx := 1, chunk := false, group := 0, token := 1, since := 0, next := 0, msgs := [msg0] }
/-- The bound device with context 1 in GENERATE, its page as object 7, and work item 3. -/
def workS (it : Item) (p : PageObj) : State :=
  let s := withCtx { state := .generate, maxLen := 1024, pages := [(0, { obj := 7, base := 0 })], msgs := 1 } boundS
  { s with core := { s.core with
    tiers := { s.core.tiers with pages := [(7, p)], nextPage := 8 }
    sched := { s.core.sched with items := [(3, it)], nextItem := 4, nextToken := 2, due := true
                                 tokens := [(1, { ctx := 1, chunk := false, pos := 0, t0 := 0, budget := 0 })] } } }
theorem test_calm : Claims.Calm (workS item1 page1).top (workS item1 page1).core :=
  ⟨by decide +kernel, by decide +kernel, by decide +kernel, by decide +kernel, by decide +kernel, by decide +kernel, by decide +kernel⟩
theorem test_step_forms : let c := (workS item1 page1).core
    c.eligible = [(3, item1)] ∧ c.sched.items.get? 3 = some item1 ∧ item1.chunk = false ∧ 1 ≤ c.pset.field 0 ∧
    c.cooling (workS item1 page1).top = false ∧ c.needs item1 = [] ∧ c.joins item1 = false := by decide +kernel
theorem test_idle_boundary : let c := (workS { item1 with detached := true } page1).core
    c.eligible = [] ∧ c.sched.due = true := by decide +kernel
theorem test_calm_idle : Claims.Calm boundS.top (workS { item1 with detached := true } page1).core :=
  ⟨by decide +kernel, by decide +kernel, by decide +kernel, by decide +kernel, by decide +kernel, by decide +kernel, by decide +kernel⟩
theorem test_member_done : let it := { item1 with step := 1, done := true }
    (workS it page1).core.sched.items.get? 3 = some it ∧ it.done = true ∧ it.step ≠ 0 ∧ it.leaving = false := by decide +kernel
theorem test_hold_over : let c := (workS { item1 with step := 1, holdAt := some 0 } page1).core
    (c.sched.items.get? 3).map Item.holdAt = some (some 0) ∧ 0 + 1000 * c.pact.field 4 ≤ boundS.top.now := by decide +kernel
theorem test_hold_before : let c := (workS { item1 with step := 1, holdAt := some 2000000000 } page1).core
    (c.sched.items.get? 3).map Item.holdAt = some (some 2000000000) ∧ boundS.top.now < 2000000000 + 1000 * c.pact.field 4 := by decide +kernel
/-- An open step. -/
def step1 : StepRec := { group := 0, formed := 0, slice := 16, score := 8, hasDecode := true, hasChunk := false }
theorem test_step_end : let s := workS item1 page1
    let c := s.core.onSched (fun x => { x with steps := [(1, step1)] })
    c.sched.steps.get? 1 = some step1 ∧ (∀ e ∈ c.sched.items, e.2.step ≠ 1) := by decide +kernel
theorem test_starved : (workS item1 page1).core.sched.items.get? 3 = some item1 := by decide +kernel
/-- The bound device with a baseline, and context 1 after eight slow items. -/
def slowS : State := let s := withCtx { state := .generate, run := 8 } boundS
  { s with core := s.core.onSched (fun x => { x with noBaseline := false, completed := 1024, engines := [(.on, 0), (.on, 0), (.on, 0), (.rising, 0)] }) }
theorem test_straggler : let c := slowS.core
    c.pact.stragOn = true ∧ c.sched.noBaseline = false ∧ (c.ctx 1).straggling = false ∧ (c.ctx 1).state ≠ .free ∧ 0 < (c.ctx 1).run ∧
    c.pact.stragN ≤ (c.ctx 1).run ∧ slowS.top.primaryDown = false ∧ (c.ctx 2).run < c.pact.stragN := by decide +kernel
theorem test_baseline : 1024 ≤ slowS.core.sched.completed ∧ boundS.core.sched.completed < 1024 := by decide +kernel
theorem test_engine_down : slowS.core.sched.engines[engineIdx .ridge]? = some (.on, 0) ∧ slowS.core.job.isSome = true ∧
    (keptBy slowS.core.pact.role).contains (engineIdx .ridge) = false ∧ slowS.core.engineBusy (engineIdx .ridge) = false ∧
    0 + 10000000 ≤ slowS.top.now := by decide +kernel
theorem test_engine_rising : slowS.core.engine (engineIdx .chrysalis) = .rising ∧ slowS.core.engine (engineIdx .ridge) ≠ .rising := by decide +kernel
theorem test_role_timeout : let s := put boundS (mk 0x0105 [1, 1, 0, 0])
    let c := s.core.onSched (fun x => { x with drains := [{ mbox := 0, role := .prompt, deadline := 2000000000 }] })
    (∀ d ∈ c.sched.drains, d.deadline ≤ s.top.now ∧ (c.mbox d.mbox).taken.isSome = true ∧ (c.mbox d.mbox).result = none) := by decide +kernel

/-! ### Witnesses: attention, formats and pages -/

theorem test_shape_check : let a := mk 0x0601 shapeB
    Takes (put readyS a) 0 0x0601 a ∧ shapeCheck (a.args.take 840) = .ok () := ⟨takes_of (by decide +kernel), shape_fine (by decide +kernel)⟩
theorem test_shape_bad : let a := mk 0x0601 ([1, 1, 1, 4] ++ shapeB.drop 4)
    Takes (put readyS a) 0 0x0601 a ∧ shapeCheck (a.args.take 840) = .error (.badArg, 3) := ⟨takes_of (by decide +kernel), rfl⟩
theorem test_shape_query : Takes (at_ boundS 0x0602 []) 0 0x0602 (mk 0x0602 []) ∧ Takes (at_ boundS 0x0604 []) 0 0x0604 (mk 0x0604 []) :=
  ⟨takes_of (by decide +kernel), takes_of (by decide +kernel)⟩
theorem test_plan_query : let a := mk 0x0605 (le 2 0 ++ zeros 2 ++ le 4 1023 ++ le 4 0 ++ le 2 0 ++ zeros 2) h1
    let s := put (ctxS .paused) a
    Takes s 0 0x0605 a ∧ a.arg 0 2 < shLayers s.core.shape ∧ s.core.curLen (s.core.ctx 1) ≤ 1023 ∧ 1023 < (s.core.ctx 1).maxLen ∧
    shDoc s.core.shape 0 = false ∧
    0 < (slicePlan (((List.range (1023 / 256 + 1)).filter (admitLo s.core.shape 0 1023 0 / 256 ≤ ·)).map
      (fun p => (p, s.core.stackOf s.top 1 0 p))) s.core.pact.slice s.core.scoreBytes (shHq s.core.shape)).length :=
  ⟨takes_of (by decide +kernel), by decide +kernel⟩
theorem test_rope_eval : let a := mk 0x0606 (le 2 31 ++ zeros 2 ++ le 4 0xFFFFFFFF)
    Takes (put boundS a) 0 0x0606 a ∧ a.arg 0 2 < rd boundS.core.shape 32 2 / 2 := ⟨takes_of (by decide +kernel), by decide +kernel⟩
/-- The bound device with Crest die 31 draining for its test. -/
def testS : State := { boundS with core := boundS.core.onTelem (fun x => { x with tests := [(crestDie 31, { state := 1 })] }) }
theorem test_engine_queries : let a := mk 0x0607 [31, 0, 0, 0]
    Takes (put boundS a) 0 0x0607 a ∧ 31 ∈ boundS.top.crests ∧ boundS.core.underTest (crestDie 31) = false ∧
    Takes (at_ boundS 0x0706 [0, 0, 0, 0]) 0 0x0706 (mk 0x0706 [0, 0, 0, 0]) := ⟨takes_of (by decide +kernel), by decide +kernel, by decide +kernel, takes_of (by decide +kernel)⟩
theorem test_engine_under_test : let a := mk 0x0607 [31, 0, 0, 0]
    Takes (put testS a) 0 0x0607 a ∧ testS.core.underTest (crestDie 31) = true := ⟨takes_of (by decide +kernel), by decide +kernel⟩
theorem test_format_query : Takes (at_ readyS 0x0701 []) 0 0x0701 (mk 0x0701 []) := takes_of (by decide +kernel)
theorem test_format_policy : let a := mk 0x0702 [1, 3, 6, 0]
    Takes (put boundS a) 0 0x0702 a ∧ boundS.core.isClient 1 = true ∧ (Fmt.ofCode 6).isSome = true ∧
    Takes (at_ boundS 0x0703 [1]) 0 0x0703 (mk 0x0703 [1]) := ⟨takes_of (by decide +kernel), by decide +kernel, by decide +kernel, takes_of (by decide +kernel)⟩
theorem test_quant_eval : let a := mk 0x0704 ([2, 0, 0, 0] ++ zeros 128)
    Takes (put readyS a) 0 0x0704 a ∧ Fmt.ofCode 2 = some .e4m3 ∧ bit (a.arg 1 1) 0 = false ∧ (∀ x ∈ quantInputs a false, x.special = false) := by
  refine ⟨takes_of (by decide +kernel), by decide +kernel, by decide +kernel, fun x hx => ?_⟩
  have h : (quantInputs (mk 0x0704 ([2, 0, 0, 0] ++ zeros 128)) false).all (fun x => !x.special) = true := by decide +kernel
  simpa using List.all_eq_true.mp h x hx
theorem test_quant_special : let a := mk 0x0704 ([2, 1, 0, 0] ++ le 4 0x7FC00000 ++ zeros 124)
    Takes (put readyS a) 0 0x0704 a ∧ bit (a.arg 1 1) 0 = true ∧ (∃ x ∈ quantInputs a true, x.special = true) := by
  refine ⟨takes_of (by decide +kernel), by decide +kernel, List.any_eq_true.mp ?_⟩
  decide +kernel
theorem test_exp_eval : Takes (at_ readyS 0x0705 (le 4 0x80000000)) 0 0x0705 (mk 0x0705 (le 4 0x80000000)) ∧
    Takes (at_ readyS 0x0705 (le 4 0xFF800000)) 0 0x0705 (mk 0x0705 (le 4 0xFF800000)) ∧
    Takes (at_ readyS 0x0705 (le 4 0xBF800000)) 0 0x0705 (mk 0x0705 (le 4 0xBF800000)) ∧
    Takes (at_ readyS 0x0705 (le 4 1)) 0 0x0705 (mk 0x0705 (le 4 1)) :=
  ⟨takes_of (by decide +kernel), takes_of (by decide +kernel), takes_of (by decide +kernel), takes_of (by decide +kernel)⟩
/-- The page with the digest of its data. -/
def pageS : PageObj := { page1 with digest := pageDigest .bf16 (shH shapeB) (shD shapeB) [] }
theorem test_copies_sound : Claims.CopiesSound boundS.top (workS item1 pageS).core pageS :=
  ⟨⟨by decide +kernel, .inr rfl⟩, fun g hg ht => by
    have he : g = pageS := List.mem_singleton.mp hg
    subst he
    exact absurd ht (by decide)⟩
/-- The item with a layer run in step 1. -/
def runItem (r : LayerRun) : Item := { item1 with step := 1, run := some r }
/-- Where the context's first page is. -/
theorem page_here (it : Item) (p : PageObj) : (workS it p).core.pageOf 1 0 0 = some (7, p) := by
  have h : ((workS it p).core.ctx 1).ref 0 0 = some { obj := 7, base := 0 } := by
    show Ctx.ref { state := .generate, gen := 1, maxLen := 1024, pages := [(0, { obj := 7, base := 0 })], msgs := 1 } 0 0 = _
    decide +kernel
  rw [Core.pageOf, h]
  rfl
theorem test_layer_start : let it := runItem { layer := 0 }
    let s := workS it pageS
    let c := s.core
    c.sched.items.get? 3 = some it ∧ it.headMsgs = [msg0] ∧ (∀ e ∈ it.needsEngines, c.engine e = .on) ∧ c.awaited it [] = [] ∧
    msg0.epoch = (c.ctx 1).epoch ∧ msg0.pos = (c.ctx 1).held1 0 ∧
    (∀ p q g, (c.attended it).1 ≤ p → p ≤ (c.attended it).2 → c.pageOf 1 0 p = some (q, g) → g.poison = false) ∧
    c.pageOf 1 0 (msg0.pos / 256) = some (7, pageS) ∧ pageS.t1 = some (0, 0) ∧ c.frameBusy (0, 0) = false ∧
    (c.appendDie s.top 0).isSome = true ∧ (c.appendDie s.top 1).isSome = true :=
  ⟨by decide +kernel, by decide +kernel, by decide +kernel, by decide +kernel, by decide +kernel, by decide +kernel,
   (by
    intro p q g _ h2 h3
    have h0 : p = 0 := Nat.le_zero.mp h2
    subst h0
    have h4 := page_here (runItem { layer := 0 }) pageS
    have h5 : g = pageS := by
      have h6 := h3.symm.trans h4
      simp only [Option.some.injEq, Prod.mk.injEq] at h6
      exact h6.2
    rw [h5, pageS]
    rfl), page_here (runItem { layer := 0 }) pageS, rfl, by decide +kernel, by decide +kernel, by decide +kernel⟩
/-- A slice of page 0. -/
def slice0 (st : WorkState) : Slice := { stack := 0, pages := [0], crest := 0, state := st }
theorem test_slice_runs : let r : LayerRun := { layer := 0, started := true, slices := [slice0 .running] }
    r.slices[0]? = some (slice0 .running) ∧ (slice0 .running).state = .running ∧ (workS (runItem r) page1).core.sched.items.get? 3 = some (runItem r) := by decide +kernel
theorem test_slice_due : let r : LayerRun := { layer := 0, started := true, slices := [slice0 .arrived, slice0 .sent] }
    (workS (runItem r) page1).core.meshDue .result (.slice 3 1) = true := by decide +kernel
theorem test_slice_last : let r : LayerRun := { layer := 0, started := true, slices := [slice0 .arrived, slice0 .sent] }
    r.slices[1]? = some (slice0 .sent) ∧ (∀ (j : Nat) (y : Slice), j ≠ 1 → r.slices[j]? = some y → y.state = .arrived) ∧
    msg0.epoch = ((workS (runItem r) page1).core.ctx 1).epoch := by
  refine ⟨by decide +kernel, fun j y hj hy => ?_, by decide +kernel⟩
  match j, hj with
  | 0, _ => cases hy; decide +kernel
  | (n + 2), _ => simp at hy
theorem test_slice_not_last : let r : LayerRun := { layer := 0, started := true, slices := [slice0 .running, slice0 .sent] }
    r.slices[1]? = some (slice0 .sent) ∧ (∃ (j : Nat) (y : Slice), j ≠ 1 ∧ r.slices[j]? = some y ∧ y.state ≠ .arrived) :=
  ⟨by decide +kernel, 0, slice0 .running, by decide +kernel⟩
/-- The item's layer waits for a buffer of some KiB on Crest die 31. -/
def scoreS (n : Nat) : State := let s := workS item1 page1
  { s with core := s.core.onSched (fun x => { x with waiting := [(31, [{ item := 3, index := 0, ridge := false, credits := n }])] }) }
theorem test_score_fits : let c := (scoreS (1024 * boundS.core.tiers.tier0.score)).core
    (nextScore ((c.sched.waiting.getD 31 []).filter (fun r => !c.undescribed 31 r.work))).map ScoreReq.credits = some (1024 * c.tiers.tier0.score) ∧
    c.underTest (crestDie 31) = false ∧ c.sched.scoreUsed.getD 31 0 = 0 := by decide +kernel
theorem test_score_waits : let c := (scoreS (1024 * boundS.core.tiers.tier0.score + 1)).core
    (nextScore ((c.sched.waiting.getD 31 []).filter (fun r => !c.undescribed 31 r.work))).map ScoreReq.credits = some (1024 * c.tiers.tier0.score + 1) := by
  decide +kernel
theorem test_append : let r : LayerRun := { layer := 0, started := true, appends := [0] }
    let c := (workS (runItem r) page1).core
    c.sched.items.get? 3 = some (runItem r) ∧ 0 ∈ r.appends ∧ c.pageOf 1 0 0 = some (7, page1) ∧ c.frameBusy (0, 0) = false := by decide +kernel
/-- A Ridge unit that runs. -/
def unit0 : RidgeUnit := { head := 0, row := 0, seg := 0, crest := 0, state := .running }
theorem test_unit : let r : LayerRun := { layer := 0, started := true, units := [unit0] }
    (runItem r).headMsgs = [msg0] ∧ r.units[0]? = some unit0 ∧ r.appends = [] ∧
    r.units.findIdx? (fun y => y.head == unit0.head && y.row == unit0.row && y.seg == unit0.seg) = some 0 ∧
    (workS (runItem r) page1).core.flowClear (crestDie 0) (crestDie 31) .response = true := by decide +kernel
theorem test_recompute_good : let p := { page1 with present := 6#4, t2 := some (0, 16) }
    let r : LayerRun := { layer := 0, started := true, slices := [slice0 .running] }
    let c := (workS (runItem r) p).core
    (c.placeOf 1 7).2 ∈ (slice0 .running).pages ∧ (c.pageOf 1 0 (c.placeOf 1 7).2).map Prod.fst = some 7 ∧ c.page 7 = some p ∧
    p.inTier 1 = true ∧ p.poison = false ∧ (∃ n ∈ [0, 1, 2, 3], n ≠ 1 ∧ p.inTier n = true ∧ p.isBad boundS.top n = false) := by decide +kernel
theorem test_recompute_lost : let r : LayerRun := { layer := 0, started := true, slices := [slice0 .running] }
    let c := (workS (runItem r) page1).core
    c.page 7 = some page1 ∧ page1.inTier 1 = true ∧ (∀ n ∈ [0, 1, 2, 3], n ≠ 1 → page1.inTier n = true → page1.isBad boundS.top n = true) := by decide +kernel
/-- An empty page of context 1 in some tiers, with the digest of its data. -/
def pageT (pr : BitVec 4) : PageObj := { fmt := .bf16, present := pr, owner := 1, digest := pageDigest .bf16 (shH shapeB) (shD shapeB) [] }
theorem test_promotion : let p := { pageT 4#4 with t2 := some (0, 16), promoting := true, urgent := true, t1 := some (0, 5) }
    let s := workS item1 p
    s.core.page 7 = some p ∧ p.poison = false ∧ p.promoting = true ∧ s.core.promoteFrame s.top 7 p = some ((0, 5), s.core) ∧
    s.core.frameBusy (0, 5) = false ∧ p.inTier 2 = true ∧ p.isBad s.top 2 = false ∧
    p.digest = pageDigest p.fmt (shH s.core.shape) (shD s.core.shape) p.data ∧ p.down = none ∧ p.dirty.getLsbD 0 = false :=
  ⟨rfl, rfl, rfl, rfl, by decide +kernel, by decide +kernel, by decide +kernel, rfl, rfl, rfl⟩
theorem test_promotion_first : let p := { page1 with present := 4#4, t2 := some (0, 16), promoting := true, urgent := true, t1 := some (0, 5) }
    (workS item1 p).core.aheadOf boundS.top p = false := by decide +kernel
theorem test_write_down : let p := { pageT 2#4 with t1 := some (0, 5), down := some { tier := 2, fmt := .e4m3, off := 0 } }
    let s := workS item1 p
    s.core.page 7 = some p ∧ p.down = some { tier := 2, fmt := .e4m3, off := 0 } ∧ p.isBad s.top 1 = false ∧ p.fastest = 1 ∧ p.t1.isSome = true ∧
    p.digest = pageDigest p.fmt (shH s.core.shape) (shD s.core.shape) p.data := ⟨rfl, rfl, by decide +kernel, by decide +kernel, rfl, rfl⟩
/-- The work state with a Type-3 device of 1 GiB. -/
def warmS (p : PageObj) : State := { workS item1 p with top := { boundS.top with warmDevices := [2 ^ 30] } }
theorem test_demotion : let p := { page1 with pendingDown := true }
    let s := warmS p
    s.core.tiers.pages.filter (fun e => e.2.pendingDown) = [(7, p)] ∧ p.t1.isSome = true ∧ p.t0 = none ∧ p.present = 2#4 ∧ p.down = none ∧
    s.core.within s.top (s.core.payer p) 2 (4096 * s.core.unitsIn (s.core.downFmt p 2)) = true ∧
    (s.core.findWarm s.top (s.core.unitsIn (s.core.downFmt p 2))).isSome = true := by decide +kernel
theorem test_demotion_waits : let p := { page1 with pendingDown := true }
    let s := workS item1 p
    s.core.within s.top (s.core.payer p) 2 (4096 * s.core.unitsIn (s.core.downFmt p 2)) = false ∧ s.core.tiers.stripes = [] := by decide +kernel
theorem test_write_back0 : let p := { pageT 3#4 with fill := 256, t0 := some (0, 0), t1 := some (0, 5), dirty := 1#4 }
    let s := workS item1 p
    s.core.page 7 = some p ∧ p.fill = 256 ∧ p.inTier 0 = true ∧ p.dirty.getLsbD 0 = true ∧ p.isBad s.top 0 = false ∧
    p.digest = pageDigest p.fmt (shH s.core.shape) (shD s.core.shape) p.data :=
  ⟨rfl, rfl, by decide +kernel, by decide +kernel, by decide +kernel, rfl⟩

/-! ### Witnesses: messages of work and moves -/

/-- A message from node 2 with a body. -/
def mg (type : Nat) (body : List Byte) : Msg :=
  { type := type, flags := 0, src := 2, dst := 1, conn := 1, seq := 0, stamp := 0, job := 5, crReq := 0, crRsp := 0, body := body }

/-- An open connection 1 to node 2 with messages delivered. -/
def conn1 (q : List Msg) : Conn :=
  { state := .opened, peer := 2, peerConn := 1, pd := 3, portMask := 1, granted := true, req := { grant := 8, held := 8, heldMax := 8 },
    rsp := { grant := 8, held := 8, heldMax := 8 }, inbox := q }

/-- The state with that connection, and message q delivered on it. -/
def deliver (q : Msg) (s : State) : State :=
  { s with core := s.core.onFabric (fun f => { f with conns := [(1, conn1 [q])], pds := [(3, 0)], heard := [(2, 1999999000)] }) }

/-- A STEP_QUERY of layer l at position 0 of the sequence in shapeB. -/
def stepBody (l : Nat) : List Byte := le 4 h1 ++ le 2 0 ++ le 2 l ++ le 4 0 ++ le 4 0 ++ zeros 2 ++ le 2 16383 ++ le 4 9 ++ le 2 1 ++ le 2 64 ++ zeros 388
theorem test_step_query : let q := mg 0x10 (stepBody 0)
    let s := deliver q (ctxS .generate)
    Claims.delivered s 1 0x10 none q ∧ Claims.workPasses s q ∧ (s.core.ctx 1).workFate false = .accept ∧ (s.core.ctx 1).msgs < 16777215 ∧
    s.core.stepBad 1 q = none ∧ q.arg 6 2 % shG s.core.shape = 0 :=
  ⟨⟨by decide +kernel, by decide +kernel⟩, ⟨by decide +kernel, by decide +kernel, by decide +kernel, by decide +kernel⟩, by decide +kernel⟩
/-- The generating context with a job of two layers in one group, and its item at layer 1. -/
def twoS (q : Msg) : State :=
  let s := deliver q (ctxS .generate)
  { s with core := { s.core with
    job := s.core.job.map (fun j => { j with shape := (shapeB.set 4 2#8).set 16 2#8 })
    sched := { s.core.sched with items := [(3, { item1 with next := 1 })], nextItem := 4 } } }
theorem test_step_joins : let q := mg 0x10 (stepBody 1)
    Claims.delivered (twoS q) 1 0x10 none q ∧ Claims.workPasses (twoS q) q ∧ (twoS q).core.stepBad 1 q = none ∧
    q.arg 6 2 % shG (twoS q).core.shape ≠ 0 ∧ (twoS q).core.itemFor 1 1 false = some (3, { item1 with next := 1 }) ∧
    (twoS q).core.sched.items.get? 3 = some { item1 with next := 1 } :=
  ⟨⟨by decide +kernel, by decide +kernel⟩, ⟨by decide +kernel, by decide +kernel, by decide +kernel, by decide +kernel⟩, by decide +kernel⟩
theorem test_step_stale : let q := mg 0x10 (stepBody 0)
    Claims.delivered (deliver q boundS) 1 0x10 none q ∧ (deliver q boundS).top.dev = .bound ∧ (deliver q boundS).core.quiesced = false ∧
    (deliver q boundS).core.stale boundS.top (q.arg 0 4) = true := ⟨⟨by decide +kernel, by decide +kernel⟩, by decide +kernel⟩
theorem test_step_held : let q := mg 0x10 (stepBody 0)
    let s := deliver q (ctxS .movingIn)
    let x := s.core.ctx 1
    Claims.delivered s 1 0x10 none q ∧ Claims.workPasses s q ∧ x.state = .movingIn ∧ x.cut = false ∧
    heldCount (x.held ++ [{ conn := 1, cls := q.cls, chunk := false, epoch := x.epoch, body := q.body, at_ := s.top.now }]) ≤ 4 :=
  ⟨⟨by decide +kernel, by decide +kernel⟩, ⟨by decide +kernel, by decide +kernel, by decide +kernel, by decide +kernel⟩, by decide +kernel⟩
/-- The first part of a CHUNK_SUBMIT of n tokens, marked final. -/
def chunkHead (n p : Nat) : List Byte :=
  le 4 h1 ++ le 2 0 ++ le 2 0 ++ le 4 0 ++ le 2 n ++ le 2 p ++ [0, 0] ++ le 2 1 ++ le 2 0xFFFF ++ le 2 1 ++ le 2 64 ++ zeros 2 ++ le 4 9 ++ zeros 72
theorem test_chunk : let q := mg 0x20 (chunkHead 1 1 ++ zeros 384)
    let s := deliver q (ctxS .generate)
    Claims.delivered s 1 0x20 none q ∧ Claims.workPasses s q ∧ (s.core.ctx 1).workFate true = .accept ∧ s.core.chunkBad 1 1 q = none ∧
    q.arg 16 1 = 0 ∧ q.arg 6 2 % shG s.core.shape = 0 ∧ q.arg 12 2 ≤ 256 :=
  ⟨⟨by decide +kernel, by decide +kernel⟩, ⟨by decide +kernel, by decide +kernel, by decide +kernel, by decide +kernel⟩, by decide +kernel⟩
/-- Bytes past a header of zeros read as 0. -/
theorem rd_zeros (h : List Byte) (n off k : Nat) (ho : h.length ≤ off) : rd (h ++ zeros n) off k = 0 := by
  induction k generalizing off with
  | zero => rfl
  | succ k ih =>
    have h0 : ((h ++ zeros n)[off]?.getD 0).toNat = 0 := by
      rw [List.getElem?_append_right ho]
      simp only [zeros, List.getElem?_replicate]
      split <;> rfl
    simp only [rd, h0, ih (off + 1) (by omega)]
/-- A header's field reads the same whatever follows the header. -/
theorem rd_front (h t : List Byte) (off k : Nat) (ho : off + k ≤ h.length) : rd (h ++ t) off k = rd h off k := by
  induction k generalizing off with
  | zero => rfl
  | succ k ih => simp only [rd, List.getElem?_append_left (show off < h.length by omega), ih (off + 1) (by omega)]
theorem test_chunk_long : let q := mg 0x20 (chunkHead 257 256 ++ zeros 98304)
    let s := deliver q (ctxS .generate)
    s.core.chunkBad 1 1 q = none ∧ q.arg 16 1 = 0 ∧ 256 < q.arg 12 2 := by
  intro q s
  have hl : (chunkHead 257 256).length = 104 := by decide +kernel
  have hb : q.body.length = 98408 := by
    show (chunkHead 257 256 ++ zeros 98304).length = _
    rw [List.length_append, hl, zeros, List.length_replicate]
  have hr : ∀ o k, o + k ≤ 104 → q.arg o k = rd (chunkHead 257 256) o k := fun o k h => rd_front _ _ o k (by omega)
  have hz : anySpecial q.body 104 (256 * (shHq s.core.shape + 2 * shH s.core.shape) * shD s.core.shape) = false := by
    unfold anySpecial
    rw [List.any_eq_false]
    intro j _
    rw [show rd q.body (104 + 2 * j) 2 = 0 from rd_zeros _ _ _ _ (by omega)]
    decide
  have h1 : s.core.partLayer 1 0 = none := by decide +kernel
  have h2 : s.core.tokenAt 1 true 0 (s.core.groupOf 0) = none := by decide +kernel
  refine ⟨?_, by rw [hr 16 1 (by omega)]; decide +kernel, by rw [hr 12 2 (by omega)]; decide +kernel⟩
  unfold Core.chunkBad
  simp only [hr 6 2 (by omega), hr 8 4 (by omega), hr 12 2 (by omega), hr 14 2 (by omega), hr 16 1 (by omega), hr 18 2 (by omega),
    hr 20 2 (by omega), hr 22 2 (by omega), hr 24 2 (by omega), hr 28 4 (by omega), hr 32 4 (by omega),
    show rd (chunkHead 257 256) 6 2 = 0 from by decide +kernel, show rd (chunkHead 257 256) 8 4 = 0 from by decide +kernel,
    show rd (chunkHead 257 256) 12 2 = 257 from by decide +kernel, show rd (chunkHead 257 256) 14 2 = 256 from by decide +kernel,
    show rd (chunkHead 257 256) 16 1 = 0 from by decide +kernel, show rd (chunkHead 257 256) 18 2 = 1 from by decide +kernel,
    show rd (chunkHead 257 256) 20 2 = 65535 from by decide +kernel, show rd (chunkHead 257 256) 22 2 = 1 from by decide +kernel,
    show rd (chunkHead 257 256) 24 2 = 64 from by decide +kernel, show rd (chunkHead 257 256) 28 4 = 9 from by decide +kernel, hb, h1, h2, hz]
  have e1 : shPartBytes s.core.shape 256 = 98408 := by decide +kernel
  have e2 : shHq s.core.shape = 1 := by decide +kernel
  have e3 : shD s.core.shape = 64 := by decide +kernel
  have e4 : shLayers s.core.shape = 1 := by decide +kernel
  have e5 : shG s.core.shape = 1 := by decide +kernel
  have e6 : (s.core.client (s.core.ctx 1).client).chunk = 512 := by decide +kernel
  have e7 : s.core.expected 1 0 = 0 := by decide +kernel
  have e8 : (s.core.ctx 1).maxLen = 1024 := by decide +kernel
  have e9 : shDoc s.core.shape 0 = false := by decide +kernel
  simp only [e1, e2, e3, e4, e5, e6, e7, e8, e9]
  rfl
theorem test_held_over : let h : Held := { conn := 1, chunk := false, epoch := 0, body := [], at_ := 1500000000 }
    let s := withCtx { state := .movingIn, held := [h], msgs := 1 } boundS
    (s.core.ctx 1).held.find? (fun h => h.at_ + 500000000 ≤ s.top.now) = some h := by decide +kernel
/-- The state with connection 1 open and nothing delivered. -/
def opened (s : State) : State :=
  { s with core := s.core.onFabric (fun f => { f with conns := [(1, conn1 [])], pds := [(3, 0)], heard := [(2, 1999999000)] }) }
/-- A write-down into tier 3, of a stripe set of which node 2 is the one member. -/
def down3 (us : Option (List Nat)) : WriteDown := { tier := 3, fmt := .bf16, off := 0, set := 0, units := us }
theorem test_write_down3 : let p := { pageT 4#4 with t2 := some (0, 17), down := some (down3 none) }
    let s := opened (workS item1 p)
    let c := s.core.onTiers (fun x => { x with stripes := [(0, [(2, 0)])] })
    c.page 7 = some p ∧ p.fastest = 2 ∧ p.isBad s.top 2 = false ∧ (c.memberConn 2).isSome = true := ⟨rfl, by decide +kernel, by decide +kernel, by decide +kernel⟩
theorem test_write_down3_done : ({ page1 with present := 4#4, t2 := some (0, 17), down := some (down3 (some [])) } : PageObj).down = some (down3 (some [])) := rfl
/-- MOVE_START's arguments. -/
def moveArgs (ty sub peer : Nat) (ph n : Nat) : List Byte :=
  le 1 ty ++ le 1 sub ++ le 2 peer ++ le 4 ph ++ le 8 77 ++ le 4 0 ++ le 4 0 ++ le 4 n ++ le 4 0 ++ le 2 0xFFFF ++ [0xFF, 0] ++ le 2 1 ++ zeros 2
theorem test_move_push : let a := mk 0x0401 (moveArgs 3 4 2 0 0) h1
    let s := put (opened (ctxS .generate)) a
    Takes s 0 0x0401 a ∧ MoveType.ofCode (a.arg 0 1) = some .park ∧ a.arg 2 2 < 0x3FFF ∧ a.arg 32 2 = 0xFFFF ∧
    s.core.connFor (a.arg 36 2) (a.arg 2 2) = some 1 ∧ (∀ e ∈ s.core.moves, e.2.tag = a.arg 8 8 → e.2.ended ≠ none) ∧
    (s.core.newMoveId s.top).isSome = true ∧ (s.core.ctx 1).state ∈ MoveType.park.from_ ∧ a.arg 2 2 ≠ s.top.nodeId ∧ a.arg 1 1 = 4 ∧
    s.core.moveRoom 0 = true ∧ s.core.hasRef 1 .msg = true := ⟨takes_of (by decide +kernel), by decide +kernel⟩
theorem test_move_resume : let a := mk 0x0401 (moveArgs 4 0 2 1 0)
    let s := put (opened boundS) a
    Takes s 0 0x0401 a ∧ MoveType.ofCode (a.arg 0 1) = some .resume ∧ a.arg 1 1 = 0 ∧ s.core.quiesced = false ∧ a.arg 34 1 = 0xFF ∧
    s.core.connFor (a.arg 36 2) (a.arg 2 2) = some 1 ∧ (bestSummit (s.core.admissible s.top) (s.core.moveSummits s.top)).isSome = true :=
  ⟨takes_of (by decide +kernel), by decide +kernel⟩
/-- Context 1 reserved, and context 2 with 256 tokens. -/
def pairS : State := { boundS with core := { boundS.core with
  ctxs := [(1, { state := .reserved, gen := 1, maxLen := 1024 }), (2, { state := .paused, gen := 1, maxLen := 1024, tokens := [(0, 256)], pages := [(0, { obj := 7, base := 0 })] })]
  tiers := { boundS.core.tiers with pages := [(7, { page1 with fill := 256, owner := 2 })], nextPage := 8 } } }
theorem test_attach : let a := mk 0x0401 (moveArgs 5 0 1 (mkHandle 2 1) 256) h1
    let s := put pairS a
    Takes s 0 0x0401 a ∧ a.arg 2 2 = s.top.nodeId ∧ (s.core.ctx 1).state = .reserved ∧ s.core.curLen (s.core.ctx 1) = 0 ∧
    (s.core.ctx 1).attaching = false ∧ a.arg 24 4 = 256 ∧ 256 ≤ (s.core.ctx 1).maxLen ∧ a.arg 28 4 ≤ 1048576 ∧
    (s.core.ctx 1).maxLen + a.arg 28 4 ≤ 2097152 ∧ s.core.stale s.top (a.arg 4 4) = false ∧
    (s.core.ctx (hIndex (a.arg 4 4))).state ∈ MoveType.attach.from_ ∧ 256 ≤ s.core.curLen (s.core.ctx (hIndex (a.arg 4 4))) ∧
    s.core.moveRoom 0 = true ∧ (s.core.newMoveId s.top).isSome = true := ⟨takes_of (by decide +kernel), by decide +kernel⟩
/-- An ATTACH whose tag a live record bears. -/
theorem test_attach_tag : let a := mk 0x0401 ((moveArgs 5 0 1 (mkHandle 2 1) 256).take 8 ++ le 8 77 ++ (moveArgs 5 0 1 (mkHandle 2 1) 256).drop 16) h1
    let mv : Move := { initiator := 1, id := 4, type := .migrate, source := true, phase := .bulk, ctx := 2, handle := mkHandle 2 1, peerNode := 2,
                       oldEpoch := 0, newEpoch := 1, conn := 1, tag := 77 }
    let s := put { pairS with core := { pairS.core with moves := [(6, mv)], nextMove := 7 } } a
    Takes s 0 0x0401 a ∧ a.arg 8 8 = 77 ∧ (∃ e ∈ s.core.moves, e.2.tag = a.arg 8 8 ∧ e.2.ended = none) :=
  ⟨takes_of (by decide +kernel), by decide +kernel, by decide +kernel⟩
/-- A move record of context 1. -/
def mv1 (y : MoveType) (src : Bool) (ph : MovePhase) : Move :=
  { initiator := 1, id := 4, type := y, source := src, phase := ph, ctx := 1, handle := h1, peerNode := 2, oldEpoch := 0, newEpoch := 1, conn := 1 }
/-- A state with that record as number 6. -/
def moveS (mv : Move) (s : State) : State := { s with core := { s.core with moves := [(6, mv)], nextMove := 7 } }
theorem test_move_abort : let a := mk 0x0402 (le 2 4 ++ le 2 1)
    let s := put (moveS (mv1 .migrate true .bulk) (ctxS .movingOut)) a
    Takes s 0 0x0402 a ∧ s.core.findMove (a.arg 2 2) (a.arg 0 2) = some (6, mv1 .migrate true .bulk) ∧
    s.core.moves.get? 6 = some (mv1 .migrate true .bulk) ∧ (s.core.ctx 1).state = .movingOut := ⟨takes_of (by decide +kernel), by decide +kernel⟩
theorem test_move_abort_late : let a := mk 0x0402 (le 2 4 ++ le 2 1)
    let mv := { mv1 .migrate true .drain with cut := true }
    let s := put (moveS mv (ctxS .movingOut)) a
    Takes s 0 0x0402 a ∧ s.core.findMove (a.arg 2 2) (a.arg 0 2) = some (6, mv) ∧ mv.cut = true := ⟨takes_of (by decide +kernel), by decide +kernel⟩
theorem test_move_query : let a := mk 0x0403 (le 2 4 ++ le 2 1)
    let s := put (moveS (mv1 .migrate true .bulk) (ctxS .movingOut)) a
    Takes s 0 0x0403 a ∧ s.core.findMove (a.arg 2 2) (a.arg 0 2) = some (6, mv1 .migrate true .bulk) := ⟨takes_of (by decide +kernel), by decide +kernel⟩
theorem test_move_params : Takes (at_ boundS 0x0404 (le 4 100000)) 0 0x0404 (mk 0x0404 (le 4 100000)) ∧
    Takes (at_ boundS 0x0405 ([1, 0, 0, 0] ++ le 4 86400)) 0 0x0405 (mk 0x0405 ([1, 0, 0, 0] ++ le 4 86400)) := ⟨takes_of (by decide +kernel), takes_of (by decide +kernel)⟩
/-- The first 12 bytes of a move message's body from or to initiator 1, and what follows. -/
def mbody (kind : Nat) (epoch : Nat) (rest : List Byte) : List Byte := le 1 kind ++ [2] ++ le 2 4 ++ le 2 1 ++ le 2 epoch ++ le 4 h1 ++ le 4 h1 ++ rest
theorem test_push_open : let q := mg 0x30 (mbody 1 1 (le 8 0 ++ le 4 5 ++ [0, 0, 3, 1] ++ le 4 1024 ++ le 4 256 ++ le 4 256 ++ zeros 20))
    let s := deliver q boundS
    Claims.delivered s 1 0x30 (some 1) q ∧ s.top.dev = .bound ∧ q.arg 24 4 = s.core.jobId ∧ s.core.quiesced = false ∧
    s.core.findMove (q.arg 4 2 % 2 ^ 14) (q.arg 2 2) = none ∧ q.arg 16 8 = 0 ∧ s.core.openBad q (q.arg 28 1) = none ∧
    s.core.fitsMove s.top (q.arg 28 1) (shLayers s.core.shape * pagesOf (q.arg 40 4)) (decide (q.arg 30 1 = CtxState.parked.code)) = true ∧
    bestSummit (s.core.admissible s.top) (s.core.moveSummits s.top) = some 1 ∧
    (∃ i c1, (s.core.takeMsg 1 q).takeCtx s.top 1 (Claims.openCtx 1 q) = .ok (i, c1) ∧
      (c1.commitAll s.top i (pagesOf (q.arg 40 4)) (decide (q.arg 30 1 = CtxState.parked.code))).isSome = true) :=
  ⟨⟨by decide +kernel, by decide +kernel⟩, by decide +kernel, by decide +kernel, by decide +kernel, by decide +kernel, by decide +kernel,
    by decide +kernel, by decide +kernel, by decide +kernel, _, _, rfl, by decide +kernel⟩
/-- A move message reaches its context, by evaluation. -/
theorem reaches_of {s : State} {type kind h : Nat} (hb : (!s.core.stale s.top h && (type == 0x32 || (type == 0x30 && kind == 4) ||
    ((s.core.ctx (hIndex h)).state != .draining && (s.core.ctx (hIndex h)).state != .faulted))) = true) : Claims.reaches s type kind h := by
  simpa [Claims.reaches, or_assoc] using hb
/-- A destination state with message q delivered. -/
def destS (mv : Move) (q : Msg) : State :=
  moveS mv (deliver q { (workS item1 page1) with core := { (workS item1 page1).core with
    sched := boundS.core.sched
    ctxs := [(1, { state := .movingIn, gen := 1, maxLen := 1024, epoch := 1, pages := [(0, { obj := 7, base := 0 })] })] } })
theorem test_push_page : let q := mg 0x30 (mbody 2 1 (le 2 0 ++ le 2 0 ++ [3, 1] ++ le 2 1 ++ zeros 8 ++ le 4 65 ++ le 4 0 ++ le 4 64 ++ zeros 4 ++ zeros 64))
    let mv := mv1 .migrate false .bulk
    let s := destS mv q
    Claims.onRecord s 1 0x30 2 false q 6 mv ∧ q.arg 16 2 < shLayers s.core.shape ∧ q.arg 18 2 < (s.core.ctx 1).pagesP ∧ q.arg 20 1 ≤ 3 ∧ q.arg 36 4 = 0 ∧
    ((q.body.drop 48).take (q.arg 40 4)).length < q.arg 32 4 ∧ q.arg 40 4 ≤ q.arg 32 4 ∧ mv.recvOf 0 0 = none ∧ s.core.pageOf 1 0 0 = some (7, page1) :=
  ⟨⟨⟨by decide +kernel, by decide +kernel⟩, reaches_of (by decide +kernel), by decide +kernel⟩, by decide +kernel⟩
theorem test_push_cutover : let q := mg 0x30 (mbody 3 1 (le 4 256 ++ le 4 1))
    let mv := mv1 .migrate false .bulk
    Claims.onRecord (destS mv q) 1 0x30 3 false q 6 mv ∧ mv.type ≠ .attach ∧ mv.complete = false ∧ ((destS mv q).core.ctx 1).held = [] :=
  ⟨⟨⟨by decide +kernel, by decide +kernel⟩, reaches_of (by decide +kernel), by decide +kernel⟩, by decide +kernel⟩
theorem test_push_abort : let q := mg 0x30 (mbody 4 1 (le 4 0))
    let mv := mv1 .migrate false .bulk
    Claims.onRecord (destS mv q) 1 0x30 4 false q 6 mv ∧ mv.cut = false ∧ ((destS mv q).core.ctx 1).state = .movingIn :=
  ⟨⟨⟨by decide +kernel, by decide +kernel⟩, reaches_of (by decide +kernel), by decide +kernel⟩, by decide +kernel⟩
theorem test_complete_early : let q := mg 0x33 (mbody 3 1 [])
    let mv := { mv1 .migrate false .bulk with carried := 1 }
    Claims.onRecord (destS mv q) 1 0x33 3 false q 6 mv ∧ (mv.recv.filter RecvPage.complete).length < mv.carried :=
  ⟨⟨⟨by decide +kernel, by decide +kernel⟩, reaches_of (by decide +kernel), by decide +kernel⟩, by decide +kernel⟩
theorem test_complete_last : let q := mg 0x33 (mbody 3 1 [])
    let mv := { mv1 .migrate false .bulk with cut := true }
    Claims.onRecord (destS mv q) 1 0x33 3 false q 6 mv ∧ mv.carried ≤ (mv.recv.filter RecvPage.complete).length ∧ mv.arrival ≠ .parked :=
  ⟨⟨⟨by decide +kernel, by decide +kernel⟩, reaches_of (by decide +kernel), by decide +kernel⟩, by decide +kernel⟩
theorem test_pull_open : let q := mg 0x31 (mbody 1 0 (zeros 32))
    let s := deliver q (ctxS .parked)
    Claims.delivered s 1 0x31 (some 1) q ∧ s.top.dev = .bound ∧ s.core.stale s.top (q.arg 8 4) = false ∧
    (s.core.ctx (hIndex (q.arg 8 4))).state ∈ MoveType.resume.from_ ∧ s.core.findMove (q.arg 4 2 % 2 ^ 14) (q.arg 2 2) = none ∧
    s.core.moveRoom 0 = true ∧ s.core.hasRef 1 .msg = true := ⟨⟨by decide +kernel, by decide +kernel⟩, by decide +kernel⟩
theorem test_pull_copy : let q := mg 0x31 (le 1 2 ++ [5] ++ le 2 4 ++ le 2 1 ++ le 2 0 ++ le 4 (mkHandle 2 1) ++ le 4 h1 ++ zeros 8 ++ le 4 256 ++ zeros 8)
    let s := deliver q pairS
    Claims.delivered s 1 0x31 (some 2) q ∧ s.core.stale s.top (q.arg 8 4) = false ∧
    (s.core.ctx (hIndex (q.arg 8 4))).state ∈ MoveType.attach.from_ ∧ 1 ≤ q.arg 24 4 ∧ q.arg 24 4 ≤ s.core.curLen (s.core.ctx (hIndex (q.arg 8 4))) ∧
    s.core.findMove (q.arg 4 2 % 2 ^ 14) (q.arg 2 2) = none ∧ s.core.moveRoom 0 = true ∧ s.core.hasRef 2 .pin 1 = true :=
  ⟨⟨by decide +kernel, by decide +kernel⟩, by decide +kernel⟩
/-- A source state with message q delivered. -/
def srcS (mv : Move) (q : Msg) : State :=
  moveS mv (deliver q { (workS item1 page1) with core := { (workS item1 page1).core with
    sched := boundS.core.sched
    ctxs := [(1, { state := .movingOut, prior := .generate, gen := 1, maxLen := 1024, pages := [(0, { obj := 7, base := 0 })] })] } })
/-- A page sent in part. -/
def sent1 (n : Nat) : SentPage := { layer := 0, page := 0, attempt := 2, sent := n, at_ := 0 }
theorem test_pull_page : let q := mg 0x31 (mbody 3 1 (zeros 12 ++ le 2 0 ++ le 2 0 ++ [3, 0, 0, 0]))
    let mv := { mv1 .migrate true .bulk with sent := [sent1 7] }
    Claims.onRecord (srcS mv q) 1 0x31 3 true q 6 mv ∧ q.arg 32 1 ≤ 3 := ⟨⟨⟨by decide +kernel, by decide +kernel⟩, reaches_of (by decide +kernel), by decide +kernel⟩, by decide +kernel⟩
theorem test_ack_open : let q := mg 0x32 (mbody 1 1 ([0] ++ zeros 3 ++ le 2 32 ++ zeros 10))
    let mv := mv1 .migrate true .opening
    Claims.onRecord (srcS mv q) 1 0x32 1 true q 6 mv ∧ mv.phase = .opening ∧ q.arg 16 1 = Status.ok.code :=
  ⟨⟨⟨by decide +kernel, by decide +kernel⟩, reaches_of (by decide +kernel), by decide +kernel⟩, by decide +kernel⟩
theorem test_ack_open_deferred : let q := mg 0x32 (mbody 1 1 ([5] ++ zeros 3 ++ le 2 0 ++ zeros 10))
    let mv := mv1 .migrate true .opening
    Claims.onRecord (srcS mv q) 1 0x32 1 true q 6 mv ∧ q.arg 16 1 = Status.deferredMemory.code ∧ ((srcS mv q).core.ctx 1).state = .movingOut :=
  ⟨⟨⟨by decide +kernel, by decide +kernel⟩, reaches_of (by decide +kernel), by decide +kernel⟩, by decide +kernel⟩
theorem test_ack_pull : let q := mg 0x32 (mbody 7 1 ([4] ++ zeros 15))
    let mv := { mv1 .resume false .opening with ctx := 0 }
    let s := { (srcS mv q) with core := (srcS mv q).core.onFabric (fun f => { f with
      reqs := [(8, { conn := 1, node := 2, type := 0x31, tag := 1, sent := 0, purpose := .move 6 0 })] }) }
    Claims.delivered s 1 0x32 (some 7) q ∧ s.core.findMove (q.arg 4 2 % 2 ^ 14) (q.arg 2 2) = some (6, mv) ∧ s.core.moves.get? 6 = some mv ∧
    q.arg 16 1 = Status.noResource.code ∧ (∃ e ∈ s.core.moveReqs 6, e.2.type = 0x31 ∧ (e.2.tag = 1 ∨ e.2.tag = 2)) :=
  ⟨⟨by decide +kernel, by decide +kernel⟩, by decide +kernel⟩
theorem test_ack_page : let q := mg 0x32 (mbody 2 1 ([0] ++ zeros 3 ++ le 2 1 ++ le 2 0 ++ le 2 0 ++ zeros 6))
    let mv := { mv1 .migrate true .bulk with sent := [sent1 7] }
    Claims.onRecord (srcS mv q) 1 0x32 2 true q 6 mv ∧ q.arg 16 1 = Status.ok.code ∧
    mv.sent.find? (fun y => y.layer == q.arg 22 2 && y.page == q.arg 24 2) = some (sent1 7) ∧ (sent1 7).acked = false :=
  ⟨⟨⟨by decide +kernel, by decide +kernel⟩, reaches_of (by decide +kernel), by decide +kernel⟩, by decide +kernel⟩
theorem test_ack_credit : let q := mg 0x32 (mbody 5 1 (zeros 4 ++ le 2 8 ++ zeros 10))
    let mv := mv1 .migrate true .bulk
    Claims.onRecord (srcS mv q) 1 0x32 5 true q 6 mv := ⟨⟨by decide +kernel, by decide +kernel⟩, reaches_of (by decide +kernel), by decide +kernel⟩
theorem test_ack_cutover : let q := mg 0x32 (mbody 3 1 (zeros 16))
    let mv := { mv1 .migrate true .drain with cut := true }
    Claims.onRecord (srcS mv q) 1 0x32 3 true q 6 mv := ⟨⟨by decide +kernel, by decide +kernel⟩, reaches_of (by decide +kernel), by decide +kernel⟩
theorem test_ack_done : let q := mg 0x32 (mbody 6 1 (zeros 16))
    let mv := { mv1 .migrate true .drain with cut := true }
    Claims.onRecord (srcS mv q) 1 0x32 6 true q 6 mv ∧ ((srcS mv q).core.ctx 1).state = .movingOut := ⟨⟨⟨by decide +kernel, by decide +kernel⟩, reaches_of (by decide +kernel), by decide +kernel⟩, by decide +kernel⟩
theorem test_page_push : let mv := { mv1 .migrate true .bulk with sent := [sent1 7], credits := 1 }
    let c := (srcS mv (mg 0x32 [])).core
    c.noteReady = c ∧ c.nextToSend mv = some (sent1 7) ∧ 0 < (sent1 7).sent ∧ c.pageOf 1 0 0 = some (7, page1) ∧ 0 < mv.credits := by decide +kernel
theorem test_mark : let q := mg 0x33 (mbody 1 1 [])
    let s := deliver q boundS
    Claims.delivered s 1 0x33 (some 1) q ∧ (s.core.conn 1).state = .opened ∧ (s.core.conn 1).rsp.wait = [] ∧ 1 ≤ (s.core.conn 1).rsp.held ∧
    1 ≤ (s.core.conn 1).rsp.heldMax ∧ s.core.findMove (q.arg 4 2 % 2 ^ 14) (q.arg 2 2) = none := ⟨⟨by decide +kernel, by decide +kernel⟩, by decide +kernel⟩
theorem test_mark_destination : let q := mg 0x33 (mbody 1 1 [])
    let mv := mv1 .migrate false .bulk
    Claims.delivered (destS mv q) 1 0x33 (some 1) q ∧ Claims.reaches (destS mv q) 0x33 1 (q.arg 12 4) ∧
    (destS mv q).core.findMove (q.arg 4 2 % 2 ^ 14) (q.arg 2 2) = some (6, mv) ∧ q.arg 6 2 = mv.wire :=
  ⟨⟨by decide +kernel, by decide +kernel⟩, reaches_of (by decide +kernel), by decide +kernel⟩
theorem test_echo : let q := mg 0x33 (mbody 2 1 [])
    let mv := { mv1 .migrate true .drain with cut := true }
    Claims.onRecord (srcS mv q) 1 0x33 2 true q 6 mv := ⟨⟨by decide +kernel, by decide +kernel⟩, reaches_of (by decide +kernel), by decide +kernel⟩
/-- A request of move 6 that is due. -/
def due6 (type : Nat) : Req := { conn := 1, node := 2, type := type, tag := 1, sent := 1998999000, mseq := some 0, purpose := .move 6 1 }
/-- The source state with that request. -/
def dueS (mv : Move) (x : Req) : State := { (srcS mv (mg 0x32 [])) with core := (srcS mv (mg 0x32 [])).core.onFabric (fun f => { f with reqs := [(8, x)] }) }
theorem test_drain_timeout : let s := dueS (mv1 .migrate true .drain) (due6 0x33)
    (s.core.moveReqs 6).find? (fun e => s.core.reqDue s.top e.2 && e.2.type == 0x33 && e.2.conn == 1) = some (8, due6 0x33) ∧
    s.core.fabric.reqs.get? 8 = some (due6 0x33) ∧ s.core.fabric.heard.get? 2 = some 1999999000 ∧ (due6 0x33).sent ≤ 1999999000 := by decide +kernel
theorem test_open_timeout : let s := dueS (mv1 .migrate true .opening) (due6 0x30)
    (s.core.moveReqs 6).find? (fun e => s.core.reqDue s.top e.2 && e.2.movesAlone && e.2.type != 0x33) = some (8, due6 0x30) ∧
    s.core.moves.get? 6 = some (mv1 .migrate true .opening) ∧ (s.core.ctx 1).state = .movingOut := by decide +kernel
/-- A page received in part, whose stall timer expires now. -/
def recv1 : RecvPage := { layer := 0, page := 0, attempt := 2, got := [(0, 64)], total := 65, fmt := 1, fill := 1, digest := 0, stallAt := some 2000000000 }
theorem test_stall : let mv := { mv1 .migrate false .bulk with recv := [recv1] }
    let s := destS mv (mg 0x32 [])
    s.core.moves.get? 6 = some mv ∧ mv.recvOf 0 0 = some recv1 ∧ recv1.stallAt = some 2000000000 ∧ 2000000000 ≤ s.top.now ∧ recv1.attempt < 3 ∧
    s.core.hasRef 1 .msg = true := by decide +kernel
theorem test_page_unacked : let mv := { mv1 .migrate true .bulk with sent := [{ sent1 1000000 with at_ := 1999000000 }] }
    let s := srcS mv (mg 0x32 [])
    let p := { sent1 1000000 with at_ := 1999000000 }
    mv.sent.find? (fun y => y.layer == 0 && y.page == 0) = some p ∧ p.acked = false ∧ p.attempt < 3 ∧ s.core.pageOf 1 0 0 = some (7, page1) ∧
    s.core.streamLen page1 ≤ p.sent ∧ p.at_ + (s.core.conn 1).timeoutUs * 1000 ≤ s.top.now ∧ s.core.fabric.heard.get? 2 = some 1999999000 ∧
    p.at_ ≤ 1999999000 := by decide +kernel
theorem test_record_expires : let mv := { mv1 .migrate true .done with ended := some 1000000000 }
    (moveS mv boundS).core.moves.get? 6 = some mv ∧ 1000000000 + 1000000000 ≤ boundS.top.now ∧ boundS.top.now < 1000000001 + 1000000000 := by decide +kernel

/-! ### Witnesses: vector search -/

/-- An index of FP16 vectors of 16 elements, in one list. -/
def idx1 (st : IdxState) : Idx :=
  { state := st, fmt := 1, metric := 1, flags := 0, d := 16, sub := 0, nlist := 1, sideCap := 1024, nprobe := 1, client := 1, summit := 1,
    pd := 3, budget1 := 16777216, budget2 := 16777216, centWritten := [(0, 32)] }
/-- The bound device with protection domain 3 and that index as number 15. -/
def idxS (i : Idx) : State := { boundS with core := { boundS.core with
  tiers := { boundS.core.tiers with tier0 := partsOf .prompt }
  fabric := { boundS.core.fabric with pds := [(3, 0)] }, search := { boundS.core.search with idxs := [(15, i)] } } }
/-- INDEX_CREATE's arguments. -/
def createArgs : List Byte :=
  [15, 1, 1, 0] ++ le 2 4096 ++ le 2 0 ++ le 4 1 ++ le 4 1024 ++ le 2 1 ++ [1, 0xFF] ++ le 2 3 ++ zeros 2 ++ le 8 16777216 ++ le 8 0
theorem test_index_create : let a := mk 0x0801 createArgs
    let s := put (idxS { idx1 .ready with budget2 := 0 }) (mk 0x0801 ([14] ++ createArgs.drop 1))
    Takes s 0 0x0801 (mk 0x0801 ([14] ++ createArgs.drop 1)) ∧ s.core.idx 14 = none ∧ idxParams s.top s.core a = .ok () ∧ idxBudgets s.top s.core a = .ok () :=
  ⟨takes_of (by decide +kernel), by decide +kernel, by decide +kernel, by decide +kernel⟩
theorem test_index_taken : let a := mk 0x0801 createArgs
    Takes (put (idxS (idx1 .ready)) a) 0 0x0801 a ∧ (put (idxS (idx1 .ready)) a).core.idx 15 ≠ none := ⟨takes_of (by decide +kernel), by decide +kernel⟩
theorem test_index_load : let a := mk 0x0802 ([15, 1, 0, 0] ++ le 4 0 ++ le 8 0 ++ le 8 32 ++ le 8 0)
    Takes (put (idxS (idx1 .loading)) a) 0 0x0802 a ∧ loadCheck (idx1 .loading) a = .ok () := ⟨takes_of (by decide +kernel), by decide +kernel⟩
theorem test_index_seal : Takes (at_ (idxS (idx1 .loading)) 0x0803 [15]) 0 0x0803 (mk 0x0803 [15]) ∧ (idx1 .loading).sealCheck = .ok () ∧
    Takes (at_ (idxS (idx1 .ready)) 0x0803 [15]) 0 0x0803 (mk 0x0803 [15]) := ⟨takes_of (by decide +kernel), by decide +kernel, takes_of (by decide +kernel)⟩
theorem test_index_seal_no : ({ idx1 .loading with centWritten := [(0, 31)] } : Idx).sealCheck = .error (.checkFail, 1) := by decide +kernel
theorem test_index_merge : let a := mk 0x0804 ([15, 0] ++ le 2 0xFFFF ++ le 4 0 ++ le 4 1)
    Takes (put (idxS (idx1 .ready)) a) 0 0x0804 a ∧ a.arg 2 2 = 0xFFFF ∧ 0 < a.arg 8 4 ∧ a.arg 4 4 + a.arg 8 4 ≤ (idx1 .ready).nlist :=
  ⟨takes_of (by decide +kernel), by decide +kernel⟩
theorem test_index_merge_refused : let a := mk 0x0804 ([15, 0] ++ le 2 16383 ++ le 4 0 ++ le 4 1)
    Takes (put (idxS (idx1 .loading)) a) 0 0x0804 a ∧ (match mergeCheck (put (idxS (idx1 .loading)) a).core a with
      | .error e => e.1 == .stateReject
      | .ok _ => false) = true ∧ a.arg 2 2 = 16383 := ⟨takes_of (by decide +kernel), by decide +kernel⟩
theorem test_index_query : Takes (at_ (idxS (idx1 .ready)) 0x0805 [15]) 0 0x0805 (mk 0x0805 [15]) ∧
    Takes (at_ (idxS (idx1 .ready)) 0x0806 [15]) 0 0x0806 (mk 0x0806 [15]) := ⟨takes_of (by decide +kernel), takes_of (by decide +kernel)⟩
theorem test_search_set : Takes (at_ boundS 0x0807 (le 4 1000 ++ [64, 8, 0, 0])) 0 0x0807 (mk 0x0807 (le 4 1000 ++ [64, 8, 0, 0])) ∧
    Takes (at_ boundS 0x0808 [31, 0, 0, 0]) 0 0x0808 (mk 0x0808 [31, 0, 0, 0]) ∧ 31 ∈ boundS.top.crests := ⟨takes_of (by decide +kernel), takes_of (by decide +kernel), by decide +kernel⟩
/-- A SEARCH_REQ to index 15. -/
def searchBody (kind k vid : Nat) (v : List Byte) : List Byte :=
  le 1 kind ++ [15] ++ zeros 6 ++ le 2 k ++ le 2 0 ++ le 2 0xFFFF ++ le 2 16 ++ le 8 vid ++ [1] ++ zeros 7 ++ v
theorem test_search_query : let q := mg 0x40 (searchBody 1 1024 0 (zeros 64))
    let s := deliver q (idxS (idx1 .ready))
    Claims.delivered s 1 0x40 none q ∧ searchCheck s.top s.core 1 q = .ok (idx1 .ready) ∧ q.arg 0 1 = 1 ∧ s.core.search.queries.length < 4096 :=
  ⟨⟨by decide +kernel, by decide +kernel⟩, by decide +kernel, by decide +kernel⟩
theorem test_search_insert : let q := mg 0x40 (searchBody 2 0 0xFFFFFFFFFE (zeros 64))
    let i := { idx1 .ready with tail := 1023 }
    let s := deliver q (idxS i)
    Claims.delivered s 1 0x40 none q ∧ searchCheck s.top s.core 1 q = .ok i ∧ q.arg 0 1 = 2 ∧ i.tail - i.head < i.sideCap :=
  ⟨⟨by decide +kernel, by decide +kernel⟩, by decide +kernel, by decide +kernel⟩
theorem test_search_delete : let q := mg 0x40 (searchBody 3 0 7 [])
    let s := deliver q (idxS (idx1 .merging))
    Claims.delivered s 1 0x40 none q ∧ searchCheck s.top s.core 1 q = .ok (idx1 .merging) ∧ q.arg 0 1 = 3 :=
  ⟨⟨by decide +kernel, by decide +kernel⟩, by decide +kernel, by decide +kernel⟩
/-- A query of index 15. -/
def query1 : Query :=
  { idx := 15, conn := 1, tag := 0, k := 1, nprobe := 1, exact := false, obj := 0xFFFF, client := 1, gen := 0, head := 0, tail := 0,
    vec := List.replicate 16 0, since := 1500000000 }
/-- The index with that query as number 2, and a unit 4 of its centroids. -/
def queryS (i : Idx) (g : Query) : State := { idxS i with core := (idxS i).core.onSearch (fun s => { s with
  queries := [(2, g)], nextQuery := 3, units := [(4, { idx := 15, first := 0, queries := [2], running := true })], nextUnit := 5 }) }
theorem test_batch : let s := queryS (idx1 .ready) query1
    s.core.idx 15 = some (idx1 .ready) ∧ s.core.search.queries.filter (fun e => e.2.idx == 15 && !e.2.batched) = [(2, query1)] ∧
    query1.since + 1000 * s.core.search.windowUs ≤ s.top.now := by decide +kernel
theorem test_unit_returns : let g := { query1 with batched := true, units := [4, 5] }
    let s := queryS (idx1 .ready) g
    s.core.search.units.get? 4 = some { idx := 15, first := 0, queries := [2], running := true } ∧ s.core.search.queries.get? 2 = some g ∧ 4 ∈ g.units ∧
    g.probe = none ∧ g.units.filter (· != 4) ≠ [] := by decide +kernel
theorem test_block_scan : let g := { query1 with batched := true, probe := some [0], blocks := [0] }
    let i := { idx1 .ready with cur := { gen := 0, place := [(0, 1)] } }
    let s := queryS i g
    s.core.search.queries.filter (fun e => e.2.idx == 15 && e.2.blocks.contains 0) = [(2, g)] ∧ i.placeOf (i.genOf g.gen) 0 = some 1 ∧
    s.top.gone (crestDie 31) = false ∧ s.core.underTest (crestDie 31) = false ∧ s.top.mayScan 31 1 = true := by decide +kernel
/-- A block in tier 1, while a Hawkmoth slice runs on the die and Luna has no credit under decode. -/
theorem test_block_waits : let g := { query1 with batched := true, probe := some [0], blocks := [0] }
    let i := { idx1 .ready with cur := { gen := 0, place := [(0, 0)] } }
    let s := queryS i g
    let c := (s.core.onSearch (fun y => { y with lunaCredits := 0 })).onSched (fun x => { x with items := [(3, { item1 with step := 1, run := some { layer := 0, started := true, slices := [slice0 .running] } })] })
    i.placeOf (i.genOf g.gen) 0 = some 0 ∧ s.top.mayScan 0 0 = true ∧ i.isBad (i.genOf g.gen) 0 = false ∧ c.lunaIssues 0 = false ∧
    s.core.lunaIssues 0 = true := by decide +kernel
theorem test_query_over : let s := queryS (idx1 .ready) query1
    s.core.search.queries.get? 2 = some query1 ∧ query1.since + 500000000 ≤ s.top.now ∧ s.top.now < 1500000001 + 500000000 := by decide +kernel
/-- The index with a merge that mailbox 0 awaits. -/
def mergeI : Idx := { idx1 .merging with merge := some { cut := 0, first := 0, count := 1, obj := 0xFFFF, mbox := 0 } }
theorem test_merge_switch : let s := at_ (idxS mergeI) 0x0804 ([15, 0] ++ le 2 0xFFFF ++ le 4 0 ++ le 4 1)
    s.core.idx 15 = some mergeI ∧ (mergeI.rewriteAll 0 (mergeI.folds 0) [0] { mergeI.cur with gen := mergeI.cur.gen + 1 } 0).isSome = true ∧
    (s.core.mbox 0).taken.isSome = true ∧ (s.core.mbox 0).result = none := by decide +kernel
theorem test_merge_full : let i := { mergeI with
      budget1 := 0, budget2 := 0, tail := 1, side := [{ seq := 0, vid := 1, del := false, vec := List.replicate 16 0 }]
      merge := some { cut := 1, first := 0, count := 1, obj := 0xFFFF, mbox := 0 } }
    i.rewriteAll 1 (i.folds 1) [0] { i.cur with gen := i.cur.gen + 1 } 0 = none := by decide +kernel
theorem test_index_retired : let s := idxS (idx1 .retiring)
    (∀ q ∈ s.core.search.queries.vals, q.idx ≠ 15) ∧ s.core.indexLoading 15 = false ∧
    (∃ q ∈ (queryS (idx1 .retiring) query1).core.search.queries.vals, q.idx = 15) ∧
    (∀ q ∈ (queryS (idx1 .retiring) query1).core.search.queries.vals, q.idx = 15 → q.gen ≠ 1) := by decide +kernel

/-! ### Witnesses: ports and links -/

/-- An UP port's record. -/
def upP : Port := { state := .up, txMap := 0xFFFF, rxMap := 0xFFFF, rxLocked := 0xFFFF, peerLocked := 0xFFFF, peerMin := 8, peerNode := 2 }
/-- The ready device with ports 6 and 7 as given. -/
def portS (x : Port) : State := { readyS with core := { readyS.core with ports := [(6, x), (7, x)] } }
theorem test_port_query : Takes (at_ (portS upP) 0x0901 [7]) 0 0x0901 (mk 0x0901 [7]) ∧ readyS.top.hasPort 7 = true ∧
    (portS upP).core.underTest (portDie 7) = false := ⟨takes_of (by decide +kernel), by decide +kernel⟩
/-- PORT_SET of port 7. -/
def portArgs (act least hold : Nat) : List Byte := [7] ++ le 1 act ++ le 1 least ++ [0] ++ le 4 hold
theorem test_port_set : Takes (at_ (portS upP) 0x0902 (portArgs 0 16 10000)) 0 0x0902 (mk 0x0902 (portArgs 0 16 10000)) ∧
    ¬ (laneCount upP.txMap < max 16 upP.peerMin ∨ laneCount upP.rxMap < max 16 upP.peerMin) := ⟨takes_of (by decide +kernel), by decide +kernel⟩
theorem test_port_enable : Takes (at_ (portS {}) 0x0902 (portArgs 1 0 0xFFFFFFFF)) 0 0x0902 (mk 0x0902 (portArgs 1 0 0xFFFFFFFF)) ∧
    ((portS {}).core.port 7).state = .disabled := ⟨takes_of (by decide +kernel), by decide +kernel⟩
theorem test_port_disable : Takes (at_ (portS upP) 0x0902 (portArgs 2 4 0)) 0 0x0902 (mk 0x0902 (portArgs 2 4 0)) ∧ upP.state ≠ .disabled ∧
    upP.disableBy = none := ⟨takes_of (by decide +kernel), by decide +kernel⟩
theorem test_port_few : let x := { upP with txMap := 0x7FFF }
    Takes (at_ (portS x) 0x0902 (portArgs 0 16 0)) 0 0x0902 (mk 0x0902 (portArgs 0 16 0)) ∧ x.attemptAt = none ∧
    laneCount x.txMap < max 16 x.peerMin := ⟨takes_of (by decide +kernel), by decide +kernel⟩
theorem test_port_bond : let s := at_ (portS upP) 0x0903 [0xC0, 1, 0, 0]
    Takes s 0 0x0903 (mk 0x0903 [0xC0, 1, 0, 0]) ∧ bondable 0xC0 = true ∧
    (∀ q ∈ portsOf 0xC0, s.top.hasPort q = true ∧ ((s.core.port q).group = 0 ∨ (s.core.port q).group = 0xC0)) ∧
    (∀ q ∈ portsOf 0xC0, (s.core.port q).state = .up) ∧
    (∀ q ∈ portsOf 0xC0, ∀ r ∈ portsOf 0xC0, (s.core.port q).peerNode = (s.core.port r).peerNode) := ⟨takes_of (by decide +kernel), by decide +kernel⟩
theorem test_port_unbond : let s := at_ (portS { upP with group := 0xC0 }) 0x0903 [0xC0, 2, 0, 0]
    Takes s 0 0x0903 (mk 0x0903 [0xC0, 2, 0, 0]) ∧
    (∀ q ∈ portsOf 0xC0, s.top.hasPort q = true ∧ ((s.core.port q).group = 0 ∨ (s.core.port q).group = 0xC0)) := ⟨takes_of (by decide +kernel), by decide +kernel⟩
theorem test_lane_query : Takes (at_ (portS upP) 0x0904 [7, 15, 1, 0]) 0 0x0904 (mk 0x0904 [7, 15, 1, 0]) := takes_of (by decide +kernel)
theorem test_port_retrain : Takes (at_ (portS upP) 0x0905 [7]) 0 0x0905 (mk 0x0905 [7]) ∧
    Takes (at_ (portS {}) 0x0905 [7]) 0 0x0905 (mk 0x0905 [7]) ∧ ((portS {}).core.port 7).state ≠ .up := ⟨takes_of (by decide +kernel), takes_of (by decide +kernel), by decide +kernel⟩
/-- A frame of one flit with a sequence and 48 bytes of zeros, and its CRC-32C. -/
def frame1 (seq : Nat) : List Flit :=
  let b := le 4 0x19 ++ le 2 seq ++ le 2 48 ++ [1] ++ zeros 3 ++ zeros 48
  [{ bad := false, bytes := b ++ le 4 (crc32c b).toNat }]
theorem test_frame_good : checkFrame (upP.deskew (frame1 0)) = .good 0 1 false (zeros 48) ∧ upP.stopped = false ∧ (0 : BitVec 16) = (upP.cls false).expect ∧
    (∀ g ∈ frame1 0, g.bad = false ∧ bits (flitWord g) 1 0 = 1) := by decide +kernel
theorem test_frame_again : checkFrame (upP.deskew (frame1 65535)) = .good 65535 1 false (zeros 48) ∧ (65535 : BitVec 16) ≠ (upP.cls false).expect ∧
    seqAbove16 (65535 : BitVec 16).toNat (upP.cls false).expect.toNat = false := by decide +kernel
theorem test_frame_ahead : checkFrame (upP.deskew (frame1 1)) = .good 1 1 false (zeros 48) ∧ seqAbove16 (1 : BitVec 16).toNat (upP.cls false).expect.toNat = true ∧
    frame1 1 ≠ [] ∧ (upP.cls false).nakAt = none := by decide +kernel
theorem test_frame_crc : let fs : List Flit := [{ bad := false, bytes := le 4 0x19 ++ zeros 60 }]
    checkFrame (upP.deskew fs) = .crc ∧ (∀ g ∈ fs, g.bad = false ∧ bits (flitWord g) 1 0 = 1) := by decide +kernel
/-- Two flits of a frame that come in the wrong order are put back by STRIPE. -/
theorem test_frame_striped : let a : Flit := { bad := false, bytes := le 4 0xFFFF0009 }
    let b : Flit := { bad := false, bytes := le 4 0x31 }
    ({ upP with rxStripe := 65535 } : Port).deskew [b, a] = [a, b] := by decide +kernel
/-- The port with a frame that awaits its acknowledgement and a retry timer. -/
def heldP : Port := { upP with normal := { next := 1, unacked := [{ seq := 0, payload := zeros 48, rsp := false, queue := 0, conn := 1, mseq := 0 }],
                                           timerAt := some 2000000000, retries := 8 } }
/-- A LINK flit. -/
def flit1 : LinkFlit :=
  { checkOk := true, normalAck := 0, expressAck := 0xFFFF, reqCredits := 1, rspCredits := 0, laneMask := 0xFF, nakExpress := false, cause := 4,
    calLane := 15, hold := 100 }
theorem test_ack : heldP.state ≠ .disabled ∧ heldP.state ≠ .dark ∧ heldP.stopped = false ∧ flit1.checkOk = true ∧ readyS.top.hasPort 7 = true := by decide +kernel
theorem test_retry_timer : heldP.state = .up ∧ (heldP.cls false).timerAt = some 2000000000 ∧ 2000000000 ≤ readyS.top.now ∧ (heldP.cls false).unacked ≠ [] := by decide +kernel
theorem test_retry_limit : 8 ≤ heldP.normal.retries ∧ upP.normal.retries < 8 ∧ upP.express.retries < 8 := by decide +kernel
theorem test_link_down : upP.state = .up ∧ upP.stopped = false ∧ flit1.checkOk = true := by decide
theorem test_link_ack_bad : ({ flit1 with checkOk := false } : LinkFlit).checkOk = false := rfl
theorem test_cal_req : flit1.calLane < 16 ∧ 0 < flit1.hold ∧ flit1.hold ≤ 100 ∧ (upP.lanes.getD (16 + flit1.calLane) {}).hold = none ∧
    (upP.lanes.getD (16 + flit1.calLane) {}).heldAt ≠ readyS.top.now / 1000000 + 1 := by decide +kernel
theorem test_lane_req : let offer := flit1.laneMask &&& ~~~upP.laserLow
    max upP.minLanes upP.peerMin ≤ laneCount offer ∧ upP.attemptAt = none ∧ upP.classFree false readyS.top.now = true := by decide +kernel
/-- A port in the middle of a frame of the normal class. -/
def busyP : Port := { upP with normalEnd := 2000000001 }
theorem test_lane_req_waits : busyP.classFree false readyS.top.now = false ∧ busyP.state = .up ∧ busyP.stopped = false := by decide +kernel
theorem test_map_waits : let x := { upP with mapWant := some 0xFF }
    x.mapWant = some 0xFF ∧ x.classFree false readyS.top.now = true ∧ max x.minLanes x.peerMin ≤ laneCount ((0xFF : BitVec 16) &&& ~~~x.laserLow) ∧
    x.attemptAt = none := by decide +kernel
theorem test_stopped : ({ upP with stopped := true } : Port).stopped = true := rfl
theorem test_lane_req_few : laneCount ((0x7F : BitVec 16) &&& ~~~upP.laserLow) < max upP.minLanes upP.peerMin := by decide +kernel
/-- A port whose link comes up, since some time. -/
def comingP (b : Nat) : Port := { upP with state := .training, stopped := false, attemptAt := some b, session := 4, peerSession := 5, sameLink := true }
/-- A HELLO_ACK. -/
def ctrl1 (major t3 : Nat) : LinkCtrl :=
  { major := major, minor := 0, port := 0, node := 2, minLanes := 16, session := 5, peerSession := 4, normalExpected := 0, expressExpected := 0,
    t1 := 1999990000, t2 := 1999990000, t3 := t3 }
theorem test_hello : upP.attemptAt = none ∧ ({ upP with state := .training } : Port).state ≠ .up := by decide
theorem test_hello_major : (comingP 0).state ≠ .up ∧ (comingP 0).attemptAt = some 0 ∧ (ctrl1 3 0).major ≠ 2 := by decide
theorem test_hello_ack_far : (ctrl1 2 1999994799).major = 2 ∧
    5200 < (readyS.top.now - (ctrl1 2 1999994799).t1) - ((ctrl1 2 1999994799).t3 - (ctrl1 2 1999994799).t2) := by decide
theorem test_hello_ack : let x := comingP 0
    let m := ctrl1 2 1999994800
    (readyS.top.now - m.t1) - (m.t3 - m.t2) ≤ 5200 ∧ max x.minLanes m.minLanes ≤ laneCount x.txMap ∧ max x.minLanes m.minLanes ≤ laneCount x.rxMap ∧
    max x.minLanes m.minLanes ≤ laneCount x.rxLocked ∧ max x.minLanes m.minLanes ≤ laneCount x.peerLocked ∧ m.session = x.peerSession ∧ m.peerSession = x.session ∧ x.sameLink = true ∧ (6 : BitVec 32) ≠ x.peerSession := by decide +kernel
theorem test_bringup_timeout : (comingP 1998000000).attemptAt = some 1998000000 ∧ 1998000000 + 2000000 ≤ readyS.top.now ∧
    readyS.top.now < 1998000001 + 2000000 := by decide
theorem test_bringup : let x := { upP with state := .down, retryAt := 2000000000 }
    x.mated = true ∧ x.attemptAt = none ∧ x.retryAt ≤ readyS.top.now ∧ readyS.top.txRefclk = true := by decide
theorem test_repeat : let x := { upP with laneReq := some 0xFFFF, reqAt := some 1999999000 }
    x.laneReq = some 0xFFFF ∧ x.reqAt = some 1999999000 ∧ x.helloAt = none ∧ x.mapWant = none ∧ x.calAt = none ∧ 1999999000 + 1000 ≤ readyS.top.now ∧ readyS.top.now < 1999999001 + 1000 := by decide
theorem test_lock_loss : upP.rxLocked.getLsbD 15 = true ∧ ({} : Port).rxLocked.getLsbD 15 = false ∧ upP.normal.nakAt = none ∧ upP.express.nakAt = none := by
  decide
/-- A port whose lane 15 is out until some time, after four losses of lock. -/
def outP (u : Option Nat) (e : Nat) : Port := { upP with
  rxLocked := 0x7FFF, lanes := [(15, { outUntil := u, losses := [1500000000, 1400000000, 1300000000, e] })] }
theorem test_rejoin : let l := (outP (some 2000000000) 0).lanes.getD 15 {}
    (outP (some 2000000000) 0).rxLocked.getLsbD 15 = false ∧ (portS (outP (some 2000000000) 0)).core.fenced (portDie 7) = false ∧
    l.outUntil = some 2000000000 ∧ 2000000000 ≤ readyS.top.now := by decide +kernel
theorem test_rejoin_unmapped : let x := { upP with rxMap := 0x7FFF }
    x.rxMap.getLsbD 15 = false ∧ (x.lanes.getD 15 {}).outUntil = none := by decide +kernel
theorem test_rejoin_out : ((outP (some 2000000001) 0).lanes.getD 15 {}).outUntil = some 2000000001 ∧ readyS.top.now < 2000000001 := by decide +kernel
theorem test_keepout : let l := (outP none 500000001).lanes.getD 15 {}
    l.losses = 1500000000 :: 1400000000 :: 1300000000 :: 500000001 :: [] ∧ l.outUntil = none ∧ readyS.top.now < 1500000000 + 1000000000 ∧
    1500000000 < 500000001 + 1000000000 ∧ 500000000 + 1000000000 ≤ 1500000000 := by decide +kernel
theorem test_laser : upP.txMap.getLsbD 15 = true ∧ upP.attemptAt = none ∧ laneCount (upP.txMap &&& ~~~(upP.laserLow ||| (1#16 <<< 15))) = 15 ∧
    laneCount ((0x80FF : BitVec 16) &&& ~~~(1#16 <<< 15 ||| 1)) < max upP.minLanes upP.peerMin ∧ upP.mapWant = none ∧
    upP.classFree false readyS.top.now = true := by decide +kernel
theorem test_light : ({ upP with state := .down } : Port).state = .down ∧ upP.state ≠ .training ∧ upP.state ≠ .down := by decide
theorem test_tuning : upP.state ≠ .disabled ∧ upP.state ≠ .dark ∧ (portS upP).core.fenced (portDie 7) = false ∧ (upP.lanes.getD 15 {}).hold = none ∧
    (upP.lanes.getD 31 {}).hold = none ∧ (upP.lanes.getD 31 {}).heldAt ≠ readyS.top.now / 1000000 + 1 ∧
    (upP.lanes.getD 15 {}).heldAt ≠ readyS.top.now / 1000000 + 1 ∧ (upP.lanes.getD 31 {}).trimAt ≠ readyS.top.now / 1000000 + 1 ∧
    ({ trimAt := 2001 } : Lane).trimAt = readyS.top.now / 1000000 + 1 := by decide +kernel
theorem test_calibration_made : let x := { upP with lanes := [(15, { hold := some 100, heldAt := 2001 })] }
    (x.lanes.getD 15 {}).hold = some 100 ∧ (x.lanes.getD 15 {}).heldAt = readyS.top.now / 1000000 + 1 ∧ x.state = .up := by decide +kernel
theorem test_calibration : let x := { upP with lanes := [(31, { hold := some 100, heldAt := 2001 })] }
    (x.lanes.getD (16 + 15) {}).hold = some 100 ∧ (x.lanes.getD (16 + 15) {}).heldAt = readyS.top.now / 1000000 + 1 ∧ x.state = .up ∧ (portS x).core.fenced (portDie 7) = false ∧ x.classFree true readyS.top.now = true ∧
    x.classFree false readyS.top.now = true ∧ x.express.replay = 0 ∧ ((portS x).core.port ((portS x).core.head 7)).queues = [] ∧
    ((portS x).core.port ((portS x).core.head 7)).gates = none ∧ ((portS x).core.port ((portS x).core.head 7)).gatesNext = none := by decide +kernel
theorem test_retrain_timeout : let x := { upP with state := .retrain, stateAt := 1999000000 }
    x.state = .retrain ∧ x.stateAt + 1000000 ≤ readyS.top.now ∧ readyS.top.now < 1999000001 + 1000000 := by decide
theorem test_flap : let x := { upP with state := .down, downs := List.replicate 8 1000000001 }
    8 ≤ (x.downs.filter (fun d => decide (readyS.top.now < d + 1000000000))).length ∧
    (([1000000000] : List Nat).filter (fun d => decide (readyS.top.now < d + 1000000000))).length < 8 := by decide +kernel
theorem test_flap_end : let x := { upP with state := .flapHold, stateAt := 1000000000 }
    x.state = .flapHold ∧ x.stateAt + 1000000000 ≤ readyS.top.now ∧ readyS.top.now < 1000000001 + 1000000000 := by decide
theorem test_hold_window : let x := { upP with state := .down, holdUntil := some 2000000000 }
    x.state = .down ∧ x.holdUntil = some 2000000000 ∧ 2000000000 ≤ readyS.top.now := by decide
theorem test_disable_done : let x := { upP with disableBy := some 2000000001 }
    x.disableBy = some 2000000001 ∧ x.normal.unacked = [] ∧ x.express.unacked = [] ∧ heldP.normal.unacked ≠ [] ∧ readyS.top.now < 2000000001 := by decide
theorem test_member_back : ({ upP with rejoin := 0xC0 } : Port).rejoin ≠ 0 := by decide

/-! ### Witnesses: the fabric -/

/-- The bound device with connection 1, domain 3 and a region. -/
def regS (r : Region) : State := let s := opened boundS
  { s with core := s.core.onFabric (fun f => { f with regions := [(16383, r)] }) }
/-- A region in device memory. -/
def reg1 : Region := { off := 0x3C00000000000, size := 65536, pd := 3, backing := .device, rights := 7, flags := 4, dir := 0, hostAddr := 0 }
theorem test_pd_alloc : Takes (at_ boundS 0x0A01 [1, 0, 0, 0]) 0 0x0A01 (mk 0x0A01 [1, 0, 0, 0]) ∧ boundS.core.isClient 1 = true ∧
    boundS.core.fabric.pds.length < 1024 ∧ Tbl.wf boundS.core.fabric.pds = true := ⟨takes_of (by decide +kernel), by decide +kernel⟩
theorem test_pd_free : let s := at_ { boundS with core := boundS.core.onFabric (fun f => { f with pds := [(3, 0)] }) } 0x0A02 (le 2 3)
    Takes s 0 0x0A02 (mk 0x0A02 (le 2 3)) ∧ (s.core.fabric.pds.get? 3).isSome = true ∧
    (∀ n ∈ s.core.fabric.conns.vals, n.state = .closed ∨ n.pd ≠ 3) ∧ (∀ r ∈ s.core.fabric.regions.vals, r.pd ≠ 3) ∧
    (∀ g ∈ s.core.tiers.grants, g.pd ≠ 3) := ⟨takes_of (by decide +kernel), by decide +kernel⟩
theorem test_pd_busy : let s := at_ (regS reg1) 0x0A02 (le 2 3)
    Takes s 0 0x0A02 (mk 0x0A02 (le 2 3)) ∧ (∃ r ∈ s.core.fabric.regions.vals, r.pd = 3) := ⟨takes_of (by decide +kernel), by decide +kernel⟩
theorem test_region : let a := mk 0x0A03 (le 8 0x3C00000000000 ++ le 8 65536 ++ le 2 3 ++ [2, 7] ++ le 2 0 ++ [0, 0] ++ le 8 0)
    let s := put (opened boundS) a
    Takes s 0 0x0A03 a ∧ Backing.ofCode (a.arg 18 1) = some .device ∧ Backing.device.window.1 ≤ a.arg 0 8 ∧
    a.arg 0 8 + a.arg 8 8 ≤ Backing.device.window.2 ∧ (s.core.fabric.pds.get? (a.arg 16 2)).isSome = true ∧ s.core.fabric.regions.length < 16384 ∧
    s.core.framesFit s.top (fun _ => 0) (fun k => unitsOn s.top.stackList.length k 1 false) = true ∧
    s.core.pdClient 3 = some 0 ∧ s.core.within s.top 0 1 65536 = true := ⟨takes_of (by decide +kernel), by decide +kernel⟩
theorem test_deregister : let s := at_ (regS reg1) 0x0A04 (le 2 16383)
    Takes s 0 0x0A04 (mk 0x0A04 (le 2 16383)) ∧ s.core.fabric.regions.get? 16383 = some reg1 ∧ reg1.closing = none ∧ s.core.fabric.reads = [] ∧
    s.core.fabric.txns = [] ∧ s.core.fabric.lines = [] := ⟨takes_of (by decide +kernel), by decide +kernel⟩
theorem test_deregister_waits : let e : Nat × ReadFor × Nat := (0, ReadFor.region 1 2 0 0 16383, 64)
    ∃ e' ∈ [e], e'.2 = (ReadFor.region 1 2 0 0 16383, 64) := ⟨_, List.mem_singleton.mpr rfl, rfl⟩
theorem test_subscribe : let s := at_ (regS reg1) 0x0A0B (le 2 16383 ++ [1, 0] ++ le 2 1)
    Takes s 0 0x0A0B (mk 0x0A0B (le 2 16383 ++ [1, 0] ++ le 2 1)) ∧ bit reg1.flags 2 = true ∧ (s.core.conn 1).state = .opened ∧
    (reg1.subs.filter (fun e => e.1 != (s.core.conn 1).peer)).length < 16 ∧
    Takes (at_ (regS reg1) 0x0A0B (le 2 16383 ++ [2, 0] ++ le 2 1)) 0 0x0A0B (mk 0x0A0B (le 2 16383 ++ [2, 0] ++ le 2 1)) :=
  ⟨takes_of (by decide +kernel), by decide +kernel, by decide +kernel, by decide +kernel, takes_of (by decide +kernel)⟩
theorem test_domain : let a := mk 0x0A0C ([3, 0] ++ le 2 2 ++ le 2 3 ++ le 2 0x3FFE)
    Takes (put (regS reg1) a) 0 0x0A0C a ∧ (∀ r ∈ (regS reg1).core.fabric.regions.vals, bit r.flags 3 = false) ∧
    (∀ i < 3, a.arg (2 + 2 * i) 2 < 0x3FFF ∧ a.arg (2 + 2 * i) 2 ≠ boundS.top.nodeId ∧ ∀ j < i, a.arg (2 + 2 * j) 2 ≠ a.arg (2 + 2 * i) 2) :=
  ⟨takes_of (by decide +kernel), by decide +kernel⟩
theorem test_fabric_set : Takes (at_ readyS 0x0A0D (le 4 100000)) 0 0x0A0D (mk 0x0A0D (le 4 100000)) ∧
    Takes (at_ readyS 0x0A0D (le 4 100001)) 0 0x0A0D (mk 0x0A0D (le 4 100001)) ∧
    Takes (at_ readyS 0x0A0E [3, 0, 0, 0]) 0 0x0A0E (mk 0x0A0E [3, 0, 0, 0]) ∧ readyS.top.gone (passDie 3) = false ∧
    readyS.core.underTest (passDie 3) = false := ⟨takes_of (by decide +kernel), takes_of (by decide +kernel), takes_of (by decide +kernel), by decide +kernel⟩

/-! ### Witnesses: connections, requests and remote memory -/

/-- CONN_OPEN's arguments for connection 16383 to node 2. -/
def openArgs (mask gReq : Nat) (us : Nat) : List Byte :=
  le 2 16383 ++ le 2 2 ++ le 2 16383 ++ le 2 3 ++ le 1 mask ++ [7, 2, 0] ++ le 2 gReq ++ le 2 1 ++ le 4 us ++ zeros 4
theorem test_conn_open : let a := mk 0x0A05 (openArgs 0x81 8191 10000)
    let s := put (opened boundS) a
    Takes s 0 0x0A05 a ∧ a.arg 0 2 < 16384 ∧ (s.core.conn 16383).state = .closed ∧ s.top.nodeId ≠ 0x3FFF ∧
    (s.core.fabric.pds.get? (a.arg 6 2)).isSome = true ∧ (∀ p ∈ portsOf (a.arg 8 1), s.top.hasPort p = true ∧
      (s.core.port p).group &&& a.arg 8 1 = (s.core.port p).group) ∧ a.arg 16 4 ≤ 10000 ∧
    sumL ((s.core.fabric.conns.filter (fun e => e.1 / 4096 == 16383 / 4096 && e.2.state != .closed)).map (fun e => e.2.req.grant + e.2.rsp.grant)) +
      a.arg 12 2 + a.arg 14 2 = 8192 := ⟨takes_of (by decide +kernel), by decide +kernel⟩
theorem test_conn_open_busy : let a := mk 0x0A05 (le 2 1 ++ (openArgs 1 1 10).drop 2)
    Takes (put (opened boundS) a) 0 0x0A05 a ∧ ((opened boundS).core.conn (a.arg 0 2)).state ≠ .closed := ⟨takes_of (by decide +kernel), by decide +kernel⟩
theorem test_conn_close : Takes (at_ (opened boundS) 0x0A06 (le 2 1)) 0 0x0A06 (mk 0x0A06 (le 2 1)) ∧
    Takes (at_ (opened boundS) 0x0A06 (le 2 16383)) 0 0x0A06 (mk 0x0A06 (le 2 16383)) ∧ ((opened boundS).core.conn 16383).state = .closed ∧
    ((opened boundS).core.conn 1).state = .opened ∧ Takes (at_ (opened boundS) 0x0A07 (le 2 16383)) 0 0x0A07 (mk 0x0A07 (le 2 16383)) :=
  ⟨takes_of (by decide +kernel), takes_of (by decide +kernel), by decide +kernel, by decide +kernel, takes_of (by decide +kernel)⟩
/-- RECV_POST's arguments: the last n bytes of the region. -/
def recvArgs (n : Nat) : List Byte := le 2 1 ++ le 2 16383 ++ zeros 4 ++ le 8 (65536 - n) ++ le 4 n ++ le 4 9
theorem test_recv_post : let a := mk 0x0A08 (recvArgs 65536)
    let s := put (regS reg1) a
    Takes s 0 0x0A08 a ∧ (s.core.conn 1).state = .opened ∧ s.core.fabric.regions.get? (a.arg 2 2) = some reg1 ∧ a.arg 8 8 + a.arg 16 4 = reg1.size ∧
    reg1.pd = (s.core.conn 1).pd ∧ (s.core.conn 1).bufs.length < 256 := ⟨takes_of (by decide +kernel), by decide +kernel⟩
theorem test_recv_post_auth : let a := mk 0x0A08 (recvArgs 1)
    let r := { reg1 with pd := 4 }
    Takes (put (regS r) a) 0 0x0A08 a ∧ (regS r).core.fabric.regions.get? (a.arg 2 2) = some r ∧ r.pd ≠ ((regS r).core.conn 1).pd :=
  ⟨takes_of (by decide +kernel), by decide +kernel⟩
/-- SEND_POST's arguments: n bytes of the region. -/
def sendArgs (n : Nat) : List Byte := le 2 1 ++ [7, 0] ++ le 2 16383 ++ zeros 2 ++ le 8 0 ++ le 4 n ++ le 4 9
theorem test_send_post : let a := mk 0x0A09 (sendArgs 32728)
    let s := put (regS reg1) a
    Takes s 0 0x0A09 a ∧ a.arg 2 1 < 8 ∧ s.core.fabric.regions.get? (a.arg 4 2) = some reg1 ∧ ceilDiv (40 + a.arg 16 4) 4096 = (s.core.conn 1).req.heldMax ∧
    s.core.memPoisoned (reg1.off + a.arg 8 8) (a.arg 16 4) = false := ⟨takes_of (by decide +kernel), by decide +kernel⟩
/-- A region in host memory. -/
def hostReg : Region := { reg1 with backing := .host, hostAddr := 0x1000 }
theorem test_send_post_host : let a := mk 0x0A09 (sendArgs 1)
    Takes (put (regS hostReg) a) 0 0x0A09 a ∧ (regS hostReg).core.fabric.regions.get? (a.arg 4 2) = some hostReg :=
  ⟨takes_of (by decide +kernel), by decide +kernel⟩
/-- MEM_ISSUE's arguments for node 2. -/
def issueArgs (type op ack n : Nat) (data : List Byte) : List Byte :=
  le 2 1 ++ le 1 type ++ le 1 op ++ le 1 ack ++ zeros 3 ++ le 8 (2 * 2 ^ 50 + 0x3C00000000000) ++ le 4 n ++ zeros 20 ++ data
theorem test_mem_issue : let a := mk 0x0A0A (issueArgs 0x50 0 0 2048 [])
    let s := put (opened boundS) a
    Takes s 0 0x0A0A a ∧ (s.core.conn 1).peer = addrNode (a.arg 8 8) ∧ memOpKnown 0x50 0 = true ∧ s.core.isDead 2 = false ∧ (s.core.conn 1).stages ≤ 1 :=
  ⟨takes_of (by decide +kernel), by decide +kernel⟩
theorem test_mem_issue_refused : let a := mk 0x0A0A (issueArgs 0x50 0 0 2048 [])
    let o := opened readyS
    let s := put { o with core := o.core.updConn 1 (fun n => { n with stages := 2 }) } a
    Takes s 0 0x0A0A a ∧ (s.core.conn 1).state = .opened ∧ ¬((s.core.conn 1).stages ≤ 1 ∨ s.top.dev = .bound) := ⟨takes_of (by decide +kernel), by decide +kernel⟩
theorem test_mem_issue_dead : let a := mk 0x0A0A (issueArgs 0x52 1 0 8 [])
    let o := opened boundS
    let s := put { o with core := o.core.onFabric (fun f => { f with dead := [2] }) } a
    Takes s 0 0x0A0A a ∧ memOpKnown 0x52 1 = true ∧ s.core.isDead (s.core.conn 1).peer = true := ⟨takes_of (by decide +kernel), by decide +kernel⟩
theorem test_mem_issue_write : let a := mk 0x0A0A (issueArgs 0x51 1 1 1 [0xAB])
    let b := mk 0x0A0A (issueArgs 0x51 0 0 1 [0xAB])
    Takes (put (opened boundS) a) 0 0x0A0A a ∧ bit (a.arg 4 1) 0 = true ∧ 40 + a.arg 16 4 ≤ a.length ∧ a.arg 16 4 ≤ (a.args.drop 40).length ∧
    Takes (put (opened boundS) b) 0 0x0A0A b ∧ bit (b.arg 4 1) 0 = false ∧ a.arg 3 1 = 1 :=
  ⟨takes_of (by decide +kernel), by decide +kernel, by decide +kernel, by decide +kernel, takes_of (by decide +kernel), by decide +kernel, by decide +kernel⟩

/-- A memory request's body: an address of node 1, a length, an operation and its control byte. -/
def memBody (off n op ctl : Nat) (data : List Byte) : List Byte := le 8 (2 ^ 50 + off) ++ le 4 n ++ le 1 op ++ le 1 ctl ++ zeros 2 ++ le 4 9 ++ zeros 20 ++ data
/-- The bound device with a region and message q delivered on connection 1. -/
def memS (r : Region) (q : Msg) : State := let s := deliver q boundS
  { s with core := s.core.onFabric (fun f => { f with regions := [(5, r)] }) }
/-- The last offset of a region at which n bytes fit. -/
def lastOff (n : Nat) : Nat := 0x3C00000000000 + 65536 - n
theorem test_mem_read : let q := mg 0x50 (memBody (lastOff 65536) 65536 0 0 [])
    let r := { reg1 with flags := 0 }
    Claims.delivered (memS r q) 1 0x50 none q ∧ (memS r q).core.memTarget (lastOff 65536) 65536 false = some (.region 5 r) ∧ addrNode (q.arg 0 8) = q.dst ∧
    r.pd = ((memS r q).core.conn 1).pd ∧ bit r.rights 0 = true ∧ (memS r q).core.memPoisoned (lastOff 65536) 65536 = false ∧
    addrLocal (q.arg 0 8) = lastOff 65536 ∧ q.arg 8 4 = 65536 := ⟨⟨by decide +kernel, by decide +kernel⟩, by decide +kernel⟩
theorem test_mem_read_version : let q := mg 0x50 (memBody (lastOff 1) 1 3 0 [])
    Claims.delivered (memS reg1 q) 1 0x50 none q ∧ (memS reg1 q).core.memTarget (lastOff 1) 1 false = some (.region 5 reg1) ∧
    q.arg 12 1 = 3 ∧ bit reg1.flags 2 = true ∧ bit reg1.flags 3 = false := ⟨⟨by decide +kernel, by decide +kernel⟩, by decide +kernel⟩
theorem test_mem_read_host : let q := mg 0x50 (memBody (lastOff 1) 1 0 0 [])
    Claims.delivered (memS hostReg q) 1 0x50 none q ∧ (memS hostReg q).core.memTarget (lastOff 1) 1 false = some (.region 5 hostReg) ∧
    bit hostReg.flags 3 = false ∧ bit hostReg.rights 0 = true ∧ bit hostReg.flags 1 = false := ⟨⟨by decide +kernel, by decide +kernel⟩, by decide +kernel⟩
/-- A read of a COMBINE region while an identical one waits. -/
theorem test_mem_read_combined : let q := mg 0x50 (memBody (lastOff 1) 1 0 0 [])
    let r := { hostReg with flags := 2 }
    let j : ReadJoin := { rid := 5, op := 0, off := lastOff 1, len := 1 }
    let c := (memS r q).core.onFabric (fun f => { f with joins := [(4, j)] })
    bit r.flags 1 = true ∧ c.fabric.joins.filter (fun e => e.2.open_ && e.2.rid == 5 && e.2.op == 0 && e.2.off == lastOff 1 && e.2.len == 1) = [(4, j)] := by
  decide +kernel
/-- A grant of 64 KiB of the pool to domain 3, with some of its units. -/
def grant1 (us : List Nat) : Grant := { client := 0, off := 0, size := 65536, pd := 3, units := us, origin := 0 }
/-- The bound device with that grant, and message q delivered. -/
def grantS (us : List Nat) (rev : List (Nat × Nat)) (q : Msg) : State := let s := deliver q boundS
  { s with core := s.core.onTiers (fun x => { x with grants := [grant1 us], revoked := rev }) }
theorem test_mem_grant : let q := mg 0x50 (memBody 0x3000000000000 1 0 0 [])
    Claims.delivered (grantS [0] [] q) 1 0x50 none q ∧ (grantS [0] [] q).core.memTarget 0x3000000000000 1 false = some (.grant (grant1 [0])) ∧
    (grantS [0] [] q).core.memPoisoned 0x3000000000000 1 = false := ⟨⟨by decide +kernel, by decide +kernel⟩, by decide +kernel⟩
theorem test_mem_none : let q := mg 0x50 (memBody 0x3000000010000 1 0 0 [])
    Claims.delivered (grantS [] [(65536, 65536)] q) 1 0x50 none q ∧ (grantS [] [(65536, 65536)] q).core.memTarget 0x3000000010000 1 false = none ∧
    (grantS [] [(65536, 65536)] q).core.inRevoked 0x3000000010000 1 = true ∧ (grantS [] [] q).core.memTarget 0x3000000010000 1 false = none ∧
    (grantS [] [] q).core.inRevoked 0x3000000010000 1 = false := ⟨⟨by decide +kernel, by decide +kernel⟩, by decide +kernel⟩
/-- A region of the coherent domain, in a domain with node 2, and a line of it. -/
def cohS (x : Line) (q : Msg) : State := let s := memS { reg1 with flags := 8 } q
  { s with core := s.core.onFabric (fun f => { f with domain := [2], lines := [(lastOff 64 / 64, x)] }) }
theorem test_coherent_read : let q := mg 0x50 (memBody (lastOff 64) 64 2 0 [])
    let s := cohS {} q
    Claims.delivered s 1 0x50 none q ∧ s.core.memTarget (lastOff 64) 64 false = some (.region 5 { reg1 with flags := 8 }) ∧ s.core.inDomain s.top q.src = true ∧
    lastOff 64 % 64 = 0 ∧ (s.core.line (lastOff 64 / 64)).state = .uncached ∧ (s.core.line (lastOff 64 / 64)).busy = none ∧
    s.core.lineAhead s.core.fabric.nextLineReq (lastOff 64 / 64) = false := ⟨⟨by decide +kernel, by decide +kernel⟩, by decide +kernel⟩
theorem test_coherent_owned : let q := mg 0x50 (memBody (lastOff 64) 64 1 0 [])
    Claims.delivered (cohS { state := .exclusive 3 } q) 1 0x50 none q ∧ ((cohS { state := .exclusive 3 } q).core.line (lastOff 64 / 64)).state = .exclusive 3 :=
  ⟨⟨by decide +kernel, by decide +kernel⟩, by decide +kernel⟩
theorem test_mem_write : let q := mg 0x51 (memBody (lastOff 2) 2 0 1 [0xAB, 0xCD])
    let r := { reg1 with flags := 0 }
    Claims.delivered (memS r q) 1 0x51 none q ∧ (memS r q).core.memTarget (lastOff 2) 2 false = some (.region 5 r) ∧
    (memS r q).core.fabric.regions.get? 5 = some r ∧ bit r.rights 1 = true ∧ bit (q.arg 13 1) 0 = true ∧ q.arg 8 4 ≤ (q.body.drop 40).length :=
  ⟨⟨by decide +kernel, by decide +kernel⟩, by decide +kernel⟩
theorem test_mem_write_posted : let q := mg 0x51 (memBody (lastOff 2) 2 0 0 [0xAB, 0xCD])
    let r := { reg1 with flags := 0 }
    Claims.delivered (memS r q) 1 0x51 none q ∧ (memS r q).core.memTarget (lastOff 2) 2 false = some (.region 5 r) ∧ bit (q.arg 13 1) 0 = false :=
  ⟨⟨by decide +kernel, by decide +kernel⟩, by decide +kernel⟩
theorem test_mem_write_grant : let q := mg 0x51 (memBody 0x300000000FFFF 1 0 1 [0xAB])
    Claims.delivered (grantS [0] [] q) 1 0x51 none q ∧ (grantS [0] [] q).core.memTarget 0x300000000FFFF 1 false = some (.grant (grant1 [0])) ∧
    (grant1 [0]).fresh 0x300000000FFFF 1 = [] ∧ (grant1 []).fresh 0x300000000FFFF 1 ≠ [] ∧
    ((grantS [] [] q).core.commitGrant (grantS [] [] q).top (grant1 []) 0x300000000FFFF 1).isSome = true ∧
    ((grantS [] [] q).core.memTarget 0x300000000FFFF 1 false) = some (.grant (grant1 [])) := ⟨⟨by decide +kernel, by decide +kernel⟩, by decide +kernel⟩
theorem test_mem_write_none : let q := mg 0x51 (memBody 0x3000000010000 1 0 1 [0xAB])
    Claims.delivered (grantS [] [] q) 1 0x51 none q ∧ (grantS [] [] q).core.memTarget 0x3000000010000 1 false = none := ⟨⟨by decide +kernel, by decide +kernel⟩, by decide +kernel⟩
theorem test_mem_atomic : let q := mg 0x52 (memBody (lastOff 8) 8 1 0 [])
    let r := { reg1 with flags := 0 }
    let c := (memS r q).core
    Claims.delivered (memS r q) 1 0x52 none q ∧ c.memTarget (lastOff 8) 8 false = some (.region 5 r) ∧ lastOff 8 % 8 = 0 ∧ bit r.rights 2 = true ∧
    (atomicOp 1 64 (rd (c.tiers.mem.readN (lastOff 8) 8) 0 8) (q.arg 24 8) (q.arg 32 8)).isSome = true ∧
    (atomicOp 6 32 (rd (c.tiers.mem.readN (lastOff 4) 4) 0 4) (q.arg 24 8) (q.arg 32 8)).isSome = true := ⟨⟨by decide +kernel, by decide +kernel⟩, by decide +kernel⟩
theorem test_invalidate : Claims.delivered (deliver (mg 0x54 (zeros 40)) boundS) 1 0x54 none (mg 0x54 (zeros 40)) := ⟨by decide +kernel, by decide +kernel⟩
theorem test_invalidate_sent : let q := mg 0x54 (le 8 (2 * 2 ^ 50 + 64) ++ zeros 32)
    (decide (q.arg 12 1 ≠ 1) && ([2 * 2 ^ 50 + 64] : List Nat).contains (q.arg 0 8)) = true := by decide +kernel
/-- A MEM_ISSUE of mailbox 0 that awaits its answer, as request 8. -/
def reqS (type : Nat) (p : Purpose) (q : Msg) : State := let s := deliver q boundS
  { s with core := s.core.onFabric (fun f => { f with reqs := [(8, { conn := 1, node := 2, type := type, tag := 8, sent := 0, mseq := some 0, purpose := p })] }) }
theorem test_mem_completion : let q := mg 0x53 (memCompletion 8 .poisoned 5 0 0 [])
    let s := reqS 0x52 (.memIssue 0) q
    Claims.delivered s 1 0x53 none q ∧ Status.ofCode (q.arg 4 1) = some .poisoned ∧
    (s.core.findReq 1 (fun k x => (x.type == 0x50 || x.type == 0x51 || x.type == 0x52 || x.type == 0x54) && k % 2 ^ 32 == q.arg 0 4)).map Prod.fst = some 8 :=
  ⟨⟨by decide +kernel, by decide +kernel⟩, by decide +kernel⟩
theorem test_send_none : let q := mg 0x60 (zeros 9)
    Claims.delivered (deliver q boundS) 1 0x60 none q ∧ ((deliver q boundS).core.conn 1).bufs = [] := ⟨⟨by decide +kernel, by decide +kernel⟩, by decide +kernel⟩
theorem test_send : let q := mg 0x60 (zeros 8 ++ [0xAB])
    let b : RecvBuf := { region := 5, off := 65535, len := 1, tag := 3 }
    let m := memS reg1 q
    let s := { m with core := m.core.updConn 1 (fun n => { n with bufs := [b] }) }
    Claims.delivered s 1 0x60 none q ∧ (s.core.conn 1).bufs = [b] ∧ (q.body.drop 8).length = b.len ∧ s.core.fabric.regions.get? b.region = some reg1 ∧
    reg1.closing = none := ⟨⟨by decide +kernel, by decide +kernel⟩, by decide +kernel⟩
theorem test_send_ack : let q := mg 0x61 ([1, 4, 0, 0] ++ le 4 8 ++ le 4 0 ++ zeros 4)
    let s := reqS 0x60 (.sendPost 0) q
    Claims.delivered s 1 0x61 (some 1) q ∧ Status.ofCode (q.arg 1 1) = some .noResource ∧
    (s.core.findReq 1 (fun _ x => x.type == 0x60 && x.tag == q.arg 4 4)).map Prod.fst = some 8 := ⟨⟨by decide +kernel, by decide +kernel⟩, by decide +kernel⟩
theorem test_coherent_queue : let q := mg 0x50 (memBody (lastOff 64) 64 1 0 [])
    let s := cohS { queue := [{ conn := 1, node := 2, msg := q }] } (mg 0x54 [])
    let l := lastOff 64 / 64
    (s.core.line l).busy = none ∧ (s.core.line l).state = .uncached ∧ (s.core.line l).queue = [{ conn := 1, node := 2, msg := q }] ∧
    s.core.lineAhead 0 l = false ∧
    s.core.memTarget (lastOff 64) 64 true = some (.region 5 { reg1 with flags := 8 }) ∧ lastOff 64 = 64 * l ∧ s.core.inDomain s.top q.src = true ∧
    (∀ e ∈ s.core.fabric.regions, e.2.closing = none) ∧ addrLocal (q.arg 0 8) = lastOff 64 := by decide +kernel
theorem test_coherent_idle : ({} : Line).queue = [] ∧ ({ busy := some ({ conn := 1, node := 2, msg := mg 0x50 [] }, [3]) } : Line).busy.isSome = true := by decide

/-! ### Witnesses: cells, timers and credits -/

/-- A cell of message 0 from connection 1 of node 2: its node, offset, total and data. -/
def cellBytes (dst off total : Nat) (last : Nat) (d : List Byte) : List Byte :=
  le 4 0 ++ le 2 (dst + 32768 * last) ++ le 2 2 ++ le 2 1 ++ le 2 0 ++ le 4 off ++ le 4 total ++ d
/-- The state with connection 1 open and a cell received on port 7. -/
def cellS (b : List Byte) : State := let s := opened boundS
  { s with core := { s.core with ports := [(7, { upP with rxq := [(false, b)] })] } }
theorem test_cell_whole : let b := cellBytes 1 0 32 1 (zeros 32)
    let x := Cell.ofBytes b
    ((cellS b).core.port 7).rxq = [(false, b)] ∧ (cellS b).core.frameIn 7 = true ∧ (opened boundS).core.ports = [] ∧ x.dst = (cellS b).top.nodeId ∧ ((cellS b).core.conn x.conn).state = .opened ∧
    ((cellS b).core.conn x.conn).peer = x.src ∧ x.control = false ∧ x.consistent = true ∧ ((cellS b).core.conn x.conn).chan x.rsp = (conn1 []).req ∧
    (conn1 []).req.expect = x.id ∧ ceilDiv x.total 4096 ≤ (conn1 []).req.grant ∧ x.data.length = x.total := by decide +kernel
theorem test_cell_first : let x := Cell.ofBytes (cellBytes 1 0 3809 0 (zeros 3808))
    x.consistent = true ∧ x.data.length < x.total := by decide +kernel
theorem test_cell_astray : (Cell.ofBytes (cellBytes 3 0 32 1 (zeros 32))).dst ≠ boundS.top.nodeId := by decide +kernel
/-- The state with a complete message at the head of the request channel of connection 1. -/
def readyMsg (q : Msg) (id : Nat) : State := let s := opened boundS
  { s with core := s.core.updConn 1 (fun n => { n with req := { n.req with ready := [(id, (q, 1999000000))] } }) }
theorem test_deliver : let q := { mg 0x50 (zeros 40) with stamp := stampOf 1999000000 }
    let s := readyMsg q 0
    let ch := (s.core.conn 1).chan false
    ch.ready.get? ch.expect = some (q, 1999000000) ∧ ch.ready.get? ((ch.expect + 1) % 2 ^ 32) = none ∧ (s.core.conn 1).peer = q.src ∧ q.connless = false ∧
    knownType q.type = true ∧ staleStamp 1999000000 q.stamp s.core.fabric.skewUs = false ∧ q.job = s.core.jobId ∧
    s.core.carried s.top (s.core.conn 1).stages q = true := by decide +kernel
theorem test_deliver_stale : let q := { mg 0x50 (zeros 40) with stamp := stampOf 1999000000 + 62501 }
    staleStamp 1999000000 q.stamp (readyMsg q 0).core.fabric.skewUs = true ∧
    staleStamp 1999000000 (q.stamp - 1) (readyMsg q 0).core.fabric.skewUs = false := by decide +kernel
theorem test_deliver_none : let ch := ((readyMsg (mg 0x50 []) 1).core.conn 1).chan false
    ch.ready.get? ch.expect = none := by decide +kernel
/-- A message in part received since some time. -/
def slotS (at_ : Nat) : State := let s := opened boundS
  { s with core := s.core.updConn 1 (fun n => { n with req := { n.req with slots := [(3, { total := 4097, opened := at_ })] } }) }
theorem test_reassembly : (((slotS 1999000000).core.conn 1).chan false).slots.get? 3 = some { total := 4097, opened := 1999000000 } ∧
    1999000000 + ((slotS 0).core.conn 1).timeoutUs * 1000 ≤ (slotS 0).top.now ∧ (slotS 0).top.now < 1999000001 + ((slotS 0).core.conn 1).timeoutUs * 1000 := by decide +kernel
theorem test_reorder : let ch := ((readyMsg (mg 0x50 []) 1).core.conn 1).chan false
    ch.ready.get? ch.expect = none ∧ (∃ e ∈ ch.ready, e.2.2 + (conn1 []).timeoutUs * 1000 ≤ readyS.top.now) ∧ ¬(1999000001 + 1000 * 1000 ≤ readyS.top.now) := by decide +kernel
/-- A request that awaits its answer. -/
def req1 (at_ : Nat) (ms : Option Nat) (p : Purpose) : Req := { conn := 1, node := 2, type := 0x50, tag := 8, sent := at_, mseq := ms, purpose := p }
/-- The bound device with that request as number 8, a mailbox that waits for it, and node 2 last heard of at some time. -/
def agedS (x : Req) (heard : Tbl Nat) : State := let s := at_ (opened boundS) 0x0A0A (issueArgs 0x50 0 0 1 [])
  { s with core := s.core.onFabric (fun f => { f with reqs := [(8, x)], heard := heard, txns := [(4, { conn := 1, tag := 0, body := [], waiting := 1 })] }) }
theorem test_completion_timeout : let x := req1 1999000000 (some 0) (.memIssue 0)
    let s := agedS x [(2, 1999000000)]
    s.core.fabric.reqs.get? 8 = some x ∧ x.sent + (s.core.conn x.conn).timeoutUs * 1000 ≤ s.top.now ∧
    (∃ h, s.core.fabric.heard.get? x.node = some h ∧ x.sent ≤ h) ∧ (s.core.mbox 0).taken.isSome = true ∧ (s.core.mbox 0).result = none :=
  ⟨by decide +kernel, by decide +kernel, ⟨1999000000, by decide +kernel⟩, by decide +kernel⟩
theorem test_completion_not_due : let x := req1 1999000001 none (.memIssue 0)
    ¬(x.sent + ((agedS x []).core.conn x.conn).timeoutUs * 1000 ≤ (agedS x []).top.now) := by decide +kernel
theorem test_completion_dead : let x := req1 1999000000 (some 0) (.memIssue 0)
    x.mseq = some 0 ∧ (agedS x []).core.fabric.heard.get? x.node = none := by decide +kernel
theorem test_invalidate_timeout : let s := agedS (req1 1999000000 none (.version 4)) []
    (s.core.fabric.txns.get? 4).map VersionTxn.waiting = some 1 ∧ s.core.fabric.reqs.get? 8 = some (req1 1999000000 none (.version 4)) := by decide +kernel
/-- Connection 1 in some state. -/
def connS (n : Conn) : State := let s := opened boundS
  { s with core := s.core.onFabric (fun f => { f with conns := [(1, n)] }) }
theorem test_credit_return : let n := { conn1 [] with req := { grant := 8, owed := 1 }, lastSent := 1999998000 }
    ((connS n).core.conn 1).state ≠ .closed ∧ 0 < n.req.owed + n.rsp.owed ∧ n.lastSent + 2000 ≤ readyS.top.now ∧ readyS.top.now < 1999998001 + 2000 := by decide +kernel
theorem test_grant_timer : let n := { conn1 [] with state := .opening, lastGrant := 1999900000 }
    ((connS n).core.conn 1).state = .opening ∧ n.lastGrant + 100000 ≤ readyS.top.now ∧ readyS.top.now < 1999900001 + 100000 := by decide +kernel
theorem test_conn_closed : let n := { conn1 [] with state := .closing, closeAt := 1999000000, req := { slots := [(3, { total := 32, opened := 0 })] } }
    ((connS n).core.conn 1).state = .closing ∧ n.closeAt + n.timeoutUs * 1000 ≤ readyS.top.now ∧ n.req.slots ≠ [] ∧
    readyS.top.now < 1999000001 + n.timeoutUs * 1000 ∧ (connS n).core.fabric.reqs = [] := by decide +kernel
theorem test_conn_closed_dead : let s := connS { conn1 [] with state := .closing, closeAt := 1999000000 }
    let c := s.core.onFabric (fun f => { f with dead := [2] })
    c.isDead (c.conn 1).peer = true ∧ (∀ e ∈ c.fabric.reqs, e.2.conn ≠ 1) := by decide +kernel
theorem test_conn_closed_request : let s := agedS (req1 1999000000 (some 0) (.memIssue 0)) []
    let c := s.core.updConn 1 (fun n => { n with state := .closing, closeAt := 1999000000 })
    c.fabric.reqs = [(8, req1 1999000000 (some 0) (.memIssue 0))] ∧ (c.conn 1).state = .closing ∧ (c.mbox 0).taken.isSome = true ∧ (c.mbox 0).result = none := by
  decide +kernel
theorem test_ack_credits : let q := mg 0x61 ([2] ++ zeros 15)
    let n := (deliver q boundS).core.conn 1
    Claims.delivered (deliver q boundS) 1 0x61 (some 2) q ∧ n.req.wait = [] ∧ n.rsp.wait = [] ∧ n.req.held = n.req.heldMax ∧ n.rsp.held = n.rsp.heldMax :=
  ⟨⟨by decide +kernel, by decide +kernel⟩, by decide +kernel⟩
theorem test_ack_grant : let q := { mg 0x61 ([3] ++ zeros 15) with crReq := 8191, crRsp := 1 }
    let s := deliver q boundS
    let t := { s with core := s.core.updConn 1 (fun n => { n with granted := false }) }
    Claims.delivered t 1 0x61 (some 3) q ∧ (t.core.conn 1).granted = false := ⟨⟨by decide +kernel, by decide +kernel⟩, by decide +kernel⟩
theorem test_unknown : unhandled (mg 0x12 []) = some (.dev 2) ∧ knownType 0x12 = false ∧ unhandled (mg 0x61 [4]) = some (.pass 0 14) ∧
    unhandled (mg 0x33 [4]) = some (.dev 8) ∧ unhandled (mg 0x33 [3]) = none := by decide +kernel

/-! ### Witnesses: egress queues, gates and shapers -/

/-- The device with one port 7 and nothing else. -/
def oneS (x : Port) : State := { readyS with core := { readyS.core with ports := [(7, x)] } }
/-- A frame that waits in queue k. -/
def waitP (k : Nat) : Port := { upP with queues := [(k, [{ payload := zeros 48, rsp := false, entered := some 0, conn := 1, mseq := 0 }])] }
theorem test_shaper_set : let a := mk 0x0B01 ([7, 7, 1, 0] ++ le 4 400000 ++ le 4 16777216)
    let b := mk 0x0B01 ([7, 7, 3, 0] ++ le 4 1 ++ le 4 4096)
    Takes (put (oneS upP) a) 0 0x0B01 a ∧ (upP.q 7) = [] ∧ a.arg 4 4 = 400000 ∧ a.arg 8 4 = 16777216 ∧
    Takes (put (oneS { waitP 7 with shapers := [(7, { rate := 2 })] }) b) 0 0x0B01 b ∧ (waitP 7).q 7 ≠ [] ∧ bit (b.arg 2 1) 1 = true ∧
    readyS.core.underTest (portDie 7) = false ∧ readyS.top.hasPort 7 = true :=
  ⟨takes_of (by decide +kernel), by decide +kernel, by decide +kernel, by decide +kernel, takes_of (by decide +kernel), by decide +kernel⟩
theorem test_shaper_query : Takes (at_ (oneS upP) 0x0B02 [7, 7, 0, 0]) 0 0x0B02 (mk 0x0B02 [7, 7, 0, 0]) ∧
    Takes (at_ (oneS upP) 0x0B05 [7, 0xFF, 0, 0]) 0 0x0B05 (mk 0x0B05 [7, 0xFF, 0, 0]) ∧
    Takes (at_ (oneS upP) 0x0B06 [7, 7, 0, 0]) 0 0x0B06 (mk 0x0B06 [7, 7, 0, 0]) := ⟨takes_of (by decide +kernel), takes_of (by decide +kernel), takes_of (by decide +kernel)⟩
/-- GATE_LIST_SET's arguments: two entries of some durations. -/
def gateArgs (d0 d1 : Nat) : List Byte := [7, 0] ++ le 2 2 ++ zeros 4 ++ le 8 1000 ++ [0xFF, 0, 0, 0] ++ le 4 d0 ++ [1, 0, 0, 0] ++ le 4 d1
theorem test_gate_list : let a := mk 0x0B03 (gateArgs 50 100000000)
    Takes (put (oneS upP) a) 0 0x0B03 a ∧ (∀ e ∈ gateEntries a 2, 50 ≤ e.2 ∧ e.2 ≤ 100000000) ∧ 16 + 8 * a.arg 2 2 ≤ a.length ∧
    ({ base := a.arg 8 8, entries := gateEntries a 2 } : GateList).cycle ≤ 1000000000 := ⟨takes_of (by decide +kernel), by decide +kernel⟩
theorem test_gate_list_bad : let a := mk 0x0B03 (gateArgs 50 49)
    Takes (put (oneS upP) a) 0 0x0B03 a ∧ (∀ j < 1, 50 ≤ a.arg (20 + 8 * j) 4 ∧ a.arg (20 + 8 * j) 4 ≤ 100000000) ∧ a.arg (20 + 8 * 1) 4 < 50 :=
  ⟨takes_of (by decide +kernel), by decide +kernel⟩
/-- A gate list. -/
def gates1 : GateList := { base := 1000, entries := [(0xFF, 50), (1, 100)] }
theorem test_gate_query : let x := { upP with gates := some gates1, gatesNext := some (gates1, 2000000000) }
    Takes (at_ (oneS x) 0x0B04 [7, 0, 0, 0]) 0 0x0B04 (mk 0x0B04 [7, 0, 0, 0]) ∧ Takes (at_ (oneS x) 0x0B04 [7, 1, 0, 0]) 0 0x0B04 (mk 0x0B04 [7, 1, 0, 0]) ∧
    x.gates = some gates1 ∧ x.gatesNext = some (gates1, 2000000000) ∧ 2000000000 ≤ readyS.top.now ∧ upP.gates = none ∧ upP.gatesNext = none :=
  ⟨takes_of (by decide +kernel), takes_of (by decide +kernel), by decide +kernel⟩
theorem test_gate_later : ({ upP with gatesNext := some (gates1, 2000000001) } : Port).gatesNext = some (gates1, 2000000001) ∧ readyS.top.now < 2000000001 := by decide +kernel
theorem test_frame_express : let s := oneS (waitP 7)
    let x := s.core.port 7
    x.carries = true ∧ x.classFree true s.top.now = true ∧ (x.cls true).replay = 0 ∧ s.core.freest ((s.core.members 7).filter (fun q => (s.core.port q).carries)) = some 7 ∧
    (s.core.port (s.core.head 7)).bestQueue s.top.now (laneCount x.txMap) true = some 7 ∧ x.mayStart true (64 * frameFlits 48) = true ∧ x.disableBy = none ∧ x.mapWant = none ∧ s.core.txRoom s.top 7 48 = true := by decide +kernel
theorem test_frame_normal : let s := oneS (waitP 0)
    let x := s.core.port 7
    s.core.nextStart s.top 7 true = none ∧ x.classFree false s.top.now = true ∧ (s.core.port (s.core.head 7)).bestQueue s.top.now (laneCount x.txMap) false = some 0 ∧
    x.mayStart false (64 * frameFlits 48) = true := by decide +kernel
theorem test_frame_replay : let x := { heldP with normal := { heldP.normal with replay := 1 } }
    0 < (x.cls false).replay ∧ ((x.cls false).unacked[(x.cls false).unacked.length - (x.cls false).replay]?).isSome = true ∧
    (oneS x).core.nextStart (oneS x).top 7 true = none ∧ x.carries = true ∧ x.classFree false readyS.top.now = true ∧ x.mapWant = none := by decide +kernel
theorem test_frame_none : (∀ k, upP.q k = []) ∧ upP.normal.replay = 0 ∧ upP.express.replay = 0 ∧ (oneS upP).core.head 7 = 7 := ⟨fun _ => rfl, by decide +kernel⟩
theorem test_egress_sample : (oneS upP).core.telem.sampled < readyS.top.now / 1000 ∧ (oneS upP).core.head 7 = 7 ∧ (2000000999 : Nat) / 1000 ≤ 2000000 := by
  decide +kernel

/-! ### Witnesses: telemetry, faults and start-up -/

theorem test_events : Takes (at_ readyS 0x0C01 (le 2 0xFFFF ++ zeros 2)) 0 0x0C01 (mk 0x0C01 (le 2 0xFFFF ++ zeros 2)) ∧
    bit ((mk 0x0C01 (le 2 0xFFFF ++ zeros 2)).arg 0 2) 1 = true ∧ Takes (at_ readyS 0x0C02 []) 0 0x0C02 (mk 0x0C02 []) :=
  ⟨takes_of (by decide +kernel), by decide +kernel, takes_of (by decide +kernel)⟩
theorem test_snapshot : let a := mk 0x0C03 ([0x0F, 0] ++ le 2 247)
    Takes (put readyS a) 0 0x0C03 a ∧ a.arg 2 2 + 1 = qCount (a.arg 0 1) := ⟨takes_of (by decide +kernel), by decide +kernel⟩
theorem test_watermark_set : let a := mk 0x0C04 (le 4 0x0400003F ++ le 4 1 ++ le 4 90 ++ le 4 90)
    Takes (put readyS a) 0 0x0C04 a ∧ (readyS.core.watermark readyS.top 0x0400003F) = some (true, (95, 90), some 0, 63) ∧ a.arg 12 4 ≤ a.arg 8 4 ∧
    Takes (at_ readyS 0x0C05 (le 4 0x02000000)) 0 0x0C05 (mk 0x0C05 (le 4 0x02000000)) ∧
    ((readyS.core.watermark readyS.top 0x02000000).map Prod.fst) = some false := ⟨takes_of (by decide +kernel), by decide +kernel, by decide +kernel, takes_of (by decide +kernel), by decide +kernel⟩
theorem test_watermark_none : let a := mk 0x0C04 (le 4 0x04000040 ++ zeros 12)
    Takes (put readyS a) 0 0x0C04 a ∧ readyS.core.watermark readyS.top 0x04000040 = none := ⟨takes_of (by decide +kernel), by decide +kernel⟩
theorem test_lifetime : let a := mk 0x0C06 ([63, 3, 0, 0] ++ le 4 131068)
    Takes (put readyS a) 0 0x0C06 a ∧ a.arg 4 4 % 4 = 0 ∧ a.arg 4 4 < 131072 ∧ Takes (at_ readyS 0x0C07 []) 0 0x0C07 (mk 0x0C07 []) ∧
    readyS.core.telem.lifeBusy = false ∧ Takes (at_ readyS 0x0C08 (le 2 168 ++ le 2 0x8001)) 0 0x0C08 (mk 0x0C08 (le 2 168 ++ le 2 0x8001)) :=
  ⟨takes_of (by decide +kernel), by decide +kernel, by decide +kernel, takes_of (by decide +kernel), by decide +kernel, takes_of (by decide +kernel)⟩
/-- The device while a write of the lifetime store runs, with LIFETIME_FLUSH of mailbox 0 waiting. -/
def flushS (s : State) : State := { s with core := s.core.onTelem (fun x => { x with lifeBusy := true, lifeBegan := 1, flush := [0] }) }
theorem test_flush_busy : let s := flushS (at_ readyS 0x0C07 [])
    Takes s 0 0x0C07 (mk 0x0C07 []) ∧ s.core.telem.lifeBusy = true ∧ (∀ m ∈ s.core.telem.flush, (s.core.mbox m).taken.isSome = true ∧ (s.core.mbox m).result = none) :=
  ⟨takes_of (by decide +kernel), by decide +kernel⟩
theorem test_quiesce : Takes (at_ boundS 0x0C09 (le 4 5)) 0 0x0C09 (mk 0x0C09 (le 4 5)) ∧ boundS.core.jobId = 5 ∧ boundS.core.quiesced = false ∧
    Takes (at_ boundS 0x0C09 (le 4 6)) 0 0x0C09 (mk 0x0C09 (le 4 6)) ∧ Takes (at_ boundS 0x0C0A []) 0 0x0C0A (mk 0x0C0A []) :=
  ⟨takes_of (by decide +kernel), by decide +kernel, by decide +kernel, takes_of (by decide +kernel), takes_of (by decide +kernel)⟩
/-- The bound device with its job quiesced. -/
def quietS : State := { boundS with core := { boundS.core with job := boundS.core.job.map (fun j => { j with quiesced := true }) } }
theorem test_quiesce_again : Takes (at_ quietS 0x0C09 (le 4 5)) 0 0x0C09 (mk 0x0C09 (le 4 5)) ∧ quietS.core.quiesced = true := ⟨takes_of (by decide +kernel), by decide +kernel⟩
theorem test_refresh : readyS.core.telem.refreshed / 1000 < readyS.top.now / 1000 ∧ (2000000000 : Nat) / 1000 ≤ 2000000999 / 1000 := by decide
theorem test_lifetime_period : readyS.core.telem.lifeBusy = false ∧ readyS.core.telem.lifeBegan / 600000000000 < (timeS { now := 600000000000 }).top.now / 600000000000 ∧
    readyS.top.now / 600000000000 ≤ readyS.core.telem.lifeBegan / 600000000000 := by decide
/-- A queue instance with credits taken and entries that wait. -/
def queueS (q u w : Nat) : State := { readyS with core := readyS.core.onTelem (fun x => { x with queues := [(qKey q 31, { entries := [{ prod := 3, work := .cells, sent := u, wait := w }] })] }) }
theorem test_credit_back : let y := (queueS 8 64 0).core.queue 8 31
    0 < y.used 3 ∧ y.waiting 3 = 0 ∧ 31 < qCount 8 ∧ readyS.top.gone (qDie 8 31) = false ∧ readyS.core.underTest (qDie 8 31) = false := by decide +kernel
theorem test_credit_waits : let y := (queueS 8 64 2).core.queue 8 31
    0 < y.used 3 ∧ 1 < y.waiting 3 ∧ ((queueS 8 0 0).core.queue 8 31).used 3 = 0 := by decide +kernel
theorem test_credit_link : let y := (queueS 1 64 0).core.queue 1 31
    0 < y.used 3 ∧ (∀ e ∈ y.entries, e.wait = 0) ∧ 31 < qCount 1 ∧ readyS.top.gone (qDie 1 31) = false ∧ readyS.core.underTest (qDie 1 31) = false := by
  decide +kernel
/-- The device with a transfer that crosses link 123 next. -/
def meshS (x : Transfer) : State := { readyS with core := readyS.core.onTelem (fun y => { y with mesh := [(5, x)] }) }
/-- A transfer of some units, and the links it has still to cross. -/
def transfer1 (n : Nat) (r : List (Nat × Nat)) : Transfer :=
  { src := 0, dst := 63, cls := .request, cargo := .write, work := .cells, units := 17, left := n, route := r }
theorem test_mesh : (meshS (transfer1 17 [(123, 1)])).core.meshOn 123 1 .request = some (5, transfer1 17 [(123, 1)]) ∧
    (meshS (transfer1 17 [(123, 1)])).core.meshOn 123 0 .request = none ∧
    (meshS (transfer1 1 [(123, 1), (60, 0)])).core.meshOn 123 1 .request = some (5, transfer1 1 [(123, 1), (60, 0)]) := by decide +kernel
theorem test_mesh_correction : let x : Transfer := { transfer1 1 [(123, 1)] with cls := .control, cargo := .correction, work := .time 63 }
    (meshS x).core.meshOn 123 1 .control = some (5, x) ∧ x.left ≤ 1 := by decide +kernel
theorem test_patrol_entry : let p := { page1 with t1 := some (15, 999), owner := 2 }
    let s := { boundS with core := { boundS.core with tiers := { boundS.core.tiers with pages := [(7, p)] } } }
    s.core.namers 7 = [] ∧ s.core.tiers.pages.find? (fun e => e.2.t1 == some (15, 999) && e.2.holdsFrame) = some (7, p) := by decide +kernel
theorem test_patrol : let p := { page1 with t1 := some (15, 999), present := 1#4 }
    let s := workS item1 p
    let c := s.core
    s.top.gone (saddleDie 15) = false ∧ s.top.stackMask.getLsbD 15 = true ∧ c.fenced (saddleDie 15) = false ∧ c.job.isSome = true ∧ c.tiers.warmPatrol = false ∧ 999 < c.perStack ∧
    c.tiers.retired.contains (15, 999) = false ∧ c.tiers.pages.find? (fun e => e.2.t1 == some (15, 999) && e.2.holdsFrame) = some (7, p) ∧ c.page 7 = some p ∧
    p.fill < 256 ∧ c.tiers.corrections.getD (15 * 2 ^ 20 + 999) 0 = 0 ∧ p.inTier 1 = false := by decide +kernel
theorem test_boot_query : Takes (at_ readyS 0x0D01 []) 0 0x0D01 (mk 0x0D01 []) ∧ readyS.top.phaseEnds.length = 5 ∧
    Takes (at_ readyS 0x0D03 (le 4 65532)) 0 0x0D03 (mk 0x0D03 (le 4 65532)) := ⟨takes_of (by decide +kernel), by decide +kernel, takes_of (by decide +kernel)⟩
theorem test_loads : let a := mk 0x0D02 (le 8 0x1000 ++ le 4 24 ++ le 4 0)
    let b := mk 0x0D04 (le 8 0x1000 ++ le 4 16777216 ++ le 4 1)
    Takes (put readyS a) 0 0x0D02 a ∧ a.arg 8 4 = 24 ∧ Takes (put readyS b) 0 0x0D04 b ∧ b.arg 8 4 = 16777216 ∧ readyS.core.loading = false :=
  ⟨takes_of (by decide +kernel), by decide +kernel, takes_of (by decide +kernel), by decide +kernel⟩
/-- The device with CFG_LOAD of mailbox 0 reading n bytes from the host as read 4. -/
def loadS (w : ReadFor) (n : Nat) : State := let s := at_ readyS 0x0D02 (le 8 0x1000 ++ le 4 24 ++ le 4 1)
  { s with core := s.core.onFabric (fun f => { f with reads := [(4, (w, n))] }) }
theorem test_load_busy : Takes (loadS (.fwLoad 9) 513) 0 0x0D02 (mk 0x0D02 (le 8 0x1000 ++ le 4 24 ++ le 4 1)) ∧ (loadS (.fwLoad 9) 513).core.loading = true :=
  ⟨takes_of (by decide +kernel), by decide +kernel⟩
theorem test_selftest_set : let a := mk 0x0D05 (le 4 1 ++ le 4 3600)
    Takes (put readyS a) 0 0x0D05 a ∧ Takes (at_ readyS 0x0D06 [63, 0, 0, 0]) 0 0x0D06 (mk 0x0D06 [63, 0, 0, 0]) ∧
    readyS.top.gone 63 = false ∧ readyS.core.underTest 63 = false ∧ Takes (at_ readyS 0x0D07 [63, 0, 0, 0]) 0 0x0D07 (mk 0x0D07 [63, 0, 0, 0]) ∧
    3600 ≤ a.arg 4 4 := ⟨takes_of (by decide +kernel), takes_of (by decide +kernel), by decide +kernel, by decide +kernel, takes_of (by decide +kernel), by decide +kernel⟩
theorem test_selftest_busy : Takes (at_ testS 0x0D06 (le 1 (crestDie 31) ++ zeros 3)) 0 0x0D06 (mk 0x0D06 (le 1 (crestDie 31) ++ zeros 3)) ∧
    testS.core.underTest (crestDie 31) = true := ⟨takes_of (by decide +kernel), by decide +kernel⟩
theorem test_boot_rom : State.reset.top.dev = .boot ∧ State.reset.top.phase = 1 ∧ State.reset.top.perst = false ∧ State.reset.top.allFailed = false ∧
    (8 : BitVec 4) &&& ~~~State.reset.top.summitFail ≠ 0 ∧ (0 : BitVec 4) &&& ~~~State.reset.top.summitFail = 0 ∧ State.reset.top.live = true := by decide +kernel
/-- A firmware image whose header and length are in order, with a body of one byte. -/
def fwImage : List Byte := le 4 0x57465A53 ++ le 2 1 ++ le 2 255 ++ le 4 7 ++ le 4 1 ++ zeros 496 ++ [0xAB]
theorem test_fw_image (hk : Config.keyDigestOk ((fwImage.drop 16).take 97) = true)
    (hs : Config.signatureOk (fwImage.take 128 ++ (fwImage.drop 512).take 1) ((fwImage.drop 128).take 96) = true) : fwCheck 255 fwImage = none := by
  have h1 : rd fwImage 0 4 = 0x57465A53 ∧ rd fwImage 4 2 = 1 ∧ rd fwImage 6 2 = 255 ∧ rd fwImage 12 4 = 1 ∧ ((fwImage.drop 512).take 1).length = 1 := by decide +kernel
  obtain ⟨a, b, c, d, e⟩ := h1
  simp [fwCheck, firstBad, a, b, c, d, e, hk, hs]
/-- The device in phase 2 with one candidate. -/
def verifyS : State := { State.reset with top := { State.reset.top with phase := 2, candidates := 8#4 } }
theorem test_verify : verifyS.top.dev = .boot ∧ verifyS.top.phase = 2 ∧ (List.range 4).find? (fun q => verifyS.top.candidates.getLsbD q) = some 3 ∧
    fwCheck 0 verifyS.top.slot0 ≠ none ∧ fwCheck 0 verifyS.top.slot1 ≠ none := by decide +kernel
/-- A configuration image without records. -/
def cfgImage1 : List Byte := let b := le 4 0x46435A53 ++ le 2 1 ++ zeros 2 ++ le 4 24 ++ le 4 7
  b ++ le 4 (crc32c b).toNat ++ le 4 0xC3A55AC3
theorem test_cfg : cfgCheck [] = some 1 ∧ cfgCheck cfgImage1 = none ∧ cfgImage1.length = 24 ∧ readyS.top.hasPort 7 = true ∧
    (readyS.core.port 7).state = .disabled := by decide +kernel
/-- The device in some later phase of start-up. -/
def phaseS (d : DevState) (n : Nat) : State := { State.reset with top := { State.reset.top with dev := d, phase := n, fwValid := true, cfgPorts := 0xFF } }
theorem test_config_apply : (phaseS .boot 3).top.phase = 3 ∧ cfgCheck (phaseS .boot 3).top.cfgFlash = some 1 ∧ (phaseS .boot 3).top.cfgPorts.getLsbD 7 = true := by decide +kernel
theorem test_training : (phaseS .train 4).top.dev = .train ∧ (∀ k < 16, (0xFFFF : BitVec 16).getLsbD k = true → (phaseS .train 4).top.gone (saddleDie k) = false) := by decide +kernel
theorem test_startup_test : let u := (phaseS .selftest 5).top
    u.dev = .selftest ∧ u.crests ≠ [] ∧ u.stackMask ≠ 0 ∧ (1#64 <<< u.primaryDie).getLsbD u.primaryDie = true ∧
    (1#64 <<< passDie 3).getLsbD (passDie 3) = true ∧ u.gone (passDie 3) = false ∧ (1#64 <<< passDie 3).getLsbD u.primaryDie = false := by decide +kernel
theorem test_interface_retrain : readyS.top.gone (saddleDie 15) = false ∧ readyS.top.stackMask.getLsbD 15 = true ∧ readyS.core.fenced (saddleDie 15) = false := by decide +kernel
/-- The device with die 63 in some state of its test, and SELFTEST_RUN of mailbox 0 waiting. -/
def dieS (st : Nat) : State := let s := at_ readyS 0x0D06 [63, 0, 0, 0]
  { s with core := s.core.onTelem (fun x => { x with tests := [(63, { state := st, runners := [0] })] }) }
theorem test_slice_start : ((dieS 0).core.test 63).runners ≠ [] ∧ (∀ k < 16, (dieS 0).core.underTest (16 * (63 / 16) + k) = false) ∧
    (dieS 0).top.gone 63 = false ∧ ((dieS 0).core.test 0).runners = [] := by decide +kernel
theorem test_slice_fenced : ((dieS 1).core.test 63).state = 1 ∧ (∀ i, dieType 63 = (.crest, i) → (dieS 1).core.crestBusy i = false) :=
  ⟨by decide +kernel, fun _ h => by cases h⟩
theorem test_slice_end : ((dieS 2).core.test 63).state = 2 ∧ (∀ m ∈ ((dieS 2).core.test 63).runners, ((dieS 2).core.mbox m).taken.isSome = true ∧
    ((dieS 2).core.mbox m).result = none) ∧ dieType (portDie 7) = (.port, 7) := by decide +kernel
theorem test_cfg_read : (loadS (.cfgLoad 0) 24).core.fabric.reads.get? 4 = some (.cfgLoad 0, 24) ∧ cfgImage1.length = 24 ∧
    ((loadS (.cfgLoad 0) 24).core.mbox 0).taken.isSome = true ∧ ((loadS (.cfgLoad 0) 24).core.mbox 0).result = none ∧ cfgCheck (zeros 24) = some 1 := by decide +kernel
theorem test_fw_read : (loadS (.fwLoad 0) 513).core.fabric.reads.get? 4 = some (.fwLoad 0, 513) ∧ fwImage.length = 513 ∧
    ((loadS (.fwLoad 0) 513).core.mbox 0).taken = some (mk 0x0D02 (le 8 0x1000 ++ le 4 24 ++ le 4 1)) ∧ fwCheck 0 (zeros 513) = some 1 := by decide +kernel

/-! ### Witnesses: synchronisation, pins and sensors -/

/-- The bound device with object 16383 and its Summit's waiters. -/
def objS (o : SyncObj) (ws : List Waiter) : State := { boundS with core := { boundS.core with
  syncs := [(16383, o)], summits := [(3, { syncNext := 4096, waiters := ws })] } }
/-- A counter. -/
def ctr1 : SyncObj := { kind := .counter, value := 1, threshold := 2 }
/-- A waiter of mailbox 9 on object 16383. -/
def wait1 : Waiter := { num := 16383, obj := 16383, kind := .mailbox 9, deadline := some 2000000000, ctx := none }
/-- The state in which mailbox 9's SYNC_WAIT waits as well. -/
def waitingS (o : SyncObj) : State := let s := objS o [wait1]
  { s with core := s.core.updMbox 9 (fun b => { b with taken := some (mk 0x0E05 (zeros 32)) }) }
/-- SYNC_ALLOC's arguments. -/
def allocArgs (k n v t : Nat) : List Byte := le 1 k ++ [3] ++ le 2 n ++ le 4 v ++ le 4 t
theorem test_sync_alloc : let a := mk 0x0E01 (allocArgs 2 256 9 4)
    Takes (put boundS a) 0 0x0E01 a ∧ SyncKind.ofCode (a.arg 0 1) = some .semaphore ∧ 3 ∈ boundS.top.summitsUp ∧ a.arg 2 2 = 256 ∧
    (boundS.core.summit 3).syncNext + 256 ≤ 4096 := ⟨takes_of (by decide +kernel), by decide +kernel⟩
theorem test_sync_alloc_again : let a := mk 0x0E01 (allocArgs 3 1 0 1)
    let s : State := { boundS with core := { boundS.core with summits := [(3, { syncNext := 4096, syncFree := [(7, 1000000000)] })] } }
    Takes (put s a) 0 0x0E01 a ∧ (s.core.summit 3).syncNext = 4096 ∧ (s.core.syncReady s.top 3).2 = [(7, 1000000000)] ∧ s.core.syncCount s.top 3 < 2 :=
  ⟨takes_of (by decide +kernel), by decide +kernel⟩
theorem test_sync_free : Takes (at_ (objS ctr1 []) 0x0E02 (le 2 16383)) 0 0x0E02 (mk 0x0E02 (le 2 16383)) ∧ syncExists boundS.top 16383 = true ∧
    (objS ctr1 []).core.syncs.get? 16383 = some ctr1 ∧ Takes (at_ (objS ctr1 []) 0x0E02 (le 2 0)) 0 0x0E02 (mk 0x0E02 (le 2 0)) ∧
    (objS ctr1 []).core.syncs.get? 0 = none := ⟨takes_of (by decide +kernel), by decide +kernel, by decide +kernel, takes_of (by decide +kernel), by decide +kernel⟩
theorem test_sync_set : let a := mk 0x0E03 (le 2 16383 ++ le 2 3 ++ le 4 0xFFFFFFFF ++ le 4 0)
    Takes (put (objS ctr1 []) a) 0 0x0E03 a ∧ (objS ctr1 []).core.waitersOf 16383 = [] ∧ bit (a.arg 2 2) 1 = true := ⟨takes_of (by decide +kernel), by decide +kernel⟩
/-- SYNC_SIGNAL's arguments. -/
def signalArgs (op v : Nat) : List Byte := le 2 16383 ++ le 1 op ++ [0] ++ le 4 v
theorem test_sync_signal : let a := mk 0x0E04 (signalArgs 1 0xFFFFFFFE)
    Takes (put (objS ctr1 []) a) 0 0x0E04 a ∧ ctr1.value + a.arg 4 4 = ctr1.limit ∧ boundS.core.quiesced = false := ⟨takes_of (by decide +kernel), by decide +kernel⟩
theorem test_sync_saturates : let a := mk 0x0E04 (signalArgs 1 0xFFFFFFFF)
    Takes (put (objS ctr1 []) a) 0 0x0E04 a ∧ ctr1.limit < ctr1.value + a.arg 4 4 := ⟨takes_of (by decide +kernel), by decide +kernel⟩
theorem test_sync_event : let o : SyncObj := { kind := .event, value := 0xF0, threshold := 0 }
    let a := mk 0x0E04 (signalArgs 2 0x10)
    Takes (put (objS o []) a) 0 0x0E04 a ∧ (objS o []).core.syncs.get? 16383 = some o ∧ Takes (at_ (objS o []) 0x0E04 (signalArgs 1 1)) 0 0x0E04 (mk 0x0E04 (signalArgs 1 1)) :=
  ⟨takes_of (by decide +kernel), by decide +kernel, takes_of (by decide +kernel)⟩
theorem test_sync_barrier : let o : SyncObj := { kind := .barrier, value := 3, threshold := 4 }
    let a := mk 0x0E04 (signalArgs 1 0xFFFFFFFC)
    Takes (put (objS o []) a) 0 0x0E04 a ∧ o.threshold ≤ o.value + a.arg 4 4 ∧ o.value + a.arg 4 4 = 0xFFFFFFFF := ⟨takes_of (by decide +kernel), by decide +kernel⟩
theorem test_sync_signal_free : let a := mk 0x0E04 (le 2 0 ++ [1, 0] ++ le 4 1)
    Takes (put (objS ctr1 []) a) 0 0x0E04 a ∧ syncExists boundS.top 0 = true ∧ (objS ctr1 []).core.syncs.get? 0 = none :=
  ⟨takes_of (by decide +kernel), by decide +kernel⟩
theorem test_sync_releases : let a := mk 0x0E04 (signalArgs 1 1)
    let s := put (waitingS ctr1) a
    Takes s 0 0x0E04 a ∧ s.core.waitersOf 16383 = [wait1] ∧ (s.core.mbox 9).taken.isSome = true ∧ (s.core.mbox 9).result = none ∧ ctr1.threshold ≤ ctr1.value + a.arg 4 4 := ⟨takes_of (by decide +kernel), by decide +kernel⟩
theorem test_sync_quiesced : let s : State := { quietS with core := { quietS.core with syncs := [(16383, ctr1)] } }
    let a := mk 0x0E04 (signalArgs 1 1)
    Takes (put s a) 0 0x0E04 a ∧ s.core.quiesced = true ∧ s.core.syncs.get? 16383 = some ctr1 := ⟨takes_of (by decide +kernel), by decide +kernel⟩
/-- SYNC_WAIT's arguments. -/
def waitArgs (k v : Nat) : List Byte := le 2 16383 ++ le 1 k ++ [1] ++ le 4 v ++ zeros 16
theorem test_sync_wait : let a := mk 0x0E05 (waitArgs 1 10000000)
    Takes (put (objS ctr1 [wait1]) a) 0 0x0E05 a ∧ ctr1.value < ctr1.threshold ∧ ((objS ctr1 [wait1]).core.summit 3).waiters.length < 16384 ∧
    Takes (at_ (objS ctr1 []) 0x0E05 (waitArgs 2 2047)) 0 0x0E05 (mk 0x0E05 (waitArgs 2 2047)) := ⟨takes_of (by decide +kernel), by decide +kernel, by decide +kernel, takes_of (by decide +kernel)⟩
theorem test_sync_wait_met : let o := { ctr1 with value := 2 }
    Takes (at_ (objS o []) 0x0E05 (waitArgs 1 0)) 0 0x0E05 (mk 0x0E05 (waitArgs 1 0)) ∧ o.threshold ≤ o.value ∧ (objS o []).core.waitersOf 16383 = [] :=
  ⟨takes_of (by decide +kernel), by decide +kernel⟩
theorem test_sync_wait_handle : let a := mk 0x0E05 (waitArgs 1 0) h1
    let s := withCtx { state := .generate, waits := 16777214 } (objS ctr1 [])
    Takes (put s a) 0 0x0E05 a ∧ (s.core.ctx (hIndex a.handle)).state ≠ .draining ∧ (s.core.ctx (hIndex a.handle)).waits < 16777215 := ⟨takes_of (by decide +kernel), by decide +kernel⟩
theorem test_sync_query : Takes (at_ (objS ctr1 []) 0x0E06 (le 2 16383)) 0 0x0E06 (mk 0x0E06 (le 2 16383)) ∧
    Takes (at_ (objS ctr1 []) 0x0E06 (le 2 0)) 0 0x0E06 (mk 0x0E06 (le 2 0)) := ⟨takes_of (by decide +kernel), takes_of (by decide +kernel)⟩
theorem test_sync_cancel : let a := mk 0x0E07 (le 2 16383 ++ le 2 16383)
    Takes (put (waitingS ctr1) a) 0 0x0E07 a ∧ (waitingS ctr1).core.waitersOf 16383 = [wait1] ∧ ((waitingS ctr1).core.mbox 9).taken.isSome = true ∧
    ((waitingS ctr1).core.mbox 9).result = none ∧ (∀ w ∈ (objS ctr1 []).core.waitersOf 16383, w.num ≠ 16383) ∧
    Takes (put (objS ctr1 []) a) 0 0x0E07 a := ⟨takes_of (by decide +kernel), by decide +kernel, by decide +kernel, by decide +kernel, by decide +kernel, takes_of (by decide +kernel)⟩
theorem test_sync_timeout : ((waitingS ctr1).core.summit 3).waiters.find? (fun w => w.num == 16383) = some wait1 ∧ wait1.obj / 4096 = 3 ∧
    2000000000 ≤ boundS.top.now ∧ boundS.top.now < 2000000001 := by decide +kernel
/-- The signal window of object 16383 as region 5, and message q delivered. -/
def sigS (q : Msg) : State := let s := deliver q (objS ctr1 [])
  { s with core := s.core.onFabric (fun f => { f with regions := [(5, { reg1 with off := 0x3FFFFFFFE0000, size := 131072, backing := .signal, flags := 0 })] }) }
theorem test_signal_window : let off := 0x3FFFFFFFE0000 + 8 * 16383
    let q := mg 0x50 (memBody off 8 0 0 [])
    let w := mg 0x52 (memBody off 4 1 0 [])
    Claims.delivered (sigS q) 1 0x50 none q ∧ Claims.delivered (sigS w) 1 0x52 none w ∧ ((sigS q).core.memTarget off 8 false).isSome = true ∧
    (off - 0x3FFFFFFFE0000) % 8 = 0 ∧ off + 8 = 2 ^ 50 := ⟨⟨by decide +kernel, by decide +kernel⟩, ⟨by decide +kernel, by decide +kernel⟩, by decide +kernel⟩
/-- The device without power. -/
def offS : State := { readyS with top := { readyS.top with dev := .off } }
theorem test_power : offS.top.dev = .off ∧ readyS.top.dev ≠ .off ∧ readyS.top.live = true ∧ readyS.top.perst = false ∧ offS.top.live = false ∧
    ({ readyS with top := { readyS.top with perst := true } } : State).top.live = true := by decide
theorem test_warn : readyS.core.telem.lifeBusy = false ∧ (flushS readyS).core.telem.lifeBusy = true ∧ readyS.core.fabric.reads = [] := by decide
theorem test_ibi : (0x87 : Byte).toNat % 8 = 7 ∧ (0x87 : Byte).getLsbD 7 = true ∧ (0x07 : Byte).getLsbD 7 = false ∧ ((oneS upP).core.port 7).state = .up := by decide +kernel
theorem test_removal : (0 : Nat) < (warmS page1).top.warmDevices.length ∧ (warmS page1).top.warmRemoved.contains 0 = false ∧ (warmS page1).top.warmDevices.length ≤ 1 := by decide +kernel
theorem test_temperature : readyS.core.power.tempAt / 1000000 < readyS.top.now / 1000000 ∧ readyS.core.power.powerAt / 100000 < readyS.top.now / 100000 ∧
    (2000000000 : Nat) / 1000000 ≤ 2000999999 / 1000000 ∧ (2000000000 : Nat) / 100000 ≤ 2000099999 / 100000 := by decide
theorem test_avs : avsRail 5 = some (2, 650, 850) ∧ readyS.top.phase ≠ 1 ∧ readyS.core.power.avs.getD 2 800 ≤ 790 + 10 ∧ 810 ≤ readyS.core.power.avs.getD 2 800 + 10 ∧
    readyS.core.power.avsAt.getD 2 0 + 20000 ≤ readyS.top.now ∧ readyS.core.power.avs.getD 2 800 + 10 < 811 ∧ 2 < readyS.core.power.avs.length := by decide
theorem test_grant_quota : let q := mg 0x51 (memBody 0x300000000FFFF 1 0 1 [0xAB])
    let s := grantS [] [] q
    let c := { s.core with pact := { s.core.pact with clients := [(0, { q1 := some ⟨0, 65535⟩ })] } }
    c.within s.top 0 1 65536 = false ∧ (grant1 []).fresh 0x300000000FFFF 1 = [0] ∧ bit (q.arg 13 1) 0 = true := by decide +kernel

/-! ### Operands out of their ranges are refused -/

theorem test_wf_mailbox : (Instr.deviceQuery 63).wf = true ∧ (Instr.deviceQuery 64).wf = false ∧ (Instr.doorbell 64 0).wf = false := by decide
theorem test_wf_queue : (Instr.watermarkClear 16 0 0).wf = true ∧ (Instr.watermarkClear 0 0 0).wf = false ∧ (Instr.watermarkClear 17 0 0).wf = false := by decide
theorem test_wf_bar : (Instr.registerWrite 4 0 8 0).wf = true ∧ (Instr.registerWrite 1 0 8 0).wf = false := by decide
theorem test_wf_block : (Instr.farWriteApplied 67).wf = true ∧ (Instr.farWriteApplied 68).wf = false ∧ (Instr.farReadTimeout 68).wf = false := by decide
theorem test_wf_connection : (Instr.memRead 16383).wf = true ∧ (Instr.memRead 16384).wf = false ∧ (Instr.drainTimeout 0 16384).wf = false := by decide
theorem test_wf_slot : (Instr.reassemblyTimeout 0 true 65535).wf = true ∧ (Instr.reassemblyTimeout 0 true 65536).wf = false := by decide
theorem test_wf_port : (Instr.cellReceive 7).wf = true ∧ (Instr.cellReceive 8).wf = false := by decide
theorem test_wf_lane : (Instr.laneRejoin 7 15).wf = true ∧ (Instr.laneRejoin 7 16).wf = false ∧
    (Instr.laneLockLoss 7 ⟨15, true, false⟩).wf = true ∧ (Instr.laneLockLoss 7 ⟨16, true, false⟩).wf = false ∧ (Instr.laneLockLoss 8 ⟨0, false, false⟩).wf = false := by decide
theorem test_wf_flit : (Instr.dataFrameReceive 0 (frame1 0)).wf = true ∧
    (Instr.dataFrameReceive 0 [{ bad := false, bytes := zeros 63 }]).wf = false := by decide +kernel
theorem test_wf_link_flit : (Instr.linkAck 0 flit1).wf = true ∧ (Instr.linkAck 0 { flit1 with reqCredits := 65536 }).wf = false ∧
    (Instr.linkAck 0 { flit1 with rspCredits := 65536 }).wf = false ∧ (Instr.linkAck 0 { flit1 with cause := 256 }).wf = false ∧
    (Instr.linkAck 0 { flit1 with calLane := 256 }).wf = false ∧ (Instr.linkAck 0 { flit1 with hold := 65536 }).wf = false := by decide +kernel
theorem test_wf_link_ctrl : (Instr.hello 0 (ctrl1 255 0)).wf = true ∧ (Instr.hello 0 (ctrl1 256 0)).wf = false ∧
    (Instr.hello 0 { ctrl1 2 0 with minor := 256 }).wf = false ∧ (Instr.hello 0 { ctrl1 2 0 with port := 256 }).wf = false ∧
    (Instr.hello 0 { ctrl1 2 0 with node := 65536 }).wf = false ∧ (Instr.hello 0 { ctrl1 2 0 with minLanes := 256 }).wf = false ∧
    (Instr.hello 0 { ctrl1 2 0 with t1 := 2 ^ 64 }).wf = false ∧ (Instr.hello 0 { ctrl1 2 0 with t2 := 2 ^ 64 }).wf = false ∧
    (Instr.hello 0 (ctrl1 2 (2 ^ 64))).wf = false := by decide +kernel
theorem test_wf_time_sync : let t : TimeSync := { src := 16383, cls := 7, seq := 0, t1 := 0, t2 := 0, t3 := 2 ^ 64 - 1 }
    (Instr.timeSyncRequest 0 t).wf = true ∧ (Instr.timeSyncRequest 0 { t with src := 16384 }).wf = false ∧
    (Instr.timeSyncRequest 0 { t with cls := 8 }).wf = false ∧ (Instr.timeSyncRequest 0 { t with t1 := 2 ^ 64 }).wf = false ∧
    (Instr.timeSyncRequest 0 { t with t2 := 2 ^ 64 }).wf = false ∧ (Instr.timeSyncRequest 0 { t with t3 := 2 ^ 64 }).wf = false := by decide +kernel
theorem test_wf_crest : (Instr.scoreBufferGrant 31).wf = true ∧ (Instr.scoreBufferGrant 32).wf = false := by decide
theorem test_wf_head : (Instr.ridgeUnitComplete 0 127 0 0).wf = true ∧ (Instr.ridgeUnitComplete 0 128 0 0).wf = false := by decide
theorem test_wf_tier : (Instr.pageRecompute 0 0 3).wf = true ∧ (Instr.pageRecompute 0 0 4).wf = false := by decide
theorem test_wf_context : (Instr.ttlExpiry 131071).wf = true ∧ (Instr.ttlExpiry 131072).wf = false := by decide
theorem test_wf_waiter : (Instr.syncWaitTimeout 3 16383).wf = true ∧ (Instr.syncWaitTimeout 4 0).wf = false ∧ (Instr.syncWaitTimeout 3 16384).wf = false := by decide
theorem test_wf_page : (Instr.stallTimerExpiry 0 159 4095).wf = true ∧ (Instr.stallTimerExpiry 0 160 0).wf = false ∧ (Instr.stallTimerExpiry 0 0 4096).wf = false := by decide
theorem test_wf_index : (Instr.indexMergeSwitch 15).wf = true ∧ (Instr.indexMergeSwitch 16).wf = false ∧ (Instr.listBlockScan 32 0 0 0).wf = false := by decide
theorem test_wf_stack : (Instr.patrolRead 15 0 .clean).wf = true ∧ (Instr.patrolRead 16 0 .clean).wf = false := by decide
theorem test_wf_die : (Instr.thermtrip 63).wf = true ∧ (Instr.thermtrip 64).wf = false ∧ (Instr.startupSelftestDone 0 [124] []).wf = false ∧
    (Instr.startupSelftestDone 0 [123] [64]).wf = false := by decide
theorem test_wf_samples : (Instr.temperatureSample (List.replicate 64 0)).wf = true ∧ (Instr.temperatureSample (List.replicate 63 0)).wf = false ∧
    (Instr.powerSample (List.replicate 10 .missing)).wf = false := by decide +kernel
theorem test_wf_rail : (Instr.railOvercurrent 10).wf = true ∧ (Instr.railOvercurrent 11).wf = false ∧ (Instr.avsAdjust 11 0).wf = false := by decide
theorem test_wf_credit : (Instr.queueCreditReturn 16 0 63).wf = true ∧ (Instr.queueCreditReturn 0 0 0).wf = false ∧ (Instr.queueCreditReturn 1 0 64).wf = false := by decide
theorem test_wf_mesh : (Instr.meshTransferReceive 123 1 .request true).wf = true ∧ (Instr.meshTransferReceive 124 0 .request true).wf = false ∧
    (Instr.meshTransferReceive 0 2 .request true).wf = false := by decide

/-! ### Words -/

theorem test_no_word : decodeTableWord 16 0x0101 = none ∧ State.reset.withFetchWord 16 0x0101 = State.reset := ⟨rfl, rfl⟩

/-! ### The manual's worked examples -/

/-- Chapter 1: Crest 21 and what serves it. -/
theorem test_example_crest : crestDie 21 = 37 ∧ saddleDie 10 = 42 ∧ portDie 4 = 44 ∧ portDie 5 = 45 ∧ passDie 2 = 46 ∧ summitDie 2 = 47 ∧
    blockAt 0x05500000 = some (.crest 21, 0) ∧ blockAt 0x06A00000 = some (.saddle 10, 0) ∧ blockAt 0x07C00000 = some (.pass 2, 0) := by decide +kernel
/-- Chapter 2: context 70,001 of generation 12,345. -/
theorem test_example_handle : mkHandle 70001 12345 = 0x88B8B039 ∧ hIndex 0x88B8B039 = 70001 ∧ hGen 0x88B8B039 = 0x3039 ∧ 70001 / 32768 = 2 := by decide +kernel
/-- Chapter 3: 8 heads of dimension 128 in MXFP8, and page 50 of layer 37. -/
theorem test_example_page : frameBytes .e4m3 8 128 = 540672 ∧ slotBytes 8 128 = 4160 ∧ boundS.core.stackOf boundS.top 70001 37 50 = 8 ∧
    (37 * 128 + 50) * frameBytes .e4m3 8 128 = 0x9A3C8000 ∧ addrNode 0x048C04009A3C8000 = 0x0123 ∧ addrLocal 0x048C04009A3C8000 = 0x04009A3C8000 := by
  decide +kernel
/-- Chapter 6: the 16 slices of 79 pages, at most 16 pages each. -/
theorem test_example_slices : let p := slicePlan ((List.range 79).map (fun p => (p, (6 + p) % 16))) 16 16777216 64
    capBuf 16777216 64 = 32 ∧ p.length = 16 ∧ p[5]? = some (5, [15, 31, 47, 63]) ∧ p[4]? = some (4, [14, 30, 46, 62, 78]) := by decide +kernel
/-- Chapter 8: where an element lies. -/
theorem test_example_block : blockIdx 8 128 1 33 5 2 = 9270 := by decide
/-- A block of the four inputs of chapter 8 and 28 zeros. -/
def block8 (a b c d : F32) : List F32 := [a, b, c, d] ++ List.replicate 28 0
/-- Chapter 8: 3.25, -0.71875, 2^-10 and 2^-17 into MXFP8_E4M3, then the decoded values into MXFP4. -/
theorem test_example_quantise : let r := (quantise .e4m3 (block8 0x40500000 0xBF380000 0x3A800000 0x37000000)).go.1
    let w := (quantise .fp4 (block8 0x40500000 0xBF400000 0x3A800000 0)).go.1
    (r.1, r.2.take 4) = (0x78, [0x7D, 0xEC, 0x20, 0x00]) ∧ (w.1, w.2.take 4) = (0x7E, [0x7, 0xB, 0x0, 0x0]) := by decide +kernel
/-- R235: exactly 1.0 at 0 and at -0. -/
theorem test_exp_zero : expFp32 0 = 0x3F800000 ∧ expFp32 0x80000000 = 0x3F800000 := by decide +kernel
/-- Chapter 11: a message of 20,544 bytes is 6 cells and 6 units, the last cell of 1,504 bytes at offset 19,040. -/
theorem test_example_cells : let cs := cellsOf (zeros 20544)
    cs.length = 6 ∧ (cs.getLast?.map (fun x => (x.1, x.2.1, x.2.2.length))) = some (19040, true, 1504) ∧ ceilDiv 20544 4096 = 6 := by decide +kernel
/-- Chapter 12: the guard band of 16 lanes, and where queue 2 closes in the list of two entries. -/
theorem test_example_gate : let x := { upP with gates := some { base := 1000000000, entries := [(0x80, 2000), (0x7F, 18000)] } }
    guardBand 16 = 11 ∧ x.closes 2 1000019900 = some 1000020000 ∧ x.gateOpen 2 16 1000019988 = true ∧ x.gateOpen 2 16 1000019989 = false ∧
    x.gateOpen 2 16 1000021999 = false ∧ x.gateOpen 2 16 1000022000 = true := by decide +kernel
/-- The command area of chapter 13's example. -/
def area13 : Mem := Mem.writeN [] 0 (le 4 0x00420201 ++ le 4 0x10 ++ le 4 0 ++ le 4 1 ++ le 4 0x28 ++ zeros 12 ++ le 4 0xFFFFFF03 ++ le 4 0x8000 ++ zeros 8)
/-- The bound device with 4 clients; 4,465 contexts have been admitted on Summit 2, and more on the others. -/
def summitS : State := { boundS with core := { boundS.core with
  job := boundS.core.job.map (fun j => { j with clientCount := 4, f1 := 16000, shape := shapeB.set 13 128#8 })
  summits := [(0, { ctxNext := 5000 }), (1, { ctxNext := 5000 }), (2, { ctxNext := 4465 }), (3, { ctxNext := 5000 })] } }
/-- Chapter 13: the words are CTX_ADMIT of tag 0x42 with vector 40, and it answers with a handle of index 70,001. -/
theorem test_example_admit : let a := Cmd.ofArea area13
    a.opcode = 0x0201 ∧ a.tag = 0x42 ∧ a.length = 16 ∧ a.vector = 40 ∧ bit a.flags 0 = true ∧ a.arg 0 1 = 3 ∧ a.arg 4 4 = 32768 ∧
    (match exec (.ctxAdmit 0) (put summitS a) with
      | .next t => (((t.core.mbox 0).result.map (fun r => (r.status, hIndex (rd r.payload 0 4)))) == some (.ok, 70001))
      | _ => false) = true := by decide +kernel
/-- Chapter 15: CELL_IN of Crest 21 is at its address, with its default watermark. -/
theorem test_example_queue : (boundS.core.onTelem (fun x => { x with shown := [(qKey 8 21, (0x3FFF00000, 7))] })).readReg boundS.top 0x0A080150 = 0xFFF00000 ∧
    (boundS.core.watermark boundS.top 0x01080015).map (fun w => w.2.1) = some (512, 256) := by decide +kernel

end Sys2Proof.Tests
end

/-! ### Connections and their channels: a read after a write (O55) -/

section
namespace Sys2Proof.Machine

@[simp] theorem Core.conn_updConn_self (c : Core) (k : Nat) (f : Conn → Conn) : (c.updConn k f).conn k = f (c.conn k) := by
  simp [Core.conn, Core.updConn, Tbl.getD]

theorem Core.conn_updConn_other (c : Core) {k j : Nat} (f : Conn → Conn) (h : j ≠ k) : (c.updConn k f).conn j = c.conn j := by
  simp [Core.conn, Core.updConn, Tbl.getD, Tbl.get?_set_other _ _ _ _ h]

@[simp] theorem Core.conn_bump (c : Core) (k : Ctr) (n j : Nat) : (c.bump k n).conn j = c.conn j := by simp [Core.conn]
@[simp] theorem Core.conn_discard (c : Core) (cid k j : Nat) : (c.discard cid k).conn j = c.conn j := c.conn_bump _ _ _

@[simp] theorem Conn.chan_onChan_self (n : Conn) (rsp : Bool) (f : Chan → Chan) : (n.onChan rsp f).chan rsp = f (n.chan rsp) := by
  cases rsp <;> rfl
@[simp] theorem Conn.chan_onChan_other (n : Conn) (rsp : Bool) (f : Chan → Chan) : (n.onChan rsp f).chan (!rsp) = n.chan (!rsp) := by
  cases rsp <;> rfl
@[simp] theorem Conn.onChan_state (n : Conn) (rsp : Bool) (f : Chan → Chan) : (n.onChan rsp f).state = n.state := by cases rsp <;> rfl
@[simp] theorem Conn.onChan_peer (n : Conn) (rsp : Bool) (f : Chan → Chan) : (n.onChan rsp f).peer = n.peer := by cases rsp <;> rfl
@[simp] theorem Conn.onChan_stages (n : Conn) (rsp : Bool) (f : Chan → Chan) : (n.onChan rsp f).stages = n.stages := by cases rsp <;> rfl
@[simp] theorem Conn.onChan_inbox (n : Conn) (rsp : Bool) (f : Chan → Chan) : (n.onChan rsp f).inbox = n.inbox := by cases rsp <;> rfl
@[simp] theorem Conn.onChan_lost (n : Conn) (rsp : Bool) (f : Chan → Chan) : (n.onChan rsp f).lost = n.lost := by cases rsp <;> rfl

theorem Core.ctr_bump_self (c : Core) (k : Ctr) : (c.bump k).ctr k = (c.ctr k).up 1 := by
  simp [Core.ctr, Core.bump, Tbl.getD]

/-- Bytes written read back as a whole. -/
theorem Mem.readN_writeN (m : Mem) (a : Nat) (bs : List Byte) : (m.writeN a bs).readN a bs.length = bs := by
  have key : ∀ (n i : Nat), i + n = bs.length → (m.writeN a bs).readN (a + i) n = bs.drop i := by
    intro n
    induction n with
    | zero => intro i hi; simp [Mem.readN, List.drop_of_length_le (show bs.length ≤ i by omega)]
    | succ n ih =>
      intro i hi
      have hlt : i < bs.length := by omega
      rw [Mem.readN, Mem.read_writeN bs m a i hlt, Nat.add_assoc, ih (i + 1) (by omega), List.drop_eq_getElem_cons hlt]
  exact key bs.length 0 (by omega)

end Sys2Proof.Machine
end

/-! ### Counters of the dies that sending leaves alone (R401) -/

section
namespace Sys2Proof.Machine

/-- Two states count the same on their Summit and Pass dies: the counters whose keys lie below those of ports. -/
def Core.SameDieCtrs (a b : Core) : Prop := ∀ k, k < 3 * 2 ^ 60 → b.telem.ctrs.getD k 0 = a.telem.ctrs.getD k 0

theorem Core.SameDieCtrs.of_ctrs {a b : Core} (h : b.telem.ctrs = a.telem.ctrs) : a.SameDieCtrs b := fun _ _ => by rw [h]
theorem Core.SameDieCtrs.refl (c : Core) : c.SameDieCtrs c := .of_ctrs rfl
theorem Core.SameDieCtrs.trans {a b c : Core} (h : a.SameDieCtrs b) (k : b.SameDieCtrs c) : a.SameDieCtrs c :=
  fun i hi => (k i hi).trans (h i hi)

theorem Core.sameDieCtrs_telem (f : Telem → Telem) (c : Core) (h : (f c.telem).ctrs = c.telem.ctrs) : c.SameDieCtrs (c.onTelem f) := .of_ctrs h

theorem Core.SameDieCtrs.pass {a b : Core} (h : a.SameDieCtrs b) {p : Nat} (hp : p < 4) : b.ctr (.pass p 0) = a.ctr (.pass p 0) :=
  h _ (by simp only [Ctr.key]; omega)

theorem Core.sameDieCtrs_bump (k : Ctr) (n : Nat) (c : Core) (h : 3 * 2 ^ 60 ≤ k.key) : c.SameDieCtrs (c.bump k n) := by
  intro i hi
  unfold Core.bump
  split
  · rfl
  · simp [Tbl.getD, Tbl.get?_set_other _ _ _ _ (show i ≠ k.key by omega)]

theorem Core.sameDieCtrs_foldl {α : Type} (f : Core → α → Core) (h : ∀ (c : Core) (x : α), c.SameDieCtrs (f c x)) (xs : List α) (c : Core) :
    c.SameDieCtrs (xs.foldl f c) := by
  induction xs generalizing c with
  | nil => exact .refl c
  | cons x xs ih => exact (h c x).trans (ih _)

theorem Core.sameDieCtrs_event (cls k n : Nat) (c : Core) : c.SameDieCtrs (c.bump (.event cls k) n) :=
  c.sameDieCtrs_bump _ _ (by simp only [Ctr.key]; omega)
theorem Core.sameDieCtrs_egress (p q k n : Nat) (c : Core) : c.SameDieCtrs (c.bump (.egress p q k) n) :=
  c.sameDieCtrs_bump _ _ (by simp only [Ctr.key]; omega)

theorem Core.sameDieCtrs_msix (v : Nat) (c : Core) : c.SameDieCtrs (c.msix v) := by
  unfold Core.msix; split
  · exact .of_ctrs rfl
  · exact .refl c

theorem Core.sameDieCtrs_evWrite (t : Top) (code src subject : Nat) (detail : List Byte) (c : Core) :
    c.SameDieCtrs (c.evWrite t code src subject detail) := by
  unfold Core.evWrite
  split
  · exact .refl c
  dsimp only
  refine (c.sameDieCtrs_event (code / 256) 0 1).trans ?_
  split
  · exact Core.sameDieCtrs_event _ _ _ _
  split
  · exact (Core.sameDieCtrs_bump (.dev 6) 1 _ (by simp only [Ctr.key]; omega)).trans (.of_ctrs rfl)
  split
  · exact Core.SameDieCtrs.trans (.of_ctrs rfl) (Core.sameDieCtrs_msix _ _)
  · exact .of_ctrs rfl

theorem Core.sameDieCtrs_wmStep (id : Nat) (up : Bool) (thr clr v : Nat) (c : Core) : c.SameDieCtrs (c.wmStep id up thr clr v).1 := by
  unfold Core.wmStep
  dsimp only
  split
  · exact Core.SameDieCtrs.trans (.of_ctrs rfl) (Core.sameDieCtrs_bump _ _ _ (by simp only [Ctr.key]; omega))
  · exact .of_ctrs rfl

theorem Core.sameDieCtrs_evqWatch (t : Top) (c : Core) : c.SameDieCtrs (c.evqWatch t) := by
  unfold Core.evqWatch
  dsimp only
  split
  · exact ((Core.sameDieCtrs_wmStep _ _ _ _ _ _).trans (Core.sameDieCtrs_evWrite _ _ _ _ _ _)).trans (.of_ctrs rfl)
  · exact Core.sameDieCtrs_wmStep _ _ _ _ _ _

theorem Core.sameDieCtrs_watch (t : Top) (id : Nat) (up : Bool) (dflt : Nat × Nat) (v src : Nat) (c : Core) :
    c.SameDieCtrs (c.watch t id up dflt v src) := by
  unfold Core.watch
  dsimp only
  split
  · exact ((Core.sameDieCtrs_wmStep _ _ _ _ _ _).trans (Core.sameDieCtrs_evWrite _ _ _ _ _ _)).trans (Core.sameDieCtrs_evqWatch _ _)
  · exact Core.sameDieCtrs_wmStep _ _ _ _ _ _

theorem Core.sameDieCtrs_putQueue (t : Top) (id inst : Nat) (es : List QEntry) (c : Core) : c.SameDieCtrs (c.putQueue t id inst es) := by
  unfold Core.putQueue
  dsimp only
  refine Core.SameDieCtrs.trans ?_ ((Core.sameDieCtrs_telem _ _ rfl).trans (Core.sameDieCtrs_watch _ _ _ _ _ _ _))
  split
  · exact .refl c
  · exact Core.sameDieCtrs_bump _ _ _ (by simp only [Ctr.key]; omega)

theorem Core.sameDieCtrs_qSend (t : Top) (id inst prod n : Nat) (w : Work) (c : Core) : c.SameDieCtrs (c.qSend t id inst prod n w) := by
  unfold Core.qSend
  split
  · exact .refl c
  · exact Core.sameDieCtrs_putQueue _ _ _ _ _

theorem Core.sameDieCtrs_qRefill (t : Top) (id inst : Nat) (c : Core) : c.SameDieCtrs (c.qRefill t id inst) := by
  refine Core.sameDieCtrs_foldl _ (fun c e => ?_) _ _
  split
  · exact .refl c
  dsimp only
  split
  · exact .refl c
  · exact Core.sameDieCtrs_putQueue _ _ _ _ _

theorem Core.sameDieCtrs_qEnd (t : Top) (id inst : Nat) (p : Work → Bool) (c : Core) : c.SameDieCtrs (c.qEnd t id inst p) := by
  unfold Core.qEnd
  split
  · exact (Core.sameDieCtrs_putQueue _ _ _ _ _).trans (Core.sameDieCtrs_qRefill _ _ _ _)
  · exact .refl c

theorem Core.sameDieCtrs_qPass (t : Top) (id inst prod n : Nat) (w : Work) (c : Core) : c.SameDieCtrs (c.qPass t id inst prod n w) := by
  unfold Core.qPass
  dsimp only
  split
  · exact Core.sameDieCtrs_qSend _ _ _ _ _ _ _
  · exact (Core.sameDieCtrs_qSend _ _ _ _ _ _ _).trans (Core.sameDieCtrs_qEnd _ _ _ _ _)

theorem Core.sameDieCtrs_meshSend (t : Top) (src dst : Nat) (cls : MeshClass) (cargo : Cargo) (w : Work) (units : Nat) (c : Core) :
    c.SameDieCtrs (c.meshSend t src dst cls cargo w units) := by
  unfold Core.meshSend
  split
  · exact .refl c
  · exact (Core.sameDieCtrs_telem _ _ rfl).trans (Core.sameDieCtrs_qSend _ _ _ _ _ _ _)

theorem Core.sameDieCtrs_meshGone (t : Top) (n : Nat) (c : Core) : c.SameDieCtrs (c.meshGone t n) :=
  (Core.sameDieCtrs_telem _ _ rfl).trans (Core.sameDieCtrs_foldl _ (fun c _ => c.sameDieCtrs_qEnd _ _ _ _) _ _)

theorem Core.sameDieCtrs_meshPass (t : Top) (src dst : Nat) (cls : MeshClass) (cargo : Cargo) (w : Work) (units : Nat) (c : Core) :
    c.SameDieCtrs (c.meshPass t src dst cls cargo w units) :=
  (c.sameDieCtrs_meshSend _ _ _ _ _ _ _).trans (Core.sameDieCtrs_meshGone _ _ _)

end Sys2Proof.Machine
end

/-! ### What sending leaves alone: cells on their paths (R308, R332), and messages of a connection (R304, R313) -/

section
namespace Sys2Proof.Machine

theorem Core.sameWork_meshGone (t : Top) (n : Nat) (c : Core) : c.SameWork (c.meshGone t n) :=
  (Core.sameWork_telem _ _).trans (Core.sameWork_qEndAll _ _ _ _)

theorem Core.sameWork_meshPass (t : Top) (src dst : Nat) (cls : MeshClass) (cargo : Cargo) (w : Work) (units : Nat) (c : Core) :
    c.SameWork (c.meshPass t src dst cls cargo w units) :=
  (c.sameWork_meshSend _ _ _ _ _ _ _).trans (Core.sameWork_meshGone _ _ _)

theorem Core.sameWork_qPass (t : Top) (id inst prod n : Nat) (w : Work) (c : Core) : c.SameWork (c.qPass t id inst prod n w) := by
  unfold Core.qPass
  dsimp only
  split
  · exact Core.sameWork_qSend _ _ _ _ _ _ _
  · exact (Core.sameWork_qSend _ _ _ _ _ _ _).trans (Core.sameWork_qEnd _ _ _ _ _)

/-- Two states differ at most in their ports and in what events, queues and the counters of ports hold: what putting cells on a path may change. -/
structure Core.Posts (a b : Core) : Prop where
  mboxes : b.host.mboxes = a.host.mboxes
  job : b.job = a.job
  ctxs : b.ctxs = a.ctxs
  tiers : b.tiers = a.tiers
  fabric : b.fabric = a.fabric
  ctrs : a.SameDieCtrs b

theorem Core.Posts.refl (c : Core) : c.Posts c := ⟨rfl, rfl, rfl, rfl, rfl, .refl c⟩

theorem Core.Posts.trans {a b c : Core} (h : a.Posts b) (k : b.Posts c) : a.Posts c :=
  ⟨k.mboxes.trans h.mboxes, k.job.trans h.job, k.ctxs.trans h.ctxs, k.tiers.trans h.tiers, k.fabric.trans h.fabric, h.ctrs.trans k.ctrs⟩

theorem Core.SameWork.posts {a b : Core} (h : a.SameWork b) (k : a.SameDieCtrs b) : a.Posts b := ⟨h.mboxes, h.job, h.ctxs, h.tiers, h.fabric, k⟩

theorem Core.posts_foldl {α : Type} (f : Core → α → Core) (h : ∀ (c : Core) (x : α), c.Posts (f c x)) (xs : List α) (c : Core) :
    c.Posts (xs.foldl f c) := by
  induction xs generalizing c with
  | nil => exact .refl c
  | cons x xs ih => exact (h c x).trans (ih _)

theorem Core.posts_updPort (p : Nat) (f : Port → Port) (c : Core) : c.Posts (c.updPort p f) :=
  ⟨by simp, by simp, by simp, by simp, by simp, .of_ctrs (by simp)⟩

theorem Core.posts_egress (h k i n : Nat) (c : Core) : c.Posts (c.bump (.egress h k i) n) :=
  (c.sameWork_bump _ _).posts (c.sameDieCtrs_egress _ _ _ _)

theorem Core.posts_acctQueue (h t0 t1 : Nat) (x : Port) (n k : Nat) (c : Core) : c.Posts (c.acctQueue h t0 t1 x n k) := by
  unfold Core.acctQueue
  split
  · exact .refl c
  · extract_lets sh c1 mask gated c2
    have held : c.Posts c2 := (c.posts_egress _ _ _ _).trans (Core.posts_egress _ _ _ _ _)
    split
    · exact held.trans (Core.posts_egress _ _ _ _ _)
    · exact held

theorem Core.posts_egressAcct (t : Top) (p : Nat) (c : Core) : c.Posts (c.egressAcct t p) := by
  unfold Core.egressAcct
  extract_lets h x n c1
  have queues : c.Posts c1 := Core.posts_foldl _ (fun c k => c.posts_acctQueue _ _ _ _ _ k) _ _
  exact queues.trans (Core.posts_updPort _ _ _)

/-- A frame put at the tail of an egress queue (R332). -/
theorem Core.posts_enqueue (t : Top) (p k : Nat) (f : QFrame) (c : Core) : c.Posts (c.enqueue t p k f) := by
  unfold Core.enqueue
  extract_lets h c1 c2
  have queued : c.Posts c2 := (c.posts_egressAcct t h).trans (Core.posts_updPort _ _ _)
  exact queued.trans ((Core.sameWork_watch _ _ _ _ _ _ _).posts (Core.sameDieCtrs_watch _ _ _ _ _ _ _))

/-- A message's cells put on the paths of its connection (R308, R312). -/
theorem Core.posts_putCells (t : Top) (cid : Nat) (m : Msg) (control : Bool) (c : Core) : c.Posts (c.putCells t cid m control) := by
  refine Core.posts_foldl _ (fun c x => ?_) _ _
  have store := (c.sameWork_qPass t 0x09 (cid / 4096) (crestDie (storeCrest cid))
    (ceilDiv (cellBytes m control x.1 x.2.1 x.2.2).length 256) .cells).posts (c.sameDieCtrs_qPass _ _ _ _ _ _)
  exact (store.trans ((Core.sameWork_meshPass _ _ _ _ _ _ _ _).posts (Core.sameDieCtrs_meshPass _ _ _ _ _ _ _ _))).trans
    (Core.posts_enqueue _ _ _ _ _)

/-! #### The part of a connection that sending leaves -/

/-- A channel without what its sending half keeps: units held and owed, the next sequence, and what waits. -/
def Chan.received (ch : Chan) : Chan := { ch with held := 0, owed := 0, next := 0, wait := [] }

/-- A connection without what its sending half keeps. -/
def Conn.received (n : Conn) : Conn := { n with req := n.req.received, rsp := n.rsp.received, lost := 0, lastSent := 0 }

/-- The fabric without its connections and the requests that await their answers. -/
def Fabric.still (f : Fabric) : Fabric := { f with conns := [], reqs := [] }

theorem Conn.received_onChan (n : Conn) (rsp : Bool) (f : Chan → Chan) (h : ∀ ch, (f ch).received = ch.received) :
    (n.onChan rsp f).received = n.received := by
  cases rsp <;> simp [Conn.onChan, Conn.received, h]

theorem Conn.received_chan {a b : Conn} (h : b.received = a.received) (rsp : Bool) : (b.chan rsp).received = (a.chan rsp).received := by
  cases rsp
  · exact congrArg Conn.req h
  · exact congrArg Conn.rsp h

/-- Two states differ at most in what sending on one connection may change. -/
structure Core.Talks (cid : Nat) (a b : Core) : Prop where
  mboxes : b.host.mboxes = a.host.mboxes
  job : b.job = a.job
  ctxs : b.ctxs = a.ctxs
  tiers : b.tiers = a.tiers
  ctrs : a.SameDieCtrs b
  still : b.fabric.still = a.fabric.still
  others : ∀ k, k ≠ cid → b.conn k = a.conn k
  own : (b.conn cid).received = (a.conn cid).received

theorem Core.Talks.refl (cid : Nat) (c : Core) : c.Talks cid c := ⟨rfl, rfl, rfl, rfl, .refl c, rfl, fun _ _ => rfl, rfl⟩

theorem Core.Talks.trans {cid : Nat} {a b c : Core} (h : a.Talks cid b) (k : b.Talks cid c) : a.Talks cid c :=
  ⟨k.mboxes.trans h.mboxes, k.job.trans h.job, k.ctxs.trans h.ctxs, k.tiers.trans h.tiers, h.ctrs.trans k.ctrs, k.still.trans h.still,
    fun i hi => (k.others i hi).trans (h.others i hi), k.own.trans h.own⟩

theorem Core.Posts.talks {a b : Core} (h : a.Posts b) (cid : Nat) : a.Talks cid b :=
  ⟨h.mboxes, h.job, h.ctxs, h.tiers, h.ctrs, by rw [h.fabric], fun _ _ => by simp only [Core.conn, h.fabric], by simp only [Core.conn, h.fabric]⟩

theorem Core.talks_updConn (cid : Nat) (f : Conn → Conn) (c : Core) (h : ∀ n, (f n).received = n.received) : c.Talks cid (c.updConn cid f) :=
  ⟨rfl, rfl, rfl, rfl, .of_ctrs rfl, rfl, fun _ hk => c.conn_updConn_other f hk, by simp [h]⟩

section
variable {cid : Nat} {a b : Core} (h : a.Talks cid b)
include h

theorem Core.Talks.dead : b.fabric.dead = a.fabric.dead := (congrArg Fabric.dead h.still :)
theorem Core.Talks.skewUs : b.fabric.skewUs = a.fabric.skewUs := (congrArg Fabric.skewUs h.still :)
theorem Core.Talks.txns : b.fabric.txns = a.fabric.txns := (congrArg Fabric.txns h.still :)
theorem Core.Talks.state : (b.conn cid).state = (a.conn cid).state := (congrArg Conn.state h.own :)
theorem Core.Talks.inbox : (b.conn cid).inbox = (a.conn cid).inbox := (congrArg Conn.inbox h.own :)
theorem Core.Talks.expect (rsp : Bool) : ((b.conn cid).chan rsp).expect = ((a.conn cid).chan rsp).expect :=
  (congrArg Chan.expect (Conn.received_chan h.own rsp) :)
theorem Core.Talks.ready (rsp : Bool) : ((b.conn cid).chan rsp).ready = ((a.conn cid).chan rsp).ready :=
  (congrArg Chan.ready (Conn.received_chan h.own rsp) :)
theorem Core.Talks.jobId : b.jobId = a.jobId := by simp only [Core.jobId, h.job]
theorem Core.Talks.carried (t : Top) (stages : Nat) (m : Msg) : b.carried t stages m = a.carried t stages m := by
  unfold Core.carried Core.quiesced
  rw [h.job]
end

theorem Core.talks_onChan (cid : Nat) (rsp : Bool) (f : Chan → Chan) (c : Core) (h : ∀ ch, (f ch).received = ch.received) :
    c.Talks cid (c.updConn cid (Conn.onChan rsp f)) := c.talks_updConn _ _ (fun n => n.received_onChan _ _ h)

theorem Core.talks_oweUnits (cid : Nat) (rsp : Bool) (u : Nat) (c : Core) : c.Talks cid (c.oweUnits cid rsp u) :=
  c.talks_onChan _ _ _ (fun _ => rfl)

/-- A message sent now (R304). -/
theorem Core.talks_sendNow (t : Top) (cid : Nat) (m : Msg) (req : Option Nat) (c : Core) : c.Talks cid (c.sendNow t cid m req) := by
  unfold Core.sendNow
  extract_lets n ch m' c1 c2
  have h1 : c.Talks cid c1 := c.talks_updConn _ _ (fun n => Conn.received_onChan _ _ _ (fun _ => rfl))
  have h2 : c1.Talks cid c2 := by
    unfold c2
    split
    · exact ⟨rfl, rfl, rfl, rfl, .of_ctrs rfl, rfl, fun _ _ => rfl, rfl⟩
    · exact .refl _ _
  exact (h1.trans h2).trans ((Core.posts_putCells _ _ _ _ _).talks _)

theorem Core.talks_flushChan (t : Top) (cid : Nat) (rsp : Bool) (fuel : Nat) (c : Core) : c.Talks cid (c.flushChan t cid rsp fuel) := by
  induction fuel generalizing c with
  | zero => exact .refl _ _
  | succ fuel ih =>
    unfold Core.flushChan
    extract_lets ch
    split
    · exact .refl _ _
    · next m r rest _ =>
      split
      · have taken : c.Talks cid (c.updConn cid (Conn.onChan rsp (fun ch => { ch with wait := rest }))) := c.talks_onChan _ _ _ (fun _ => rfl)
        exact (taken.trans (Core.talks_sendNow t cid m r _)).trans (ih _)
      · exact .refl _ _

/-- A message for a connection, sent, made to wait or lost (R313). -/
theorem Core.talks_sendMsg (t : Top) (cid type : Nat) (rsp : Bool) (cls : Nat) (body : List Byte) (req : Option Nat) (c : Core) :
    c.Talks cid (c.sendMsg t cid type rsp cls body req) := by
  unfold Core.sendMsg
  extract_lets n m allowed
  split
  · exact .refl _ _
  split
  · exact c.talks_updConn _ _ (fun _ => rfl)
  split
  · exact c.talks_sendNow _ _ _ _
  · exact c.talks_onChan _ _ _ (fun _ => rfl)

/-- Units that the peer returned (R307, R313). -/
theorem Core.talks_takeUnits (t : Top) (cid req rsp : Nat) (c : Core) : c.Talks cid (c.takeUnits t cid req rsp) := by
  unfold Core.takeUnits
  extract_lets add c1 c2
  have added : c.Talks cid c1 := c.talks_updConn _ _ (fun _ => rfl)
  exact (added.trans (Core.talks_flushChan _ _ _ _ _)).trans (Core.talks_flushChan _ _ _ _ _)

end Sys2Proof.Machine
end

/-! ### What faults and failing requests leave alone: the dead nodes, the states of connections, the answers of mailboxes -/

section
namespace Sys2Proof.Machine

theorem Core.mbox_updMbox_other (c : Core) {m k : Nat} (f : Mbox → Mbox) (h : k ≠ m) : (c.updMbox m f).mbox k = c.mbox k := by
  simp [Core.mbox, Core.updMbox, Core.onHost, Tbl.getD, Tbl.get?_set_other _ _ _ _ h]

theorem Core.result_stage_self {c : Core} {m : Nat} {st : Status} {d : Nat} {p : List Byte}
    (ht : (c.mbox m).taken.isSome = true) (hr : (c.mbox m).result = none) : ((c.stage m st d p).mbox m).result = some ⟨st, d, p⟩ := by
  simp [Core.stage, ht, hr]

/-- No node has joined or left the dead ones, no connection has changed its state, and every answer already given stands. -/
structure Core.Settles (a b : Core) : Prop where
  dead : b.fabric.dead = a.fabric.dead
  states : ∀ k, (b.conn k).state = (a.conn k).state
  results : ∀ m r, (a.mbox m).result = some r → (b.mbox m).result = some r

theorem Core.Settles.refl (c : Core) : c.Settles c := ⟨rfl, fun _ => rfl, fun _ _ h => h⟩

theorem Core.Settles.trans {a b c : Core} (h : a.Settles b) (k : b.Settles c) : a.Settles c :=
  ⟨k.dead.trans h.dead, fun i => (k.states i).trans (h.states i), fun m r hr => k.results m r (h.results m r hr)⟩

theorem Core.Settles.of_same {a b : Core} (hf : b.fabric = a.fabric) (hm : b.host.mboxes = a.host.mboxes) : a.Settles b :=
  ⟨by rw [hf], fun k => by simp only [Core.conn, hf], fun m r h => by simpa only [Core.mbox, hm] using h⟩

theorem Core.SameWork.settles {a b : Core} (h : a.SameWork b) : a.Settles b := .of_same h.fabric h.mboxes

theorem Core.Talks.settles {cid : Nat} {a b : Core} (h : a.Talks cid b) : a.Settles b where
  dead := h.dead
  states k := by
    by_cases hk : k = cid
    · subst hk; exact h.state
    · rw [h.others k hk]
  results m r hr := by simpa only [Core.mbox, h.mboxes] using hr

theorem Core.settles_ite {a b c : Core} (p : Prop) [Decidable p] (h : a.Settles b) (k : a.Settles c) : a.Settles (if p then b else c) := by
  split
  · exact h
  · exact k

theorem Core.settles_ite_snd {α : Type} {a : Core} {x y : α × Core} (p : Prop) [Decidable p] (h : a.Settles x.2) (k : a.Settles y.2) :
    a.Settles (if p then x else y).2 := by
  split
  · exact h
  · exact k

theorem Core.settles_foldl {α : Type} (f : Core → α → Core) (h : ∀ (c : Core) (x : α), c.Settles (f c x)) (xs : List α) (c : Core) :
    c.Settles (xs.foldl f c) := by
  induction xs generalizing c with
  | nil => exact .refl c
  | cons x xs ih => exact (h c x).trans (ih _)

theorem Core.settles_foldl_snd {α β : Type} (f : β × Core → α → β × Core) (h : ∀ (p : β × Core) (x : α), p.2.Settles (f p x).2) (xs : List α)
    (p : β × Core) : p.2.Settles (xs.foldl f p).2 := by
  induction xs generalizing p with
  | nil => exact .refl p.2
  | cons x xs ih => exact (h p x).trans (ih _)

/-! #### Parts of the state -/

theorem Core.settles_fabric (f : Fabric → Fabric) (c : Core) (hd : (f c.fabric).dead = c.fabric.dead) (hc : (f c.fabric).conns = c.fabric.conns) :
    c.Settles (c.onFabric f) := ⟨hd, fun k => by simp [Core.conn, hc], fun _ _ h => h⟩
theorem Core.settles_tiers (f : Tiers → Tiers) (c : Core) : c.Settles (c.onTiers f) := .of_same rfl rfl
theorem Core.settles_sched (f : Sched → Sched) (c : Core) : c.Settles (c.onSched f) := .of_same rfl rfl
theorem Core.settles_search (f : Search → Search) (c : Core) : c.Settles (c.onSearch f) := .of_same rfl rfl
theorem Core.settles_telem (f : Telem → Telem) (c : Core) : c.Settles (c.onTelem f) := .of_same rfl rfl
theorem Core.settles_emit (x : Out) (c : Core) : c.Settles (c.emit x) := .of_same rfl rfl
theorem Core.settles_updCtx (i : Nat) (f : Ctx → Ctx) (c : Core) : c.Settles (c.updCtx i f) := .of_same rfl rfl
theorem Core.settles_updPage (o : Nat) (f : PageObj → PageObj) (c : Core) : c.Settles (c.updPage o f) := .of_same rfl rfl
theorem Core.settles_updMove (r : Nat) (f : Move → Move) (c : Core) : c.Settles (c.updMove r f) := .of_same rfl rfl
theorem Core.settles_updItem (i : Nat) (f : Item → Item) (c : Core) : c.Settles (c.updItem i f) := .of_same rfl rfl
theorem Core.settles_updSummit (q : Nat) (f : Summit → Summit) (c : Core) : c.Settles (c.updSummit q f) := .of_same rfl rfl
theorem Core.settles_updLine (l : Nat) (f : Line → Line) (c : Core) : c.Settles (c.updLine l f) := c.settles_fabric _ rfl rfl
theorem Core.settles_dropRef (i : Nat) (k : RefKind) (c : Core) : c.Settles (c.dropRef i k) := c.settles_updCtx _ _
theorem Core.settles_bump (k : Ctr) (n : Nat) (c : Core) : c.Settles (c.bump k n) := (c.sameWork_bump k n).settles
theorem Core.settles_raise (t : Top) (code src subject : Nat) (detail : List Byte) (c : Core) : c.Settles (c.raise t code src subject detail) :=
  (c.sameWork_raise _ _ _ _ _).settles

/-- A response already decided is not decided again (R359). -/
theorem Core.settles_stage (m : Nat) (st : Status) (d : Nat) (p : List Byte) (c : Core) : c.Settles (c.stage m st d p) where
  dead := rfl
  states _ := rfl
  results k r h := by
    by_cases hk : k = m
    · subst hk; simp [Core.stage, h]
    · rw [Core.stage, Core.mbox_updMbox_other _ _ hk]; exact h

/-! #### Messages, requests and synchronisation objects -/

theorem Core.settles_sendMsg (t : Top) (cid type : Nat) (rsp : Bool) (cls : Nat) (body : List Byte) (req : Option Nat) (c : Core) :
    c.Settles (c.sendMsg t cid type rsp cls body req) := (c.talks_sendMsg _ _ _ _ _ _ _).settles

theorem Core.settles_newReq (t : Top) (cid type tag : Nat) (p : Purpose) (c : Core) : c.Settles (c.newReq t cid type tag p).2 :=
  ⟨rfl, fun _ => rfl, fun _ _ h => h⟩

theorem Core.settles_memAnswer (t : Top) (cid : Nat) (q : Msg) (st : Status) (d ver old : Nat) (data : List Byte) (c : Core) :
    c.Settles (c.memAnswer t cid q st d ver old data) := settles_ite _ (.refl c) (c.settles_sendMsg _ _ _ _ _ _ _)

/-- A request is no longer awaited (R317). -/
theorem Core.settles_dropReq (q : Nat) (c : Core) : c.Settles (c.dropReq q) := by
  unfold Core.dropReq
  split
  · exact .refl c
  · next x _ =>
    extract_lets c1
    have forgotten : c.Settles c1 := c.settles_fabric _ rfl rfl
    split
    · exact settles_ite _ forgotten (forgotten.trans (c1.settles_dropRef _ _))
    · exact forgotten

theorem Core.settles_staleSync (id : Nat) (c : Core) : c.Settles (c.staleSync id) := settles_ite _ (c.settles_bump _ _) (.refl c)

theorem Core.settles_putSync (id : Nat) (o : SyncObj) (excess : Nat) (c : Core) : c.Settles (c.putSync id o excess) := by
  unfold Core.putSync
  extract_lets c1
  have stored : c.Settles c1 := .of_same rfl rfl
  exact settles_ite _ stored (stored.trans (c1.settles_updSummit _ _))

theorem Core.settles_removeWaiter (w : Waiter) (c : Core) : c.Settles (c.removeWaiter w) := c.settles_updSummit _ _

/-- A waiter's release (R70). -/
theorem Core.settles_fire (t : Top) (w : Waiter) (value : Nat) (c : Core) : c.Settles (c.fire t w value) := by
  unfold Core.fire
  extract_lets c1
  have released : c.Settles c1 := by
    unfold c1; split
    · exact c.settles_dropRef _ _
    · exact .refl c
  refine released.trans ?_
  split
  · exact c1.settles_stage _ _ _ _
  · extract_lets c2
    have raised : c1.Settles c2 := (c1.sameWork_msix _).settles
    exact settles_ite _ (raised.trans (c2.settles_raise _ _ _ _ _)) raised
  · split
    · exact c1.settles_bump _ _
    split
    · exact (c1.settles_newReq _ _ _ _ _).trans (Core.settles_sendMsg _ _ _ _ _ _ _ _)
    · exact c1.settles_staleSync _

theorem Core.settles_cancelWaiter (w : Waiter) (st : Status) (d : Nat) (c : Core) : c.Settles (c.cancelWaiter w st d) := by
  unfold Core.cancelWaiter
  extract_lets c1
  have released : c.Settles c1 := by
    unfold c1; split
    · exact c.settles_dropRef _ _
    · exact .refl c
  split
  · exact released.trans (c1.settles_stage _ _ _ _)
  · exact released

theorem Core.settles_cancelWaiters (p : Waiter → Bool) (st : Status) (d : Nat) (c : Core) : c.Settles (c.cancelWaiters p st d) :=
  settles_foldl _ (fun c w => settles_ite _ ((c.settles_removeWaiter w).trans (Core.settles_cancelWaiter _ _ _ _)) (.refl c)) _ _

theorem Core.settles_fireAll (t : Top) (value : Nat) (ws : List Waiter) (c : Core) : c.Settles (c.fireAll t value ws) :=
  settles_foldl _ (fun c w => (c.settles_removeWaiter w).trans (Core.settles_fire _ _ _ _)) _ _

theorem Core.settles_fireSem (t : Top) (id : Nat) (ws : List Waiter) (c : Core) : c.Settles (c.fireSem t id ws) := by
  induction ws generalizing c with
  | nil => exact .refl c
  | cons w ws ih =>
    unfold Core.fireSem
    split
    · exact .refl c
    · split
      · exact .refl c
      · extract_lets c1
        have taken : c.Settles c1 := .of_same rfl rfl
        exact ((taken.trans (c1.settles_removeWaiter w)).trans (Core.settles_fire _ _ _ _)).trans (ih _)

theorem Core.settles_evaluate (t : Top) (id : Nat) (c : Core) : c.Settles (c.evaluate t id) := by
  unfold Core.evaluate
  split
  · exact .refl c
  · extract_lets ws c1
    have wrapped : c.Settles c1 := .of_same rfl rfl
    split
    · exact settles_ite _ (c.settles_fireAll _ _ _) (.refl c)
    · exact settles_ite _ (c.settles_fireAll _ _ _) (.refl c)
    · exact c.settles_fireSem _ _ _
    · exact settles_ite _ (.refl c) (wrapped.trans (c1.settles_fireAll _ _ _))

/-- A signal (R68, R69). -/
theorem Core.settles_signal (t : Top) (id n : Nat) (c : Core) : c.Settles (c.signal t id n) := by
  unfold Core.signal
  split
  · exact c.settles_staleSync _
  · split
    · exact c.settles_staleSync _
    · exact (c.settles_putSync _ _ _).trans (Core.settles_evaluate _ _ _)

theorem Core.settles_signalDone (t : Top) (id : Nat) (c : Core) : c.Settles (c.signalDone t id) :=
  settles_ite _ (.refl c) (c.settles_signal _ _ _)

/-! #### Pages and frames -/

theorem Core.settles_freeWork (t : Top) (w : Work → Bool) (c : Core) : c.Settles (c.freeWork t w) :=
  ((c.sameWork_qEndAll _ _ _).trans (Core.sameWork_meshEnd _ _ _)).settles

theorem Core.settles_watchFree (t : Top) (c : Core) : c.Settles (c.watchFree t) :=
  settles_ite _ (c.sameWork_watch _ _ _ _ _ _).settles (.refl c)

theorem Core.settles_findFrame {t : Top} {k0 : Nat} {c c' : Core} {fr : Nat × Nat} (h : c.findFrame t k0 = some (fr, c')) : c.Settles c' := by
  unfold Core.findFrame Core.pickFree at h
  dsimp only at h
  split at h
  · cases h
  · split at h
    · cases h
    · next f c1 hp =>
      split at hp
      · cases hp
      · simp only [Option.some.injEq, Prod.mk.injEq] at h hp
        obtain ⟨-, rfl⟩ := hp
        obtain ⟨-, rfl⟩ := h
        exact .of_same rfl rfl

theorem Core.settles_retireFrame (t : Top) (st fr why : Nat) (c : Core) : c.Settles (c.retireFrame t st fr why) := by
  unfold Core.retireFrame
  extract_lets die r c1 c2 c3
  have listed : c.Settles c2 := .of_same rfl rfl
  have kept : c2.Settles c3 := settles_ite _ (c2.settles_telem _) (.refl c2)
  exact (listed.trans kept).trans (c3.settles_raise _ _ _ _ _)

theorem Core.settles_releaseFrame (t : Top) (o : Nat) (c : Core) : c.Settles (c.releaseFrame t o) := by
  unfold Core.releaseFrame
  split
  · exact .refl c
  · extract_lets given c1 c2
    have freed : c.Settles c2 := .of_same rfl rfl
    refine freed.trans ?_
    split
    · exact settles_ite _ (.refl c2) (settles_ite _ (c2.settles_tiers _) (c2.settles_retireFrame _ _ _ _))
    · exact .refl c2

theorem Core.settles_dropPage (t : Top) (o : Nat) (c : Core) : c.Settles (c.dropPage t o) := by
  unfold Core.dropPage
  extract_lets c1
  have freed : c.Settles c1 := (c.settles_releaseFrame t o).trans (Core.settles_freeWork _ _ _)
  exact freed.trans (c1.settles_tiers _)

theorem Core.settles_unref (t : Top) (i key : Nat) (c : Core) : c.Settles (c.unref t i key) := by
  unfold Core.unref
  split
  · exact .refl c
  · extract_lets c1
    refine (c.settles_updCtx i _ : c.Settles c1).trans ?_
    split
    · exact c1.settles_dropPage _ _
    · exact c1.settles_updPage _ _

theorem Core.settles_freePages (t : Top) (i : Nat) (c : Core) : c.Settles (c.freePages t i) := by
  unfold Core.freePages
  extract_lets c1
  have dropped : c.Settles c1 := settles_foldl _ (fun c k => c.settles_unref t i k) _ _
  exact (dropped.trans (c1.settles_updCtx _ _)).trans (Core.settles_watchFree _ _)

theorem Core.settles_unappend (t : Top) (o fill : Nat) (c : Core) : c.Settles (c.unappend t o fill) := by
  unfold Core.unappend
  split
  · exact .refl c
  · exact c.settles_updPage _ _

/-! #### Work that ends -/

theorem Core.settles_failLayer (t : Top) (i : Nat) (chunk : Bool) (st : Status) (d : Nat) (m : LayerMsg) (c : Core) :
    c.Settles (c.failLayer t i chunk st d m) :=
  ((c.settles_sendMsg _ _ _ _ _ _ _).trans (Core.settles_signalDone _ _ _)).trans (Core.settles_dropRef _ _ _)

theorem Core.settles_failLayers (t : Top) (i : Nat) (chunk : Bool) (st : Status) (d : Nat) (ms : List LayerMsg) (c : Core) :
    c.Settles (ms.foldl (fun c m => c.failLayer t i chunk st d m) c) := settles_foldl _ (fun c m => c.settles_failLayer _ _ _ _ _ m) _ _

theorem Core.settles_endHold (t : Top) (i : Nat) (c : Core) : c.Settles (c.endHold t i) := by
  unfold Core.endHold
  split
  · exact .refl c
  · split
    · exact .refl c
    · exact (c.settles_updItem _ _).trans (Core.settles_sched _ _)

theorem Core.settles_freeScore (crest n : Nat) (c : Core) : c.Settles (c.freeScore crest n) := c.settles_sched _
theorem Core.settles_stepSpan (t : Top) (n item : Nat) (ridge : Bool) (since : Nat) (c : Core) : c.Settles (c.stepSpan t n item ridge since) :=
  c.settles_sched _

theorem Core.settles_dropRun (t : Top) (i : Nat) (c : Core) : c.Settles (c.dropRun t i) := by
  unfold Core.dropRun
  split
  · exact .refl c
  · split
    · exact .refl c
    · next it _ r _ =>
      extract_lets c1 c2 c3 c4 m n c5
      have slices : c1.Settles c2 := settles_foldl _ (fun c s =>
        settles_ite _ ((c.settles_freeScore _ _).trans (Core.settles_stepSpan _ _ _ _ _ _)) (.refl c)) _ _
      have units : c2.Settles c3 := by
        refine settles_foldl _ (fun c u => ?_) _ _
        extract_lets d
        have scores : c.Settles d := settles_ite _ (c.settles_freeScore _ _) (.refl c)
        exact settles_ite _ (scores.trans (d.settles_stepSpan _ _ _ _ _)) scores
      have work : c3.Settles c4 := c3.settles_freeWork _ _
      have tokens : c4.Settles c5 := by
        refine settles_ite _ (.refl c4) (settles_ite _ (settles_foldl _ (fun c p => ?_) _ _) ?_)
        · split
          · exact c.settles_unappend _ _ _
          · exact .refl c
        · split
          · exact c4.settles_unappend _ _ _
          · exact .refl c4
      exact (((((c.settles_sched _).trans slices).trans units).trans work).trans tokens).trans (c5.settles_updItem _ _)

/-- An item ended (R57, R108). -/
theorem Core.settles_failItem (t : Top) (i : Nat) (st : Status) (d : Nat) (c : Core) : c.Settles (c.failItem t i st d) := by
  unfold Core.failItem
  split
  · exact .refl c
  · next it _ =>
    extract_lets c1 c2 c3 mine c4 c5
    have run : c.Settles c1 := (c.settles_endHold t i).trans (Core.settles_dropRun _ _ _)
    have engines : c1.Settles c2 := settles_ite _ (.refl c1) (c1.settles_sched _)
    have messages : c2.Settles c3 := c2.settles_failLayers _ _ _ _ _ _
    have parts : c3.Settles c4 := settles_foldl _ (fun c l => c.settles_failLayers _ _ _ _ _ _) _ _
    exact (((run.trans engines).trans messages).trans parts).trans (.of_same rfl rfl)

theorem Core.settles_failItems (t : Top) (es : Tbl Item) (st : Status) (d : Nat) (c : Core) :
    c.Settles (es.foldl (fun c e => c.failItem t e.1 st d) c) := settles_foldl _ (fun c _ => c.settles_failItem _ _ _ _) _ _

theorem Core.settles_failParts (t : Top) (x : Nat) (st : Status) (d : Nat) (c : Core) : c.Settles (c.failParts t x st d) := by
  unfold Core.failParts
  extract_lets mine c1
  have parts : c.Settles c1 := settles_foldl _ (fun c _ => (c.settles_failLayers _ _ _ _ _ _).trans (Core.settles_sched _ _)) _ _
  exact parts.trans (c1.settles_sched _)

theorem Core.settles_failHelds (t : Top) (x : Nat) (st : Status) (d : Nat) (c : Core) : c.Settles (c.failHelds t x st d) :=
  (c.settles_updCtx _ _).trans (settles_foldl _ (fun c _ => c.settles_failLayer _ _ _ _ _ _) _ _)

theorem Core.settles_endPause (i : Nat) (st : Status) (d : Nat) (c : Core) : c.Settles (c.endPause i st d) :=
  (c.settles_updCtx _ _).trans (settles_foldl _ (fun c _ => c.settles_stage _ _ _ _) _ _)

theorem Core.settles_dropIdle (t : Top) (i : Nat) (c : Core) : c.Settles (c.dropIdle t i) := by
  unfold Core.dropIdle
  extract_lets idle c1
  exact (c.settles_failItems t idle _ _ : c.Settles c1).trans (c1.settles_sched _)

theorem Core.settles_enterDraining (t : Top) (i : Nat) (c : Core) : c.Settles (c.enterDraining t i) := by
  unfold Core.enterDraining
  extract_lets d c1 c2
  have waiters : c.Settles c1 := c.settles_cancelWaiters _ _ _
  have work : c1.Settles c2 :=
    ((c1.settles_failParts t i _ _).trans (Core.settles_endPause i _ _ _)).trans (Core.settles_dropIdle t i _)
  exact (waiters.trans work).trans (c2.settles_updCtx _ _)

/-! #### Moves that end -/

theorem Core.settles_setMove (r : Nat) (f : Move → Move) (c : Core) : c.Settles (c.setMove r f) := by
  unfold Core.setMove
  split
  · exact .refl c
  · exact .of_same rfl rfl

theorem Core.settles_moveMsg (t : Top) (r type kind cls : Nat) (body : List Byte) (req : Option Nat) (c : Core) :
    c.Settles (c.moveMsg t r type kind cls body req) := by
  unfold Core.moveMsg
  split
  · exact .refl c
  · exact c.settles_sendMsg _ _ _ _ _ _ _

theorem Core.settles_moveAsk (t : Top) (r conn type kind key cls : Nat) (body : List Byte) (c : Core) :
    c.Settles (c.moveAsk t r conn type kind key cls body) := by
  unfold Core.moveAsk
  split
  · exact .refl c
  · next m _ =>
    have asked := c.settles_newReq t conn type (kind + 256 * key) (.move r m.ctx)
    exact (asked.trans (settles_ite _ (.refl _) (Core.settles_updCtx _ _ _))).trans (Core.settles_sendMsg _ _ _ _ _ _ _ _)

theorem Core.settles_endMove (t : Top) (r : Nat) (ph : MovePhase) (event : Bool) (st : Status) (d : Nat) (c : Core) :
    c.Settles (c.endMove t r ph event st d) := by
  unfold Core.endMove
  split
  · exact .refl c
  · split
    · exact .refl c
    · next m _ _ =>
      extract_lets c1 c2 det c3 c4
      have requests : c.Settles c1 := settles_foldl _ (fun c q => c.settles_dropReq q) _ _
      have ended : c1.Settles c2 := c1.settles_setMove _ _
      have raised : c2.Settles c3 :=
        settles_ite _ (.refl c2) (settles_ite _ (c2.settles_raise _ _ _ _ _) (c2.settles_raise _ _ _ _ _))
      have answered : c3.Settles c4 := by
        unfold c4; split
        · exact c3.settles_stage _ _ _ _
        · exact .refl c3
      exact (((requests.trans ended).trans raised).trans answered).trans (c4.settles_signalDone _ _)

/-- A move aborted at this end (R138). -/
theorem Core.settles_abortMove (t : Top) (r : Nat) (st : Status) (d : Nat) (tell : Bool) (c : Core) : c.Settles (c.abortMove t r st d tell) := by
  unfold Core.abortMove
  split
  · exact .refl c
  · split
    · exact .refl c
    · next m _ _ =>
      extract_lets c1 c2 x c3 c4
      have told : c.Settles c1 := settles_ite _ (c.settles_moveMsg _ _ _ _ _ _ _) (.refl c)
      have ended : c1.Settles c2 := c1.settles_endMove _ _ _ _ _ _
      have drained : c2.Settles c4 :=
        ((c2.settles_failHelds t _ _ _).trans (Core.settles_enterDraining t _ _)).trans (Core.settles_freePages t _ _)
      refine (told.trans ended).trans (settles_ite _ (settles_ite _ (.refl c2) ?_) ?_)
      · exact (c2.settles_freePages _ _).trans (Core.settles_updCtx _ _ _)
      · exact settles_ite _ (c2.settles_updCtx _ _) (settles_ite _ drained (.refl c2))

theorem Core.settles_faultMove (t : Top) (r : Nat) (st : Status) (c : Core) : c.Settles (c.faultMove t r st) := by
  unfold Core.faultMove
  split
  · exact .refl c
  · split
    · exact c.settles_abortMove _ _ _ _ _
    split
    · extract_lets c1
      have cut : c.Settles c1 := settles_ite _ (.refl c) (c.settles_moveMsg _ _ _ _ _ _ _)
      exact (cut.trans (c1.settles_moveMsg _ _ _ _ _ _ _)).trans (Core.settles_endMove _ _ _ _ _ _ _)
    · exact (c.settles_moveMsg _ _ _ _ _ _ _).trans (Core.settles_endMove _ _ _ _ _ _ _)

/-! #### Faults -/

/-- A fault reaches a context (R57). -/
theorem Core.settles_faultCtx (t : Top) (i cause : Nat) (c : Core) : c.Settles (c.faultCtx t i cause) := by
  unfold Core.faultCtx
  extract_lets x st c1 c2 c3 c4 c5
  split
  · exact .refl c
  · have items : c1.Settles c2 := c1.settles_failItems t _ _ _
    have parts : c2.Settles c3 := (c2.settles_failParts t _ _ _).trans (Core.settles_failHelds t _ _ _ _)
    have pauses : c3.Settles c4 := settles_ite _ (c3.settles_endPause _ _ _) (c3.settles_endPause _ _ _)
    have raised : c4.Settles c5 := c4.settles_raise _ _ _ _ _
    exact (((((c.settles_updCtx _ _).trans items).trans parts).trans pauses).trans raised).trans
      (settles_foldl _ (fun c _ => c.settles_faultMove _ _ _) _ _)

theorem Core.settles_faultCtxs (t : Top) (cause : Nat) (is : List Nat) (c : Core) : c.Settles (is.foldl (fun c i => c.faultCtx t i cause) c) :=
  settles_foldl _ (fun c i => c.settles_faultCtx t i cause) _ _

theorem Core.settles_endQuery (t : Top) (k : Nat) (st : Status) (d n lists scored : Nat) (recs : List Byte) (c : Core) :
    c.Settles (c.endQuery t k st d n lists scored recs) := by
  unfold Core.endQuery
  split
  · exact .refl c
  · exact ((c.settles_search _).trans (Core.settles_sendMsg _ _ _ _ _ _ _ _)).trans (Core.settles_signalDone _ _ _)

theorem Core.settles_abandonMerge (t : Top) (x : Nat) (st : Status) (d : Nat) (c : Core) : c.Settles (c.abandonMerge t x st d) := by
  unfold Core.abandonMerge
  split
  · exact .refl c
  · exact ((c.settles_search _).trans (Core.settles_stage _ _ _ _ _)).trans (Core.settles_signalDone _ _ _)

/-- A job fault (R329). -/
theorem Core.settles_jobFault (t : Top) (cause node die : Nat) (c : Core) : c.Settles (c.jobFault t cause node die) := by
  unfold Core.jobFault
  split
  · exact .refl c
  · next j _ =>
    extract_lets d c1 c2 c3 c4 c5 c6 c7
    refine (c.settles_raise _ _ _ _ _ : c.Settles c1).trans (settles_ite _ (.refl c1) ?_)
    have quiesced : c1.Settles c3 := .of_same rfl rfl
    have contexts : c3.Settles c4 := c3.settles_faultCtxs t 2 _
    have items : c4.Settles c5 := settles_foldl _ (fun c i => c.settles_failItem t i _ _) _ _
    have waiters : c5.Settles c6 := c5.settles_cancelWaiters _ _ _
    have queries : c6.Settles c7 := settles_foldl _ (fun c k => c.settles_endQuery t k _ _ _ _ _ _) _ _
    exact ((((quiesced.trans contexts).trans items).trans waiters).trans queries).trans
      (settles_foldl _ (fun c x => c.settles_abandonMerge t x _ _) _ _)

end Sys2Proof.Machine
end

/-! ### Requests that end without their answers (R317), whatever waits for them -/

section
namespace Sys2Proof.Machine

/-! #### Pages on their way to and from slower tiers -/

theorem Core.settles_losePage (t : Top) (o : Nat) (c : Core) : c.Settles (c.losePage t o) := by
  unfold Core.losePage
  split
  · exact .refl c
  · extract_lets ns
    split
    · exact ((c.settles_updPage _ _).trans (Core.settles_raise _ _ _ _ _ _)).trans (Core.settles_faultCtxs _ _ _ _)

theorem Core.settles_readUnit3 (t : Top) (o u : Nat) (retry : Bool) (c : Core) : c.Settles (c.readUnit3 t o u retry) := by
  unfold Core.readUnit3
  split
  · exact .refl c
  · split
    · dsimp only
      split
      · exact c.settles_losePage _ _
      · next n _ =>
        exact (c.settles_newReq t n 0x50 c.fabric.nextReq (.tier3 o u retry)).trans (Core.settles_sendMsg _ _ _ _ _ _ _ _)
    · exact .refl c

theorem Core.settles_unit3Done (t : Top) (o u : Nat) (retry : Bool) (st : Status) (data : List Byte) (c : Core) :
    c.Settles (c.unit3Done t o u retry st data) := by
  unfold Core.unit3Done
  split
  · exact .refl c
  · split
    · exact .refl c
    · exact settles_ite _ (c.settles_updPage _ _) (settles_ite _ (c.settles_losePage _ _) (c.settles_readUnit3 _ _ _ _))

theorem Core.settles_dropPool3 (o : Nat) (c : Core) : c.Settles (c.dropPool3 o) := c.settles_fabric _ rfl rfl

/-- A write-down abandoned (R240). -/
theorem Core.settles_abandon (t : Top) (o : Nat) (c : Core) : c.Settles (c.abandon t o) := by
  unfold Core.abandon
  split
  · exact .refl c
  · split
    · exact .refl c
    · extract_lets stop
      have stops : ∀ c : Core, c.Settles (stop c) := fun c =>
        (((c.settles_updPage _ _).trans (Core.settles_bump _ _ _)).trans (Core.settles_dropPool3 _ _)).trans (Core.settles_freeWork _ _ _)
      split
      · exact stops c
      · split
        · exact stops c
        · split
          split
          · next found => exact ((Core.settles_findFrame found).trans (Core.settles_updPage _ _ _)).trans (stops _)
          · exact .refl c

theorem Core.settles_unit3Written (t : Top) (o u : Nat) (st : Status) (c : Core) : c.Settles (c.unit3Written t o u st) := by
  unfold Core.unit3Written
  split
  · exact .refl c
  · split
    · exact .refl c
    · exact settles_ite _ (c.settles_updPage _ _) (c.settles_abandon _ _)

/-! #### Versions and regions -/

theorem Core.settles_sendInvalidate (t : Top) (cid node off len kind ver : Nat) (p : Purpose) (c : Core) :
    c.Settles (c.sendInvalidate t cid node off len kind ver p) := by
  unfold Core.sendInvalidate
  have asked := c.settles_newReq t cid 0x54 c.fabric.nextReq p
  exact ((asked.trans (Core.settles_fabric _ _ rfl rfl)).trans (Core.settles_sendMsg _ _ _ _ _ _ _ _)).trans (Core.settles_bump _ _ _)

/-- The versions of the granules of a write (R323). -/
theorem Core.settles_newVersions (t : Top) (rid off n txn : Nat) (c : Core) : c.Settles (c.newVersions t rid off n txn).2 := by
  unfold Core.newVersions
  split
  · exact .refl c
  · split
    · exact .refl c
    · refine settles_foldl_snd _ (fun p g => ?_) _ (0, c)
      obtain ⟨k, c⟩ := p
      have invalidated : ∀ (c : Core) (x : Nat × Nat) (v : Nat), c.Settles (c.sendInvalidate t x.2 x.1 (g * 4096) 4096 1 v (.version txn)) :=
        fun c _ _ => c.settles_sendInvalidate _ _ _ _ _ _ _ _
      exact (Core.settles_fabric _ c rfl rfl).trans (settles_foldl _ (fun c x => invalidated c x _) _ _)

theorem Core.settles_wrote (t : Top) (rid off n : Nat) (c : Core) : c.Settles (c.wrote t rid off n) := by
  have versions := c.settles_newVersions t rid off n c.fabric.nextTxn
  exact settles_ite _ versions (versions.trans (Core.settles_fabric _ _ rfl rfl))

theorem Core.settles_writeDone (t : Top) (cid : Nat) (q : Msg) (rid off n : Nat) (c : Core) : c.Settles (c.writeDone t cid q rid off n) := by
  have versions := c.settles_newVersions t rid off n c.fabric.nextTxn
  refine settles_ite _ (versions.trans (Core.settles_memAnswer _ _ _ _ _ _ _ _ _)) ?_
  have counted := versions.trans (Core.settles_fabric (fun f => { f with nextTxn := c.fabric.nextTxn + 1 }) _ rfl rfl)
  exact settles_ite _ (counted.trans (Core.settles_fabric _ _ rfl rfl)) counted

/-- A REGION_DEREGISTER that waits completes (R331). -/
theorem Core.settles_closeRegion (rid : Nat) (c : Core) : c.Settles (c.closeRegion rid) := by
  unfold Core.closeRegion
  split
  · exact .refl c
  · split
    · exact .refl c
    · extract_lets reading waiting line c1 c2
      have gone : c.Settles c1 := c.settles_fabric _ rfl rfl
      have zeroed : c1.Settles c2 := settles_ite _ (.of_same rfl rfl) (.refl c1)
      exact settles_ite _ (.refl c) ((gone.trans zeroed).trans (c2.settles_stage _ _ _ _))

theorem Core.settles_closeAt (off : Nat) (c : Core) : c.Settles (c.closeAt off) := by
  unfold Core.closeAt
  split
  · exact c.settles_closeRegion _
  · exact .refl c

theorem Core.settles_versionAnswered (t : Top) (txn : Nat) (c : Core) : c.Settles (c.versionAnswered t txn) := by
  unfold Core.versionAnswered
  split
  · exact .refl c
  · extract_lets c1
    have ended : c.Settles c1 := c.settles_fabric _ rfl rfl
    refine settles_ite _ ((ended.trans (c1.settles_sendMsg _ _ _ _ _ _ _)).trans (Core.settles_closeRegion _ _)) ?_
    exact c.settles_fabric _ rfl rfl

/-! #### Accesses and coherence lines -/

theorem Core.settles_memStore (off : Nat) (data : List Byte) (c : Core) : c.Settles (c.memStore off data) := c.settles_tiers _

theorem Core.settles_memDenied (t : Top) (cid : Nat) (q : Msg) (c : Core) : c.Settles (c.memDenied t cid q) :=
  (c.settles_memAnswer _ _ _ _ _ _ _ _).trans (Core.settles_bump _ _ _)

theorem Core.settles_tookUnits (t : Top) (bytes : Nat) (c : Core) : c.Settles (c.tookUnits t bytes) := by
  unfold Core.tookUnits
  extract_lets c1
  have counted : c.Settles c1 := .of_same rfl rfl
  exact (counted.trans (c1.settles_sched _)).trans (Core.settles_watchFree _ _)

theorem Core.settles_commitGrant {t : Top} {g : Grant} {off n : Nat} {c c' : Core} (h : c.commitGrant t g off n = some c') : c.Settles c' := by
  unfold Core.commitGrant at h
  extract_lets us s on at h
  split at h
  · cases h; exact .refl c
  · split at h
    · cases h; exact (c.settles_tiers _).trans (Core.settles_tookUnits _ _ _)
    · cases h

theorem Core.settles_callMember (t : Top) (l kind node : Nat) (c : Core) : c.Settles (c.callMember t l kind node) :=
  c.settles_sendInvalidate _ _ _ _ _ _ _ _

theorem Core.settles_meetLines (t : Top) (cid : Nat) (q : Msg) (off n no : Nat) (c : Core) : c.Settles (c.meetLines t cid q off n no).2 := by
  unfold Core.meetLines
  extract_lets stops me
  clear_value stops
  split
  · exact .refl c
  · next l _ =>
    extract_lets x
    split
    · dsimp only
      exact c.settles_updLine _ _
    · split
      · exact .refl c
      · exact (c.settles_updLine _ _).trans (settles_foldl _ (fun c _ => c.settles_callMember _ _ _ _) _ _)

theorem Core.settles_storeAt (r : Option Region) (off : Nat) (data : List Byte) (c : Core) : c.Settles (c.storeAt r off data) := by
  unfold Core.storeAt
  split
  · exact settles_ite _ ((c.settles_fabric _ rfl rfl).trans (Core.settles_emit _ _)) (c.settles_memStore _ _)
  · exact c.settles_memStore _ _

theorem Core.settles_readHost (p : ReadFor) (addr n : Nat) (c : Core) : c.Settles (c.readHost p addr n) :=
  ⟨rfl, fun _ => rfl, fun _ _ h => h⟩

theorem Core.settles_serveRead (t : Top) (cid : Nat) (q : Msg) (rid : Nat) (r : Option Region) (off n : Nat) (c : Core) :
    c.Settles (c.serveRead t cid q rid r off n) := by
  unfold Core.serveRead
  extract_lets versioned coh ver host combine op same k c1
  have read : c.Settles c1 := c.settles_readHost _ _ _
  refine settles_ite _ (c.settles_memAnswer _ _ _ _ _ _ _ _) (settles_ite _ (c.settles_memAnswer _ _ _ _ _ _ _ _) ?_)
  refine settles_ite _ ?_ (settles_ite _ (c.settles_memAnswer _ _ _ _ _ _ _ _) (c.settles_memAnswer _ _ _ _ _ _ _ _))
  split
  · exact (c.settles_fabric _ rfl rfl).trans (Core.settles_bump _ _ _)
  · exact settles_ite _ (read.trans (c1.settles_fabric _ rfl rfl)) read

theorem Core.settles_serveAtomic (t : Top) (cid : Nat) (q : Msg) (rid : Nat) (r : Option Region) (off n : Nat) (c : Core) :
    c.Settles (c.serveAtomic t cid q rid r off n) := by
  unfold Core.serveAtomic
  extract_lets old
  split
  · exact c.settles_memAnswer _ _ _ _ _ _ _ _
  · extract_lets c1 txn
    have applied : c.Settles c1 := (c.settles_memStore _ _).trans (Core.settles_memAnswer _ _ _ _ _ _ _ _ _)
    refine settles_ite _ (c.settles_memAnswer _ _ _ _ _ _ _ _) (settles_ite _ (c.settles_memAnswer _ _ _ _ _ _ _ _) ?_)
    exact (applied.trans (c1.settles_newVersions t rid off n txn)).trans (Core.settles_fabric _ _ rfl rfl)

/-- Whatever an access at each kind of target leaves alone, an access at a target does. The accesses are variables here, so that the kernel
takes the match apart without evaluating them. -/
theorem settles_target {a : Core} {x : Grant → Core} {y : Nat → Region → Core} (m : MemTarget) (hx : ∀ g, a.Settles (x g))
    (hy : ∀ k r, a.Settles (y k r)) : a.Settles (match m with | .grant g => x g | .region k r => y k r) := by
  cases m with
  | grant g => exact hx g
  | region k r => exact hy k r

/-- An access applied (R319 to R321). -/
theorem Core.settles_serveMem (t : Top) (cid : Nat) (q : Msg) (m : MemTarget) (off n : Nat) (c : Core) : c.Settles (c.serveMem t cid q m off n) := by
  unfold Core.serveMem
  split
  extract_lets c1 data
  have lines : c.Settles c1 := by
    unfold c1; split
    · exact settles_ite _ (settles_foldl _ (fun c _ => c.settles_updLine _ _) _ _) (.refl c)
    · exact .refl c
  refine lines.trans ?_
  split
  · exact c1.settles_serveRead _ _ _ _ _ _ _
  · exact c1.settles_serveAtomic _ _ _ _ _ _ _
  · refine settles_target m (fun g => ?_) (fun k r => ?_)
    · split
      · exact c1.settles_memAnswer _ _ _ _ _ _ _ _
      · next c2 found =>
        exact ((Core.settles_commitGrant found).trans (c2.settles_memStore _ _)).trans (Core.settles_memAnswer _ _ _ _ _ _ _ _ _)
    · exact (c1.settles_storeAt _ _ _).trans (Core.settles_writeDone _ _ _ _ _ _ _)

theorem Core.settles_serveSignal (t : Top) (cid : Nat) (q : Msg) (off n : Nat) (c : Core) : c.Settles (c.serveSignal t cid q off n) := by
  unfold Core.serveSignal
  extract_lets id at8 live
  clear_value live
  refine settles_ite _ ?_ (settles_ite _ ?_ (c.settles_memAnswer _ _ _ _ _ _ _ _))
  · split
    · exact c.settles_memAnswer _ _ _ _ _ _ _ _
    · exact c.settles_memAnswer _ _ _ _ _ _ _ _
  · split
    · exact (c.settles_staleSync _).trans (Core.settles_memAnswer _ _ _ _ _ _ _ _ _)
    · exact (c.settles_signal _ _ _).trans (Core.settles_memAnswer _ _ _ _ _ _ _ _ _)

theorem Core.settles_writeback (t : Top) (cid : Nat) (q : Msg) (rid : Nat) (r : Region) (off n : Nat) (c : Core) :
    c.Settles (c.writeback t cid q rid r off n).2 := by
  unfold Core.writeback
  extract_lets l c1
  have written : c.Settles c1 := ((c.settles_storeAt _ _ _).trans (Core.settles_wrote _ _ _ _ _)).trans (Core.settles_memAnswer _ _ _ _ _ _ _ _ _)
  split
  · dsimp only
    exact written.trans (c1.settles_updLine _ _)
  · exact c.settles_memAnswer _ _ _ _ _ _ _ _

end Sys2Proof.Machine
end

/-! ### Lines, moves and the nodes that are declared dead (R317, R326, R328) -/

section
namespace Sys2Proof.Machine

/-- A request at its target (R318 to R326). -/
theorem Core.settles_memRequest (t : Top) (cid : Nat) (q : Msg) (no : Option Nat) (c : Core) : c.Settles (c.memRequest t cid q no).2 := by
  have answers : ∀ st d, c.Settles (c.memAnswer t cid q st d 0 0 []) := fun _ _ => c.settles_memAnswer _ _ _ _ _ _ _ _
  have denied : c.Settles (c.memDenied t cid q) := c.settles_memDenied _ _ _
  unfold Core.memRequest
  extract_lets addr off n op bad
  have bads : ∀ d, c.Settles (bad d).2 := fun d => answers .badArg d
  iterate 6 refine settles_ite_snd _ (bads _) ?_
  split
  · exact settles_ite_snd _ (answers _ _) denied
  · next m _ =>
    refine settles_ite_snd _ denied (settles_ite_snd _ (answers _ _) ?_)
    cases m with
    | grant g => exact settles_ite_snd _ (answers _ _) (c.settles_serveMem t cid q (.grant g) off n)
    | region rid r =>
      have numbered : ∀ k, c.Settles (if no.isSome then c else c.onFabric (fun f => { f with nextLineReq := k + 1 })) :=
        fun k => settles_ite _ (.refl c) (c.settles_fabric _ rfl rfl)
      have met := (numbered (no.getD c.fabric.nextLineReq)).trans (Core.settles_meetLines t cid q off n (no.getD c.fabric.nextLineReq) _)
      refine settles_ite_snd _ (c.settles_serveSignal _ _ _ _ _) (settles_ite_snd _ (answers _ _) (settles_ite_snd _ (answers _ _) ?_))
      refine settles_ite_snd _ (bads _) (settles_ite_snd _ (c.settles_writeback _ _ _ _ _ _ _) (settles_ite_snd _ ?_ ?_))
      · exact settles_ite _ (met.trans (Core.settles_serveMem _ _ _ _ _ _ _)) met
      · exact c.settles_serveMem t cid q (.region rid r) off n

theorem Core.settles_lineReady (t : Top) (l : Nat) (c : Core) : c.Settles (c.lineReady t l) := by
  unfold Core.lineReady
  extract_lets x
  split
  · exact .refl c
  · split
    · exact .refl c
    · exact ((c.settles_updLine _ _).trans (Core.settles_memRequest _ _ _ _ _)).trans (Core.settles_closeAt _ _)

theorem Core.settles_memberAnswered (t : Top) (l node d : Nat) (data : List Byte) (c : Core) : c.Settles (c.memberAnswered t l node d data) := by
  unfold Core.memberAnswered
  extract_lets x c1 wb
  split
  · exact .refl c
  · extract_lets c2
    have written : c.Settles c1 := by
      refine settles_ite _ (.refl c) ?_
      split
      · exact (c.settles_storeAt _ _ _).trans (Core.settles_wrote _ _ _ _ _)
      · exact .refl c
    exact (written.trans (c1.settles_updLine _ _)).trans (c2.settles_lineReady _ _)

/-- The transactions on a line when a member is dead (R326). -/
theorem Core.settles_lineDead (t : Top) (l node : Nat) (c : Core) : c.Settles (c.lineDead t l node) := by
  unfold Core.lineDead
  extract_lets x qs c1
  have freed : c.Settles c1 := c.settles_updLine _ _
  exact (freed.trans (settles_foldl _ (fun c _ => c.settles_memAnswer _ _ _ _ _ _ _ _) qs c1)).trans (Core.settles_closeAt _ _)

theorem Core.settles_lineAgain (t : Top) (l node : Nat) (c : Core) : c.Settles (c.lineAgain t l node) := by
  unfold Core.lineAgain
  split
  · exact .refl c
  · split
    · exact settles_ite _ (c.settles_callMember _ _ _ _) (.refl c)
    · exact c.settles_memberAnswered _ _ _ _ _

theorem Core.settles_drainCheck (t : Top) (r : Nat) (c : Core) : c.Settles (c.drainCheck t r) := by
  unfold Core.drainCheck
  split
  · exact .refl c
  · exact settles_ite _ (.refl c) ((c.settles_updMove _ _).trans (Core.settles_moveMsg _ _ _ _ _ _ _ _))

theorem Core.settles_ackPage (t : Top) (r : Nat) (st : Status) (l pg attempt : Nat) (c : Core) : c.Settles (c.ackPage t r st l pg attempt) := by
  unfold Core.ackPage
  split
  · exact .refl c
  · exact (c.settles_updMove _ _).trans (Core.settles_moveMsg _ _ _ _ _ _ _ _)

theorem Core.settles_destLost (t : Top) (r l pg : Nat) (c : Core) : c.Settles (c.destLost t r l pg) := by
  unfold Core.destLost
  split
  · exact .refl c
  · exact settles_ite _ (c.settles_abortMove _ _ _ _ _) ((c.settles_raise _ _ _ _ _).trans (Core.settles_faultCtx _ _ _ _))

/-- A page discarded and asked for again (R136). -/
theorem Core.settles_refetch (t : Top) (r l pg : Nat) (st : Status) (c : Core) : c.Settles (c.refetch t r l pg st) := by
  unfold Core.refetch
  split
  · exact .refl c
  · split
    · exact .refl c
    · extract_lets c1 c2 c3
      have marked : c.Settles c1 := by
        unfold c1; split
        · exact c.settles_updPage _ _
        · exact .refl c
      have refused : c1.Settles c3 := (c1.settles_updMove _ _).trans (Core.settles_ackPage _ _ _ _ _ _ _)
      exact (marked.trans refused).trans (settles_ite _ (c3.settles_destLost _ _ _ _) (c3.settles_moveAsk _ _ _ _ _ _ _ _))

theorem Core.settles_moveReqFails (t : Top) (r : Nat) (x : Req) (st : Status) (c : Core) : c.Settles (c.moveReqFails t r x st) := by
  unfold Core.moveReqFails
  split
  · exact .refl c
  · have counted : ∀ i k, c.Settles (if st = .timeout then c.countStale i k else c) :=
      fun _ _ => settles_ite _ (c.settles_bump _ _) (.refl c)
    exact settles_ite _ (.refl c) (settles_ite _ (c.settles_abortMove _ _ _ _ _) (settles_ite _ (c.settles_refetch _ _ _ _ _)
      (settles_ite _ ((counted _ _).trans (Core.settles_drainCheck _ _ _)) (.refl c))))

/-- A request ends without its answer (R317). -/
theorem Core.settles_reqFails (t : Top) (q : Nat) (st : Status) (c : Core) : c.Settles (c.reqFails t q st) := by
  unfold Core.reqFails
  split
  · exact .refl c
  · next x _ =>
    extract_lets c1 c2
    have unsent : (c.dropReq q).Talks x.conn c1 := Core.talks_onChan _ _ _ _ (fun _ => rfl)
    have forgotten : c.Settles c1 := (c.settles_dropReq q).trans unsent.settles
    have counted : c1.Settles c2 := settles_ite _ (c1.settles_bump _ _) (.refl c1)
    refine (forgotten.trans counted).trans ?_
    split
    · exact c2.settles_stage _ _ _ _
    · exact c2.settles_stage _ _ _ _
    · exact .refl c2
    · exact (settles_ite _ (c2.settles_bump _ _) (.refl c2)).trans (Core.settles_versionAnswered _ _ _)
    · exact settles_ite _ (c2.settles_lineDead _ _ _) (c2.settles_lineAgain _ _ _)
    · exact c2.settles_unit3Done _ _ _ _ _ _
    · exact c2.settles_unit3Written _ _ _ _
    · exact c2.settles_moveReqFails _ _ _ _

/-! #### A node declared dead -/

/-- A node added to the dead ones (R328). -/
def Core.withDead (node : Nat) (c : Core) : Core := if c.isDead node then c else c.onFabric (fun f => { f with dead := f.dead ++ [node] })

theorem Core.isDead_withDead (node : Nat) (c : Core) : (c.withDead node).isDead node = true := by
  unfold Core.withDead
  split
  · assumption
  · simp [Core.isDead]

@[simp] theorem Core.conn_withDead (node k : Nat) (c : Core) : (c.withDead node).conn k = c.conn k := by
  unfold Core.withDead; split <;> rfl

@[simp] theorem Core.mbox_withDead (node m : Nat) (c : Core) : (c.withDead node).mbox m = c.mbox m := by
  unfold Core.withDead; split <;> rfl

/-- All that a declaration does beyond naming the node leaves the dead, the connections' states and the answers alone. -/
theorem Core.settles_declareDead (t : Top) (node : Nat) (c : Core) : (c.withDead node).Settles (c.declareDead t node) := by
  unfold Core.declareDead
  extract_lets c1 qs c2
  have requests : c1.Settles c2 := settles_foldl _ (fun c _ => c.settles_reqFails _ _ _) _ _
  exact requests.trans (c2.settles_jobFault _ _ _ _)

theorem Core.isDead_declareDead (t : Top) (node : Nat) (c : Core) : (c.declareDead t node).isDead node = true := by
  rw [Core.isDead, (c.settles_declareDead t node).dead]
  exact c.isDead_withDead node

/-- A look at a node that may have become unreachable changes no connection's state (R328). -/
theorem Core.state_checkNode (t : Top) (node k : Nat) (c : Core) : ((c.checkNode t node).conn k).state = (c.conn k).state := by
  unfold Core.checkNode
  split
  · rw [(c.settles_declareDead t node).states, Core.conn_withDead]
  · rfl

/-- It takes back no answer already given. -/
theorem Core.result_checkNode {t : Top} {node m : Nat} {c : Core} {r : Resp} (h : (c.mbox m).result = some r) :
    ((c.checkNode t node).mbox m).result = some r := by
  unfold Core.checkNode
  split
  · exact (c.settles_declareDead t node).results m r (by rwa [Core.mbox_withDead])
  · exact h

end Sys2Proof.Machine
end

/-! ### The rows of cells, delivery, timers and credits (R306, R307, R313 to R317, R328) -/

section
namespace Sys2Proof.Machine

/-- What a row that acts on the core answers on a device that is live. -/
theorem State.next_onCore {s : State} (h : s.top.live = true) (f : Top → Core → Core) :
    (.next (s.onCore f) : Host.Outcome State Fault Refusal) = .next { s with core := f s.top s.core } := by rw [s.onCore_live f h]

/-- Such a row changes nothing where its meaning does not change the core. -/
theorem State.next_onCore_id {s : State} (h : s.top.live = true) (f : Top → Core → Core) (hf : f s.top s.core = s.core) :
    (.next (s.onCore f) : Host.Outcome State Fault Refusal) = .next s := by rw [s.onCore_live f h, hf]

theorem Top.dev_ne_off {t : Top} (h : t.live = true) : t.dev ≠ .off := by
  intro e; simp [Top.live, e] at h

theorem Core.conn_of_fabric {a b : Core} (h : b.fabric = a.fabric) (k : Nat) : b.conn k = a.conn k := by simp only [Core.conn, h]
theorem Core.port_of_ports {a b : Core} (h : b.ports = a.ports) (p : Nat) : b.port p = a.port p := by simp only [Core.port, h]

/-! #### Cells (R312, R314) -/

/-- The oldest accepted frame of a port taken, and its flits freed (R22, R280). -/
def Core.freeFrame (t : Top) (p : Nat) (b : Bool × List Byte) (rest : List (Bool × List Byte)) (c : Core) : Core :=
  let n := frameFlits b.2.length
  (List.range n).foldl (fun c _ => c.qReturn t 0x0B p (portDie p) (fun _ => true)) (c.updPort p (fun y => { y with
    rxq := rest
    freedReq := if b.1 then y.freedReq else (y.freedReq + n) % 65536
    freedRsp := if b.1 then (y.freedRsp + n) % 65536 else y.freedRsp }))

section
variable (t : Top) (p : Nat) (b : Bool × List Byte) (rest : List (Bool × List Byte)) (c : Core)

theorem Core.sameWork_freeFrame : (c.updPort p (fun y => { y with
    rxq := rest
    freedReq := if b.1 then y.freedReq else (y.freedReq + frameFlits b.2.length) % 65536
    freedRsp := if b.1 then (y.freedRsp + frameFlits b.2.length) % 65536 else y.freedRsp })).SameWork (c.freeFrame t p b rest) :=
  Core.sameWork_foldl _ (fun c _ => c.sameWork_qReturn _ _ _ _ _) _ _

@[simp] theorem Core.freeFrame_fabric : (c.freeFrame t p b rest).fabric = c.fabric := by
  rw [(c.sameWork_freeFrame t p b rest).fabric, Core.updPort_fabric]
@[simp] theorem Core.freeFrame_ctxs : (c.freeFrame t p b rest).ctxs = c.ctxs := by
  rw [(c.sameWork_freeFrame t p b rest).ctxs, Core.updPort_ctxs]

theorem Core.freeFrame_port (hp : p < 8) : (c.freeFrame t p b rest).port p = { c.port p with
    rxq := rest
    freedReq := if b.1 then (c.port p).freedReq else ((c.port p).freedReq + frameFlits b.2.length) % 65536
    freedRsp := if b.1 then ((c.port p).freedRsp + frameFlits b.2.length) % 65536 else (c.port p).freedRsp } := by
  rw [Core.port_of_ports (c.sameWork_freeFrame t p b rest).ports]
  simp [Core.port, Core.updPort, hp, Tbl.getD]
end

section
variable {t : Top} {p : Nat} {b : Bool × List Byte} {rest : List (Bool × List Byte)} {c : Core}

theorem Core.cellReceive_none (h : (c.port p).rxq = []) : c.cellReceive t p = c := by
  unfold Core.cellReceive; rw [h]

/-- A cell for another node is counted and goes no further. -/
theorem Core.cellReceive_foreign (live : t.live = true) (hq : (c.port p).rxq = b :: rest) (hin : c.frameIn p = true)
    (hdst : (Cell.ofBytes b.2).dst ≠ t.nodeId) : c.cellReceive t p = (c.freeFrame t p b rest).bump (.pass (p / 2) 14) := by
  obtain ⟨rsp, f⟩ := b
  unfold Core.cellReceive
  rw [hq]
  simp only [hin, Bool.not_true, Bool.false_eq_true, Top.dev_ne_off live, hdst, ne_eq, not_false_eq_true, ↓reduceIte]
  rfl

/-- A cell for this node reaches its connection's message store, whose work leaves the rest as it was. -/
theorem Core.cellReceive_here (live : t.live = true) (hq : (c.port p).rxq = b :: rest) (hin : c.frameIn p = true)
    (hdst : (Cell.ofBytes b.2).dst = t.nodeId) (hconn : (Cell.ofBytes b.2).conn < 16384) :
    ∃ d, (c.freeFrame t p b rest).SameWork d ∧ c.cellReceive t p = d.cell t (Cell.ofBytes b.2) := by
  obtain ⟨rsp, f⟩ := b
  let x := Cell.ofBytes f
  let units := ceilDiv f.length 256
  refine ⟨_, (Core.sameWork_meshPass t (passDie (p / 2)) (passDie (x.conn / 4096)) .request .cells .cells units _).trans
    (Core.sameWork_qPass t 0x08 (storeCrest x.conn) (passDie (x.conn / 4096)) units .cells _), ?_⟩
  unfold Core.cellReceive
  rw [hq]
  simp only [hin, Bool.not_true, Bool.false_eq_true, Top.dev_ne_off live, hdst, hconn, ne_eq, not_true_eq_false, ↓reduceIte]
  rfl
end

/-- A consistent cell that carries its whole message begins it. -/
theorem Cell.off_of_whole {x : Cell} (hc : x.consistent = true) (hw : x.data.length = x.total) : x.off = 0 := by
  simp only [Cell.consistent, Bool.and_eq_true, decide_eq_true_eq, beq_iff_eq] at hc
  omega

/-- What a data cell meets that is the first of its message, on an open connection and within the grant (R314). -/
structure Core.Welcomes (c : Core) (x : Cell) : Prop where
  opened : (c.conn x.conn).state = .opened
  peer : (c.conn x.conn).peer = x.src
  data : x.control = false
  consistent : x.consistent = true
  fresh : ((c.conn x.conn).chan x.rsp).slots.get? x.id = none
  undone : ((c.conn x.conn).chan x.rsp).ready.get? x.id = none
  expected : ((c.conn x.conn).chan x.rsp).expect = x.id
  granted : ceilDiv x.total 4096 ≤ ((c.conn x.conn).chan x.rsp).grant

/-- The expected sequence is neither below nor too far ahead of itself (R316). -/
theorem seqAbove32_self (a : Nat) : seqAbove32 a a = false := by
  simp only [seqAbove32, Bool.and_eq_false_imp, decide_eq_true_eq, decide_eq_false_iff_not]
  omega

/-- The slot that a message's first cell opens (R314). -/
def Cell.slot (x : Cell) (now : Nat) : Slot :=
  { total := x.total, opened := now, got := [(x.off, x.data.length)], bytes := Mem.writeN [] x.off x.data }

/-- A welcome cell opens its slot, or completes its message at once. -/
theorem Core.cell_welcome {t : Top} {c : Core} {x : Cell} (h : c.Welcomes x) :
    c.cell t x = (c.onFabric (fun f => { f with heard := f.heard.set x.src t.now })).updConn x.conn (Conn.onChan x.rsp (fun ch =>
      if x.data.length = x.total then { ch with
        slots := ch.slots.del x.id
        ready := ch.ready.set x.id (x.msg ((x.slot t.now).bytes.readN 0 x.total), t.dieTime (passDie (x.conn / 4096))) }
      else { ch with slots := ch.slots.set x.id (x.slot t.now) })) := by
  have within : ¬ ((c.conn x.conn).chan x.rsp).grant < ceilDiv x.total 4096 := Nat.not_lt.2 h.granted
  unfold Core.cell
  simp only [h.opened, h.peer, h.data, h.consistent, h.fresh, h.undone, h.expected, within, seqAbove32_self]
  by_cases whole : x.data.length = x.total
  · simp [whole, sumL, Cell.slot]
  · simp [whole, sumL, Cell.slot]

theorem Core.Welcomes.of_fabric {a b : Core} {x : Cell} (h : a.Welcomes x) (e : b.fabric = a.fabric) : b.Welcomes x := by
  have conn := Core.conn_of_fabric e x.conn
  obtain ⟨opened, peer, data, consistent, fresh, undone, expected, granted⟩ := h
  rw [← conn] at opened peer fresh undone expected granted
  exact ⟨opened, peer, data, consistent, fresh, undone, expected, granted⟩

end Sys2Proof.Machine
end

/-! ### Delivery, time-outs and credits of a connection (R306, R307, R313 to R317) -/

section
namespace Sys2Proof.Machine

/-! #### What a cell leaves of its channel -/

section
variable {t : Top} {c : Core} {x : Cell}

theorem Core.cell_ctxs (h : c.Welcomes x) : (c.cell t x).ctxs = c.ctxs := by rw [Core.cell_welcome h]; rfl
theorem Core.cell_ports (h : c.Welcomes x) : (c.cell t x).ports = c.ports := by rw [Core.cell_welcome h]; rfl

/-- A cell that carries its whole message completes it (R314). -/
theorem Core.chan_cell_whole (h : c.Welcomes x) (whole : x.data.length = x.total) :
    (((c.cell t x).conn x.conn).chan x.rsp).ready.get? x.id = some (x.msg x.data, t.dieTime (passDie (x.conn / 4096))) ∧
    (((c.cell t x).conn x.conn).chan x.rsp).slots.get? x.id = none := by
  have data : (x.slot t.now).bytes.readN 0 x.total = x.data := by
    rw [Cell.slot, ← whole, Cell.off_of_whole h.consistent whole]
    exact Mem.readN_writeN _ _ _
  rw [Core.cell_welcome h, Core.conn_updConn_self, Conn.chan_onChan_self, if_pos whole, data]
  exact ⟨Tbl.get?_set_self _ _ _, Tbl.get?_del_self _ _⟩

/-- A cell that carries less opens a slot (R314). -/
theorem Core.slot_cell_part (h : c.Welcomes x) (part : x.data.length < x.total) :
    (((c.cell t x).conn x.conn).chan x.rsp).slots.get? x.id = some (x.slot t.now) := by
  rw [Core.cell_welcome h, Core.conn_updConn_self, Conn.chan_onChan_self, if_neg (Nat.ne_of_lt part)]
  exact Tbl.get?_set_self _ _ _
end

/-! #### Delivery (R306, R316) -/

/-- A node of which something has arrived: it is not dead, and it was heard now (R328). -/
def Core.hears (t : Top) (node : Nat) (c : Core) : Core :=
  c.onFabric (fun f => { f with dead := f.dead.filter (· != node), heard := f.heard.set node t.now })

@[simp] theorem Core.hears_conn (t : Top) (node k : Nat) (c : Core) : (c.hears t node).conn k = c.conn k := rfl

/-- The oldest complete message of a channel taken for its checks. -/
def Core.takeNext (cid : Nat) (rsp : Bool) (c : Core) : Core :=
  c.updConn cid (Conn.onChan rsp (fun ch => { ch with expect := (ch.expect + 1) % 2 ^ 32, ready := ch.ready.del ch.expect }))

section
variable {t : Top} {cid : Nat} {m : Msg} {c : Core}

theorem Core.talks_admitted (hs : (c.conn cid).state = .opened) (credits : Bool) : (c.hears t m.src).Talks cid (c.admitted t cid m credits) := by
  have still : ((c.hears t m.src).conn cid).state ≠ .opening := by rw [Core.hears_conn, hs]; decide
  unfold Core.admitted
  extract_lets c1 c2
  have same : c2 = c1 := if_neg still
  rw [same]
  split
  · exact c1.talks_takeUnits _ _ _ _
  · exact .refl _ _

/-- A connection that passes checks 2 and 3 of R306 for a message. -/
structure Core.Knows (cid : Nat) (m : Msg) (c : Core) : Prop where
  opened : (c.conn cid).state = .opened
  peer : (c.conn cid).peer = m.src
  connected : m.connless = false
  timed : m.type ≠ 0x70

/-- A message whose stamp is stale is discarded and counted (R315). -/
theorem Core.admitMsg_stale (h : c.Knows cid m) {at_ : Nat} (stale : staleStamp at_ m.stamp c.fabric.skewUs = true) :
    ∃ c1, c.admitMsg t cid m at_ = (false, c1.discard cid 0) ∧ (c.hears t m.src).Talks cid c1 := by
  unfold Core.admitMsg
  extract_lets n control c1 answers
  have talks : (c.hears t m.src).Talks cid c1 := Core.talks_admitted h.opened _
  have skew : c1.fabric.skewUs = c.fabric.skewUs := talks.skewUs
  refine ⟨c1, ?_, talks⟩
  rw [if_neg (by simp [h.connected]), if_neg (by simp [n, h.opened, h.peer]), if_pos (by simp [h.timed, skew, stale])]

/-- A message that passes every check is let through (R306, R327). -/
theorem Core.admitMsg_passes (h : c.Knows cid m) {at_ : Nat} (fresh : staleStamp at_ m.stamp c.fabric.skewUs = false)
    (job : m.type = 0x60 ∨ m.type = 0x61 ∨ m.job = c.jobId) (carried : c.carried t (c.conn cid).stages m = true) :
    ∃ c1, c.admitMsg t cid m at_ = (true, c1) ∧ (c.hears t m.src).Talks cid c1 := by
  unfold Core.admitMsg
  extract_lets n control c1 answers
  have talks : (c.hears t m.src).Talks cid c1 := Core.talks_admitted h.opened _
  have skew : c1.fabric.skewUs = c.fabric.skewUs := talks.skewUs
  have mine : c1.jobId = c.jobId := talks.jobId
  have carries : c1.carried t n.stages m = true := (talks.carried t n.stages m).trans carried
  rw [if_neg (by simp [h.connected]), if_neg (by simp [n, h.opened, h.peer]), if_neg (by simp [skew, fresh]), if_neg (by simp [mine]; tauto),
    if_pos carries]
  split
  · split
    · exact ⟨_, rfl, talks.trans (c1.talks_takeUnits _ _ _ _)⟩
    · exact ⟨_, rfl, talks⟩
  · exact ⟨_, rfl, talks⟩
end

theorem Core.deliver_none {t : Top} {cid : Nat} {rsp : Bool} {c : Core} (fuel : Nat)
    (h : ((c.conn cid).chan rsp).ready.get? ((c.conn cid).chan rsp).expect = none) : c.deliver t cid rsp fuel = c := by
  cases fuel with
  | zero => rfl
  | succ fuel => unfold Core.deliver; simp only [h]

section
variable {t : Top} {cid : Nat} {rsp : Bool} {c : Core} {q : Msg} {at_ : Nat}

@[simp] theorem Core.chan_takeNext (cid : Nat) (rsp : Bool) (c : Core) : ((c.takeNext cid rsp).conn cid).chan rsp = { (c.conn cid).chan rsp with
    expect := (((c.conn cid).chan rsp).expect + 1) % 2 ^ 32
    ready := ((c.conn cid).chan rsp).ready.del ((c.conn cid).chan rsp).expect } := by simp [Core.takeNext]

theorem Core.deliver_passed {d : Core} (next : ((c.conn cid).chan rsp).ready.get? ((c.conn cid).chan rsp).expect = some (q, at_))
    (known : knownType q.type = true) (passes : (c.takeNext cid rsp).admitMsg t cid q at_ = (true, d)) (fuel : Nat) :
    c.deliver t cid rsp (fuel + 1) = (d.updConn cid (fun n => { n with inbox := n.inbox ++ [q] })).deliver t cid rsp fuel := by
  rw [Core.takeNext] at passes
  conv_lhs => unfold Core.deliver
  simp only [next, known, passes]
  rfl

theorem Core.deliver_refused {d : Core} (next : ((c.conn cid).chan rsp).ready.get? ((c.conn cid).chan rsp).expect = some (q, at_))
    (known : knownType q.type = true) (refused : (c.takeNext cid rsp).admitMsg t cid q at_ = (false, d)) (fuel : Nat) :
    c.deliver t cid rsp (fuel + 1) = (d.oweUnits cid q.rsp q.units).deliver t cid rsp fuel := by
  rw [Core.takeNext] at refused
  conv_lhs => unfold Core.deliver
  simp only [next, known, refused]
  rfl

theorem Tbl.length_of_get? {α : Type} {t : Tbl α} {k : Nat} {v : α} (h : t.get? k = some v) : ∃ n, t.length = n + 1 := by
  cases t with
  | nil => cases h
  | cons e t => exact ⟨t.length, rfl⟩

/-- What sending does after a message has been taken leaves the next one of its channel as it was: not complete. -/
theorem Core.next_incomplete {node : Nat} {d : Core} (talks : ((c.takeNext cid rsp).hears t node).Talks cid d)
    (last : ((c.conn cid).chan rsp).ready.get? ((((c.conn cid).chan rsp).expect + 1) % 2 ^ 32) = none) :
    ((d.conn cid).chan rsp).ready.get? ((d.conn cid).chan rsp).expect = none := by
  rw [talks.expect, talks.ready, Core.hears_conn, Core.chan_takeNext]
  dsimp only
  by_cases e : (((c.conn cid).chan rsp).expect + 1) % 2 ^ 32 = ((c.conn cid).chan rsp).expect
  · rw [e]; exact Tbl.get?_del_self _ _
  · rw [Tbl.get?_del_other _ _ _ e]; exact last

theorem Core.Knows.takeNext (h : c.Knows cid q) : (c.takeNext cid rsp).Knows cid q where
  opened := by simp [Core.takeNext, h.opened]
  peer := by simp [Core.takeNext, h.peer]
  connected := h.connected
  timed := h.timed

/-- The next message of a channel passes its checks: it joins the inbox, and delivery stops at the sequence after it. -/
theorem Core.deliver_delivers (h : c.Knows cid q) (known : knownType q.type = true)
    (next : ((c.conn cid).chan rsp).ready.get? ((c.conn cid).chan rsp).expect = some (q, at_))
    (last : ((c.conn cid).chan rsp).ready.get? ((((c.conn cid).chan rsp).expect + 1) % 2 ^ 32) = none)
    (fresh : staleStamp at_ q.stamp c.fabric.skewUs = false) (job : q.type = 0x60 ∨ q.type = 0x61 ∨ q.job = c.jobId)
    (carried : c.carried t (c.conn cid).stages q = true) :
    ∃ d, c.deliver t cid rsp ((c.conn cid).chan rsp).ready.length = d.updConn cid (fun n => { n with inbox := n.inbox ++ [q] }) ∧
      ((c.takeNext cid rsp).hears t q.src).Talks cid d := by
  have stages : ((c.takeNext cid rsp).conn cid).stages = (c.conn cid).stages := by simp [Core.takeNext]
  obtain ⟨d, passes, talks⟩ := Core.admitMsg_passes (t := t) (h.takeNext (rsp := rsp)) (at_ := at_) fresh job (by rw [stages]; exact carried)
  obtain ⟨fuel, hf⟩ := Tbl.length_of_get? next
  refine ⟨d, ?_, talks⟩
  rw [hf, Core.deliver_passed next known passes, Core.deliver_none]
  rw [Core.conn_updConn_self]
  exact Core.next_incomplete talks last

/-- The next message of a channel is stale: it is counted, and its units are owed (R315). -/
theorem Core.deliver_discards (h : c.Knows cid q) (known : knownType q.type = true)
    (next : ((c.conn cid).chan rsp).ready.get? ((c.conn cid).chan rsp).expect = some (q, at_))
    (last : ((c.conn cid).chan rsp).ready.get? ((((c.conn cid).chan rsp).expect + 1) % 2 ^ 32) = none)
    (stale : staleStamp at_ q.stamp c.fabric.skewUs = true) :
    ∃ d, c.deliver t cid rsp ((c.conn cid).chan rsp).ready.length = (d.discard cid 0).oweUnits cid q.rsp q.units ∧
      ((c.takeNext cid rsp).hears t q.src).Talks cid d := by
  obtain ⟨d, refused, talks⟩ := Core.admitMsg_stale (t := t) (h.takeNext (rsp := rsp)) (at_ := at_) stale
  obtain ⟨fuel, hf⟩ := Tbl.length_of_get? next
  refine ⟨d, ?_, talks⟩
  have owed : (d.discard cid 0).Talks cid ((d.discard cid 0).oweUnits cid q.rsp q.units) := Core.talks_oweUnits _ _ _ _
  rw [hf, Core.deliver_refused next known refused, Core.deliver_none]
  rw [owed.expect, owed.ready, Core.conn_discard]
  exact Core.next_incomplete talks last
end

/-! #### Slots and sequences given up (R314, R316) -/

section
variable {cid id : Nat} {rsp : Bool} {c : Core} {w : Slot}

theorem Core.dropSlot_none (h : ((c.conn cid).chan rsp).slots.get? id = none) : c.dropSlot cid rsp id = c := by
  unfold Core.dropSlot; rw [h]

theorem Core.conn_dropSlot (h : ((c.conn cid).chan rsp).slots.get? id = some w) : (c.dropSlot cid rsp id).conn cid =
    ((c.conn cid).onChan rsp (fun ch => { ch with owed := ch.owed + ceilDiv w.total 4096 })).onChan rsp
      (fun ch => { ch with slots := ch.slots.del id }) := by
  unfold Core.dropSlot; rw [h]; simp [Core.oweUnits]

theorem Core.dropSlot_keeps (cid id : Nat) (rsp : Bool) (c : Core) :
    (((c.dropSlot cid rsp id).conn cid).chan rsp).expect = ((c.conn cid).chan rsp).expect ∧
    ((c.dropSlot cid rsp id).conn cid).lost = (c.conn cid).lost ∧ ((c.dropSlot cid rsp id).conn cid).inbox = (c.conn cid).inbox := by
  cases h : ((c.conn cid).chan rsp).slots.get? id with
  | none => simp [Core.dropSlot_none h]
  | some w => simp [Core.conn_dropSlot h]
end

section
variable {t : Top} {cid id : Nat} {rsp : Bool} {c : Core} {w : Slot}

theorem Core.slotTimeout_due (h : ((c.conn cid).chan rsp).slots.get? id = some w) (due : w.opened + (c.conn cid).timeoutUs * 1000 ≤ t.now) :
    c.slotTimeout t cid rsp id = (c.dropSlot cid rsp id).discard cid 7 := by
  unfold Core.slotTimeout; rw [h]; exact if_pos due

theorem Core.slotTimeout_early (h : ((c.conn cid).chan rsp).slots.get? id = some w) (early : t.now < w.opened + (c.conn cid).timeoutUs * 1000) :
    c.slotTimeout t cid rsp id = c := by
  unfold Core.slotTimeout; rw [h]; exact if_neg (Nat.not_le.2 early)

theorem Core.skip_due (missing : ((c.conn cid).chan rsp).ready.get? ((c.conn cid).chan rsp).expect = none)
    (due : ∃ e ∈ ((c.conn cid).chan rsp).ready, e.2.2 + (c.conn cid).timeoutUs * 1000 ≤ t.now) :
    c.skip t cid rsp = ((c.dropSlot cid rsp ((c.conn cid).chan rsp).expect).discard cid 6).updConn cid (fun n =>
      ({ n with lost := n.lost.up } : Conn).onChan rsp (fun ch => { ch with expect := (ch.expect + 1) % 2 ^ 32 })) := by
  have any : ((c.conn cid).chan rsp).ready.any (fun e => e.2.2 + (c.conn cid).timeoutUs * 1000 ≤ t.now) = true := by simpa using due
  unfold Core.skip
  simp only [missing, any]
  rfl

theorem Core.skip_early (early : ∀ e ∈ ((c.conn cid).chan rsp).ready, t.now < e.2.2 + (c.conn cid).timeoutUs * 1000) :
    c.skip t cid rsp = c := by
  have any : ((c.conn cid).chan rsp).ready.any (fun e => e.2.2 + (c.conn cid).timeoutUs * 1000 ≤ t.now) = false := by
    simpa [List.any_eq_false] using early
  unfold Core.skip
  simp [any]
end

/-! #### Requests that time out (R317, R323, R328) -/

/-- A request without a reference to its context, no longer awaited nor waiting to be sent (R317). -/
def Core.forget (q : Nat) (x : Req) (c : Core) : Core :=
  (c.onFabric (fun f => { f with reqs := f.reqs.del q })).updConn x.conn
    (Conn.onChan false (fun ch => { ch with wait := ch.wait.filter (fun w => w.2 != some q) }))

section
variable {t : Top} {q m : Nat} {x : Req} {st : Status} {c : Core}

/-- A MEM_ISSUE that ends without its completion answers with the status (R330). -/
theorem Core.reqFails_memIssue (h : c.fabric.reqs.get? q = some x) (hp : x.purpose = .memIssue m) (hst : st ≠ .poisoned) :
    c.reqFails t q st = (c.forget q x).stage m st 0 [] := by
  unfold Core.reqFails Core.dropReq
  simp only [h, hp, hst, if_false]
  rfl

/-- The peer of a request is alive: something has come from it since the request was sent (R328). -/
theorem Core.reqTimesOut_alive (h : c.fabric.reqs.get? q = some x)
    (alive : x.mseq = none ∨ ∃ at_, c.fabric.heard.get? x.node = some at_ ∧ x.sent ≤ at_) : c.reqTimesOut t q = c.reqFails t q .timeout := by
  unfold Core.reqTimesOut
  simp only [h]
  obtain unsent | ⟨at_, heard, later⟩ := alive
  · simp [unsent]
  · simp [heard, Nat.not_lt.2 later]

/-- Nothing has come from the peer of a request that was sent: it is declared dead (R328). -/
theorem Core.reqTimesOut_silent {k : Nat} (h : c.fabric.reqs.get? q = some x) (sent : x.mseq = some k)
    (silent : c.fabric.heard.get? x.node = none) : c.reqTimesOut t q = c.declareDead t x.node := by
  unfold Core.reqTimesOut
  simp only [h, sent, silent]
  rfl

theorem Core.closeRegion_keeps (rid : Nat) (c : Core) :
    (c.closeRegion rid).ctxs = c.ctxs ∧ (c.closeRegion rid).fabric.txns = c.fabric.txns := by
  unfold Core.closeRegion
  split
  · exact ⟨rfl, rfl⟩
  · split
    · exact ⟨rfl, rfl⟩
    · extract_lets reading waiting line c1 c2
      have zeroed : c2.ctxs = c.ctxs ∧ c2.fabric.txns = c.fabric.txns := by
        unfold c2; split <;> exact ⟨rfl, rfl⟩
      split
      · exact ⟨rfl, rfl⟩
      · exact zeroed

/-- The last answer to a write's INVALIDATEs ends its wait (R323). -/
theorem Core.versionAnswered_last {k : Nat} {y : VersionTxn} (h : c.fabric.txns.get? k = some y) (last : y.waiting = 1) :
    (c.versionAnswered t k).fabric.txns.get? k = none ∧ (c.versionAnswered t k).ctxs = c.ctxs := by
  unfold Core.versionAnswered
  simp only [h, last, Nat.le_refl, if_true]
  have talks := Core.talks_sendMsg t y.conn 0x53 true y.cls y.body none (c.onFabric (fun f => { f with txns := f.txns.del k }))
  obtain ⟨ctxs, txns⟩ := Core.closeRegion_keeps y.rid
    ((c.onFabric (fun f => { f with txns := f.txns.del k })).sendMsg t y.conn 0x53 true y.cls y.body none)
  rw [ctxs, txns, talks.txns, talks.ctxs]
  exact ⟨Tbl.get?_del_self _ _, rfl⟩

/-- An INVALIDATE that times out counts as answered (R323). -/
theorem Core.reqFails_version {k : Nat} (h : c.fabric.reqs.get? q = some x) (hp : x.purpose = .version k) :
    c.reqFails t q .timeout = ((c.forget q x).bump (.pass (x.conn / 4096) 11)).versionAnswered t k := by
  unfold Core.reqFails Core.dropReq
  simp only [h, hp]
  rfl
end

/-! #### Control cells sent: credits and grants (R307, R313) -/

section
variable (t : Top) (cid : Nat) (c : Core)

theorem Core.conn_sendControl (kind flags crReq crRsp k : Nat) :
    (c.sendControl t cid kind flags crReq crRsp).conn k = (c.updConn cid (fun n => { n with lastSent := t.now })).conn k :=
  Core.conn_of_fabric (Core.posts_putCells _ _ _ _ _).fabric k

theorem Core.conn_sendGrant_self (seen : Bool) : (c.sendGrant t cid seen).conn cid = { c.conn cid with lastSent := t.now, lastGrant := t.now } := by
  rw [Core.sendGrant, Core.conn_updConn_self, Core.conn_sendControl, Core.conn_updConn_self]

theorem Core.conn_sendGrant_other (seen : Bool) {k : Nat} (h : k ≠ cid) : (c.sendGrant t cid seen).conn k = c.conn k := by
  rw [Core.sendGrant, Core.conn_updConn_other _ _ h, Core.conn_sendControl, Core.conn_updConn_other _ _ h]
end

/-! #### Credits taken (R307, R313) -/

/-- A channel with units that the peer returned, never above its first grant. -/
def Chan.add (k : Nat) (ch : Chan) : Chan := { ch with held := min ch.heldMax (ch.held + k) }

section
variable {t : Top} {cid : Nat} {c : Core} {q : Msg} {s : State}

/-- With nothing waiting for units, units returned are only added. -/
theorem Core.takeUnits_idle (req rsp : Nat) (hq : (c.conn cid).req.wait = []) (hs : (c.conn cid).rsp.wait = []) :
    c.takeUnits t cid req rsp = c.updConn cid (fun n => { n with req := n.req.add req, rsp := n.rsp.add rsp }) := by
  unfold Core.takeUnits
  extract_lets add c1 c2
  have conn : c1.conn cid = { c.conn cid with req := (c.conn cid).req.add req, rsp := (c.conn cid).rsp.add rsp } := by
    rw [Core.conn_updConn_self]; rfl
  have same : c2 = c1 := by
    have none_ : (c1.conn cid).req.wait = [] := by rw [conn]; exact hq
    unfold c2; rw [none_]; rfl
  have none_ : (c1.conn cid).rsp.wait = [] := by rw [conn]; exact hs
  rw [same, none_]
  rfl

theorem Chan.add_zero {ch : Chan} (h : ch.held ≤ ch.heldMax) : ch.add 0 = ch := by
  rw [Chan.add, Nat.add_zero, Nat.min_eq_right h]

/-- A control row takes its message out of the inbox, and acts (R313). -/
theorem onControl_delivered {kind : Nat} (h : Claims.delivered s cid 0x61 (some kind) q) (f : Top → Core → Nat → Msg → Core) :
    onControl cid kind f s = { s with core := f s.top (s.core.updConn cid (fun n => { n with inbox := n.inbox.tail })) cid q } := by
  obtain ⟨live, head⟩ := h
  unfold onControl
  rw [head]
  exact s.onCore_live _ live

/-- The first GRANT sets the units held (R307). -/
theorem Core.conn_granted (first : (c.conn cid).granted = false) (hq : (c.conn cid).req.wait = []) (hs : (c.conn cid).rsp.wait = []) :
    ((c.granted t cid q).conn cid).granted = true ∧ ((c.granted t cid q).conn cid).inbox = (c.conn cid).inbox ∧
    ((c.granted t cid q).conn cid).req.held = q.crReq ∧ ((c.granted t cid q).conn cid).req.heldMax = q.crReq ∧
    ((c.granted t cid q).conn cid).rsp.held = q.crRsp ∧ ((c.granted t cid q).conn cid).rsp.heldMax = q.crRsp := by
  unfold Core.granted
  extract_lets n c1 c2
  have set : c1.conn cid = { c.conn cid with
      granted := true
      req := { (c.conn cid).req with held := q.crReq, heldMax := q.crReq }
      rsp := { (c.conn cid).rsp with held := q.crRsp, heldMax := q.crRsp } } := by
    have new : c1 = _ := if_neg (by simp [n, first])
    rw [new, Core.conn_updConn_self]
  have answered : c2.conn cid = c1.conn cid ∨ c2.conn cid = { c1.conn cid with lastSent := t.now, lastGrant := t.now } := by
    unfold c2; split
    · exact .inr (c1.conn_sendGrant_self t cid true)
    · exact .inl rfl
  have units : ∀ d : Core, d.conn cid = c1.conn cid ∨ d.conn cid = { c1.conn cid with lastSent := t.now, lastGrant := t.now } →
      (d.conn cid).req = { (c.conn cid).req with held := q.crReq, heldMax := q.crReq } ∧
      (d.conn cid).rsp = { (c.conn cid).rsp with held := q.crRsp, heldMax := q.crRsp } ∧ (d.conn cid).granted = true ∧
      (d.conn cid).inbox = (c.conn cid).inbox := by
    rintro d (e | e) <;> rw [e, set] <;> exact ⟨rfl, rfl, rfl, rfl⟩
  obtain ⟨req, rsp, granted, inbox⟩ := units c2 answered
  rw [Core.takeUnits_idle 0 0 (by rw [req]; exact hq) (by rw [rsp]; exact hs), Core.conn_updConn_self]
  dsimp only
  rw [Chan.add_zero (by rw [req]), Chan.add_zero (by rw [rsp]), req, rsp]
  exact ⟨granted, inbox, rfl, rfl, rfl, rfl⟩
end

end Sys2Proof.Machine
end

/-! ### Cells become messages in order, and connections and requests time out: the obligation O55 -/

section
namespace Sys2Proof.Machine
variable {s : State} {cid : Nat} {rsp : Bool} {q : Msg}

/-! #### The rows of a cell and of a message's delivery (R306, R312, R314 to R316) -/

/-- CELL_RECEIVE takes the first cell of a message on an open connection. -/
theorem cellReceive_welcomes (live : s.top.live = true) {p : Nat} {b : Bool × List Byte} {rest : List (Bool × List Byte)} (hp : p < 8)
    (hq : (s.core.port p).rxq = b :: rest) (hin : s.core.frameIn p = true) {x : Cell} (hx : Cell.ofBytes b.2 = x)
    (hdst : x.dst = s.top.nodeId) (hconn : x.conn < 16384) (welcome : s.core.Welcomes x) :
    ∃ t, exec (.cellReceive p) s = .next t ∧ t.top = s.top ∧ (t.core.port p).rxq = rest ∧ t.core.ctxs = s.core.ctxs ∧
      (x.data.length = x.total → ((t.core.conn x.conn).chan x.rsp).ready.get? x.id =
          some (x.msg x.data, s.top.dieTime (passDie (x.conn / 4096))) ∧
        ((t.core.conn x.conn).chan x.rsp).slots.get? x.id = none) ∧
      (x.data.length < x.total → ∃ y, ((t.core.conn x.conn).chan x.rsp).slots.get? x.id = some y ∧ y.total = x.total ∧
        y.got = [(x.off, x.data.length)] ∧ y.opened = s.top.now) := by
  subst hx
  obtain ⟨d, store, received⟩ := Core.cellReceive_here live hq hin hdst hconn
  have here : d.Welcomes (Cell.ofBytes b.2) := welcome.of_fabric (store.fabric.trans (Core.freeFrame_fabric _ _ _ _ _))
  refine ⟨_, State.next_onCore live _, rfl, ?_⟩
  dsimp only
  rw [received]
  refine ⟨?_, ?_, Core.chan_cell_whole here, fun part => ⟨_, Core.slot_cell_part here part, rfl, rfl, rfl⟩⟩
  · rw [Core.port_of_ports (Core.cell_ports here), Core.port_of_ports store.ports, Core.freeFrame_port _ _ _ _ _ hp]
  · rw [Core.cell_ctxs here, store.ctxs, Core.freeFrame_ctxs]

/-- CELL_RECEIVE drops a cell for another node, and frees its frame's flits. -/
theorem cellReceive_drops (live : s.top.live = true) {p : Nat} {b : Bool × List Byte} {rest : List (Bool × List Byte)} (hp : p < 8)
    (hq : (s.core.port p).rxq = b :: rest) (hin : s.core.frameIn p = true) (hdst : (Cell.ofBytes b.2).dst ≠ s.top.nodeId) :
    ∃ t, exec (.cellReceive p) s = .next t ∧ (t.core.port p).rxq = rest ∧ t.core.fabric = s.core.fabric ∧
      (if b.1 then (t.core.port p).freedRsp = ((s.core.port p).freedRsp + frameFlits b.2.length) % 65536
       else (t.core.port p).freedReq = ((s.core.port p).freedReq + frameFlits b.2.length) % 65536) := by
  refine ⟨_, State.next_onCore live _, ?_⟩
  dsimp only
  rw [Core.cellReceive_foreign live hq hin hdst, Core.bump_fabric, Core.freeFrame_fabric, Core.port_of_ports (Core.bump_ports _ _ _),
    Core.freeFrame_port _ _ _ _ _ hp]
  refine ⟨rfl, rfl, ?_⟩
  split <;> rfl

/-- MESSAGE_DELIVER puts a message that passes its checks at the tail of the inbox. -/
theorem messageDeliver_delivers (live : s.top.live = true) (h : s.core.Knows cid q) (known : knownType q.type = true) {at_ : Nat}
    (next : ((s.core.conn cid).chan rsp).ready.get? ((s.core.conn cid).chan rsp).expect = some (q, at_))
    (last : ((s.core.conn cid).chan rsp).ready.get? ((((s.core.conn cid).chan rsp).expect + 1) % 2 ^ 32) = none)
    (fresh : staleStamp at_ q.stamp s.core.fabric.skewUs = false) (job : q.type = 0x60 ∨ q.type = 0x61 ∨ q.job = s.core.jobId)
    (carried : s.core.carried s.top (s.core.conn cid).stages q = true) :
    ∃ t, exec (.messageDeliver cid rsp) s = .next t ∧ t.top = s.top ∧ (t.core.conn cid).inbox = (s.core.conn cid).inbox ++ [q] ∧
      ((t.core.conn cid).chan rsp).expect = (((s.core.conn cid).chan rsp).expect + 1) % 2 ^ 32 ∧ t.core.ctxs = s.core.ctxs ∧
      t.core.tiers = s.core.tiers := by
  obtain ⟨d, delivered, talks⟩ := Core.deliver_delivers (t := s.top) h known next last fresh job carried
  refine ⟨_, State.next_onCore live _, rfl, ?_⟩
  dsimp only
  rw [delivered, Core.conn_updConn_self]
  refine ⟨?_, ?_, talks.ctxs, talks.tiers⟩
  · dsimp only
    rw [talks.inbox, Core.hears_conn]
    simp [Core.takeNext]
  · have expect := talks.expect rsp
    rw [Core.hears_conn, Core.chan_takeNext] at expect
    cases rsp <;> exact expect

/-- MESSAGE_DELIVER counts a stale message on its Pass die and gives it to nobody (R315). -/
theorem messageDeliver_discards (live : s.top.live = true) (hcid : cid < 16384) (h : s.core.Knows cid q) (known : knownType q.type = true)
    {at_ : Nat} (next : ((s.core.conn cid).chan rsp).ready.get? ((s.core.conn cid).chan rsp).expect = some (q, at_))
    (last : ((s.core.conn cid).chan rsp).ready.get? ((((s.core.conn cid).chan rsp).expect + 1) % 2 ^ 32) = none)
    (stale : staleStamp at_ q.stamp s.core.fabric.skewUs = true) :
    ∃ t, exec (.messageDeliver cid rsp) s = .next t ∧ (t.core.conn cid).inbox = (s.core.conn cid).inbox ∧
      ((t.core.conn cid).chan rsp).expect = (((s.core.conn cid).chan rsp).expect + 1) % 2 ^ 32 ∧
      t.core.ctr (.pass (cid / 4096) 0) = (s.core.ctr (.pass (cid / 4096) 0)).up 1 := by
  obtain ⟨d, discarded, talks⟩ := Core.deliver_discards (t := s.top) h known next last stale
  have owed : (d.discard cid 0).Talks cid ((d.discard cid 0).oweUnits cid q.rsp q.units) := Core.talks_oweUnits _ _ _ _
  have pass : cid / 4096 < 4 := by omega
  refine ⟨_, State.next_onCore live _, ?_⟩
  dsimp only
  rw [discarded, owed.inbox, owed.expect, owed.ctrs.pass pass, Core.conn_discard, talks.inbox, talks.expect, Core.hears_conn, Core.chan_takeNext]
  refine ⟨by simp [Core.takeNext], rfl, ?_⟩
  rw [Core.discard, Core.ctr_bump_self, talks.ctrs.pass pass]
  rfl

/-! #### Slots and sequences given up (R314, R316) -/

/-- REASSEMBLY_TIMEOUT gives up a slot at its time-out, and owes its units. -/
theorem reassemblyTimeout_due (live : s.top.live = true) {id : Nat} {w : Slot} (h : ((s.core.conn cid).chan rsp).slots.get? id = some w)
    (due : w.opened + (s.core.conn cid).timeoutUs * 1000 ≤ s.top.now) :
    ∃ t, exec (.reassemblyTimeout cid rsp id) s = .next t ∧ t.top = s.top ∧ ((t.core.conn cid).chan rsp).slots.get? id = none ∧
      ((t.core.conn cid).chan rsp).owed = ((s.core.conn cid).chan rsp).owed + ceilDiv w.total 4096 ∧
      (t.core.conn cid).chan (!rsp) = (s.core.conn cid).chan (!rsp) := by
  refine ⟨_, State.next_onCore live _, rfl, ?_⟩
  dsimp only
  rw [Core.slotTimeout_due h due, Core.conn_discard, Core.conn_dropSlot h]
  simp [Tbl.get?_del_self]

/-- The count of what a connection lost is no part of its channels. -/
theorem Conn.chan_withLost (n : Conn) (rsp : Bool) (k : Rate) : ({ n with lost := k } : Conn).chan rsp = n.chan rsp := by cases rsp <;> rfl

/-- REORDER_SKIP goes past a sequence that a later message has waited for long enough. -/
theorem reorderSkip_due (live : s.top.live = true)
    (missing : ((s.core.conn cid).chan rsp).ready.get? ((s.core.conn cid).chan rsp).expect = none)
    (due : ∃ e ∈ ((s.core.conn cid).chan rsp).ready, e.2.2 + (s.core.conn cid).timeoutUs * 1000 ≤ s.top.now) :
    ∃ t, exec (.reorderSkip cid rsp) s = .next t ∧ t.top = s.top ∧
      ((t.core.conn cid).chan rsp).expect = (((s.core.conn cid).chan rsp).expect + 1) % 2 ^ 32 ∧
      (t.core.conn cid).lost = (s.core.conn cid).lost.up ∧ (t.core.conn cid).inbox = (s.core.conn cid).inbox := by
  obtain ⟨expect, lost, inbox⟩ := Core.dropSlot_keeps cid ((s.core.conn cid).chan rsp).expect rsp s.core
  refine ⟨_, State.next_onCore live _, rfl, ?_⟩
  dsimp only
  rw [Core.skip_due missing due, Core.conn_updConn_self, Core.conn_discard, Conn.chan_onChan_self, Conn.chan_withLost, expect, Conn.onChan_lost,
    Conn.onChan_inbox, lost, inbox]
  exact ⟨rfl, rfl, rfl⟩

/-! #### Requests (R317, R323, R328) -/

section
variable {r m k : Nat} {x : Req}

theorem exec_completionTimeout (live : s.top.live = true) (h : s.core.fabric.reqs.get? r = some x) :
    exec (.completionTimeout r) s = .next { s with
      core := if s.core.reqDue s.top x && !x.purpose.invalidates && !x.movesAlone then s.core.reqTimesOut s.top r else s.core } := by
  refine (State.next_onCore live _).trans ?_
  simp only [h]

theorem exec_invalidateTimeout (live : s.top.live = true) (h : s.core.fabric.reqs.get? r = some x) :
    exec (.invalidateTimeout r) s = .next { s with
      core := if s.core.reqDue s.top x && x.purpose.invalidates then s.core.reqTimesOut s.top r else s.core } := by
  refine (State.next_onCore live _).trans ?_
  simp only [h]

/-- Before a request's time-out neither row does anything. -/
theorem requestTimeouts_early (live : s.top.live = true) (h : s.core.fabric.reqs.get? r = some x)
    (early : ¬ x.sent + (s.core.conn x.conn).timeoutUs * 1000 ≤ s.top.now) :
    exec (.completionTimeout r) s = .next s ∧ exec (.invalidateTimeout r) s = .next s := by
  have notDue : s.core.reqDue s.top x = false := decide_eq_false early
  rw [exec_completionTimeout live h, exec_invalidateTimeout live h, notDue]
  exact ⟨rfl, rfl⟩

theorem completionTimeout_due (live : s.top.live = true) (h : s.core.fabric.reqs.get? r = some x) (hp : x.purpose = .memIssue m)
    (due : x.sent + (s.core.conn x.conn).timeoutUs * 1000 ≤ s.top.now) :
    exec (.completionTimeout r) s = .next { s with core := s.core.reqTimesOut s.top r } := by
  have isDue : s.core.reqDue s.top x = true := decide_eq_true due
  rw [exec_completionTimeout live h]
  simp [isDue, Req.movesAlone, hp, Purpose.invalidates]

/-- A MEM_ISSUE whose peer is alive answers TIMEOUT (R317). -/
theorem completionTimeout_answers (live : s.top.live = true) (h : s.core.fabric.reqs.get? r = some x) (hp : x.purpose = .memIssue m)
    (due : x.sent + (s.core.conn x.conn).timeoutUs * 1000 ≤ s.top.now)
    (alive : x.mseq = none ∨ ∃ at_, s.core.fabric.heard.get? x.node = some at_ ∧ x.sent ≤ at_)
    (taken : (s.core.mbox m).taken.isSome = true) (unanswered : (s.core.mbox m).result = none) :
    ∃ t, exec (.completionTimeout r) s = .next t ∧ t.top = s.top ∧ t.core.fabric.reqs.get? r = none ∧
      (t.core.mbox m).result = some ⟨.timeout, 0, []⟩ ∧ t.core.ctxs = s.core.ctxs := by
  refine ⟨_, completionTimeout_due live h hp due, rfl, ?_⟩
  dsimp only
  rw [Core.reqTimesOut_alive h alive, Core.reqFails_memIssue h hp (by decide)]
  exact ⟨Tbl.get?_del_self _ _, Core.result_stage_self taken unanswered, rfl⟩

/-- A node from which nothing has come since the request was sent is dead (R328). -/
theorem completionTimeout_declaresDead (live : s.top.live = true) (h : s.core.fabric.reqs.get? r = some x) (hp : x.purpose = .memIssue m)
    (due : x.sent + (s.core.conn x.conn).timeoutUs * 1000 ≤ s.top.now) (sent : x.mseq = some k)
    (silent : s.core.fabric.heard.get? x.node = none) :
    ∃ t, exec (.completionTimeout r) s = .next t ∧ t.top = s.top ∧ t.core.isDead x.node = true := by
  refine ⟨_, completionTimeout_due live h hp due, rfl, ?_⟩
  dsimp only
  rw [Core.reqTimesOut_silent h sent silent]
  exact s.core.isDead_declareDead _ _

/-- The last INVALIDATE of a write, unanswered, ends the write's wait (R323). -/
theorem invalidateTimeout_ends (live : s.top.live = true) (h : s.core.fabric.reqs.get? r = some x) (hp : x.purpose = .version k)
    (due : x.sent + (s.core.conn x.conn).timeoutUs * 1000 ≤ s.top.now)
    (alive : x.mseq = none ∨ ∃ at_, s.core.fabric.heard.get? x.node = some at_ ∧ x.sent ≤ at_)
    {y : VersionTxn} (hy : s.core.fabric.txns.get? k = some y) (last : y.waiting = 1) :
    ∃ t, exec (.invalidateTimeout r) s = .next t ∧ t.top = s.top ∧ t.core.fabric.txns.get? k = none ∧ t.core.ctxs = s.core.ctxs := by
  have isDue : s.core.reqDue s.top x = true := decide_eq_true due
  refine ⟨_, exec_invalidateTimeout live h, rfl, ?_⟩
  simp only [isDue, hp, Purpose.invalidates, Bool.and_self, if_true]
  rw [Core.reqTimesOut_alive h alive, Core.reqFails_version h hp]
  have waits : ((s.core.forget r x).bump (.pass (x.conn / 4096) 11)).fabric.txns.get? k = some y := by rw [Core.bump_fabric]; exact hy
  obtain ⟨ended, ctxs⟩ := Core.versionAnswered_last (t := s.top) waits last
  exact ⟨ended, ctxs.trans (Core.bump_ctxs _ _ _)⟩
end

/-! #### The timers of credits and grants (R307, R313) -/

/-- CREDIT_RETURN_TIMER returns what is owed, in a control cell that takes no sequence. -/
theorem creditReturnTimer_due (live : s.top.live = true) (open_ : (s.core.conn cid).state ≠ .closed)
    (owed : 0 < (s.core.conn cid).req.owed + (s.core.conn cid).rsp.owed) (due : (s.core.conn cid).lastSent + 2000 ≤ s.top.now) :
    ∃ t, exec (.creditReturnTimer cid) s = .next t ∧ t.top = s.top ∧ (t.core.conn cid).req.owed = 0 ∧ (t.core.conn cid).rsp.owed = 0 ∧
      (t.core.conn cid).lastSent = s.top.now ∧ (t.core.conn cid).req.next = (s.core.conn cid).req.next ∧
      ∀ k, k ≠ cid → t.core.conn k = s.core.conn k := by
  refine ⟨_, State.next_onCore live _, rfl, ?_⟩
  simp only [open_, owed, due, ne_eq, not_false_eq_true, decide_true, Bool.and_self, if_true, Core.conn_updConn_self, Core.conn_sendControl]
  refine ⟨trivial, trivial, trivial, trivial, fun k hk => ?_⟩
  rw [Core.conn_updConn_other _ _ hk, Core.conn_sendControl, Core.conn_updConn_other _ _ hk]

theorem creditReturnTimer_early (live : s.top.live = true) (early : s.top.now < (s.core.conn cid).lastSent + 2000) :
    exec (.creditReturnTimer cid) s = .next s :=
  State.next_onCore_id live _ (if_neg (by simp [Nat.not_le.2 early]))

/-- CONN_GRANT_TIMER repeats the grant of a connection that is opening. -/
theorem connGrantTimer_due (live : s.top.live = true) (opening : (s.core.conn cid).state = .opening)
    (due : (s.core.conn cid).lastGrant + 100000 ≤ s.top.now) :
    ∃ t, exec (.connGrantTimer cid) s = .next t ∧ t.top = s.top ∧ (t.core.conn cid).state = .opening ∧
      (t.core.conn cid).lastGrant = s.top.now ∧ ∀ k, k ≠ cid → t.core.conn k = s.core.conn k := by
  refine ⟨_, State.next_onCore live _, rfl, ?_⟩
  simp only [opening, due, decide_true, Bool.and_self, if_true, Core.conn_sendGrant_self]
  exact ⟨trivial, trivial, fun k hk => Core.conn_sendGrant_other _ _ _ _ hk⟩

theorem connGrantTimer_early (live : s.top.live = true) (early : s.top.now < (s.core.conn cid).lastGrant + 100000) :
    exec (.connGrantTimer cid) s = .next s :=
  State.next_onCore_id live _ (if_neg (by simp [Nat.not_le.2 early]))

/-! #### Connections that close (R307, R328) -/

/-- A connection's end: its requests fail, and its entry is emptied but for the messages not yet taken. -/
def Core.endConn (t : Top) (cid : Nat) (c : Core) : Core :=
  let d := (c.fabric.reqs.filter (fun e => e.2.conn == cid)).foldl (fun c e => c.reqFails t e.1 .portDown) c
  d.onFabric (fun f => { f with conns := f.conns.set cid { state := .closed, inbox := (d.conn cid).inbox } })

theorem Core.endConn_idle {t : Top} {c : Core} (idle : ∀ e ∈ c.fabric.reqs, e.2.conn ≠ cid) : c.endConn t cid =
    c.onFabric (fun f => { f with conns := f.conns.set cid { state := .closed, inbox := (c.conn cid).inbox } }) := by
  have none_ : c.fabric.reqs.filter (fun e => e.2.conn == cid) = [] := by simpa [List.filter_eq_nil_iff] using idle
  simp only [Core.endConn, none_, List.foldl_nil]

theorem Core.endConn_memIssue {t : Top} {c : Core} {r m : Nat} {x : Req} (only : c.fabric.reqs = [(r, x)]) (hx : x.conn = cid)
    (hp : x.purpose = .memIssue m) (taken : (c.mbox m).taken.isSome = true) (unanswered : (c.mbox m).result = none) :
    ((c.endConn t cid).mbox m).result = some ⟨.portDown, 0, []⟩ := by
  have mine : c.fabric.reqs.filter (fun e => e.2.conn == cid) = [(r, x)] := by simp [only, hx]
  have found : c.fabric.reqs.get? r = some x := by simp [only, Tbl.get?]
  simp only [Core.endConn, mine, List.foldl_cons, List.foldl_nil]
  rw [Core.reqFails_memIssue found hp (by decide)]
  exact Core.result_stage_self taken unanswered

theorem Core.state_endConn (t : Top) (c : Core) : ((c.endConn t cid).conn cid).state = .closed := by
  simp [Core.endConn, Core.conn, Tbl.getD]

theorem exec_connClosed_due (live : s.top.live = true) (closing : (s.core.conn cid).state = .closing)
    (due : (s.core.conn cid).closeAt + (s.core.conn cid).timeoutUs * 1000 ≤ s.top.now) :
    exec (.connClosed cid) s = .next { s with core := (s.core.endConn s.top cid).checkNode s.top (s.core.conn cid).peer } := by
  refine (State.next_onCore live _).trans ?_
  simp only [closing, due, decide_true, Bool.or_true, Bool.and_self, if_true]
  rfl

/-- CONN_CLOSED at the time-out of a connection without requests, whose peer is dead already. -/
theorem connClosed_idle (live : s.top.live = true) (closing : (s.core.conn cid).state = .closing)
    (due : (s.core.conn cid).closeAt + (s.core.conn cid).timeoutUs * 1000 ≤ s.top.now) (idle : ∀ e ∈ s.core.fabric.reqs, e.2.conn ≠ cid)
    (dead : s.core.isDead (s.core.conn cid).peer = true) :
    ∃ t, exec (.connClosed cid) s = .next t ∧ t.top = s.top ∧ t.core.conn cid = { state := .closed, inbox := (s.core.conn cid).inbox } ∧
      (∀ k, k ≠ cid → t.core.conn k = s.core.conn k) ∧ t.core.ctxs = s.core.ctxs := by
  refine ⟨_, exec_connClosed_due live closing due, rfl, ?_⟩
  dsimp only
  rw [Core.endConn_idle idle, Core.checkNode, if_neg (by simp [Core.isDead] at dead ⊢; exact fun _ => dead)]
  refine ⟨?_, fun k hk => ?_, rfl⟩
  · simp [Core.conn, Tbl.getD]
  · simp [Core.conn, Tbl.getD, Tbl.get?_set_other _ _ _ _ hk]

/-- CONN_CLOSED answers PORT_DOWN to a MEM_ISSUE that still awaits its completion. -/
theorem connClosed_answers (live : s.top.live = true) (closing : (s.core.conn cid).state = .closing) {r m : Nat} {x : Req}
    (due : (s.core.conn cid).closeAt + (s.core.conn cid).timeoutUs * 1000 ≤ s.top.now) (only : s.core.fabric.reqs = [(r, x)]) (hx : x.conn = cid)
    (hp : x.purpose = .memIssue m) (taken : (s.core.mbox m).taken.isSome = true) (unanswered : (s.core.mbox m).result = none) :
    ∃ t, exec (.connClosed cid) s = .next t ∧ t.top = s.top ∧ (t.core.conn cid).state = .closed ∧
      (t.core.mbox m).result = some ⟨.portDown, 0, []⟩ := by
  refine ⟨_, exec_connClosed_due live closing due, rfl, ?_, Core.result_checkNode (Core.endConn_memIssue only hx hp taken unanswered)⟩
  dsimp only
  rw [Core.state_checkNode, Core.state_endConn]

theorem connClosed_early (live : s.top.live = true) (early : s.top.now < (s.core.conn cid).closeAt + (s.core.conn cid).timeoutUs * 1000)
    (left : (s.core.conn cid).req.slots ≠ []) : exec (.connClosed cid) s = .next s :=
  State.next_onCore_id live _ (if_neg (by simp [Nat.not_le.2 early, left]))

/-! #### Messages of control, and messages that nothing takes (R11, R307, R313) -/

/-- SEND_ACK CREDIT changes its connection by nothing more than the message taken: the units came with the cell. -/
theorem sendAckCredit_takes (h : Claims.delivered s cid 0x61 (some 2) q) (hq : (s.core.conn cid).req.wait = [])
    (hs : (s.core.conn cid).rsp.wait = []) (req : (s.core.conn cid).req.held ≤ (s.core.conn cid).req.heldMax)
    (rsp : (s.core.conn cid).rsp.held ≤ (s.core.conn cid).rsp.heldMax) :
    ∃ t, exec (.sendAckCredit cid) s = .next t ∧ t.top = s.top ∧
      t.core.conn cid = { s.core.conn cid with inbox := (s.core.conn cid).inbox.tail } ∧ ∀ k, k ≠ cid → t.core.conn k = s.core.conn k := by
  refine ⟨_, congrArg Host.Outcome.next (onControl_delivered h _), rfl, ?_⟩
  dsimp only
  rw [Core.takeUnits_idle 0 0 (by rw [Core.conn_updConn_self]; exact hq) (by rw [Core.conn_updConn_self]; exact hs)]
  refine ⟨?_, fun k hk => ?_⟩
  · rw [Core.conn_updConn_self, Core.conn_updConn_self, Chan.add_zero req, Chan.add_zero rsp]
  · rw [Core.conn_updConn_other _ _ hk, Core.conn_updConn_other _ _ hk]

/-- The first SEND_ACK GRANT sets the units held. -/
theorem sendAckGrant_first (h : Claims.delivered s cid 0x61 (some 3) q) (first : (s.core.conn cid).granted = false)
    (hq : (s.core.conn cid).req.wait = []) (hs : (s.core.conn cid).rsp.wait = []) :
    ∃ t, exec (.sendAckGrant cid) s = .next t ∧ t.top = s.top ∧ (t.core.conn cid).granted = true ∧ (t.core.conn cid).req.held = q.crReq ∧
      (t.core.conn cid).req.heldMax = q.crReq ∧ (t.core.conn cid).rsp.held = q.crRsp ∧ (t.core.conn cid).rsp.heldMax = q.crRsp ∧
      (t.core.conn cid).inbox = (s.core.conn cid).inbox.tail := by
  refine ⟨_, congrArg Host.Outcome.next (onControl_delivered h _), rfl, ?_⟩
  obtain ⟨granted, inbox, req, reqMax, rsp, rspMax⟩ := Core.conn_granted (t := s.top) (q := q) (cid := cid)
    (c := s.core.updConn cid (fun n => { n with inbox := n.inbox.tail })) (by rw [Core.conn_updConn_self]; exact first)
    (by rw [Core.conn_updConn_self]; exact hq) (by rw [Core.conn_updConn_self]; exact hs)
  rw [Core.conn_updConn_self] at inbox
  dsimp only
  exact ⟨granted, req, reqMax, rsp, rspMax, inbox⟩

theorem Core.unknownMsg_taken {c : Core} {rest : List Msg} {k : Ctr} (h : (c.conn cid).inbox = q :: rest) (hk : unhandled q = some k) :
    c.unknownMsg cid = (c.takeMsg cid q).bump k := by
  unfold Core.unknownMsg; simp only [h, hk]

theorem Core.unknownMsg_left {c : Core} {rest : List Msg} (h : (c.conn cid).inbox = q :: rest) (handled : unhandled q = none) :
    c.unknownMsg cid = c := by
  unfold Core.unknownMsg; simp only [h, handled]

theorem unhandled_of_unknown (h : knownType q.type = false) : unhandled q = some (.dev 2) := by
  unfold unhandled; simp [h]

end Sys2Proof.Machine
end

namespace Sys2Proof.Machine

/-- Settles O55, row by row: a cell, a delivery, the time-outs of slots, sequences and requests, the timers of credits and grants, the end of a
connection, and the messages of control. -/
theorem cellsBecomeMessagesAndConnectionsAgeOut : Obligations.CellsBecomeMessagesAndConnectionsAgeOut := by
  intro cid rsp q s live
  refine ⟨?cells, ?noCell, ?delivery, ?nothingReady, ?slot, ?skip, ?requests, ?credits, ?grants, ?closing, ?credit, ?grant, ?unknown⟩
  case cells =>
    intro p b rest hp hq hin
    exact ⟨fun hdst hconn opened peer data consistent fresh undone expected granted =>
      cellReceive_welcomes live hp hq hin rfl hdst hconn ⟨opened, peer, data, consistent, fresh, undone, expected, granted⟩,
      cellReceive_drops live hp hq hin⟩
  case noCell => exact fun p h => State.next_onCore_id live _ (Core.cellReceive_none h)
  case delivery =>
    intro at_ hcid next last opened peer connected known timed
    have knows : s.core.Knows cid q := ⟨opened, peer, connected, timed⟩
    exact ⟨messageDeliver_delivers live knows known next last, messageDeliver_discards live hcid knows known next last⟩
  case nothingReady => exact fun h => State.next_onCore_id live _ (Core.deliver_none _ h)
  case slot =>
    exact fun id w h => ⟨reassemblyTimeout_due live h, fun early => State.next_onCore_id live _ (Core.slotTimeout_early h early)⟩
  case skip =>
    exact fun missing => ⟨reorderSkip_due live missing, fun early => State.next_onCore_id live _ (Core.skip_early early)⟩
  case requests =>
    exact fun r x h => ⟨requestTimeouts_early live h,
      fun m due alive hp taken unanswered => completionTimeout_answers live h hp due alive taken unanswered,
      fun m k due sent silent hp => completionTimeout_declaresDead live h hp due sent silent,
      fun k y due alive hp hy last => invalidateTimeout_ends live h hp due alive hy last⟩
  case credits => exact fun open_ owed => ⟨creditReturnTimer_due live open_ owed, creditReturnTimer_early live⟩
  case grants => exact fun opening => ⟨connGrantTimer_due live opening, connGrantTimer_early live⟩
  case closing =>
    exact fun closing => ⟨connClosed_idle live closing,
      fun r x m due only hx hp taken unanswered => connClosed_answers live closing due only hx hp taken unanswered, connClosed_early live⟩
  case credit => exact sendAckCredit_takes
  case grant => exact sendAckGrant_first
  case unknown =>
    exact fun rest h => ⟨fun k hk => (State.next_onCore live _).trans (by rw [Core.unknownMsg_taken h hk]),
      fun handled => State.next_onCore_id live _ (Core.unknownMsg_left h handled), unhandled_of_unknown⟩

end Sys2Proof.Machine

/-! ### The device's own state: what every step keeps of it (R28, R352, R370, R378 to R383) -/

section
namespace Sys2Proof.Machine

/-! #### Package time -/

/-- What `Claims.TopInv` says of the TIME block (R31, R37). -/
structure TimeBlk.Sound (b : TimeBlk) : Prop where
  control : b.control &&& 0xFFFE00E0#32 = 0#32
  source : b.control &&& 3#32 ≠ 3#32
  rate : -200000 ≤ b.rate ∧ b.rate ≤ 200000
  offset : -2147483648 ≤ b.offset ∧ b.offset ≤ 2147483647
  ppsOut : b.ppsOut = true → b.control.getLsbD 16 = true

/-- Package time has not gone back (R28), and the block is as sound as it was. -/
structure TimeBlk.Runs (a b : TimeBlk) : Prop where
  now : a.now ≤ b.now
  sound : a.Sound → b.Sound

theorem TimeBlk.Runs.refl (b : TimeBlk) : b.Runs b := ⟨le_rfl, id⟩
theorem TimeBlk.Runs.trans {a b c : TimeBlk} (h : a.Runs b) (k : b.Runs c) : a.Runs c := ⟨h.now.trans k.now, k.sound ∘ h.sound⟩

theorem TimeBlk.runs_ite {a b c : TimeBlk} (p : Prop) [Decidable p] (h : a.Runs b) (k : a.Runs c) : a.Runs (if p then b else c) := by
  split
  · exact h
  · exact k

/-- A field that no clause of the invariant speaks of: the servo's counts, the status bits, the copies. -/
theorem TimeBlk.Runs.of_same {a b : TimeBlk} (now : a.now ≤ b.now) (control : b.control = a.control) (rate : b.rate = a.rate)
    (offset : b.offset = a.offset) (ppsOut : b.ppsOut = a.ppsOut) : a.Runs b :=
  ⟨now, fun h => ⟨control ▸ h.control, control ▸ h.source, rate ▸ h.rate, offset ▸ h.offset, by rw [ppsOut, control]; exact h.ppsOut⟩⟩

theorem TimeBlk.servoRate_bounds (b : TimeBlk) (off : Int) : -200000 ≤ b.servoRate off ∧ b.servoRate off ≤ 200000 := by
  unfold TimeBlk.servoRate; omega

theorem TimeBlk.runs_judge (off : Int) (b : TimeBlk) : b.Runs (b.judge off) :=
  TimeBlk.runs_ite _ (Runs.of_same le_rfl rfl rfl rfl rfl) (Runs.of_same le_rfl rfl rfl rfl rfl)

theorem TimeBlk.runs_steer (off : Int) (b : TimeBlk) : b.Runs (b.steer off) := by
  have bound : -2147483648 ≤ max (-2147483648) (min 2147483647 off) ∧ max (-2147483648) (min 2147483647 off) ≤ 2147483647 := by omega
  refine runs_ite _ ⟨le_rfl, fun h => ?_⟩ ⟨le_rfl, fun h => ?_⟩
  · exact ⟨h.control, h.source, (by omega : (-200000 : Int) ≤ -200000 ∧ (-200000 : Int) ≤ 200000), bound, h.ppsOut⟩
  · exact ⟨h.control, h.source, servoRate_bounds _ _, bound, h.ppsOut⟩

theorem TimeBlk.runs_ppsEdge (v : Nat) (b : TimeBlk) : b.Runs (b.ppsEdge v) := by
  refine runs_ite _ (Runs.of_same le_rfl rfl rfl rfl rfl) ?_
  have taken : b.Runs { b with ppsCapture := v, lastPps := some b.now, holdover := false } := Runs.of_same le_rfl rfl rfl rfl rfl
  exact (taken.trans (runs_judge _ _)).trans (runs_steer _ _)

theorem TimeBlk.runs_ppsLost (b : TimeBlk) : b.Runs b.ppsLost := runs_ite _ (Runs.of_same le_rfl rfl rfl rfl rfl) (.refl b)
theorem TimeBlk.runs_syncGone (b : TimeBlk) : b.Runs b.syncGone := runs_ite _ (Runs.of_same le_rfl rfl rfl rfl rfl) (.refl b)
theorem TimeBlk.runs_lock (b : TimeBlk) : b.Runs b.lock := runs_ite _ (Runs.of_same le_rfl rfl rfl rfl rfl) (.refl b)

/-- The output rises only while it is enabled (R34, R434). -/
theorem TimeBlk.runs_ppsRise (b : TimeBlk) : b.Runs b.ppsRise := by
  unfold TimeBlk.ppsRise
  split
  · next due =>
    simp only [Bool.and_eq_true] at due
    exact ⟨le_rfl, fun h => ⟨h.control, h.source, h.rate, h.offset, fun _ => due.1.1⟩⟩
  · exact .refl b

theorem TimeBlk.runs_ppsFall (b : TimeBlk) : b.Runs b.ppsFall :=
  runs_ite _ ⟨le_rfl, fun h => ⟨h.control, h.source, h.rate, h.offset, nofun⟩⟩ (.refl b)

theorem TimeBlk.runs_loadCopy (d k : Nat) (b : TimeBlk) : b.Runs (b.loadCopy d k) := Runs.of_same le_rfl rfl rfl rfl rfl
theorem TimeBlk.runs_correctCopy (d k : Nat) (b : TimeBlk) : b.Runs (b.correctCopy d k) := Runs.of_same le_rfl rfl rfl rfl rfl

/-- The bits that a write of TIME.CONTROL leaves (R37). -/
def TimeBlk.controlOf (b : TimeBlk) (v : Word) : Word :=
  if v &&& 3#32 = 3#32 then (v &&& 0x0001FF1C#32) ||| (b.control &&& 3#32) else v &&& 0x0001FF1F#32

theorem TimeBlk.control_setControl (b : TimeBlk) (v : Word) : (b.setControl v).control = b.controlOf v := by
  have low : v &&& 0x0001FF1F#32 &&& 3#32 = v &&& 3#32 := by rw [BitVec.and_assoc]; rfl
  have high : v &&& 0x0001FF1F#32 &&& ~~~3#32 = v &&& 0x0001FF1C#32 := by rw [BitVec.and_assoc]; rfl
  unfold TimeBlk.setControl TimeBlk.controlOf
  extract_lets v' w b' b''
  have written : w = if v &&& 3#32 = 3#32 then (v &&& 0x0001FF1C#32) ||| (b.control &&& 3#32) else v &&& 0x0001FF1F#32 := by
    simp only [w, v', low, high]
  rw [← written]
  split
  · rfl
  split <;> rfl

/-- No reserved bit is set, and SOURCE is not the reserved one (R37). -/
theorem TimeBlk.controlOf_reserved (b : TimeBlk) (v : Word) : b.controlOf v &&& 0xFFFE00E0#32 = 0#32 := by
  unfold TimeBlk.controlOf
  split
  · rw [BitVec.and_or_distrib_right, BitVec.and_assoc, BitVec.and_assoc]
    simp
  · rw [BitVec.and_assoc]
    simp

theorem TimeBlk.controlOf_source (b : TimeBlk) (v : Word) (h : b.control &&& 3#32 ≠ 3#32) : b.controlOf v &&& 3#32 ≠ 3#32 := by
  unfold TimeBlk.controlOf
  split
  · rw [BitVec.and_or_distrib_right, BitVec.and_assoc, BitVec.and_assoc]
    simpa using h
  · next named =>
    rw [BitVec.and_assoc]
    simpa using named

theorem TimeBlk.setControl_fields (b : TimeBlk) (v : Word) :
    (b.setControl v).now = b.now ∧ (b.setControl v).rate = b.rate ∧ (b.setControl v).offset = b.offset ∧
      (b.setControl v).ppsOut = (b.ppsOut && (b.setControl v).control.getLsbD 16) := by
  unfold TimeBlk.setControl
  extract_lets v' w b' b''
  split
  · exact ⟨rfl, rfl, rfl, rfl⟩
  split
  · exact ⟨rfl, rfl, rfl, rfl⟩
  · exact ⟨rfl, rfl, rfl, rfl⟩

/-- A write of TIME.CONTROL (R37, R434). -/
theorem TimeBlk.runs_setControl (v : Word) (b : TimeBlk) : b.Runs (b.setControl v) := by
  obtain ⟨now, rate, offset, ppsOut⟩ := b.setControl_fields v
  refine ⟨now.ge, fun h => ⟨?_, ?_, rate ▸ h.rate, offset ▸ h.offset, fun high => ?_⟩⟩
  · rw [control_setControl]; exact b.controlOf_reserved v
  · rw [control_setControl]; exact b.controlOf_source v h.source
  · rw [ppsOut, Bool.and_eq_true] at high; exact high.2

theorem TimeBlk.runs_slewed (b : TimeBlk) : b.Runs b.slewed :=
  runs_ite _ ⟨le_rfl, fun h => ⟨h.control, h.source, servoRate_bounds _ _, h.offset, h.ppsOut⟩⟩ (Runs.of_same le_rfl rfl rfl rfl rfl)

/-- One nanosecond (R28, R29, R31). -/
theorem TimeBlk.runs_tick (b : TimeBlk) : b.Runs b.tick := by
  refine runs_ite _ (Runs.of_same (Nat.le_add_right _ _) rfl rfl rfl rfl) (runs_ite _ ?_ (Runs.of_same (Nat.le_add_right _ _) rfl rfl rfl rfl))
  exact b.runs_slewed.trans (Runs.of_same le_rfl rfl rfl rfl rfl)


/-! #### Start-up, the fuse and the dies in service -/

/-- No restart: package time and the fused floor have not gone back, no die has come back (R28, R352, R383), and what start-up leaves true
still holds. -/
structure Top.Runs (a b : Top) : Prop where
  floor : a.secFloor ≤ b.secFloor
  now : a.time.now ≤ b.time.now
  absent : a.absent &&& b.absent = a.absent
  inv : Claims.TopInv a → Claims.TopInv b

/-- A restart: everything but the fuses begins again (R28, R378). -/
structure Top.Restarts (a b : Top) : Prop where
  floor : b.secFloor = a.secFloor
  time : b.time = {}
  absent : b.absent = 0#64
  inv : Claims.TopInv b

/-- What a step may do to the device's own state. -/
def Top.Steps (a b : Top) : Prop := a.Runs b ∨ a.Restarts b

theorem Top.Runs.refl (t : Top) : t.Runs t := ⟨le_rfl, le_rfl, BitVec.and_self, id⟩

theorem Top.Runs.trans {a b c : Top} (h : a.Runs b) (k : b.Runs c) : a.Runs c where
  floor := h.floor.trans k.floor
  now := h.now.trans k.now
  absent := by
    calc a.absent &&& c.absent = a.absent &&& (b.absent &&& c.absent) := by rw [← BitVec.and_assoc, h.absent]
      _ = a.absent := by rw [k.absent, h.absent]
  inv := k.inv ∘ h.inv

theorem Top.Runs.steps {a b : Top} (h : a.Runs b) : a.Steps b := .inl h
theorem Top.Steps.refl (t : Top) : t.Steps t := .inl (.refl t)

/-- A restart ends whatever went before it. -/
theorem Top.Runs.trans_steps {a b c : Top} (h : a.Runs b) (k : b.Steps c) (fuse : b.secFloor = a.secFloor) : a.Steps c := by
  obtain run | restart := k
  · exact .inl (h.trans run)
  · exact .inr ⟨restart.floor.trans fuse, restart.time, restart.absent, restart.inv⟩

theorem Top.runs_ite {a b c : Top} (p : Prop) [Decidable p] (h : a.Runs b) (k : a.Runs c) : a.Runs (if p then b else c) := by
  split
  · exact h
  · exact k

theorem Top.runs_foldl {α : Type} (f : Top → α → Top) (h : ∀ (t : Top) (x : α), t.Runs (f t x)) (xs : List α) (t : Top) :
    t.Runs (xs.foldl f t) :=
  List.foldlRecOn xs f (.refl t) fun b run x _ => run.trans (h b x)

/-- A change of something that neither the invariant nor the floor, the time or the dies speak of. -/
theorem Top.Runs.of_inv {a b : Top} (floor : a.secFloor ≤ b.secFloor) (time : b.time = a.time) (absent : b.absent = a.absent)
    (inv : Claims.TopInv a → Claims.TopInv b) : a.Runs b :=
  ⟨floor, time ▸ le_rfl, absent ▸ BitVec.and_self, inv⟩

theorem Top.runs_time {b : TimeBlk} (t : Top) (h : t.time.Runs b) : t.Runs { t with time := b } where
  floor := le_rfl
  now := h.now
  absent := BitVec.and_self
  inv i := by
    obtain ⟨control, source, rate, offset, ppsOut⟩ := h.sound ⟨i.control, i.source, i.rate, i.offset, i.ppsOut⟩
    exact { i with control := control, source := source, rate := rate, offset := offset, ppsOut := ppsOut }

theorem Top.runs_onTime (f : TimeBlk → TimeBlk) (t : Top) (h : t.time.Runs (f t.time)) : t.Runs (t.onTime f) := t.runs_time h

theorem Top.runs_stepTime (v : Word) (t : Top) : t.Runs (t.stepTime v) := by
  unfold Top.stepTime
  extract_lets new t'
  have written : t.Runs t' := t.runs_onTime _ (.of_same le_rfl rfl rfl rfl rfl)
  split
  · next may =>
    have forward : t'.time.now ≤ new := by
      simp only [Top.mayStep, Bool.and_eq_true, decide_eq_true_eq] at may
      exact may.2.le
    exact written.trans (t'.runs_onTime _ (.of_same forward rfl rfl rfl rfl))
  · exact written.trans (t'.runs_onTime _ (.of_same le_rfl rfl rfl rfl rfl))

/-- A die out of service stays out (R352). -/
theorem Top.runs_lose (d : Nat) (t : Top) : t.Runs (t.lose d) where
  floor := le_rfl
  now := le_rfl
  absent := by
    ext i hi
    simp [Top.lose, BitVec.getElem_or]
    tauto
  inv i := { i with }

theorem Top.runs_failStart (d : Nat) (t : Top) : t.Runs (t.failStart d) := by
  have failed : t.Runs { t.lose d with failedStart := t.failedStart ||| (1#64 <<< d) } :=
    (t.runs_lose d).trans (Runs.of_inv le_rfl rfl rfl (fun i => { i with }))
  unfold Top.failStart
  dsimp only
  split
  · exact failed.trans (Runs.of_inv le_rfl rfl rfl (fun i => { i with }))
  · exact failed.trans (Runs.of_inv le_rfl rfl rfl (fun i => { i with }))
  · exact failed

/-- A restart (R378). -/
theorem Top.restarts_restart (t : Top) : t.Restarts t.restart :=
  ⟨rfl, rfl, rfl, by constructor <;> simp [Top.restart]⟩

/-! #### What the rows do to it -/

/-- The device's own state without what the failure of dies changes. -/
def Top.still (t : Top) : Top := { t with absent := 0, failedStart := 0, stackMask := 0, summitFail := 0 }

theorem Top.still_failStart (d : Nat) (t : Top) : (t.failStart d).still = t.still := by
  unfold Top.failStart
  dsimp only
  split <;> rfl

theorem Top.still_foldl {α : Type} (f : Top → α → Top) (h : ∀ (t : Top) (x : α), (f t x).still = t.still) (xs : List α) (t : Top) :
    (xs.foldl f t).still = t.still :=
  List.foldlRecOn (motive := fun b => b.still = t.still) xs f rfl fun b run x _ => (h b x).trans run

section
variable {a b : Top} (h : b.still = a.still)
include h
theorem Top.dev_of_still : b.dev = a.dev := (congrArg Top.dev h :)
theorem Top.phase_of_still : b.phase = a.phase := (congrArg Top.phase h :)
theorem Top.allFailed_of_still : b.allFailed = a.allFailed := (congrArg Top.allFailed h :)
theorem Top.time_of_still : b.time = a.time := (congrArg Top.time h :)
end

@[simp] theorem enterFaulted_top (t : Top) (c : Core) (d : Nat) : (enterFaulted t c d).1 = { t with dev := .faulted } := by
  unfold enterFaulted
  dsimp only
  split <;> rfl

/-- Start-up is where the device's state says it is (R370, R379, R382). -/
structure Top.OnCourse (t : Top) : Prop where
  boot : t.dev = .boot → 1 ≤ t.phase ∧ t.phase ≤ 3
  train : t.dev = .train → t.phase = 4
  selftest : t.dev = .selftest → t.phase = 5
  later : t.dev = .ready ∨ t.dev = .bound ∨ t.dev = .draining → t.phase = 0
  verified : (t.dev = .boot ∧ t.phase = 3) ∨ t.dev = .train ∨ t.dev = .selftest ∨ t.dev = .ready ∨ t.dev = .bound ∨ t.dev = .draining →
    t.fwValid = true ∧ t.allFailed = false

section
variable {t : Top}

/-- No firmware has been verified yet. -/
theorem Top.onCourse_unverified (dev : t.dev = .boot) (phase : t.phase = 1 ∨ t.phase = 2) : t.OnCourse := by
  constructor <;> simp [dev]
  · omega
  · omega

variable (fw : t.fwValid = true ∧ t.allFailed = false)
include fw
theorem Top.onCourse_verified (dev : t.dev = .boot) (phase : t.phase = 3) : t.OnCourse := by constructor <;> simp [dev, phase, fw]
theorem Top.onCourse_train (dev : t.dev = .train) (phase : t.phase = 4) : t.OnCourse := by constructor <;> simp [dev, phase, fw]
theorem Top.onCourse_selftest (dev : t.dev = .selftest) (phase : t.phase = 5) : t.OnCourse := by constructor <;> simp [dev, phase, fw]
theorem Top.onCourse_later (dev : t.dev = .ready ∨ t.dev = .bound ∨ t.dev = .draining) (phase : t.phase = 0) : t.OnCourse := by
  obtain dev | dev | dev := dev <;> constructor <;> simp [dev, phase, fw]
end

theorem Top.onCourse_out {t : Top} (dev : t.dev = .off ∨ t.dev = .faulted) : t.OnCourse := by
  obtain dev | dev := dev <;> constructor <;> simp [dev]

/-- Start-up goes on: neither the floor, the time, the dies nor the node ID have changed. -/
theorem Top.Runs.of_course {a b : Top} (floor : b.secFloor = a.secFloor) (time : b.time = a.time) (absent : b.absent = a.absent)
    (node : b.nodeId = a.nodeId) (ends : a.phaseEnds.length = 5 → b.phaseEnds.length = 5) (primary : a.primary < 4 → b.primary < 4)
    (course : Claims.TopInv a → b.OnCourse) : a.Runs b := by
  refine .of_inv floor.ge time absent (fun i => ?_)
  obtain ⟨boot, train, selftest, later, verified⟩ := course i
  exact ⟨ends i.ends, primary i.primary, node ▸ i.node, boot, train, selftest, later, verified, time ▸ i.control, time ▸ i.source,
    time ▸ i.rate, time ▸ i.offset, time ▸ i.ppsOut⟩

theorem Top.endPhase_length (n : Nat) (t : Top) : t.phaseEnds.length = 5 → (t.endPhase n).phaseEnds.length = 5 := by
  simp [Top.endPhase]

/-- BOOT_ROM_DONE (R40, R379). -/
theorem bootRomDone_runs (passed : BitVec 4) (t : Top) (c : Core) : t.Runs (bootRomDone passed t c).1 := by
  unfold bootRomDone
  split
  · exact .refl t
  next go =>
  have dev : t.dev = .boot := by simp at go; tauto
  extract_lets ok t1 ended t2
  have lost : t.Runs t1 := t.runs_foldl _ (fun t q => Top.runs_ite _ (.refl t) (t.runs_failStart _)) _
  have dev1 : t1.dev = .boot :=
    (Top.dev_of_still (t.still_foldl _ (fun t q => by split; exacts [rfl, t.still_failStart _]) _)).trans dev
  split
  · exact lost.trans (.of_course rfl rfl rfl rfl (t1.endPhase_length 1) (fun _ => Nat.succ_pos 3)
      (fun _ => Top.onCourse_unverified dev1 (.inr rfl)))
  · have begun : t1.Runs t2 := .of_course rfl rfl rfl rfl (t1.endPhase_length 1) id (fun _ => Top.onCourse_unverified dev1 (.inr rfl))
    exact (lost.trans begun).trans (t2.runs_foldl _ (fun t d => t.runs_onTime _ (TimeBlk.runs_loadCopy _ _ _)) _)

/-- FIRMWARE_VERIFY (R40, R382). -/
theorem firmwareVerify_runs (t : Top) (c : Core) : t.Runs (firmwareVerify t c).1 := by
  unfold firmwareVerify
  split
  · exact .refl t
  next go =>
  obtain ⟨⟨dev, phase⟩, allFailed⟩ : (t.dev = .boot ∧ t.phase = 2) ∧ t.allFailed = false := by simpa [not_or] using go
  split
  · exact .refl t
  next q found =>
  have low : q < 4 := List.mem_range.1 (List.mem_of_find?_eq_some found)
  dsimp only
  split
  · exact .of_course rfl rfl rfl rfl (t.endPhase_length 2) (fun _ => low) (fun _ => Top.onCourse_verified ⟨rfl, allFailed⟩ dev rfl)
  · have still := t.still_failStart (summitDie q)
    have dev1 := (Top.dev_of_still still).trans dev
    have phase1 := (Top.phase_of_still still).trans phase
    refine (t.runs_failStart (summitDie q)).trans (Top.runs_ite _ ?_ ?_)
    · exact .of_course rfl rfl rfl rfl id (fun _ => Nat.succ_pos 3) (fun _ => Top.onCourse_unverified dev1 (.inr phase1))
    · exact .of_course rfl rfl rfl rfl id id (fun _ => Top.onCourse_unverified dev1 (.inr phase1))

/-- The device's own state without what the records of a configuration image set. -/
def Top.unset (t : Top) : Top := { t with nodeId := 0, time := {}, cfgPorts := 0, cfgUnknown := false, cfgReject := false }

/-- A record of an image (R386). -/
theorem applyRecord_runs (ty : Nat) (v : List Byte) (s : Top × Core) {r : Top × Core} (h : applyRecord ty v s = some r) :
    s.1.Runs r.1 ∧ r.1.unset = s.1.unset := by
  obtain ⟨t, c⟩ := s
  unfold applyRecord at h
  dsimp only at h
  split at h
  case h_8 => cases h
  all_goals
    rw [Option.ite_none_right_eq_some] at h
    obtain ⟨ok, h⟩ := h
    cases h
  case h_1 =>
    have low : rd v 0 2 ≤ 0x3FFF := by simp at ok; exact ok.2
    exact ⟨.of_inv le_rfl rfl rfl (fun i => { i with node := low }), rfl⟩
  case h_2 => exact ⟨t.runs_onTime (fun b => b.setControl (BitVec.ofNat 32 (rd v 0 4))) (TimeBlk.runs_setControl _ _), rfl⟩
  case h_3 => exact ⟨.of_inv le_rfl rfl rfl (fun i => { i with }), rfl⟩
  all_goals exact ⟨.refl t, rfl⟩

theorem applyRecords_runs (rs : List (Nat × List Byte)) (s : Top × Core) :
    s.1.Runs (applyRecords rs s).1 ∧ (applyRecords rs s).1.unset = s.1.unset := by
  unfold applyRecords
  induction rs generalizing s with
  | nil => exact ⟨.refl _, rfl⟩
  | cons r rs ih =>
    rw [List.foldl_cons]
    refine ⟨Top.Runs.trans ?_ (ih _).1, (ih _).2.trans ?_⟩
    · split
      · exact .of_inv le_rfl rfl rfl (fun i => { i with })
      split
      · next h => exact (applyRecord_runs _ _ _ h).1
      · exact .of_inv le_rfl rfl rfl (fun i => { i with })
    · split
      · rfl
      split
      · next h => exact (applyRecord_runs _ _ _ h).2
      · rfl

/-- CONFIG_APPLY (R385, R390). -/
theorem configApply_runs (t : Top) (c : Core) : t.Runs (configApply t c).1 := by
  unfold configApply
  split
  · exact .refl t
  next go =>
  obtain ⟨dev, phase⟩ : t.dev = .boot ∧ t.phase = 3 := by simpa [not_or] using go
  have applied : ∀ s : Top × Core, t.Runs s.1 → s.1.unset.fwValid = t.fwValid → s.1.unset.allFailed = t.allFailed →
      t.Runs { s.1.endPhase 3 with dev := .train } := fun s run fw failed => by
    refine ⟨run.floor, run.now, run.absent, fun i => ?_⟩
    have fine : Claims.TopInv s.1 := run.inv i
    have verified : s.1.fwValid = true ∧ s.1.allFailed = false := fw ▸ failed ▸ i.verified (.inl ⟨dev, phase⟩)
    exact (Top.Runs.of_course (a := s.1) (b := { s.1.endPhase 3 with dev := .train }) rfl rfl rfl rfl (s.1.endPhase_length 3) id
      (fun _ => Top.onCourse_train verified rfl rfl)).inv fine
  dsimp only
  split
  · exact applied ({ t with cfgDefaulted := true, cfgCause := _, cfgImage := Config.factoryImage, cfgSeq := 0 }, c)
      (.of_inv le_rfl rfl rfl (fun i => { i with })) rfl rfl
  · next used =>
    let t1 : Top := { t with
      cfgDefaulted := false, cfgCause := 0, cfgImage := t.cfgFlash.take (rd t.cfgFlash 8 4), cfgSeq := rd t.cfgFlash 12 4 }
    have chosen : t.Runs t1 := .of_inv le_rfl rfl rfl (fun i => { i with })
    obtain ⟨run, same⟩ := applyRecords_runs ((cfgBody t.cfgFlash).getD []) (t1, c)
    exact applied _ (chosen.trans run) (congrArg Top.fwValid same :) (congrArg Top.allFailed same :)

/-- TRAINING_DONE (R380, R389). -/
theorem trainingDone_runs (trained : BitVec 16) (ds : List Nat) (t : Top) (c : Core) : t.Runs (trainingDone trained ds t c).1 := by
  unfold trainingDone
  split
  · exact .refl t
  next go =>
  have dev : t.dev = .train := not_not.1 go
  extract_lets mask ended t1
  split
  · rw [enterFaulted_top]
    exact .of_course rfl rfl rfl rfl (t.endPhase_length 4) id (fun _ => Top.onCourse_out (.inr rfl))
  · exact .of_course rfl rfl rfl rfl (t.endPhase_length 4) id
      (fun i => Top.onCourse_selftest (i.verified (.inr (.inl dev))) rfl rfl)

theorem enterFaulted_runs (t : Top) (c : Core) (d : Nat) : t.Runs (enterFaulted t c d).1 := by
  rw [enterFaulted_top]
  exact .of_course rfl rfl rfl rfl id id (fun _ => Top.onCourse_out (.inr rfl))

/-- STARTUP_SELFTEST_DONE (R380, R392, R399). -/
theorem startupDone_runs (failed : BitVec 64) (links repaired : List Nat) (t : Top) (c : Core) :
    t.Runs (startupDone failed links repaired t c).1 := by
  unfold startupDone
  split
  · exact .refl t
  next go =>
  have dev : t.dev = .selftest := not_not.1 go
  extract_lets up c1 lost1 far bad isFatal t1 c2 c3 t2 c4
  split
  · exact (t.runs_failStart _).trans
      (.of_course rfl rfl rfl rfl (fun _ => rfl) (fun _ => Nat.succ_pos 3) (fun _ => Top.onCourse_unverified rfl (.inl rfl)))
  have lost : t.Runs t1 := t.runs_foldl _ (fun t d => t.runs_failStart d) _
  have still : t1.still = t.still := t.still_foldl _ (fun t d => t.still_failStart d) _
  have faulted : ∀ d, t.Runs (enterFaulted t2 c4 d).1 := fun d => by
    rw [enterFaulted_top]
    exact lost.trans (.of_course rfl rfl rfl rfl (t1.endPhase_length 5) id (fun _ => Top.onCourse_out (.inr rfl)))
  split
  · exact faulted _
  split
  · exact faulted _
  · have tested : t1.dev = .selftest := (Top.dev_of_still still).trans dev
    exact lost.trans (.of_course rfl rfl rfl rfl (t1.endPhase_length 5) id
      (fun i => Top.onCourse_later (i.verified (.inr (.inr (.inl tested)))) (.inl rfl) rfl))

/-- A die declared failed in service (R399). -/
theorem dieFails_runs (d : Nat) (t : Top) (c : Core) : t.Runs (dieFails d t c).1 := by
  have lost : t.Runs (t.lose d) := t.runs_lose d
  unfold dieFails
  extract_lets t1 c1
  split
  · exact lost
  · exact lost.trans (.of_inv le_rfl rfl rfl (fun i => { i with }))
  · exact lost
  · exact lost.trans (enterFaulted_runs _ _ _)
  · split
    · exact lost.trans (enterFaulted_runs _ _ _)
    · exact lost

/-- SELFTEST_SLICE_END (R395, R399). -/
theorem sliceEnd_runs (d : Nat) (pass : Bool) (rows : Nat) (t : Top) (c : Core) : t.Runs (sliceEnd d pass rows t c).1 := by
  unfold sliceEnd
  split
  · exact .refl t
  extract_lets runners c1 c2 c3
  split
  · exact .refl t
  · exact dieFails_runs _ _ _

/-- A device that drains is ready once the job has gone (R376, R380). -/
theorem Top.runs_released (t : Top) : t.Runs { t with dev := if t.dev = .draining then .ready else t.dev } := by
  refine .of_course rfl rfl rfl rfl id id (fun i => ?_)
  by_cases dev : t.dev = .draining
  · rw [if_pos dev]
    exact Top.onCourse_later (i.verified (by simp [dev])) (.inl rfl) (i.later (by simp [dev]))
  · rw [if_neg dev]
    exact ⟨i.boot, i.train, i.selftest, i.later, i.verified⟩

/-- The end of a job, or one more step towards it (R376, R377): nothing changes but that a device that drains is ready. -/
theorem releaseStep_top (t : Top) (c : Core) :
    (releaseStep t c).1 = t ∨ (releaseStep t c).1 = { t with dev := if t.dev = .draining then .ready else t.dev } := by
  unfold releaseStep
  split
  · exact .inl rfl
  split
  · exact .inl rfl
  extract_lets c1 c2
  split
  · exact .inl rfl
  split
  · exact .inl rfl
  split
  · exact .inl rfl
  · exact .inr rfl

theorem releaseStep_runs (t : Top) (c : Core) : t.Runs (releaseStep t c).1 := by
  obtain same | moved := releaseStep_top t c
  · exact same.symm ▸ .refl t
  · exact moved.symm ▸ t.runs_released

/-! #### The rows that change it -/

/-- A row on the device's own state and the rest does what its function does, or nothing. -/
theorem State.onBoth_steps (f : Top → Core → Top × Core) (h : ∀ (t : Top) (c : Core), t.Steps (f t c).1) (s : State) :
    s.top.Steps (s.onBoth f).top := by
  unfold State.onBoth
  split
  · exact h _ _
  · exact .refl _

theorem State.onBoth_runs (f : Top → Core → Top × Core) (h : ∀ (t : Top) (c : Core), t.Runs (f t c).1) (s : State) :
    s.top.Steps (s.onBoth f).top :=
  s.onBoth_steps f (fun t c => (h t c).steps)

theorem timeChange_runs (f : TimeBlk → TimeBlk) (h : ∀ b : TimeBlk, b.Runs (f b)) (t : Top) (c : Core) : t.Runs (timeChange f t c).1 :=
  t.runs_onTime f (h t.time)

/-- Only a command that is legal where it runs passes its checks (R369). -/
theorem illegalState_of_precheck {t : Top} {c : Core} {m : Nat} {a : Cmd} {u : Unit} (h : precheck t c m a = .ok u) :
    illegalState a (c.mbox m).takenIn t.dev = none := by
  unfold precheck at h
  cases fits : fixedLen a.opcode with
  | none => simp [fits] at h
  | some n =>
    cases legal : illegalState a (c.mbox m).takenIn t.dev with
    | none => rfl
    | some d =>
      simp only [fits, legal, need, bind, Except.bind] at h
      split at h
      · cases h
      · cases h

/-- A command that also changes the device's own state: its body runs only where it is legal at the time (R369). -/
theorem runTop_steps (m op : Nat) (serial : isSerial op = true) (body : Top → Core → Nat → Cmd → Chk (Top × Core × Option Resp))
    (h : ∀ (t : Top) (c : Core) (m : Nat) (a : Cmd) (r : Top × Core × Option Resp),
      a.opcode = op → legalIn a t.dev = true → body t c m a = .ok r → t.Runs r.1) (s : State) :
    s.top.Steps (runTop m op body s).top := by
  unfold runTop
  split
  · exact .refl _
  next cmd ready =>
  have named : cmd.opcode = op := by
    unfold Core.ready at ready
    grind
  refine s.onBoth_runs _ (fun t c => ?_)
  split
  · exact .refl t
  next t' c' r run =>
  cases checked : precheck t c m cmd with
  | error e => rw [checked] at run; cases run
  | ok u =>
    rw [checked] at run
    have legal := illegalState_of_precheck checked
    rw [illegalState, named, if_pos serial] at legal
    exact h t c m cmd (t', c', r) named (by by_contra illegal; simp [illegal] at legal) run

/-- Checks in a row: the first passed, and the rest gave the answer. -/
theorem Chk.ran {α β : Type} {x : Chk α} {f : α → Chk β} {b : β} (h : x >>= f = .ok b) : ∃ a, x = .ok a ∧ f a = .ok b := by
  cases x with
  | error e => cases h
  | ok a => exact ⟨a, rfl, h⟩

/-- JOB_BIND (R370, R374, R380). -/
theorem jobBindBody_runs (t : Top) (c : Core) (m : Nat) (a : Cmd) (r : Top × Core × Option Resp) (op : a.opcode = 0x0103)
    (legal : legalIn a t.dev = true) (h : jobBindBody t c m a = .ok r) : t.Runs r.1 := by
  have dev : t.dev = .ready := by
    cases is : t.dev <;> simp [legalIn, op, is] at legal
    rfl
  have bound : r.1 = { t with dev := .bound } := by
    unfold jobBindBody at h
    obtain ⟨_, _, h⟩ := Chk.ran h
    obtain ⟨_, _, h⟩ := Chk.ran h
    obtain ⟨_, _, h⟩ := Chk.ran h
    cases role : Role.ofCode (a.arg 844 1) with
    | none => rw [role] at h; cases h
    | some p =>
      rw [role] at h
      obtain ⟨_, _, h⟩ := Chk.ran h
      cases h
      rfl
  rw [bound]
  exact .of_course rfl rfl rfl rfl id id
    (fun i => Top.onCourse_later (i.verified (by simp [dev])) (.inr (.inl rfl)) (i.later (by simp [dev])))

/-- JOB_RELEASE (R370, R376, R380). -/
theorem jobReleaseBody_runs (t : Top) (c : Core) (m : Nat) (a : Cmd) (r : Top × Core × Option Resp) (op : a.opcode = 0x0104)
    (legal : legalIn a t.dev = true) (h : jobReleaseBody t c m a = .ok r) : t.Runs r.1 := by
  have dev : t.dev = .bound := by
    cases is : t.dev <;> simp [legalIn, op, is] at legal
    rfl
  have drains : r.1 = { t with dev := .draining } := by
    unfold jobReleaseBody at h
    extract_lets t1 c1 opened c2 at h
    cases h
    obtain same | moved := releaseStep_top t1 c2
    · exact (congrArg (fun x : Top => { x with dev := .draining }) same :)
    · exact (congrArg (fun x : Top => { x with dev := .draining }) moved :)
  rw [drains]
  exact .of_course rfl rfl rfl rfl id id
    (fun i => Top.onCourse_later (i.verified (by simp [dev])) (.inr (.inr rfl)) (i.later (by simp [dev])))

/-- An image read for a CFG_LOAD (R388, R400). -/
theorem cfgLoaded_runs (m : Nat) (good : Bool) (bs : List Byte) (t : Top) (c : Core) : t.Runs (cfgLoaded m good bs t c).1 := by
  unfold cfgLoaded
  split
  · exact .refl t
  split
  · exact .refl t
  · exact .of_inv le_rfl rfl rfl (fun i => { i with })

/-- An image read for an FW_LOAD (R383, R400): the fused floor may rise. -/
theorem fwLoaded_runs (m : Nat) (good : Bool) (bs : List Byte) (t : Top) (c : Core) : t.Runs (fwLoaded m good bs t c).1 := by
  unfold fwLoaded
  split
  · exact .refl t
  split
  · exact .refl t
  split
  · exact .refl t
  extract_lets n t1 t2
  have stored : t.Runs t1 := Top.runs_ite _ (.of_inv le_rfl rfl rfl (fun i => { i with })) (.of_inv le_rfl rfl rfl (fun i => { i with }))
  exact stored.trans (Top.runs_ite _ (.of_inv (le_max_left _ _) rfl rfl (fun i => { i with })) (.refl t1))

theorem readDone_runs (req : Nat) (good : Bool) (data : List Byte) (t : Top) (c : Core) : t.Runs (readDone req good data t c).1 := by
  unfold readDone
  split
  · exact .refl t
  extract_lets ok bs c1
  split
  · exact .refl t
  · exact .refl t
  · exact .refl t
  · exact cfgLoaded_runs _ _ _ _ _
  · exact fwLoaded_runs _ _ _ _ _

theorem functionReset_runs (t : Top) (c : Core) : t.Runs (functionReset t c).1 := by
  have reads : ∀ (ks : List Nat) (s : Top × Core),
      s.1.Runs (ks.foldl (fun (s : Top × Core) k => readDone k false [] s.1 s.2) s).1 := fun ks => by
    induction ks with
    | nil => exact fun s => .refl s.1
    | cons k ks ih => exact fun s => (readDone_runs k false [] s.1 s.2).trans (ih _)
  exact reads _ (t, c)

theorem resetDevice_restarts (keepBar4 : Bool) (t : Top) (c : Core) : t.Restarts (resetDevice keepBar4 t c).1 := by
  obtain ⟨floor, time, absent, inv⟩ := t.restarts_restart
  exact ⟨floor, time, absent, { inv with }⟩

theorem perstAssert_steps (t : Top) (c : Core) : t.Steps (perstAssert t c).1 := by
  unfold perstAssert
  split
  · exact .refl t
  · obtain ⟨floor, time, absent, inv⟩ := resetDevice_restarts false t c
    exact .inr ⟨floor, time, absent, { inv with }⟩

theorem ppsEdge_runs (t : Top) (c : Core) : t.Runs (ppsEdge t c).1 := by
  unfold ppsEdge
  split
  · exact .refl t
  · exact timeChange_runs _ (TimeBlk.runs_ppsEdge _) _ _

theorem syncInterval_runs (t : Top) (c : Core) : t.Runs (syncInterval t c).1 := by
  unfold syncInterval
  extract_lets b p
  split
  · exact .refl t
  split
  · exact t.runs_time (.of_same le_rfl rfl rfl rfl rfl)
  · exact t.runs_time (.of_same le_rfl rfl rfl rfl rfl)

theorem syncResponse_runs (p : Nat) (m : TimeSync) (t : Top) (c : Core) : t.Runs (syncResponse p m t c).1 := by
  unfold syncResponse
  extract_lets b t4 there back trip off
  split
  · exact .refl t
  split
  · exact .refl t
  split
  · exact .refl t
  · refine timeChange_runs _ (fun b => ?_) _ _
    have valid : b.Runs { b with syncValidAt := b.now } := .of_same le_rfl rfl rfl rfl rfl
    exact (valid.trans (TimeBlk.runs_judge _ _)).trans (TimeBlk.runs_steer _ _)

theorem timeCorrection_runs (t : Top) (c : Core) : t.Runs (timeCorrection t c).1 := by
  unfold timeCorrection
  split
  · exact .refl t
  · extract_lets late t1 c1 ds c2
    have corrected : t.Runs t1 := t.runs_foldl _ (fun t d => t.runs_time (TimeBlk.runs_correctCopy _ _ _)) _
    exact corrected.trans (t1.runs_time (.of_same le_rfl rfl rfl rfl rfl))

theorem meshReceive_runs (l dir : Nat) (cls : MeshClass) (good : Bool) (t : Top) (c : Core) : t.Runs (meshReceive l dir cls good t c).1 := by
  unfold meshReceive
  split
  · exact .refl t
  extract_lets put y c1
  split
  · exact .refl t
  split
  · exact .refl t
  split
  · unfold meshArrive
    split
    · exact t.runs_time (TimeBlk.runs_correctCopy _ _ _)
    · exact .refl t
  · exact .refl t

/-! #### Register writes -/

theorem writeTime_runs (w : RegWrite) (off : Nat) (v : Word) (t : Top) (c : Core) : t.Runs (writeTime w off v t c).1 := by
  unfold writeTime
  split
  · exact t.runs_stepTime _
  · exact t.runs_time (.of_same le_rfl rfl rfl rfl rfl)
  · exact timeChange_runs _ (fun b => (b.runs_setControl _ : _)) _ _
  · split
    · exact t.runs_time (.of_same le_rfl rfl rfl rfl rfl)
    · exact .refl t
  · exact .refl t

/-- A register of the TOP block: only RESET changes the device's own state, and that is a restart (R355, R378). -/
theorem writeTop_steps (w : RegWrite) (off : Nat) (v : Word) (t : Top) (c : Core) :
    (writeTop w off v t c).1 = t ∨ (off = 0x0C ∧ t.Restarts (writeTop w off v t c).1) := by
  unfold writeTop
  extract_lets h rw
  split
  · split
    · exact .inr ⟨rfl, resetDevice_restarts true t c⟩
    · exact .inl rfl
  all_goals exact .inl rfl

theorem writeTime_secFloor (w : RegWrite) (off : Nat) (v : Word) (t : Top) (c : Core) : (writeTime w off v t c).1.secFloor = t.secFloor := by
  unfold writeTime
  split
  · unfold Top.stepTime
    dsimp only
    split <;> rfl
  · rfl
  · rfl
  · split <;> rfl
  · rfl

theorem blockAt_top {a off : Nat} (h : blockAt a = some (.top, off)) : off = a := by
  unfold blockAt at h
  by_cases low : a < 0x06000000
  · grind
  · grind

/-- A word written: only one that lies at RESET's place in its block is a restart (R348, R354, R355). -/
theorem writeReg_steps (a : Nat) (v : Word) (t : Top) (c : Core) :
    (t.Runs (writeReg a v t c).1 ∧ (writeReg a v t c).1.secFloor = t.secFloor) ∨ (a % 8 = 4 ∧ t.Restarts (writeReg a v t c).1) := by
  have same : t.Runs t ∧ t.secFloor = t.secFloor := ⟨.refl t, rfl⟩
  unfold writeReg
  split
  · exact .inl same
  next b off at_ =>
  extract_lets page r w
  split
  · exact .inl same
  split
  · exact .inl same
  split
  · split
    · obtain kept | ⟨reset, restart⟩ := writeTop_steps w r v t c
      · rw [kept]; exact .inl same
      · refine .inr ⟨?_, restart⟩
        have here : off = a := blockAt_top at_
        omega
    · exact .inl same
  · exact .inl ⟨writeTime_runs w r v t c, writeTime_secFloor w r v t c⟩
  · exact .inl same
  · exact .inl same

theorem writeBar0_steps (a size : Nat) (v : BitVec 64) (t : Top) (c : Core) : t.Steps (writeBar0 a size v t c).1 := by
  have word : ∀ (a : Nat) (v : Word) (t : Top) (c : Core), t.Steps (writeReg a v t c).1 := fun a v t c =>
    (writeReg_steps a v t c).imp And.left And.right
  unfold writeBar0
  split
  · exact word _ _ _ _
  split
  · next pair =>
    obtain ⟨run, fuse⟩ | ⟨odd, _⟩ := writeReg_steps a (v.setWidth 32) t c
    · exact run.trans_steps (word _ _ _ _) fuse
    · simp only [Bool.and_eq_true, decide_eq_true_eq] at pair
      omega
  split
  · exact .refl t
  · exact .refl t

theorem writeAny_steps (bar a size : Nat) (v : BitVec 64) (t : Top) (c : Core) : t.Steps (writeAny bar a size v t c).1 := by
  unfold writeAny
  split
  · exact writeBar0_steps _ _ _ _ _
  all_goals exact .refl t

theorem aliasWrite_steps (w : RegWrite) (a : Nat) (v : Word) (t : Top) (c : Core) : t.Steps (aliasWrite w a v t c).1 := by
  unfold aliasWrite
  split
  · exact writeBar0_steps _ _ _ _ _
  · exact .refl t

theorem Top.Steps.of_same {a b : Top} (h : b = a) : a.Steps b := h ▸ .refl a

theorem State.powerUp_steps (s : State) : s.top.Steps s.powerUp.top := by
  unfold State.powerUp
  split
  · exact .inr s.top.restarts_restart
  · exact .refl _

theorem State.powerLost_steps (s : State) : s.top.Steps s.powerLost.top :=
  .inr ⟨rfl, rfl, rfl, by constructor <;> simp [State.powerLost, Top.restart]⟩

theorem thermtrip_runs (d : Nat) (t : Top) (c : Core) : t.Runs (thermtrip d t c).1 := by
  unfold thermtrip
  split
  · exact .refl t
  · exact .of_inv le_rfl rfl rfl (fun i => { i with })

/-- What a command does to the device's own state. -/
theorem exec_steps (i : Instr) (s t : State) (h : exec i s = .next t) : s.top.Steps t.top := by
  cases i
  case jobBind m => cases h; exact runTop_steps m _ rfl _ jobBindBody_runs s
  case jobRelease m => cases h; exact runTop_steps m _ rfl _ jobReleaseBody_runs s
  case commandComplete m =>
    cases h
    refine s.onBoth_runs _ (fun t c => ?_)
    dsimp only
    split
    · exact releaseStep_runs t c
    · exact .refl t
  case deviceReset v =>
    cases h
    refine s.onBoth_steps _ (fun t c => ?_)
    split
    · exact .inr (resetDevice_restarts true t c)
    · exact .refl t
  case bootRomDone passed => cases h; exact s.onBoth_runs _ (bootRomDone_runs passed)
  case firmwareVerify => cases h; exact s.onBoth_runs _ firmwareVerify_runs
  case configApply => cases h; exact s.onBoth_runs _ configApply_runs
  case trainingDone trained devices => cases h; exact s.onBoth_runs _ (trainingDone_runs trained devices)
  case startupSelftestDone failed links repaired => cases h; exact s.onBoth_runs _ (startupDone_runs failed links repaired)
  case selftestSliceEnd die pass repaired => cases h; exact s.onBoth_runs _ (sliceEnd_runs die pass repaired)
  case timeStep v => cases h; exact s.onBoth_runs _ (fun t _ => t.runs_stepTime v)
  case timeControlWrite v => cases h; exact s.onBoth_runs _ (timeChange_runs _ (TimeBlk.runs_setControl v))
  case ppsEdge => cases h; exact s.onBoth_runs _ ppsEdge_runs
  case ppsHoldover => cases h; exact s.onBoth_runs _ (timeChange_runs _ TimeBlk.runs_ppsLost)
  case ppsOutRise => cases h; exact s.onBoth_runs _ (timeChange_runs _ TimeBlk.runs_ppsRise)
  case ppsOutFall => cases h; exact s.onBoth_runs _ (timeChange_runs _ TimeBlk.runs_ppsFall)
  case syncInterval => cases h; exact s.onBoth_runs _ syncInterval_runs
  case syncLost => cases h; exact s.onBoth_runs _ (timeChange_runs _ TimeBlk.runs_syncGone)
  case timeLocked => cases h; exact s.onBoth_runs _ (timeChange_runs _ TimeBlk.runs_lock)
  case timeCorrection => cases h; exact s.onBoth_runs _ timeCorrection_runs
  case timeSyncResponse port msg =>
    cases h
    refine s.onBoth_runs _ (fun t c => ?_)
    split
    · exact syncResponse_runs port msg t c
    · exact .refl t
  case aliasSet addr v => cases h; exact s.onBoth_steps _ (aliasWrite_steps _ addr v)
  case aliasClear addr v => cases h; exact s.onBoth_steps _ (aliasWrite_steps _ addr v)
  case aliasInvert addr v => cases h; exact s.onBoth_steps _ (aliasWrite_steps _ addr v)
  case registerWrite bar addr size v => cases h; exact s.onBoth_steps _ (writeAny_steps bar addr size v)
  case meshTransferReceive link dir cls good => cases h; exact s.onBoth_runs _ (meshReceive_runs link dir cls good)
  case powerGood => cases h; exact s.powerUp_steps
  case powerLost => cases h; exact s.powerLost_steps
  case perstAssert =>
    cases h
    dsimp only
    split
    · exact s.onBoth_steps _ perstAssert_steps
    · exact .inl (.of_inv le_rfl rfl rfl (fun i => { i with }))
  case perstRelease => cases h; exact .inl (.of_inv le_rfl rfl rfl (fun i => { i with }))
  case pcieFunctionReset => cases h; exact s.onBoth_runs _ functionReset_runs
  case pcieReadCompletion req good data => cases h; exact s.onBoth_runs _ (readDone_runs req good data)
  case txRefclkLoss => cases h; exact s.onBoth_runs _ (fun t _ => .of_inv le_rfl rfl rfl (fun i => { i with }))
  case txRefclkReturn => cases h; exact s.onBoth_runs _ (fun t _ => .of_inv le_rfl rfl rfl (fun i => { i with }))
  case jtagInstruction ins => cases h; exact s.onBoth_runs _ (fun t _ => .of_inv le_rfl rfl rfl (fun i => { i with }))
  case cxlSurpriseRemoval device =>
    cases h
    refine s.onBoth_runs _ (fun t _ => ?_)
    dsimp only
    split
    · exact .of_inv le_rfl rfl rfl (fun i => { i with })
    · exact .refl t
  case thermtrip die => cases h; exact s.onBoth_runs _ (thermtrip_runs die)
  case unknownOpcode m =>
    cases h
    refine .of_same ?_
    split
    · split
      · exact runCommand_top _ _ _ s
      · rfl
    · rfl
  case searchQuery c =>
    cases h
    refine .of_same ?_
    split
    · split
      · rfl
      · exact onMsg_top _ _ _ _ s
    · rfl
  all_goals
    cases h
    exact .of_same (by simp)

/-- One nanosecond with nothing waiting (R28). -/
theorem clock_steps (s : State) : s.top.Steps (clock s).top := by
  unfold clock idleTick
  rw [State.onCore_top]
  split
  · exact .inl (s.top.runs_onTime _ (TimeBlk.runs_tick _))
  · exact .refl _

/-- What a step does to the device's own state: start-up stays on its course and package time goes forward, but at a restart. -/
theorem step_steps (s t : State) (h : step s = .next t) : s.top.Steps t.top := by
  unfold step at h
  split at h
  · cases h; exact clock_steps s
  · next i rest _ => exact exec_steps i { s with pending := rest } t h

/-! #### The obligations -/

/-- Settles O5: of each row, either start-up and time go on as they were, or everything begins again as after reset. -/
theorem stepKeepsStartUpAndTimeInvariant : Obligations.StepKeepsStartUpAndTimeInvariant := by
  intro s t inv h
  obtain run | restart := step_steps s t h
  · exact run.inv inv
  · exact restart.inv

/-- Settles O6, by evaluation. -/
theorem resetMeetsStartUpAndTimeInvariant : Obligations.ResetMeetsStartUpAndTimeInvariant := by
  constructor <;> decide

/-- Settles O7: only a restart takes package time and the dies out of service back. -/
theorem timeFloorAndFailedDiesAreMonotone : Obligations.TimeFloorAndFailedDiesAreMonotone := by
  intro s t h
  obtain run | restart := step_steps s t h
  · exact ⟨run.floor, .inr ⟨run.now, run.absent⟩⟩
  · exact ⟨restart.floor.ge, .inl ⟨restart.time, restart.absent⟩⟩

end Sys2Proof.Machine
end

/-! ### Package time, its sources and the PPS pins (R28 to R37), and what reporting leaves alone -/

section
namespace Sys2Proof.Machine

/-! #### What reporting leaves alone: everything of telemetry but its counters, queues and watermarks -/

/-- Telemetry without its counters, queues and watermarks. -/
def Telem.still (x : Telem) : Telem := { x with ctrs := [], queues := [], wms := [] }

/-- Nothing of telemetry but its counters, queues and watermarks has changed, and nothing that was put out has gone. -/
structure Core.Quiet (a b : Core) : Prop where
  telem : b.telem.still = a.telem.still
  out : a.out ⊆ b.out

theorem Core.Quiet.refl (c : Core) : c.Quiet c := ⟨rfl, List.Subset.refl _⟩
theorem Core.Quiet.trans {a b c : Core} (h : a.Quiet b) (k : b.Quiet c) : a.Quiet c := ⟨k.telem.trans h.telem, List.Subset.trans h.out k.out⟩
theorem Core.Quiet.of_same {a b : Core} (telem : b.telem = a.telem) (out : b.out = a.out) : a.Quiet b :=
  ⟨congrArg Telem.still telem, out ▸ List.Subset.refl _⟩

section
variable {a b : Core} (h : a.Quiet b)
include h
theorem Core.Quiet.mesh : b.telem.mesh = a.telem.mesh := (congrArg Telem.mesh h.telem :)
theorem Core.Quiet.nextTransfer : b.telem.nextTransfer = a.telem.nextTransfer := (congrArg Telem.nextTransfer h.telem :)
theorem Core.Quiet.tests : b.telem.tests = a.telem.tests := (congrArg Telem.tests h.telem :)
theorem Core.Quiet.life : b.telem.life = a.telem.life := (congrArg Telem.life h.telem :)
theorem Core.Quiet.lifeLoaded : b.telem.lifeLoaded = a.telem.lifeLoaded := (congrArg Telem.lifeLoaded h.telem :)
end

theorem Core.quiet_foldl {α : Type} (f : Core → α → Core) (h : ∀ (c : Core) (x : α), c.Quiet (f c x)) (xs : List α) (c : Core) :
    c.Quiet (xs.foldl f c) :=
  List.foldlRecOn xs f (.refl c) fun b run x _ => run.trans (h b x)

theorem Core.quiet_emit (x : Out) (c : Core) : c.Quiet (c.emit x) := ⟨rfl, List.subset_append_left _ _⟩

theorem Core.quiet_bump (k : Ctr) (n : Nat) (c : Core) : c.Quiet (c.bump k n) := by
  unfold Core.bump
  split
  · exact .refl c
  · exact ⟨rfl, List.Subset.refl _⟩

theorem Core.quiet_setWm (id : Nat) (w : Wm) (c : Core) : c.Quiet (c.setWm id w) := ⟨rfl, List.Subset.refl _⟩

theorem Core.quiet_msix (v : Nat) (c : Core) : c.Quiet (c.msix v) := by
  unfold Core.msix
  split
  · exact c.quiet_emit _
  · exact .refl c

theorem Core.quiet_evWrite (t : Top) (code src subject : Nat) (detail : List Byte) (c : Core) :
    c.Quiet (c.evWrite t code src subject detail) := by
  unfold Core.evWrite
  split
  · exact .refl c
  extract_lets cls c1 h rec_ c2 tail c3
  have counted : c.Quiet c1 := c.quiet_bump _ _
  split
  · exact counted.trans (c1.quiet_bump _ _)
  split
  · exact counted.trans ((c1.quiet_bump _ _).trans (.of_same rfl rfl))
  have written : c1.Quiet c3 := (c1.quiet_emit _).trans (.of_same rfl rfl)
  split
  · exact (counted.trans written).trans (c3.quiet_msix _)
  · exact counted.trans written

theorem Core.quiet_wmStep (id : Nat) (up : Bool) (thr clr v : Nat) (c : Core) : c.Quiet (c.wmStep id up thr clr v).1 := by
  unfold Core.wmStep
  dsimp only
  split
  · exact (c.quiet_setWm _ _).trans (Core.quiet_bump _ _ _)
  · exact c.quiet_setWm _ _

theorem Core.quiet_evqWatch (t : Top) (c : Core) : c.Quiet (c.evqWatch t) := by
  unfold Core.evqWatch
  dsimp only
  split
  · exact ((Core.quiet_wmStep _ _ _ _ _ _).trans (Core.quiet_evWrite _ _ _ _ _ _)).trans (Core.quiet_setWm _ _ _)
  · exact Core.quiet_wmStep _ _ _ _ _ _

theorem Core.quiet_raise (t : Top) (code src subject : Nat) (detail : List Byte) (c : Core) : c.Quiet (c.raise t code src subject detail) :=
  (Core.quiet_evWrite _ _ _ _ _ _).trans (Core.quiet_evqWatch _ _)

theorem Core.quiet_watch (t : Top) (id : Nat) (up : Bool) (dflt : Nat × Nat) (v src : Nat) (c : Core) :
    c.Quiet (c.watch t id up dflt v src) := by
  unfold Core.watch
  dsimp only
  split
  · exact (Core.quiet_wmStep _ _ _ _ _ _).trans (Core.quiet_raise _ _ _ _ _ _)
  · exact Core.quiet_wmStep _ _ _ _ _ _

theorem Core.quiet_putQueue (t : Top) (id inst : Nat) (es : List QEntry) (c : Core) : c.Quiet (c.putQueue t id inst es) := by
  unfold Core.putQueue
  extract_lets es since starved c1 q
  have starves : c.Quiet c1 := by
    unfold c1
    split
    · exact .refl c
    · exact c.quiet_bump _ _
  have stored : c1.Quiet (c1.onTelem fun x => { x with queues := x.queues.set (qKey id inst) q }) := ⟨rfl, List.Subset.refl _⟩
  exact (starves.trans stored).trans (Core.quiet_watch _ _ _ _ _ _ _)

theorem Core.quiet_qSend (t : Top) (id inst prod n : Nat) (w : Work) (c : Core) : c.Quiet (c.qSend t id inst prod n w) := by
  unfold Core.qSend
  split
  · exact .refl c
  · exact Core.quiet_putQueue _ _ _ _ _

theorem Core.quiet_qRefill (t : Top) (id inst : Nat) (c : Core) : c.Quiet (c.qRefill t id inst) := by
  refine Core.quiet_foldl _ (fun c e => ?_) _ _
  split
  · exact .refl c
  dsimp only
  split
  · exact .refl c
  · exact Core.quiet_putQueue _ _ _ _ _

theorem Core.quiet_qEnd (t : Top) (id inst : Nat) (p : Work → Bool) (c : Core) : c.Quiet (c.qEnd t id inst p) := by
  unfold Core.qEnd
  split
  · exact (Core.quiet_putQueue _ _ _ _ _).trans (Core.quiet_qRefill _ _ _ _)
  · exact .refl c

theorem Core.quiet_qEndAll (t : Top) (ids : Nat → Bool) (p : Work → Bool) (c : Core) : c.Quiet (c.qEndAll t ids p) :=
  Core.quiet_foldl _ (fun c _ => c.quiet_qEnd _ _ _ _) _ _

theorem Core.sameWork_timeEvent (t : Top) (old new : TimeBlk) (c : Core) : c.SameWork (c.timeEvent t old new) := by
  unfold Core.timeEvent
  split
  · exact .refl c
  · exact Core.sameWork_raise _ _ _ _ _ _

/-- Settles O8: each register by evaluation, and every mailbox and block by the tables being empty. -/
theorem registersReadTheirResetValues : Obligations.RegistersReadTheirResetValues := by
  have here : ∀ d, State.reset.top.gone d = false := fun d => BitVec.getLsbD_zero
  have running : ∀ d, State.reset.core.fenced d = false := fun d => rfl
  refine ⟨rfl, rfl, rfl, by decide +kernel, by decide +kernel, fun m => ⟨rfl, rfl⟩, fun b => ?_⟩
  show 0 + b2n false + 8 * b2n ((b.die.map State.reset.core.fenced).getD false) + 16 * b2n ((b.die.map State.reset.top.gone).getD false) = 0
  cases b.die <;> simp [here, running, b2n]

theorem execTimeStep_live (v : Word) {s : State} (live : s.top.live = true) :
    exec (.timeStep v) s = .next { s with top := s.top.stepTime v } :=
  congrArg Host.Outcome.next (s.onBoth_live _ live)

/-- Settles O16. -/
theorem timeStepIsForwardAndOnlyBeforeBinding : Obligations.TimeStepIsForwardAndOnlyBeforeBinding := by
  intro v s live new may
  have mayStep : s.top.mayStep new = true ↔ may ∧ s.top.time.now < new := by
    simp only [Top.mayStep, Bool.and_eq_true, Bool.or_eq_true, decide_eq_true_eq, or_assoc]
    rfl
  have accepted : (s.top.onTime (fun b => { b with stepLo := v })).mayStep new = s.top.mayStep new := rfl
  rw [execTimeStep_live v live]
  constructor
  · intro early forward
    refine ⟨v, s.top.time.stepSum + (new - s.top.time.now), ?_⟩
    unfold Top.stepTime
    dsimp only
    rw [if_pos (accepted.trans (mayStep.2 ⟨early, forward⟩))]
    rfl
  · intro refused
    refine ⟨v, ?_⟩
    unfold Top.stepTime
    dsimp only
    rw [if_neg (fun h => ?_)]
    · rfl
    · obtain ⟨early, forward⟩ := mayStep.1 (accepted.symm.trans h)
      exact refused.elim (· early) (by omega)

/-- A change of the TIME block while the device has power and clocks. -/
theorem onTimeBlk_live (f : TimeBlk → TimeBlk) {s : State} (live : s.top.live = true) :
    onTimeBlk f s = { s with top := s.top.onTime f, core := s.core.timeEvent (s.top.onTime f) s.top.time (f s.top.time) } :=
  s.onBoth_live _ live

/-- A new SOURCE while LOCKED clears LOCKED and HOLDOVER (R37); the same one leaves both. -/
theorem TimeBlk.setControl_lock (b : TimeBlk) (v : Word) :
    ((b.setControl v).source ≠ b.source → b.locked = true → (b.setControl v).locked = false ∧ (b.setControl v).holdover = false) ∧
    ((b.setControl v).source = b.source → (b.setControl v).locked = b.locked ∧ (b.setControl v).holdover = b.holdover) := by
  unfold TimeBlk.setControl
  extract_lets v' w b'
  by_cases same : b'.source = b.source
  · rw [if_pos same]
    exact ⟨fun other => absurd same other, fun _ => ⟨rfl, rfl⟩⟩
  · rw [if_neg same]
    by_cases locked : b.locked = true
    · rw [if_pos locked]
      exact ⟨fun _ _ => ⟨rfl, rfl⟩, fun other => absurd other same⟩
    · rw [if_neg locked]
      exact ⟨fun _ was => absurd was locked, fun _ => ⟨rfl, rfl⟩⟩

/-- Settles O17. -/
theorem timeControlTakesItsFields : Obligations.TimeControlTakesItsFields := by
  intro v s live
  obtain ⟨now, rate, _, _⟩ := s.top.time.setControl_fields v
  obtain ⟨changed, kept⟩ := s.top.time.setControl_lock v
  have work := s.core.sameWork_timeEvent (s.top.onTime fun b => b.setControl v) s.top.time (s.top.time.setControl v)
  exact ⟨_, congrArg Host.Outcome.next (onTimeBlk_live _ live), s.top.time.control_setControl v, now, rate, changed, kept,
    work.mboxes, work.tiers, rfl⟩

/-! #### The PPS pins (R33, R34, R434) -/

/-- An edge rejected: only its flag is set. -/
theorem TimeBlk.ppsEdge_far {b : TimeBlk} {v : Nat} (held : b.holdover = false) (far : ppsError v < -1000000 ∨ 1000000 < ppsError v) :
    b.ppsEdge v = { b with ppsReject := true } := by
  simp [TimeBlk.ppsEdge, held, far]

/-- An edge captured: holdover ends, and package time goes on. -/
theorem TimeBlk.ppsEdge_taken {b : TimeBlk} {v : Nat} (taken : b.holdover = true ∨ ¬ (ppsError v < -1000000 ∨ 1000000 < ppsError v)) :
    (b.ppsEdge v).ppsCapture = v ∧ (b.ppsEdge v).lastPps = some b.now ∧ (b.ppsEdge v).holdover = false ∧ (b.ppsEdge v).now = b.now ∧
      (b.ppsEdge v).ppsReject = b.ppsReject := by
  have go : ¬ (!b.holdover && (ppsError v < -1000000 || 1000000 < ppsError v)) = true := by
    obtain held | near := taken
    · simp [held]
    · simp [not_or.1 near]
  unfold TimeBlk.ppsEdge
  rw [if_neg go]
  unfold TimeBlk.steer TimeBlk.judge
  dsimp only
  split <;> split <;> exact ⟨rfl, rfl, rfl, rfl, rfl⟩

/-- No event where LOCKED, HOLDOVER and SYNC_LOST stay (R408). -/
theorem Core.timeEvent_quiet (t : Top) {old new : TimeBlk} (c : Core) (locked : new.locked = old.locked) (holdover : new.holdover = old.holdover)
    (syncLost : new.syncLost = old.syncLost) : c.timeEvent t old new = c := by
  simp [Core.timeEvent, locked, holdover, syncLost]

section
variable {t : Top} (source : t.time.source = 1) (c : Core)
include source

/-- An edge too far from a whole second is rejected and counted (R33), whichever whole number of ns the path's delay counts for (R434). -/
theorem ppsEdge_rejects (held : t.time.holdover = false)
    (far : ∀ k, k = 2 ∨ k = 3 → ppsError (t.now - k) < -1000000 ∨ 1000000 < ppsError (t.now - k)) :
    ppsEdge t c = ({ t with time := { t.time with ppsReject := true } }, ({ c with nonce := c.nonce + 1 } : Core).bump (.dev 3)) := by
  have out := far (2 + c.pick.1 % 2) (by omega)
  have block := TimeBlk.ppsEdge_far held out
  have rejected : (!t.time.holdover &&
      (ppsError (t.now - (2 + c.pick.1 % 2)) < -1000000 || 1000000 < ppsError (t.now - (2 + c.pick.1 % 2)))) = true := by
    simp [held, out]
  unfold ppsEdge timeChange Top.onTime
  rw [if_neg (by simp [source])]
  dsimp only
  rw [if_pos rejected, block, Core.timeEvent_quiet (old := t.time) (new := { t.time with ppsReject := true }) _ _ rfl rfl rfl]
  rfl

/-- Another is captured. -/
theorem ppsEdge_captures (taken : t.time.holdover = true ∨
      ∀ k, k = 2 ∨ k = 3 → ¬ (ppsError (t.now - k) < -1000000 ∨ 1000000 < ppsError (t.now - k))) :
    ∃ k, (k = 2 ∨ k = 3) ∧ (ppsEdge t c).1 = t.onTime (TimeBlk.ppsEdge (t.now - k)) ∧
      (t.time.holdover = true ∨ ¬ (ppsError (t.now - k) < -1000000 ∨ 1000000 < ppsError (t.now - k))) ∧
      ({ c with nonce := c.nonce + 1 } : Core).SameWork (ppsEdge t c).2 := by
  have k : 2 + c.pick.1 % 2 = 2 ∨ 2 + c.pick.1 % 2 = 3 := by omega
  refine ⟨2 + c.pick.1 % 2, k, ?_, taken.imp_right (fun near => near _ k), ?_⟩
  · simp [ppsEdge, source, timeChange]
  · unfold ppsEdge
    rw [if_neg (by simp [source])]
    refine Core.SameWork.trans ?_ (Core.sameWork_timeEvent _ _ _ _)
    split
    · exact Core.sameWork_bump _ _ _
    · exact .refl _
end

/-- Settles O18. -/
theorem ppsPinsFollowWholeSeconds : Obligations.PpsPinsFollowWholeSeconds := by
  intro s live b far
  have run : exec .ppsEdge s = .next { s with top := (ppsEdge s.top s.core).1, core := (ppsEdge s.top s.core).2 } :=
    congrArg Host.Outcome.next (s.onBoth_live _ live)
  have change : ∀ f : TimeBlk → TimeBlk, ∃ t, Host.Outcome.next (onTimeBlk f s) = (.next t : Host.Outcome State Fault Refusal) ∧
      t.top.time = f b := fun f => ⟨_, congrArg Host.Outcome.next (onTimeBlk_live f live), rfl⟩
  refine ⟨?_, ?_, ?_, ?_, ?_⟩
  · intro source held far2 far3
    have edge := ppsEdge_rejects source s.core held (by rintro k (rfl | rfl); exacts [far2, far3])
    rw [edge] at run
    exact ⟨_, run, rfl, Core.ctr_bump_self _ _, (Core.sameWork_bump _ _ _).ports⟩
  · intro source taken
    obtain ⟨k, at_, top, near, work⟩ := ppsEdge_captures source s.core
      (taken.imp_right (by rintro ⟨near2, near3⟩ k (rfl | rfl); exacts [near2, near3]))
    obtain ⟨capture, last, holdover, now, reject⟩ := TimeBlk.ppsEdge_taken near
    refine ⟨_, run, ?_⟩
    simp only [top, Top.onTime]
    exact ⟨by obtain rfl | rfl := at_; exacts [.inl capture, .inr capture], last, holdover, now, reject, work.ports, work.ctxs⟩
  · intro e source held last due
    obtain ⟨t, row, block⟩ := change TimeBlk.ppsLost
    exact ⟨t, row, block.trans (by simp [TimeBlk.ppsLost, source, held, last, due])⟩
  · intro enabled low due
    obtain ⟨t, row, block⟩ := change TimeBlk.ppsRise
    exact ⟨t, row, block.trans (by simp [TimeBlk.ppsRise, enabled, low, due])⟩
  · intro high due
    obtain ⟨t, row, block⟩ := change TimeBlk.ppsFall
    exact ⟨t, row, block.trans (by simp [TimeBlk.ppsFall, high, due])⟩

/-! #### TIME_SYNC over the fabric (R35, R36) -/

/-- A due request goes out, and the TIME block counts it (R35). -/
theorem syncInterval_due {t : Top} {c : Core} (source : t.time.source = 2) (due : t.time.syncSentAt + t.time.syncNs ≤ t.time.now)
    (up : c.syncPortUp t t.time.syncPort = true) :
    (syncInterval t c).1 = t.onTime (fun b => { b with syncSentAt := b.now, syncSeq := b.syncSeq + 1, syncAsked := true }) := by
  unfold syncInterval
  extract_lets b p
  have go : ¬ (b.source ≠ 2 || t.now < b.syncSentAt + b.syncNs) = true := by simpa using ⟨source, due⟩
  rw [if_neg go, if_neg (by simpa [p] using up)]

section
variable {p : Nat} {q : TimeSync} {t : Top} {c : Core}

/-- A response to no request, or to an earlier one, is counted and discarded (R35). -/
theorem syncResponse_unasked (h : t.time.syncAsked = false ∨ q.seq ≠ t.time.syncSeq) : syncResponse p q t c = (t, c.bump (.dev 4)) := by
  unfold syncResponse
  rw [if_pos]
  simpa using h

variable (asked : t.time.syncAsked = true) (seq : q.seq = t.time.syncSeq) (source : t.time.source = 2)
include asked seq source

/-- One whose round trip is too long is discarded (R35). -/
theorem syncResponse_slow (slow : 2000 < wrap64 (((t.dieTime (portDie p) : Int) - q.t1) - ((q.t3 : Int) - q.t2))) :
    syncResponse p q t c = (t, c) := by
  unfold syncResponse
  extract_lets b t4 there back trip off
  rw [if_neg (by simp [b, asked, seq]), if_neg (not_not.2 source), if_pos slow]

/-- Another steers package time (R31, R35). -/
theorem syncResponse_steers {off : Int}
    (trip : wrap64 (((t.dieTime (portDie p) : Int) - q.t1) - ((q.t3 : Int) - q.t2)) ≤ 2000)
    (h : off = (wrap64 (((q.t2 : Int) - q.t1) - ((t.dieTime (portDie p) : Int) - q.t3))).tdiv 2) :
    syncResponse p q t c = timeChange (fun b => (({ b with syncValidAt := b.now } : TimeBlk).judge off).steer off) t c := by
  subst h
  unfold syncResponse
  extract_lets b t4 there back trip' off
  rw [if_neg (by simp [b, asked, seq]), if_neg (not_not.2 source), if_neg (not_lt.2 trip)]
end

/-- What a measurement does to OFFSET, to the run of good ones and to LOCKED (R33, R35, R37). -/
theorem TimeBlk.measured (b : TimeBlk) (off : Int) :
    ((b.judge off).steer off).offset = max (-2147483648) (min 2147483647 off) ∧ ((b.judge off).steer off).syncValidAt = b.syncValidAt ∧
    ((b.judge off).steer off).goodRun = (if -20 ≤ off ∧ off ≤ 20 then b.goodRun + 1 else 0) ∧
    ((b.judge off).steer off).locked = (b.locked && decide (-100 ≤ off) && decide (off ≤ 100)) ∧
    ((b.judge off).steer off).now = b.now := by
  have steered : ∀ b : TimeBlk, (b.steer off).offset = max (-2147483648) (min 2147483647 off) ∧ (b.steer off).syncValidAt = b.syncValidAt ∧
      (b.steer off).goodRun = b.goodRun ∧ (b.steer off).locked = b.locked ∧ (b.steer off).now = b.now := fun b => by
    unfold TimeBlk.steer
    dsimp only
    split <;> exact ⟨rfl, rfl, rfl, rfl, rfl⟩
  obtain ⟨offset, valid, run, locked, now⟩ := steered (b.judge off)
  rw [offset, valid, run, locked, now]
  by_cases far : off < -100 ∨ 100 < off
  · have judged : b.judge off = { b with goodRun := if -20 ≤ off && off ≤ 20 then b.goodRun + 1 else 0, locked := false } := by
      simp [TimeBlk.judge, far]
    rw [judged]
    refine ⟨rfl, rfl, by simp, ?_, rfl⟩
    obtain low | high := far
    · simp [not_le.2 low]
    · simp [not_le.2 high]
  · have judged : b.judge off = { b with goodRun := if -20 ≤ off && off ≤ 20 then b.goodRun + 1 else 0 } := by
      simp [TimeBlk.judge, far]
    rw [judged]
    rw [not_or, not_lt, not_lt] at far
    exact ⟨rfl, rfl, by simp, by simp [far], rfl⟩

/-! #### A message on a port (R36, R334) -/

theorem Core.port_updPort_self {p : Nat} (hp : p < 8) (f : Port → Port) (c : Core) : (c.updPort p f).port p = f (c.port p) := by
  simp [Core.updPort, hp, Core.port, Tbl.getD]

/-- A field of every port that a change of one keeps. -/
theorem Core.express_updPort (p q : Nat) (f : Port → Port) (h : ∀ x : Port, (f x).express = x.express) (c : Core) :
    ((c.updPort p f).port q).express = (c.port q).express := by
  unfold Core.updPort
  split
  · by_cases same : q = p
    · simp [same, Core.port, Tbl.getD, h]
    · simp [Core.port, Tbl.getD, Tbl.get?_set_other _ _ _ _ same]
  · rfl

theorem Core.express_of_ports {a b : Core} (h : b.ports = a.ports) (q : Nat) : (b.port q).express = (a.port q).express := by
  rw [Core.port, h, Core.port]

/-- Slots taken from a port's frames in the air (R278, R286). -/
theorem Core.ports_cutIn (p k m : Nat) (c : Core) : (c.cutIn p k m).ports = (c.updPort p (Port.take k m)).ports := by
  have shown : ∀ (x : Port) (es : List Bool) (c : Core), (es.foldl (fun c e => match x.air e with
      | some a => if k + m < a.after then c.emit (.restriped p e a.seq.toNat (a.wire x e)) else c
      | none => c) c).ports = c.ports := fun x es => by
    induction es with
    | nil => exact fun c => rfl
    | cons e es ih =>
      intro c
      rw [List.foldl_cons, ih]
      split
      · split <;> rfl
      · rfl
  exact shown _ _ _

theorem Core.express_fly (p : Nat) (express : Bool) (a : Air) (now q : Nat) (c : Core) :
    ((c.fly p express a now).1.port q).express = (c.port q).express := by
  unfold Core.fly
  extract_lets n k a' c1 c2
  have flown : (c2.port q).express = (c1.port q).express := Core.express_updPort p q _ (fun x => by dsimp only; split <;> rfl) c1
  have cut : (c1.port q).express = ((c.updPort p (Port.take k n)).port q).express := Core.express_of_ports (c.ports_cutIn p k n) q
  exact (flown.trans cut).trans (Core.express_updPort p q (Port.take k n) (fun _ => rfl) c)

theorem Core.ports_counted (p : Prop) [Decidable p] (k : Ctr) (n : Nat) (c : Core) : (if p then c.bump k n else c).ports = c.ports := by
  split
  · exact (c.sameWork_bump k n).ports
  · rfl

theorem Core.express_occupy (t : Top) (p : Nat) (express : Bool) (k : Nat) (a : Air) (q : Nat) (c : Core) :
    ((c.occupy t p express k a).1.port q).express = (c.port q).express := by
  unfold Core.occupy
  dsimp only
  split
  · refine Eq.trans (Core.express_of_ports ?_ q) (c.express_fly p express a t.now q)
    rw [Core.ports_counted, Core.ports_counted]
  · exact (Core.express_updPort p q (fun x => { x with normalQueue := k }) (fun _ => rfl) _).trans (c.express_fly p express a t.now q)

/-- A frame that is put on the fibre takes no sequence (R278, R281). -/
theorem Core.express_sendFrame (t : Top) (p : Nat) (express : Bool) (f : TxFrame) (q : Nat) (c : Core) :
    ((c.sendFrame t p express f).port q).express = (c.port q).express := by
  unfold Core.sendFrame
  extract_lets c1 c2
  have sent : c.SameWork c2 := (c.sameWork_bump _ _).trans (Core.sameWork_qSend _ _ _ _ _ _ _)
  exact (c2.express_occupy _ _ _ _ _ q).trans (Core.express_of_ports sent.ports q)

/-- A TIME_SYNC message takes one express sequence of its port (R36, R281). -/
theorem Core.sendSync_next {t : Top} {p : Nat} (hp : p < 8) (dst cls : Nat) {body : List Byte} (len : body.length = 32) {c : Core}
    (up : (c.port p).state = .up) (room : (c.port p).mayStart true 128 = true) (credit : c.txRoom t p 84 = true) :
    ((c.sendSync t p dst cls body).port p).express.next = (c.port p).express.next + 1 := by
  unfold Core.sendSync
  extract_lets x m f n fr c1
  have cell : f.length = 84 := by simp [f, m, cellBytes, Msg.bytes, le, zeros, len]
  have flits : n = 2 := by simp [n, cell]; decide
  rw [if_neg (by simp [x, up, room, cell, flits, credit]), Core.express_sendFrame, Core.port_updPort_self hp]
  rfl

theorem Core.syncPortUp_iff {t : Top} {p : Nat} {c : Core} :
    c.syncPortUp t p = true ↔ (p < 8 ∧ t.gone (portDie p) = false) ∧ (c.port p).state = .up ∧ c.fenced (portDie p) = false := by
  simp [Core.syncPortUp, Top.hasPort, and_assoc]

/-! #### The correction over the mesh (R18, R19, R29) -/

theorem quadRoute_ne_nil {a b : Nat} (h : a ≠ b) : quadRoute a b ≠ [] := by
  unfold quadRoute
  rw [if_neg h]
  split
  · exact List.cons_ne_nil _ _
  dsimp only
  split
  · exact List.cons_ne_nil _ _
  · exact List.cons_ne_nil _ _

/-- From a Summit die there is a route to every other die (R18). -/
theorem meshRoute_summit_ne_nil {q d : Nat} (h : d ≠ summitDie q) : meshRoute (summitDie q) d ≠ [] := by
  unfold meshRoute
  split
  · exact quadRoute_ne_nil h.symm
  · have first : quadRoute (summitDie q) (passDie (summitDie q / 16)) ≠ [] :=
      quadRoute_ne_nil (by simp only [summitDie, passDie]; omega)
    simp [first]

/-- A correction is on its way to a die. -/
def Core.Corrects (c : Core) (src d : Nat) : Prop :=
  ∃ n x, n < c.telem.nextTransfer ∧ c.telem.mesh.get? n = some x ∧ x.cargo = .correction ∧ x.src = src ∧ x.dst = d ∧ x.cls = .control

theorem Core.Corrects.meshSend {c : Core} {a d : Nat} (h : c.Corrects a d) (t : Top) (src dst : Nat) (cls : MeshClass) (cargo : Cargo)
    (w : Work) (units : Nat) : (c.meshSend t src dst cls cargo w units).Corrects a d := by
  obtain ⟨n, x, old, at_, what⟩ := h
  unfold Core.meshSend
  split
  · exact ⟨n, x, old, at_, what⟩
  · refine ⟨n, x, ?_, ?_, what⟩
    · rw [(Core.quiet_qSend _ _ _ _ _ _ _).nextTransfer]
      exact Nat.lt_succ_of_lt old
    · rw [(Core.quiet_qSend _ _ _ _ _ _ _).mesh]
      exact (Tbl.get?_set_other _ _ _ _ old.ne).trans at_

theorem Core.meshSend_corrects (t : Top) {src dst : Nat} (route : meshRoute src dst ≠ []) (w : Work) (units : Nat) (c : Core) :
    (c.meshSend t src dst .control .correction w units).Corrects src dst := by
  unfold Core.meshSend
  split
  · next none => exact absurd none route
  · extract_lets n x
    refine ⟨n, x, ?_, ?_, rfl, rfl, rfl, rfl⟩
    · rw [(Core.quiet_qSend _ _ _ _ _ _ _).nextTransfer]
      exact Nat.lt_succ_self _
    · rw [(Core.quiet_qSend _ _ _ _ _ _ _).mesh]
      exact Tbl.get?_set_self _ _ _

theorem Core.out_meshSend (t : Top) (src dst : Nat) (cls : MeshClass) (cargo : Cargo) (w : Work) (units : Nat) (c : Core) :
    c.out ⊆ (c.meshSend t src dst cls cargo w units).out := by
  unfold Core.meshSend
  split
  · exact List.Subset.refl _
  · exact (Core.quiet_qSend t _ _ _ _ _ (c.onTelem _)).out

/-- The corrections of one millisecond (R29). -/
theorem Core.corrects_all (t : Top) (src : Nat) (ds : List Nat) (route : ∀ d ∈ ds, meshRoute src d ≠ []) (c : Core) :
    let c' := ds.foldl (fun c d => c.meshSend t src d .control .correction (.time d) 1) c
    c.out ⊆ c'.out ∧ (∀ d, c.Corrects src d → c'.Corrects src d) ∧ ∀ d ∈ ds, c'.Corrects src d := by
  induction ds generalizing c with
  | nil => exact ⟨List.Subset.refl _, fun _ => id, fun d h => absurd h List.not_mem_nil⟩
  | cons e ds ih =>
    obtain ⟨out, kept, sent⟩ := ih (fun d h => route d (List.mem_cons_of_mem e h)) (c.meshSend t src e .control .correction (.time e) 1)
    refine ⟨List.Subset.trans (c.out_meshSend _ _ _ _ _ _ _) out, fun d h => kept d (h.meshSend _ _ _ _ _ _ _), fun d h => ?_⟩
    obtain rfl | later := List.mem_cons.1 h
    · exact kept d (c.meshSend_corrects t (route d h) _ _)
    · exact sent d later

/-- Copies of package time corrected: the device's own state has its own time still. -/
theorem Top.foldl_correctCopy (k : Nat → Nat) (ds : List Nat) (t : Top) : ∃ b : TimeBlk, b.now = t.time.now ∧
    ds.foldl (fun (t : Top) d => t.onTime (fun b => b.correctCopy d (k d))) t = { t with time := b } := by
  induction ds generalizing t with
  | nil => exact ⟨t.time, rfl, rfl⟩
  | cons d ds ih => exact ih (t.onTime fun b => b.correctCopy d (k d))

/-- TIME_CORRECTION in a new millisecond (R29). -/
theorem timeCorrection_due {t : Top} (c : Core) (up : t.primaryDown = false) (due : t.time.corrected / 1000000 < t.time.now / 1000000) :
    (timeCorrection t c).1.time.corrected = t.time.now ∧ (timeCorrection t c).1.time.now = t.time.now ∧
      Out.timeCorrection ∈ (timeCorrection t c).2.out ∧
      ∀ d, d < 64 → d ≠ t.primaryDie → t.gone d = false → (timeCorrection t c).2.Corrects t.primaryDie d := by
  unfold timeCorrection
  have later : ¬ t.now / 1000000 ≤ t.time.corrected / 1000000 := not_le.2 due
  rw [if_neg (by simp [up, later])]
  extract_lets late t1 c1 ds c2
  obtain ⟨b, now, same⟩ := t.foldl_correctCopy (fun d => Config.pick (c.nonce + d)) late
  have top : t1 = { t with time := b } := same
  have primary : t1.primaryDie = t.primaryDie := by rw [top]; rfl
  have gone : ∀ d, t1.gone d = t.gone d := fun d => by rw [top]; rfl
  have routes : ∀ d ∈ ds, meshRoute t1.primaryDie d ≠ [] := fun d h =>
    meshRoute_summit_ne_nil (by simp [ds] at h; exact h.2.1)
  obtain ⟨out, _, sent⟩ := Core.corrects_all t1 t1.primaryDie ds routes (c1.emit .timeCorrection)
  refine ⟨?_, ?_, out ?_, fun d low other here => ?_⟩
  · rw [top]; exact now
  · rw [top]; exact now
  · exact List.mem_append_right _ (List.mem_singleton.2 rfl)
  · have mem : d ∈ ds := by simp [ds, low, other, primary, gone, here]
    exact primary ▸ sent d mem

/-- Settles O19. -/
theorem fabricTimeSourceSteers : Obligations.FabricTimeSourceSteers := by
  intro p q s live b t4 trip off
  have response : s.core.syncPortUp s.top p = true → exec (.timeSyncResponse p q) s =
      .next { s with top := (syncResponse p q s.top s.core).1, core := (syncResponse p q s.top s.core).2 } := fun up => by
    refine congrArg Host.Outcome.next ((s.onBoth_live _ live).trans ?_)
    rw [if_pos up]
  refine ⟨?_, ?_, ?_, ?_, ?_⟩
  · intro source due up
    refine ⟨_, congrArg Host.Outcome.next (s.onBoth_live _ live), ?_⟩
    rw [syncInterval_due source due up]
    rfl
  · intro up
    refine ⟨?_, ?_, ?_, ?_⟩
    · intro unasked
      rw [response up, syncResponse_unasked unasked]
    · intro asked seq source slow
      rw [response up, syncResponse_slow asked seq source slow]
    · intro asked seq source quick
      obtain ⟨offset, valid, run, locked, now⟩ := ({ b with syncValidAt := b.now } : TimeBlk).measured off
      refine ⟨_, response up, ?_⟩
      rw [syncResponse_steers asked seq source quick rfl]
      exact ⟨offset, valid, run, locked, now⟩
    · rintro ⟨room, credit⟩
      obtain ⟨⟨hp, _⟩, state, _⟩ := Core.syncPortUp_iff.1 up
      refine ⟨_, congrArg Host.Outcome.next (s.onCore_live _ live), rfl, ?_⟩
      unfold Core.syncRequest
      rw [if_neg (by simp [up])]
      exact Core.sendSync_next hp _ _ (by simp [syncBody, le, zeros]) state room credit
  · intro source due
    exact ⟨_, congrArg Host.Outcome.next (onTimeBlk_live _ live), if_pos (by simpa using And.intro source due)⟩
  · intro source run
    exact ⟨_, congrArg Host.Outcome.next (onTimeBlk_live _ live), if_pos (by simpa using And.intro source run)⟩
  · intro up due
    obtain ⟨corrected, now, out, sent⟩ := timeCorrection_due s.core up due
    refine ⟨_, congrArg Host.Outcome.next (s.onBoth_live _ live), corrected, now, out, fun d low other here => ?_⟩
    obtain ⟨n, x, _, at_, what⟩ := sent d low other here
    exact ⟨n, x, at_, what⟩

end Sys2Proof.Machine
end

/-! ### A replayed unit that is counted twice (R21, R401, R412) -/

section
namespace Sys2Proof.Machine

/-- The number of a link that the mesh does not have, whose counter has the key of the lost events' counter (R401, R403). -/
def strayLink : Nat := 2 ^ 60 + 6

/-- A transfer on it, of one unit. -/
def strayTransfer : Transfer :=
  { src := 0, dst := 1, cls := .request, cargo := .correction, work := .time 0, units := 1, left := 1, route := [(strayLink, 0)] }

/-- A ready device whose event queue is off, with that transfer on its mesh and, on the die that receives it, a lifetime count of corrected
errors one replay short of its limit (R366, R410, R412). -/
def strayS : State := { State.reset with
  top := { ({} : Top) with dev := .ready, phase := 0, fwValid := true, nodeId := 1 }
  core := ({} : Core).onTelem (fun x => { x with
    mesh := [(0, strayTransfer)]
    life := [(linkTo strayLink 0, { items := [(lifeKey 8 5, { count := 2 ^ 48 - 1 })] })] }) }

/-- Its unit fails its check and is replayed. -/
def strayReplayed : Core := (meshReceive strayLink 0 .request false strayS.top strayS.core).2

theorem strayReplayed_counts : strayReplayed.ctr (.mesh strayLink) ≠ (strayS.core.ctr (.mesh strayLink)).up 1 := by
  decide +kernel

/-- Refutes O57: of a unit replayed on the link of number 2^60 + 6, which the statement does not exclude, the counter goes up by two, for the
event that reports the full lifetime count is lost to a queue that is off and counted under the same key. -/
theorem not_telemetryCountsAndFaultsQuiesce : ¬ Obligations.TelemetryCountsAndFaultsQuiesce := by
  unfold Obligations.TelemetryCountsAndFaultsQuiesce
  rintro ⟨_, rows⟩
  obtain ⟨_, _, _, _, _, _, _, _, _, mesh, _⟩ := rows strayS rfl
  obtain ⟨⟨t, replayed, _, _, counted, _⟩, _⟩ := mesh strayLink 0 .request 0 strayTransfer (by decide +kernel)
  have run : exec (.meshTransferReceive strayLink 0 .request false) strayS = .next { strayS with core := strayReplayed } := rfl
  rw [run] at replayed
  cases replayed
  exact strayReplayed_counts counted

end Sys2Proof.Machine
end

/-! ### What messages, lost requests and lost ports leave alone: self-test records, port states and held tokens -/

section
namespace Sys2Proof.Machine

variable {wipes : Prop}

/-- The self-test records of the dies, the states of the ports and the tokens that contexts hold are as they were; the tokens only where no
move can abort, with which the pages of a context may go. -/
structure Core.Spares (wipes : Prop) (a b : Core) : Prop where
  tests : b.telem.tests = a.telem.tests
  ports : ∀ p, (b.port p).state = (a.port p).state
  tokens : ¬ wipes → ∀ i, (b.ctx i).tokens = (a.ctx i).tokens

theorem Core.Spares.refl (c : Core) : c.Spares wipes c := ⟨rfl, fun _ => rfl, fun _ _ => rfl⟩

theorem Core.Spares.trans {a b c : Core} (h : a.Spares wipes b) (k : b.Spares wipes c) : a.Spares wipes c :=
  ⟨k.tests.trans h.tests, fun p => (k.ports p).trans (h.ports p), fun n i => (k.tokens n i).trans (h.tokens n i)⟩

theorem Core.Spares.of_same {a b : Core} (tests : b.telem.tests = a.telem.tests) (ports : b.ports = a.ports) (ctxs : b.ctxs = a.ctxs) :
    a.Spares wipes b := ⟨tests, fun p => by simp only [Core.port, ports], fun _ i => by simp only [Core.ctx, ctxs]⟩

theorem Core.SameWork.spares {a b : Core} (h : a.SameWork b) (k : a.Quiet b) : a.Spares wipes b := .of_same k.tests h.ports h.ctxs

theorem Core.spares_ite {a b c : Core} (p : Prop) [Decidable p] (h : a.Spares wipes b) (k : a.Spares wipes c) :
    a.Spares wipes (if p then b else c) := by
  split
  · exact h
  · exact k

theorem Core.spares_ite_snd {α : Type} {a : Core} {x y : α × Core} (p : Prop) [Decidable p] (h : a.Spares wipes x.2) (k : a.Spares wipes y.2) :
    a.Spares wipes (if p then x else y).2 := by
  split
  · exact h
  · exact k

theorem Core.spares_foldl {α : Type} (f : Core → α → Core) (h : ∀ (c : Core) (x : α), c.Spares wipes (f c x)) (xs : List α) (c : Core) :
    c.Spares wipes (xs.foldl f c) :=
  List.foldlRecOn xs f (.refl c) fun b run x _ => run.trans (h b x)

theorem Core.spares_foldl_snd {α β : Type} (f : β × Core → α → β × Core) (h : ∀ (p : β × Core) (x : α), p.2.Spares wipes (f p x).2)
    (xs : List α) (p : β × Core) : p.2.Spares wipes (xs.foldl f p).2 :=
  List.foldlRecOn (motive := fun q => p.2.Spares wipes q.2) xs f (.refl p.2) fun b run x _ => run.trans (h b x)

/-! #### Parts of the state -/

theorem Core.spares_fabric (f : Fabric → Fabric) (c : Core) : c.Spares wipes (c.onFabric f) := .of_same rfl rfl rfl
theorem Core.spares_tiers (f : Tiers → Tiers) (c : Core) : c.Spares wipes (c.onTiers f) := .of_same rfl rfl rfl
theorem Core.spares_sched (f : Sched → Sched) (c : Core) : c.Spares wipes (c.onSched f) := .of_same rfl rfl rfl
theorem Core.spares_search (f : Search → Search) (c : Core) : c.Spares wipes (c.onSearch f) := .of_same rfl rfl rfl
theorem Core.spares_telem (f : Telem → Telem) (c : Core) (h : (f c.telem).tests = c.telem.tests) : c.Spares wipes (c.onTelem f) :=
  .of_same h rfl rfl
theorem Core.spares_emit (x : Out) (c : Core) : c.Spares wipes (c.emit x) := .of_same rfl rfl rfl
theorem Core.spares_updPage (o : Nat) (f : PageObj → PageObj) (c : Core) : c.Spares wipes (c.updPage o f) := .of_same rfl rfl rfl
theorem Core.spares_updMove (r : Nat) (f : Move → Move) (c : Core) : c.Spares wipes (c.updMove r f) := .of_same rfl rfl rfl
theorem Core.spares_updItem (i : Nat) (f : Item → Item) (c : Core) : c.Spares wipes (c.updItem i f) := .of_same rfl rfl rfl
theorem Core.spares_updSummit (q : Nat) (f : Summit → Summit) (c : Core) : c.Spares wipes (c.updSummit q f) := .of_same rfl rfl rfl
theorem Core.spares_updConn (cid : Nat) (f : Conn → Conn) (c : Core) : c.Spares wipes (c.updConn cid f) := .of_same rfl rfl rfl
theorem Core.spares_updLine (l : Nat) (f : Line → Line) (c : Core) : c.Spares wipes (c.updLine l f) := c.spares_fabric _
theorem Core.spares_stage (m : Nat) (st : Status) (d : Nat) (p : List Byte) (c : Core) : c.Spares wipes (c.stage m st d p) := .of_same rfl rfl rfl

theorem Core.spares_updCtx (i : Nat) (f : Ctx → Ctx) (c : Core) (h : wipes ∨ ∀ x : Ctx, (f x).tokens = x.tokens) :
    c.Spares wipes (c.updCtx i f) := by
  refine ⟨rfl, fun _ => rfl, fun no k => ?_⟩
  by_cases same : k = i
  · simp [same, Core.ctx, Core.updCtx, Tbl.getD, h.resolve_left no]
  · simp [Core.ctx, Core.updCtx, Tbl.getD, Tbl.get?_set_other _ _ _ _ same]

theorem Core.spares_updPort (p : Nat) (f : Port → Port) (c : Core) (h : ∀ x : Port, (f x).state = x.state) : c.Spares wipes (c.updPort p f) := by
  refine ⟨by simp, fun q => ?_, fun _ i => by simp [Core.ctx]⟩
  unfold Core.updPort
  split
  · by_cases same : q = p
    · simp [same, Core.port, Tbl.getD, h]
    · simp [Core.port, Tbl.getD, Tbl.get?_set_other _ _ _ _ same]
  · rfl

theorem Core.spares_dropRef (i : Nat) (k : RefKind) (c : Core) : c.Spares wipes (c.dropRef i k) :=
  c.spares_updCtx _ _ (.inr fun x => by cases k <;> rfl)
theorem Core.spares_bump (k : Ctr) (n : Nat) (c : Core) : c.Spares wipes (c.bump k n) := (c.sameWork_bump k n).spares (c.quiet_bump k n)
theorem Core.spares_raise (t : Top) (code src subject : Nat) (detail : List Byte) (c : Core) : c.Spares wipes (c.raise t code src subject detail) :=
  (c.sameWork_raise _ _ _ _ _).spares (c.quiet_raise _ _ _ _ _)
theorem Core.spares_watch (t : Top) (id : Nat) (up : Bool) (dflt : Nat × Nat) (v src : Nat) (c : Core) :
    c.Spares wipes (c.watch t id up dflt v src) := (c.sameWork_watch _ _ _ _ _ _).spares (c.quiet_watch _ _ _ _ _ _)
theorem Core.spares_qSend (t : Top) (id inst prod n : Nat) (k : Work) (c : Core) : c.Spares wipes (c.qSend t id inst prod n k) :=
  (c.sameWork_qSend _ _ _ _ _ _).spares (c.quiet_qSend _ _ _ _ _ _)
theorem Core.spares_qEnd (t : Top) (id inst : Nat) (p : Work → Bool) (c : Core) : c.Spares wipes (c.qEnd t id inst p) :=
  (c.sameWork_qEnd _ _ _ _).spares (c.quiet_qEnd _ _ _ _)
theorem Core.spares_qEndAll (t : Top) (ids : Nat → Bool) (p : Work → Bool) (c : Core) : c.Spares wipes (c.qEndAll t ids p) :=
  (c.sameWork_qEndAll _ _ _).spares (c.quiet_qEndAll _ _ _)

theorem Core.spares_life (t : Top) (die item sub n : Nat) (c : Core) : c.Spares wipes (c.life t die item sub n) := by
  unfold Core.life
  split
  · exact .refl c
  · extract_lets r old new c1
    have counted : c.Spares wipes c1 := c.spares_telem _ rfl
    exact Core.spares_ite _ (counted.trans (c1.spares_raise _ _ _ _ _)) counted

/-! #### The mesh, cells and messages -/

theorem Core.spares_meshSend (t : Top) (src dst : Nat) (cls : MeshClass) (cargo : Cargo) (k : Work) (units : Nat) (c : Core) :
    c.Spares wipes (c.meshSend t src dst cls cargo k units) := by
  unfold Core.meshSend
  split
  · exact .refl c
  · exact (c.spares_telem _ rfl).trans (Core.spares_qSend _ _ _ _ _ _ _)

theorem Core.spares_meshEnd (t : Top) (p : Transfer → Bool) (c : Core) : c.Spares wipes (c.meshEnd t p) :=
  Core.spares_ite _ (.refl c) ((c.spares_telem _ rfl).trans (Core.spares_qEndAll _ _ _ _))

theorem Core.spares_meshGone (t : Top) (n : Nat) (c : Core) : c.Spares wipes (c.meshGone t n) :=
  (c.spares_telem _ rfl).trans (Core.spares_qEndAll _ _ _ _)

theorem Core.spares_meshPass (t : Top) (src dst : Nat) (cls : MeshClass) (cargo : Cargo) (k : Work) (units : Nat) (c : Core) :
    c.Spares wipes (c.meshPass t src dst cls cargo k units) := (c.spares_meshSend _ _ _ _ _ _ _).trans (Core.spares_meshGone _ _ _)

theorem Core.spares_qPass (t : Top) (id inst prod n : Nat) (k : Work) (c : Core) : c.Spares wipes (c.qPass t id inst prod n k) := by
  unfold Core.qPass
  dsimp only
  split
  · exact Core.spares_qSend _ _ _ _ _ _ _
  · exact (Core.spares_qSend _ _ _ _ _ _ _).trans (Core.spares_qEnd _ _ _ _ _)

theorem Core.spares_acctQueue (h t0 t1 : Nat) (x : Port) (n k : Nat) (c : Core) : c.Spares wipes (c.acctQueue h t0 t1 x n k) := by
  unfold Core.acctQueue
  split
  · exact .refl c
  · extract_lets sh c1 mask gated c2
    have held : c.Spares wipes c2 := (c.spares_bump _ _).trans (c1.spares_bump _ _)
    exact Core.spares_ite _ (held.trans (c2.spares_bump _ _)) held

theorem Core.spares_egressAcct (t : Top) (p : Nat) (c : Core) : c.Spares wipes (c.egressAcct t p) := by
  unfold Core.egressAcct
  extract_lets h x n c1
  have queues : c.Spares wipes c1 := Core.spares_foldl _ (fun c k => c.spares_acctQueue _ _ _ _ _ k) _ _
  exact queues.trans (c1.spares_updPort _ _ (fun _ => rfl))

theorem Core.spares_enqueue (t : Top) (p k : Nat) (f : QFrame) (c : Core) : c.Spares wipes (c.enqueue t p k f) := by
  unfold Core.enqueue
  extract_lets h c1 c2
  have queued : c.Spares wipes c2 := (c.spares_egressAcct t h).trans (c1.spares_updPort _ _ (fun _ => rfl))
  exact queued.trans (c2.spares_watch _ _ _ _ _ _)

theorem Core.spares_putCells (t : Top) (cid : Nat) (m : Msg) (control : Bool) (c : Core) : c.Spares wipes (c.putCells t cid m control) :=
  Core.spares_foldl _ (fun c _ =>
    ((c.spares_qPass _ _ _ _ _ _).trans (Core.spares_meshPass _ _ _ _ _ _ _ _)).trans (Core.spares_enqueue _ _ _ _ _)) _ _

theorem Core.spares_sendNow (t : Top) (cid : Nat) (m : Msg) (req : Option Nat) (c : Core) : c.Spares wipes (c.sendNow t cid m req) := by
  unfold Core.sendNow
  extract_lets n ch m' c1 c2
  have counted : c.Spares wipes c1 := c.spares_updConn _ _
  have awaited : c1.Spares wipes c2 := by
    unfold c2
    split
    · exact c1.spares_fabric _
    · exact .refl c1
  exact (counted.trans awaited).trans (c2.spares_putCells _ _ _ _)

theorem Core.spares_sendMsg (t : Top) (cid type : Nat) (rsp : Bool) (cls : Nat) (body : List Byte) (req : Option Nat) (c : Core) :
    c.Spares wipes (c.sendMsg t cid type rsp cls body req) := by
  unfold Core.sendMsg
  extract_lets n m allowed
  split
  · exact .refl c
  split
  · exact c.spares_updConn _ _
  split
  · exact c.spares_sendNow _ _ _ _
  · exact c.spares_updConn _ _

/-! #### Requests and synchronisation objects -/

theorem Core.spares_newReq (t : Top) (cid type tag : Nat) (p : Purpose) (c : Core) : c.Spares wipes (c.newReq t cid type tag p).2 :=
  .of_same rfl rfl rfl

theorem Core.spares_memAnswer (t : Top) (cid : Nat) (q : Msg) (st : Status) (d ver old : Nat) (data : List Byte) (c : Core) :
    c.Spares wipes (c.memAnswer t cid q st d ver old data) := spares_ite _ (.refl c) (c.spares_sendMsg _ _ _ _ _ _ _)

/-- A request is no longer awaited (R317). -/
theorem Core.spares_dropReq (q : Nat) (c : Core) : c.Spares wipes (c.dropReq q) := by
  unfold Core.dropReq
  split
  · exact .refl c
  · next x _ =>
    extract_lets c1
    have forgotten : c.Spares wipes c1 := c.spares_fabric _
    split
    · exact spares_ite _ forgotten (forgotten.trans (c1.spares_dropRef _ _))
    · exact forgotten

theorem Core.spares_staleSync (id : Nat) (c : Core) : c.Spares wipes (c.staleSync id) := spares_ite _ (c.spares_bump _ _) (.refl c)

theorem Core.spares_putSync (id : Nat) (o : SyncObj) (excess : Nat) (c : Core) : c.Spares wipes (c.putSync id o excess) := by
  unfold Core.putSync
  extract_lets c1
  have stored : c.Spares wipes c1 := .of_same rfl rfl rfl
  exact spares_ite _ stored (stored.trans (c1.spares_updSummit _ _))

theorem Core.spares_removeWaiter (w : Waiter) (c : Core) : c.Spares wipes (c.removeWaiter w) := c.spares_updSummit _ _

/-- A waiter's release (R70). -/
theorem Core.spares_fire (t : Top) (w : Waiter) (value : Nat) (c : Core) : c.Spares wipes (c.fire t w value) := by
  unfold Core.fire
  extract_lets c1
  have released : c.Spares wipes c1 := by
    unfold c1; split
    · exact c.spares_dropRef _ _
    · exact .refl c
  refine released.trans ?_
  split
  · exact c1.spares_stage _ _ _ _
  · extract_lets c2
    have raised : c1.Spares wipes c2 := (c1.sameWork_msix _).spares (c1.quiet_msix _)
    exact spares_ite _ (raised.trans (c2.spares_raise _ _ _ _ _)) raised
  · split
    · exact c1.spares_bump _ _
    split
    · exact (c1.spares_newReq _ _ _ _ _).trans (Core.spares_sendMsg _ _ _ _ _ _ _ _)
    · exact c1.spares_staleSync _

theorem Core.spares_cancelWaiter (w : Waiter) (st : Status) (d : Nat) (c : Core) : c.Spares wipes (c.cancelWaiter w st d) := by
  unfold Core.cancelWaiter
  extract_lets c1
  have released : c.Spares wipes c1 := by
    unfold c1; split
    · exact c.spares_dropRef _ _
    · exact .refl c
  split
  · exact released.trans (c1.spares_stage _ _ _ _)
  · exact released

theorem Core.spares_cancelWaiters (p : Waiter → Bool) (st : Status) (d : Nat) (c : Core) : c.Spares wipes (c.cancelWaiters p st d) :=
  spares_foldl _ (fun c w => spares_ite _ ((c.spares_removeWaiter w).trans (Core.spares_cancelWaiter _ _ _ _)) (.refl c)) _ _

theorem Core.spares_fireAll (t : Top) (value : Nat) (ws : List Waiter) (c : Core) : c.Spares wipes (c.fireAll t value ws) :=
  spares_foldl _ (fun c w => (c.spares_removeWaiter w).trans (Core.spares_fire _ _ _ _)) _ _

theorem Core.spares_fireSem (t : Top) (id : Nat) (ws : List Waiter) (c : Core) : c.Spares wipes (c.fireSem t id ws) := by
  induction ws generalizing c with
  | nil => exact .refl c
  | cons w ws ih =>
    unfold Core.fireSem
    split
    · exact .refl c
    · split
      · exact .refl c
      · extract_lets c1
        have taken : c.Spares wipes c1 := .of_same rfl rfl rfl
        exact ((taken.trans (c1.spares_removeWaiter w)).trans (Core.spares_fire _ _ _ _)).trans (ih _)

theorem Core.spares_evaluate (t : Top) (id : Nat) (c : Core) : c.Spares wipes (c.evaluate t id) := by
  unfold Core.evaluate
  split
  · exact .refl c
  · extract_lets ws c1
    have wrapped : c.Spares wipes c1 := .of_same rfl rfl rfl
    split
    · exact spares_ite _ (c.spares_fireAll _ _ _) (.refl c)
    · exact spares_ite _ (c.spares_fireAll _ _ _) (.refl c)
    · exact c.spares_fireSem _ _ _
    · exact spares_ite _ (.refl c) (wrapped.trans (c1.spares_fireAll _ _ _))

/-- A signal (R68, R69). -/
theorem Core.spares_signal (t : Top) (id n : Nat) (c : Core) : c.Spares wipes (c.signal t id n) := by
  unfold Core.signal
  split
  · exact c.spares_staleSync _
  · split
    · exact c.spares_staleSync _
    · exact (c.spares_putSync _ _ _).trans (Core.spares_evaluate _ _ _)

theorem Core.spares_signalDone (t : Top) (id : Nat) (c : Core) : c.Spares wipes (c.signalDone t id) :=
  spares_ite _ (.refl c) (c.spares_signal _ _ _)

/-! #### Pages and frames -/

theorem Core.spares_freeWork (t : Top) (w : Work → Bool) (c : Core) : c.Spares wipes (c.freeWork t w) :=
  (c.spares_qEndAll _ _ _).trans (Core.spares_meshEnd _ _ _)

theorem Core.spares_watchFree (t : Top) (c : Core) : c.Spares wipes (c.watchFree t) :=
  spares_ite _ (c.spares_watch _ _ _ _ _ _) (.refl c)

theorem Core.spares_findFrame {t : Top} {k0 : Nat} {c c' : Core} {fr : Nat × Nat} (h : c.findFrame t k0 = some (fr, c')) : c.Spares wipes c' := by
  unfold Core.findFrame Core.pickFree at h
  dsimp only at h
  split at h
  · cases h
  · split at h
    · cases h
    · next f c1 hp =>
      split at hp
      · cases hp
      · simp only [Option.some.injEq, Prod.mk.injEq] at h hp
        obtain ⟨-, rfl⟩ := hp
        obtain ⟨-, rfl⟩ := h
        exact .of_same rfl rfl rfl

theorem Core.spares_retireFrame (t : Top) (st fr why : Nat) (c : Core) : c.Spares wipes (c.retireFrame t st fr why) := by
  unfold Core.retireFrame
  extract_lets die r c1 c2 c3
  have listed : c.Spares wipes c2 := .of_same rfl rfl rfl
  have kept : c2.Spares wipes c3 := spares_ite _ (c2.spares_telem _ rfl) (.refl c2)
  exact (listed.trans kept).trans (c3.spares_raise _ _ _ _ _)

theorem Core.spares_releaseFrame (t : Top) (o : Nat) (c : Core) : c.Spares wipes (c.releaseFrame t o) := by
  unfold Core.releaseFrame
  split
  · exact .refl c
  · extract_lets given c1 c2
    have freed : c.Spares wipes c2 := .of_same rfl rfl rfl
    refine freed.trans ?_
    split
    · exact spares_ite _ (.refl c2) (spares_ite _ (c2.spares_tiers _) (c2.spares_retireFrame _ _ _ _))
    · exact .refl c2

theorem Core.spares_dropPage (t : Top) (o : Nat) (c : Core) : c.Spares wipes (c.dropPage t o) := by
  unfold Core.dropPage
  extract_lets c1
  have freed : c.Spares wipes c1 := (c.spares_releaseFrame t o).trans (Core.spares_freeWork _ _ _)
  exact freed.trans (c1.spares_tiers _)

theorem Core.spares_unref (t : Top) (i key : Nat) (c : Core) : c.Spares wipes (c.unref t i key) := by
  unfold Core.unref
  split
  · exact .refl c
  · extract_lets c1
    refine (c.spares_updCtx i _ (.inr fun _ => rfl) : c.Spares wipes c1).trans ?_
    split
    · exact c1.spares_dropPage _ _
    · exact c1.spares_updPage _ _

theorem Core.spares_freePages (t : Top) (i : Nat) (c : Core) : c.Spares True (c.freePages t i) := by
  unfold Core.freePages
  extract_lets c1
  have dropped : c.Spares True c1 := spares_foldl _ (fun c k => c.spares_unref t i k) _ _
  exact (dropped.trans (c1.spares_updCtx _ _ (.inl trivial))).trans (Core.spares_watchFree _ _)

theorem Core.spares_unappend (t : Top) (o fill : Nat) (c : Core) : c.Spares wipes (c.unappend t o fill) := by
  unfold Core.unappend
  split
  · exact .refl c
  · exact c.spares_updPage _ _

/-! #### Work that ends -/

theorem Core.spares_failLayer (t : Top) (i : Nat) (chunk : Bool) (st : Status) (d : Nat) (m : LayerMsg) (c : Core) :
    c.Spares wipes (c.failLayer t i chunk st d m) :=
  ((c.spares_sendMsg _ _ _ _ _ _ _).trans (Core.spares_signalDone _ _ _)).trans (Core.spares_dropRef _ _ _)

theorem Core.spares_failLayers (t : Top) (i : Nat) (chunk : Bool) (st : Status) (d : Nat) (ms : List LayerMsg) (c : Core) :
    c.Spares wipes (ms.foldl (fun c m => c.failLayer t i chunk st d m) c) := spares_foldl _ (fun c m => c.spares_failLayer _ _ _ _ _ m) _ _

theorem Core.spares_endHold (t : Top) (i : Nat) (c : Core) : c.Spares wipes (c.endHold t i) := by
  unfold Core.endHold
  split
  · exact .refl c
  · split
    · exact .refl c
    · exact (c.spares_updItem _ _).trans (Core.spares_sched _ _)

theorem Core.spares_freeScore (crest n : Nat) (c : Core) : c.Spares wipes (c.freeScore crest n) := c.spares_sched _
theorem Core.spares_stepSpan (t : Top) (n item : Nat) (ridge : Bool) (since : Nat) (c : Core) : c.Spares wipes (c.stepSpan t n item ridge since) :=
  c.spares_sched _

theorem Core.spares_dropRun (t : Top) (i : Nat) (c : Core) : c.Spares wipes (c.dropRun t i) := by
  unfold Core.dropRun
  split
  · exact .refl c
  · split
    · exact .refl c
    · next it _ r _ =>
      extract_lets c1 c2 c3 c4 m n c5
      have slices : c1.Spares wipes c2 := spares_foldl _ (fun c s =>
        spares_ite _ ((c.spares_freeScore _ _).trans (Core.spares_stepSpan _ _ _ _ _ _)) (.refl c)) _ _
      have units : c2.Spares wipes c3 := by
        refine spares_foldl _ (fun c u => ?_) _ _
        extract_lets d
        have scores : c.Spares wipes d := spares_ite _ (c.spares_freeScore _ _) (.refl c)
        exact spares_ite _ (scores.trans (d.spares_stepSpan _ _ _ _ _)) scores
      have work : c3.Spares wipes c4 := c3.spares_freeWork _ _
      have tokens : c4.Spares wipes c5 := by
        refine spares_ite _ (.refl c4) (spares_ite _ (spares_foldl _ (fun c p => ?_) _ _) ?_)
        · split
          · exact c.spares_unappend _ _ _
          · exact .refl c
        · split
          · exact c4.spares_unappend _ _ _
          · exact .refl c4
      exact (((((c.spares_sched _).trans slices).trans units).trans work).trans tokens).trans (c5.spares_updItem _ _)

/-- An item ended (R57, R108). -/
theorem Core.spares_failItem (t : Top) (i : Nat) (st : Status) (d : Nat) (c : Core) : c.Spares wipes (c.failItem t i st d) := by
  unfold Core.failItem
  split
  · exact .refl c
  · next it _ =>
    extract_lets c1 c2 c3 mine c4 c5
    have run : c.Spares wipes c1 := (c.spares_endHold t i).trans (Core.spares_dropRun _ _ _)
    have engines : c1.Spares wipes c2 := spares_ite _ (.refl c1) (c1.spares_sched _)
    have messages : c2.Spares wipes c3 := c2.spares_failLayers _ _ _ _ _ _
    have parts : c3.Spares wipes c4 := spares_foldl _ (fun c l => c.spares_failLayers _ _ _ _ _ _) _ _
    exact (((run.trans engines).trans messages).trans parts).trans (.of_same rfl rfl rfl)

theorem Core.spares_failItems (t : Top) (es : Tbl Item) (st : Status) (d : Nat) (c : Core) :
    c.Spares wipes (es.foldl (fun c e => c.failItem t e.1 st d) c) := spares_foldl _ (fun c _ => c.spares_failItem _ _ _ _) _ _

theorem Core.spares_failParts (t : Top) (x : Nat) (st : Status) (d : Nat) (c : Core) : c.Spares wipes (c.failParts t x st d) := by
  unfold Core.failParts
  extract_lets mine c1
  have parts : c.Spares wipes c1 := spares_foldl _ (fun c _ => (c.spares_failLayers _ _ _ _ _ _).trans (Core.spares_sched _ _)) _ _
  exact parts.trans (c1.spares_sched _)

theorem Core.spares_failHelds (t : Top) (x : Nat) (st : Status) (d : Nat) (c : Core) : c.Spares wipes (c.failHelds t x st d) :=
  (c.spares_updCtx x (fun y => { y with held := [] }) (.inr fun _ => rfl)).trans (spares_foldl _ (fun c _ => c.spares_failLayer _ _ _ _ _ _) _ _)

theorem Core.spares_endPause (i : Nat) (st : Status) (d : Nat) (c : Core) : c.Spares wipes (c.endPause i st d) :=
  (c.spares_updCtx i (fun x => { x with pauseMbox := [], pauseDue := false }) (.inr fun _ => rfl)).trans
    (spares_foldl _ (fun c _ => c.spares_stage _ _ _ _) _ _)

theorem Core.spares_dropIdle (t : Top) (i : Nat) (c : Core) : c.Spares wipes (c.dropIdle t i) := by
  unfold Core.dropIdle
  extract_lets idle c1
  exact (c.spares_failItems t idle _ _ : c.Spares wipes c1).trans (c1.spares_sched _)

theorem Core.spares_enterDraining (t : Top) (i : Nat) (c : Core) : c.Spares wipes (c.enterDraining t i) := by
  unfold Core.enterDraining
  extract_lets d c1 c2
  have waiters : c.Spares wipes c1 := c.spares_cancelWaiters _ _ _
  have work : c1.Spares wipes c2 :=
    ((c1.spares_failParts t i _ _).trans (Core.spares_endPause i _ _ _)).trans (Core.spares_dropIdle t i _)
  exact (waiters.trans work).trans (c2.spares_updCtx _ _ (.inr fun _ => rfl))

/-! #### Moves that end -/

theorem Core.spares_setMove (r : Nat) (f : Move → Move) (c : Core) : c.Spares wipes (c.setMove r f) := by
  unfold Core.setMove
  split
  · exact .refl c
  · exact (c.spares_updMove r f).trans (Core.spares_updCtx _ _ _ (.inr fun _ => rfl))

theorem Core.spares_moveMsg (t : Top) (r type kind cls : Nat) (body : List Byte) (req : Option Nat) (c : Core) :
    c.Spares wipes (c.moveMsg t r type kind cls body req) := by
  unfold Core.moveMsg
  split
  · exact .refl c
  · exact c.spares_sendMsg _ _ _ _ _ _ _

theorem Core.spares_moveAsk (t : Top) (r conn type kind key cls : Nat) (body : List Byte) (c : Core) :
    c.Spares wipes (c.moveAsk t r conn type kind key cls body) := by
  unfold Core.moveAsk
  split
  · exact .refl c
  · next m _ =>
    have asked : c.Spares wipes _ := c.spares_newReq t conn type (kind + 256 * key) (.move r m.ctx)
    exact (asked.trans (spares_ite _ (.refl _) (Core.spares_updCtx m.ctx (Ctx.onRefs .msg (· + 1)) _ (.inr fun _ => rfl)))).trans
      (Core.spares_sendMsg _ _ _ _ _ _ _ _)

theorem Core.spares_endMove (t : Top) (r : Nat) (ph : MovePhase) (event : Bool) (st : Status) (d : Nat) (c : Core) :
    c.Spares wipes (c.endMove t r ph event st d) := by
  unfold Core.endMove
  split
  · exact .refl c
  · split
    · exact .refl c
    · next m _ _ =>
      extract_lets c1 c2 det c3 c4
      have requests : c.Spares wipes c1 := spares_foldl _ (fun c q => c.spares_dropReq q) _ _
      have ended : c1.Spares wipes c2 := c1.spares_setMove _ _
      have raised : c2.Spares wipes c3 :=
        spares_ite _ (.refl c2) (spares_ite _ (c2.spares_raise _ _ _ _ _) (c2.spares_raise _ _ _ _ _))
      have answered : c3.Spares wipes c4 := by
        unfold c4; split
        · exact c3.spares_stage _ _ _ _
        · exact .refl c3
      exact (((requests.trans ended).trans raised).trans answered).trans (c4.spares_signalDone _ _)

/-- A move aborted at this end (R138). -/
theorem Core.spares_abortMove (t : Top) (r : Nat) (st : Status) (d : Nat) (tell : Bool) (c : Core) : c.Spares True (c.abortMove t r st d tell) := by
  unfold Core.abortMove
  split
  · exact .refl c
  · split
    · exact .refl c
    · next m _ _ =>
      extract_lets c1 c2 x c3 c4
      have told : c.Spares True c1 := spares_ite _ (c.spares_moveMsg _ _ _ _ _ _ _) (.refl c)
      have ended : c1.Spares True c2 := c1.spares_endMove _ _ _ _ _ _
      have drained : c2.Spares True c4 :=
        ((c2.spares_failHelds t _ _ _).trans (Core.spares_enterDraining t _ _)).trans (Core.spares_freePages t _ _)
      refine (told.trans ended).trans (spares_ite _ (spares_ite _ (.refl c2) ?_) ?_)
      · exact (c2.spares_freePages _ _).trans (Core.spares_updCtx _ _ _ (.inl trivial))
      · exact spares_ite _ (c2.spares_updCtx _ _ (.inl trivial)) (spares_ite _ drained (.refl c2))

theorem Core.spares_faultMove (t : Top) (r : Nat) (st : Status) (c : Core) : c.Spares True (c.faultMove t r st) := by
  unfold Core.faultMove
  split
  · exact .refl c
  · split
    · exact c.spares_abortMove _ _ _ _ _
    split
    · extract_lets c1
      have cut : c.Spares True c1 := spares_ite _ (.refl c) (c.spares_moveMsg _ _ _ _ _ _ _)
      exact (cut.trans (c1.spares_moveMsg _ _ _ _ _ _ _)).trans (Core.spares_endMove _ _ _ _ _ _ _)
    · exact (c.spares_moveMsg _ _ _ _ _ _ _).trans (Core.spares_endMove _ _ _ _ _ _ _)

/-! #### Faults -/

/-- A fault reaches a context (R57). -/
theorem Core.spares_faultCtx (t : Top) (i cause : Nat) (c : Core) : c.Spares True (c.faultCtx t i cause) := by
  unfold Core.faultCtx
  extract_lets x st c1 c2 c3 c4 c5
  split
  · exact .refl c
  · have items : c1.Spares True c2 := c1.spares_failItems t _ _ _
    have parts : c2.Spares True c3 := (c2.spares_failParts t _ _ _).trans (Core.spares_failHelds t _ _ _ _)
    have pauses : c3.Spares True c4 := spares_ite _ (c3.spares_endPause _ _ _) (c3.spares_endPause _ _ _)
    have raised : c4.Spares True c5 := c4.spares_raise _ _ _ _ _
    exact (((((c.spares_updCtx _ _ (.inl trivial)).trans items).trans parts).trans pauses).trans raised).trans
      (spares_foldl _ (fun c _ => c.spares_faultMove _ _ _) _ _)

theorem Core.spares_faultCtxs (t : Top) (cause : Nat) (is : List Nat) (c : Core) : c.Spares True (is.foldl (fun c i => c.faultCtx t i cause) c) :=
  spares_foldl _ (fun c i => c.spares_faultCtx t i cause) _ _

theorem Core.spares_endQuery (t : Top) (k : Nat) (st : Status) (d n lists scored : Nat) (recs : List Byte) (c : Core) :
    c.Spares wipes (c.endQuery t k st d n lists scored recs) := by
  unfold Core.endQuery
  split
  · exact .refl c
  · exact ((c.spares_search _).trans (Core.spares_sendMsg _ _ _ _ _ _ _ _)).trans (Core.spares_signalDone _ _ _)

theorem Core.spares_abandonMerge (t : Top) (x : Nat) (st : Status) (d : Nat) (c : Core) : c.Spares wipes (c.abandonMerge t x st d) := by
  unfold Core.abandonMerge
  split
  · exact .refl c
  · exact ((c.spares_search _).trans (Core.spares_stage _ _ _ _ _)).trans (Core.spares_signalDone _ _ _)

/-- A job fault (R329). -/
theorem Core.spares_jobFault (t : Top) (cause node die : Nat) (c : Core) : c.Spares True (c.jobFault t cause node die) := by
  unfold Core.jobFault
  split
  · exact .refl c
  · next j _ =>
    extract_lets d c1 c2 c3 c4 c5 c6 c7
    refine (c.spares_raise _ _ _ _ _ : c.Spares True c1).trans (spares_ite _ (.refl c1) ?_)
    have quiesced : c1.Spares True c3 := .of_same rfl rfl rfl
    have contexts : c3.Spares True c4 := c3.spares_faultCtxs t 2 _
    have items : c4.Spares True c5 := spares_foldl _ (fun c i => c.spares_failItem t i _ _) _ _
    have waiters : c5.Spares True c6 := c5.spares_cancelWaiters _ _ _
    have queries : c6.Spares True c7 := spares_foldl _ (fun c k => c.spares_endQuery t k _ _ _ _ _ _) _ _
    exact ((((quiesced.trans contexts).trans items).trans waiters).trans queries).trans
      (spares_foldl _ (fun c x => c.spares_abandonMerge t x _ _) _ _)

/-! #### Requests that end without their answers (R317), whatever waits for them -/

/-! #### Pages on their way to and from slower tiers -/

theorem Core.spares_losePage (t : Top) (o : Nat) (c : Core) : c.Spares True (c.losePage t o) := by
  unfold Core.losePage
  split
  · exact .refl c
  · extract_lets ns
    split
    · exact ((c.spares_updPage _ _).trans (Core.spares_raise _ _ _ _ _ _)).trans (Core.spares_faultCtxs _ _ _ _)

theorem Core.spares_readUnit3 (t : Top) (o u : Nat) (retry : Bool) (c : Core) : c.Spares True (c.readUnit3 t o u retry) := by
  unfold Core.readUnit3
  split
  · exact .refl c
  · split
    · dsimp only
      split
      · exact c.spares_losePage _ _
      · next n _ =>
        exact (c.spares_newReq t n 0x50 c.fabric.nextReq (.tier3 o u retry)).trans (Core.spares_sendMsg _ _ _ _ _ _ _ _)
    · exact .refl c

theorem Core.spares_unit3Done (t : Top) (o u : Nat) (retry : Bool) (st : Status) (data : List Byte) (c : Core) :
    c.Spares True (c.unit3Done t o u retry st data) := by
  unfold Core.unit3Done
  split
  · exact .refl c
  · split
    · exact .refl c
    · exact spares_ite _ (c.spares_updPage _ _) (spares_ite _ (c.spares_losePage _ _) (c.spares_readUnit3 _ _ _ _))

theorem Core.spares_dropPool3 (o : Nat) (c : Core) : c.Spares wipes (c.dropPool3 o) := c.spares_fabric _

/-- A write-down abandoned (R240). -/
theorem Core.spares_abandon (t : Top) (o : Nat) (c : Core) : c.Spares wipes (c.abandon t o) := by
  unfold Core.abandon
  split
  · exact .refl c
  · split
    · exact .refl c
    · extract_lets stop
      have stops : ∀ c : Core, c.Spares wipes (stop c) := fun c =>
        (((c.spares_updPage _ _).trans (Core.spares_bump _ _ _)).trans (Core.spares_dropPool3 _ _)).trans (Core.spares_freeWork _ _ _)
      split
      · exact stops c
      · split
        · exact stops c
        · split
          split
          · next found => exact ((Core.spares_findFrame found).trans (Core.spares_updPage _ _ _)).trans (stops _)
          · exact .refl c

theorem Core.spares_unit3Written (t : Top) (o u : Nat) (st : Status) (c : Core) : c.Spares wipes (c.unit3Written t o u st) := by
  unfold Core.unit3Written
  split
  · exact .refl c
  · split
    · exact .refl c
    · exact spares_ite _ (c.spares_updPage _ _) (c.spares_abandon _ _)

/-! #### Versions and regions -/

theorem Core.spares_sendInvalidate (t : Top) (cid node off len kind ver : Nat) (p : Purpose) (c : Core) :
    c.Spares wipes (c.sendInvalidate t cid node off len kind ver p) := by
  unfold Core.sendInvalidate
  have asked : c.Spares wipes _ := c.spares_newReq t cid 0x54 c.fabric.nextReq p
  exact ((asked.trans (Core.spares_fabric _ _)).trans (Core.spares_sendMsg _ _ _ _ _ _ _ _)).trans (Core.spares_bump _ _ _)

/-- The versions of the granules of a write (R323). -/
theorem Core.spares_newVersions (t : Top) (rid off n txn : Nat) (c : Core) : c.Spares wipes (c.newVersions t rid off n txn).2 := by
  unfold Core.newVersions
  split
  · exact .refl c
  · split
    · exact .refl c
    · refine spares_foldl_snd _ (fun p g => ?_) _ (0, c)
      obtain ⟨k, c⟩ := p
      have invalidated : ∀ (c : Core) (x : Nat × Nat) (v : Nat), c.Spares wipes (c.sendInvalidate t x.2 x.1 (g * 4096) 4096 1 v (.version txn)) :=
        fun c _ _ => c.spares_sendInvalidate _ _ _ _ _ _ _ _
      exact (Core.spares_fabric _ c).trans (spares_foldl _ (fun c x => invalidated c x _) _ _)

theorem Core.spares_wrote (t : Top) (rid off n : Nat) (c : Core) : c.Spares wipes (c.wrote t rid off n) := by
  have versions : c.Spares wipes _ := c.spares_newVersions t rid off n c.fabric.nextTxn
  exact spares_ite _ versions (versions.trans (Core.spares_fabric _ _))

theorem Core.spares_writeDone (t : Top) (cid : Nat) (q : Msg) (rid off n : Nat) (c : Core) : c.Spares wipes (c.writeDone t cid q rid off n) := by
  have versions : c.Spares wipes _ := c.spares_newVersions t rid off n c.fabric.nextTxn
  refine spares_ite _ (versions.trans (Core.spares_memAnswer _ _ _ _ _ _ _ _ _)) ?_
  have counted := versions.trans (Core.spares_fabric (fun f => { f with nextTxn := c.fabric.nextTxn + 1 }) _)
  exact spares_ite _ (counted.trans (Core.spares_fabric _ _)) counted

/-- A REGION_DEREGISTER that waits completes (R331). -/
theorem Core.spares_closeRegion (rid : Nat) (c : Core) : c.Spares wipes (c.closeRegion rid) := by
  unfold Core.closeRegion
  split
  · exact .refl c
  · split
    · exact .refl c
    · extract_lets reading waiting line c1 c2
      have gone : c.Spares wipes c1 := c.spares_fabric _
      have zeroed : c1.Spares wipes c2 := spares_ite _ (.of_same rfl rfl rfl) (.refl c1)
      exact spares_ite _ (.refl c) ((gone.trans zeroed).trans (c2.spares_stage _ _ _ _))

theorem Core.spares_closeAt (off : Nat) (c : Core) : c.Spares wipes (c.closeAt off) := by
  unfold Core.closeAt
  split
  · exact c.spares_closeRegion _
  · exact .refl c

theorem Core.spares_versionAnswered (t : Top) (txn : Nat) (c : Core) : c.Spares wipes (c.versionAnswered t txn) := by
  unfold Core.versionAnswered
  split
  · exact .refl c
  · extract_lets c1
    have ended : c.Spares wipes c1 := c.spares_fabric _
    refine spares_ite _ ((ended.trans (c1.spares_sendMsg _ _ _ _ _ _ _)).trans (Core.spares_closeRegion _ _)) ?_
    exact c.spares_fabric _

/-! #### Accesses and coherence lines -/

theorem Core.spares_memStore (off : Nat) (data : List Byte) (c : Core) : c.Spares wipes (c.memStore off data) := c.spares_tiers _

theorem Core.spares_memDenied (t : Top) (cid : Nat) (q : Msg) (c : Core) : c.Spares wipes (c.memDenied t cid q) :=
  (c.spares_memAnswer _ _ _ _ _ _ _ _).trans (Core.spares_bump _ _ _)

theorem Core.spares_tookUnits (t : Top) (bytes : Nat) (c : Core) : c.Spares wipes (c.tookUnits t bytes) := by
  unfold Core.tookUnits
  extract_lets c1
  have counted : c.Spares wipes c1 := .of_same rfl rfl rfl
  exact (counted.trans (c1.spares_sched _)).trans (Core.spares_watchFree _ _)

theorem Core.spares_commitGrant {t : Top} {g : Grant} {off n : Nat} {c c' : Core} (h : c.commitGrant t g off n = some c') : c.Spares wipes c' := by
  unfold Core.commitGrant at h
  extract_lets us s on at h
  split at h
  · cases h; exact .refl c
  · split at h
    · cases h; exact (c.spares_tiers _).trans (Core.spares_tookUnits _ _ _)
    · cases h

theorem Core.spares_callMember (t : Top) (l kind node : Nat) (c : Core) : c.Spares wipes (c.callMember t l kind node) :=
  c.spares_sendInvalidate _ _ _ _ _ _ _ _

theorem Core.spares_meetLines (t : Top) (cid : Nat) (q : Msg) (off n no : Nat) (c : Core) : c.Spares wipes (c.meetLines t cid q off n no).2 := by
  unfold Core.meetLines
  extract_lets stops me
  clear_value stops
  split
  · exact .refl c
  · next l _ =>
    extract_lets x
    split
    · dsimp only
      exact c.spares_updLine _ _
    · split
      · exact .refl c
      · exact (c.spares_updLine _ _).trans (spares_foldl _ (fun c _ => c.spares_callMember _ _ _ _) _ _)

theorem Core.spares_storeAt (r : Option Region) (off : Nat) (data : List Byte) (c : Core) : c.Spares wipes (c.storeAt r off data) := by
  unfold Core.storeAt
  split
  · exact spares_ite _ ((c.spares_fabric _).trans (Core.spares_emit _ _)) (c.spares_memStore _ _)
  · exact c.spares_memStore _ _

theorem Core.spares_readHost (p : ReadFor) (addr n : Nat) (c : Core) : c.Spares wipes (c.readHost p addr n) :=
  .of_same rfl rfl rfl

theorem Core.spares_serveRead (t : Top) (cid : Nat) (q : Msg) (rid : Nat) (r : Option Region) (off n : Nat) (c : Core) :
    c.Spares wipes (c.serveRead t cid q rid r off n) := by
  unfold Core.serveRead
  extract_lets versioned coh ver host combine op same k c1
  have read : c.Spares wipes c1 := c.spares_readHost _ _ _
  refine spares_ite _ (c.spares_memAnswer _ _ _ _ _ _ _ _) (spares_ite _ (c.spares_memAnswer _ _ _ _ _ _ _ _) ?_)
  refine spares_ite _ ?_ (spares_ite _ (c.spares_memAnswer _ _ _ _ _ _ _ _) (c.spares_memAnswer _ _ _ _ _ _ _ _))
  split
  · exact (c.spares_fabric _).trans (Core.spares_bump _ _ _)
  · exact spares_ite _ (read.trans (c1.spares_fabric _)) read

theorem Core.spares_serveAtomic (t : Top) (cid : Nat) (q : Msg) (rid : Nat) (r : Option Region) (off n : Nat) (c : Core) :
    c.Spares wipes (c.serveAtomic t cid q rid r off n) := by
  unfold Core.serveAtomic
  extract_lets old
  split
  · exact c.spares_memAnswer _ _ _ _ _ _ _ _
  · extract_lets c1 txn
    have applied : c.Spares wipes c1 := (c.spares_memStore _ _).trans (Core.spares_memAnswer _ _ _ _ _ _ _ _ _)
    refine spares_ite _ (c.spares_memAnswer _ _ _ _ _ _ _ _) (spares_ite _ (c.spares_memAnswer _ _ _ _ _ _ _ _) ?_)
    exact (applied.trans (c1.spares_newVersions t rid off n txn)).trans (Core.spares_fabric _ _)

/-- Whatever an access at each kind of target leaves alone, an access at a target does. The accesses are variables here, so that the kernel
takes the match apart without evaluating them. -/
theorem spares_target {a : Core} {x : Grant → Core} {y : Nat → Region → Core} (m : MemTarget) (hx : ∀ g, a.Spares wipes (x g))
    (hy : ∀ k r, a.Spares wipes (y k r)) : a.Spares wipes (match m with | .grant g => x g | .region k r => y k r) := by
  cases m with
  | grant g => exact hx g
  | region k r => exact hy k r

/-- An access applied (R319 to R321). -/
theorem Core.spares_serveMem (t : Top) (cid : Nat) (q : Msg) (m : MemTarget) (off n : Nat) (c : Core) :
    c.Spares wipes (c.serveMem t cid q m off n) := by
  unfold Core.serveMem
  split
  extract_lets c1 data
  have lines : c.Spares wipes c1 := by
    unfold c1; split
    · exact spares_ite _ (spares_foldl _ (fun c _ => c.spares_updLine _ _) _ _) (.refl c)
    · exact .refl c
  refine lines.trans ?_
  split
  · exact c1.spares_serveRead _ _ _ _ _ _ _
  · exact c1.spares_serveAtomic _ _ _ _ _ _ _
  · refine spares_target m (fun g => ?_) (fun k r => ?_)
    · split
      · exact c1.spares_memAnswer _ _ _ _ _ _ _ _
      · next c2 found =>
        exact ((Core.spares_commitGrant found).trans (c2.spares_memStore _ _)).trans (Core.spares_memAnswer _ _ _ _ _ _ _ _ _)
    · exact (c1.spares_storeAt _ _ _).trans (Core.spares_writeDone _ _ _ _ _ _ _)

theorem Core.spares_serveSignal (t : Top) (cid : Nat) (q : Msg) (off n : Nat) (c : Core) : c.Spares wipes (c.serveSignal t cid q off n) := by
  unfold Core.serveSignal
  extract_lets id at8 live
  clear_value live
  refine spares_ite _ ?_ (spares_ite _ ?_ (c.spares_memAnswer _ _ _ _ _ _ _ _))
  · split
    · exact c.spares_memAnswer _ _ _ _ _ _ _ _
    · exact c.spares_memAnswer _ _ _ _ _ _ _ _
  · split
    · exact (c.spares_staleSync _).trans (Core.spares_memAnswer _ _ _ _ _ _ _ _ _)
    · exact (c.spares_signal _ _ _).trans (Core.spares_memAnswer _ _ _ _ _ _ _ _ _)

theorem Core.spares_writeback (t : Top) (cid : Nat) (q : Msg) (rid : Nat) (r : Region) (off n : Nat) (c : Core) :
    c.Spares wipes (c.writeback t cid q rid r off n).2 := by
  unfold Core.writeback
  extract_lets l c1
  have written : c.Spares wipes c1 := ((c.spares_storeAt _ _ _).trans (Core.spares_wrote _ _ _ _ _)).trans (Core.spares_memAnswer _ _ _ _ _ _ _ _ _)
  split
  · dsimp only
    exact written.trans (c1.spares_updLine _ _)
  · exact c.spares_memAnswer _ _ _ _ _ _ _ _

/-! #### Lines, moves and the nodes that are declared dead (R317, R326, R328) -/

/-- A request at its target (R318 to R326). -/
theorem Core.spares_memRequest (t : Top) (cid : Nat) (q : Msg) (no : Option Nat) (c : Core) : c.Spares wipes (c.memRequest t cid q no).2 := by
  have answers : ∀ st d, c.Spares wipes (c.memAnswer t cid q st d 0 0 []) := fun _ _ => c.spares_memAnswer _ _ _ _ _ _ _ _
  have denied : c.Spares wipes (c.memDenied t cid q) := c.spares_memDenied _ _ _
  unfold Core.memRequest
  extract_lets addr off n op bad
  have bads : ∀ d, c.Spares wipes (bad d).2 := fun d => answers .badArg d
  iterate 6 refine spares_ite_snd _ (bads _) ?_
  split
  · exact spares_ite_snd _ (answers _ _) denied
  · next m _ =>
    refine spares_ite_snd _ denied (spares_ite_snd _ (answers _ _) ?_)
    cases m with
    | grant g => exact spares_ite_snd _ (answers _ _) (c.spares_serveMem t cid q (.grant g) off n)
    | region rid r =>
      have numbered : ∀ k, c.Spares wipes (if no.isSome then c else c.onFabric (fun f => { f with nextLineReq := k + 1 })) :=
        fun k => spares_ite _ (.refl c) (c.spares_fabric _)
      have met := (numbered (no.getD c.fabric.nextLineReq)).trans (Core.spares_meetLines t cid q off n (no.getD c.fabric.nextLineReq) _)
      refine spares_ite_snd _ (c.spares_serveSignal _ _ _ _ _) (spares_ite_snd _ (answers _ _) (spares_ite_snd _ (answers _ _) ?_))
      refine spares_ite_snd _ (bads _) (spares_ite_snd _ (c.spares_writeback _ _ _ _ _ _ _) (spares_ite_snd _ ?_ ?_))
      · exact spares_ite _ (met.trans (Core.spares_serveMem _ _ _ _ _ _ _)) met
      · exact c.spares_serveMem t cid q (.region rid r) off n

theorem Core.spares_lineReady (t : Top) (l : Nat) (c : Core) : c.Spares wipes (c.lineReady t l) := by
  unfold Core.lineReady
  extract_lets x
  split
  · exact .refl c
  · split
    · exact .refl c
    · exact ((c.spares_updLine _ _).trans (Core.spares_memRequest _ _ _ _ _)).trans (Core.spares_closeAt _ _)

theorem Core.spares_memberAnswered (t : Top) (l node d : Nat) (data : List Byte) (c : Core) : c.Spares wipes (c.memberAnswered t l node d data) := by
  unfold Core.memberAnswered
  extract_lets x c1 wb
  split
  · exact .refl c
  · extract_lets c2
    have written : c.Spares wipes c1 := by
      refine spares_ite _ (.refl c) ?_
      split
      · exact (c.spares_storeAt _ _ _).trans (Core.spares_wrote _ _ _ _ _)
      · exact .refl c
    exact (written.trans (c1.spares_updLine _ _)).trans (c2.spares_lineReady _ _)

/-- The transactions on a line when a member is dead (R326). -/
theorem Core.spares_lineDead (t : Top) (l node : Nat) (c : Core) : c.Spares wipes (c.lineDead t l node) := by
  unfold Core.lineDead
  extract_lets x qs c1
  have freed : c.Spares wipes c1 := c.spares_updLine _ _
  exact (freed.trans (spares_foldl _ (fun c _ => c.spares_memAnswer _ _ _ _ _ _ _ _) qs c1)).trans (Core.spares_closeAt _ _)

theorem Core.spares_lineAgain (t : Top) (l node : Nat) (c : Core) : c.Spares wipes (c.lineAgain t l node) := by
  unfold Core.lineAgain
  split
  · exact .refl c
  · split
    · exact spares_ite _ (c.spares_callMember _ _ _ _) (.refl c)
    · exact c.spares_memberAnswered _ _ _ _ _

theorem Core.spares_drainCheck (t : Top) (r : Nat) (c : Core) : c.Spares wipes (c.drainCheck t r) := by
  unfold Core.drainCheck
  split
  · exact .refl c
  · exact spares_ite _ (.refl c) ((c.spares_updMove _ _).trans (Core.spares_moveMsg _ _ _ _ _ _ _ _))

theorem Core.spares_ackPage (t : Top) (r : Nat) (st : Status) (l pg attempt : Nat) (c : Core) : c.Spares wipes (c.ackPage t r st l pg attempt) := by
  unfold Core.ackPage
  split
  · exact .refl c
  · exact (c.spares_updMove _ _).trans (Core.spares_moveMsg _ _ _ _ _ _ _ _)

theorem Core.spares_destLost (t : Top) (r l pg : Nat) (c : Core) : c.Spares True (c.destLost t r l pg) := by
  unfold Core.destLost
  split
  · exact .refl c
  · exact spares_ite _ (c.spares_abortMove _ _ _ _ _) ((c.spares_raise _ _ _ _ _).trans (Core.spares_faultCtx _ _ _ _))

/-- A page discarded and asked for again (R136). -/
theorem Core.spares_refetch (t : Top) (r l pg : Nat) (st : Status) (c : Core) : c.Spares True (c.refetch t r l pg st) := by
  unfold Core.refetch
  split
  · exact .refl c
  · split
    · exact .refl c
    · extract_lets c1 c2 c3
      have marked : c.Spares True c1 := by
        unfold c1; split
        · exact c.spares_updPage _ _
        · exact .refl c
      have refused : c1.Spares True c3 := (c1.spares_updMove _ _).trans (Core.spares_ackPage _ _ _ _ _ _ _)
      exact (marked.trans refused).trans (spares_ite _ (c3.spares_destLost _ _ _ _) (c3.spares_moveAsk _ _ _ _ _ _ _ _))

theorem Core.spares_moveReqFails (t : Top) (r : Nat) (x : Req) (st : Status) (c : Core) : c.Spares True (c.moveReqFails t r x st) := by
  unfold Core.moveReqFails
  split
  · exact .refl c
  · have counted : ∀ i k, c.Spares True (if st = .timeout then c.countStale i k else c) :=
      fun _ _ => spares_ite _ (c.spares_bump _ _) (.refl c)
    exact spares_ite _ (.refl c) (spares_ite _ (c.spares_abortMove _ _ _ _ _) (spares_ite _ (c.spares_refetch _ _ _ _ _)
      (spares_ite _ ((counted _ _).trans (Core.spares_drainCheck _ _ _)) (.refl c))))

/-- A request ends without its answer (R317). -/
theorem Core.spares_reqFails (t : Top) (q : Nat) (st : Status) (c : Core) : c.Spares True (c.reqFails t q st) := by
  unfold Core.reqFails
  split
  · exact .refl c
  · next x _ =>
    extract_lets c1 c2
    have forgotten : c.Spares True c1 := (c.spares_dropReq q).trans (Core.spares_updConn _ _ _)
    have counted : c1.Spares True c2 := spares_ite _ (c1.spares_bump _ _) (.refl c1)
    refine (forgotten.trans counted).trans ?_
    split
    · exact c2.spares_stage _ _ _ _
    · exact c2.spares_stage _ _ _ _
    · exact .refl c2
    · exact (spares_ite _ (c2.spares_bump _ _) (.refl c2)).trans (Core.spares_versionAnswered _ _ _)
    · exact spares_ite _ (c2.spares_lineDead _ _ _) (c2.spares_lineAgain _ _ _)
    · exact c2.spares_unit3Done _ _ _ _ _ _
    · exact c2.spares_unit3Written _ _ _ _
    · exact c2.spares_moveReqFails _ _ _ _

variable {wipes : Prop}

/-! #### Links and ports that are lost (R280, R295, R328) -/

theorem Core.spares_cutIn (p k m : Nat) (c : Core) : c.Spares wipes (c.cutIn p k m) := by
  unfold Core.cutIn
  extract_lets c1 x
  have taken : c.Spares wipes c1 := c.spares_updPort _ (Port.take k m) (fun _ => rfl)
  refine taken.trans (spares_foldl _ (fun c e => ?_) _ _)
  split
  · exact spares_ite _ (c.spares_emit _) (.refl c)
  · exact .refl c

theorem Core.spares_putLink (p kind : Nat) (f : LinkFlit) (now : Nat) (c : Core) : c.Spares wipes (c.putLink p kind f now) := by
  unfold Core.putLink
  extract_lets x k m slots c1
  have put : c.Spares wipes c1 := (c.spares_cutIn p k m).trans (Core.spares_updPort _ _ _ (fun _ => rfl))
  exact put.trans (c1.spares_emit _)

theorem Core.spares_sendLink (t : Top) (p kind : Nat) (mask : BitVec 16) (nak : Bool) (cause lane hold : Nat) (c : Core) :
    c.Spares wipes (c.sendLink t p kind mask nak cause lane hold) :=
  (c.spares_updPort p (fun x => { x with freedReq := 0, freedRsp := 0 }) (fun _ => rfl)).trans (Core.spares_putLink _ _ _ _ _)

theorem Core.spares_cellsDown (t : Top) (conn mseq : Nat) (rsp : Bool) (c : Core) : c.Spares True (c.cellsDown t conn mseq rsp) := by
  unfold Core.cellsDown
  split
  · exact c.spares_reqFails _ _ _
  · exact spares_ite _ (c.spares_updConn _ _) (.refl c)

theorem Core.spares_framesDown (t : Top) (p : Nat) (fs : List (Nat × Nat × Bool)) (c : Core) : c.Spares True (c.framesDown t p fs) :=
  (c.spares_bump _ _).trans (spares_foldl _ (fun c f => c.spares_cellsDown t f.1 f.2.1 f.2.2) fs.dedup _)

theorem Core.spares_setQueues (t : Top) (h : Nat) (f : Nat → List QFrame → List QFrame) (c : Core) : c.Spares wipes (c.setQueues t h f) := by
  unfold Core.setQueues
  extract_lets c1 c2
  have changed : c.Spares wipes c2 := (c.spares_egressAcct t h).trans (c1.spares_updPort _ _ (fun _ => rfl))
  exact changed.trans (spares_foldl _ (fun c k => c.spares_watch _ _ _ _ _ _) _ _)

theorem Core.spares_reroute {t : Top} {h k : Nat} {f : QFrame} {c c' : Core} (found : c.reroute t h k f = some c') : c.Spares wipes c' := by
  unfold Core.reroute at found
  dsimp only at found
  split at found
  · cases found
  · cases found; exact c.spares_enqueue _ _ _ _

theorem Core.spares_giveUpSent (t : Top) (p : Nat) (pick : TxFrame → Bool) (c : Core) : c.Spares True (c.giveUpSent t p pick) := by
  unfold Core.giveUpSent
  extract_lets x fs cut
  refine .trans ?_ (Core.spares_framesDown t p _ _)
  exact c.spares_updPort p _ (fun _ => rfl)

theorem Core.spares_foldl_fst {α β : Type} {f : Core × β → α → Core × β}
    (h : ∀ (c : Core) (l : β) (x : α), c.Spares wipes (f (c, l) x).1) {xs : List α} {a b : Core} {l m : β}
    (done : xs.foldl f (a, l) = (b, m)) : a.Spares wipes b := by
  induction xs generalizing a l with
  | nil =>
    cases done
    exact .refl _
  | cons x xs ih => exact (h a l x).trans (ih done)

theorem Core.spares_giveUpQueued (t : Top) (p : Nat) (pick : QFrame → Bool) (c : Core) : c.Spares True (c.giveUpQueued t p pick) := by
  unfold Core.giveUpQueued
  extract_lets h fs c1
  have left : c.Spares True c1 := c.spares_setQueues _ _ _
  refine spares_ite _ (.refl c) (spares_ite _ (.refl c) ?_)
  refine left.trans ?_
  split
  next c2 down moved =>
    have rerouted : c1.Spares True c2 := by
      refine spares_foldl_fst (fun c l e => ?_) moved
      dsimp only
      split
      · next c' found => exact (Core.spares_reroute found).trans (c'.spares_bump (.port p 14) 1)
      · exact .refl c
    exact rerouted.trans (c2.spares_framesDown _ _ _)

theorem Core.spares_declareDead (t : Top) (node : Nat) (c : Core) : c.Spares True (c.declareDead t node) := by
  unfold Core.declareDead
  extract_lets c1 qs c2
  have noted : c.Spares True c1 := spares_ite _ (.refl c) (c.spares_fabric _)
  have ended : c1.Spares True c2 := spares_foldl _ (fun c e => c.spares_reqFails _ _ _) qs c1
  exact (noted.trans ended).trans (c2.spares_jobFault _ _ _ _)

theorem Core.spares_checkNode (t : Top) (node : Nat) (c : Core) : c.Spares True (c.checkNode t node) :=
  spares_ite _ (c.spares_declareDead _ _) (.refl c)

theorem Core.spares_checkNodes (t : Top) (p : Nat) (c : Core) : c.Spares True (c.checkNodes t p) :=
  spares_foldl _ (fun c n => c.spares_checkNode t n) _ _

/-- A port that goes off is DISABLED, and stays so whatever ends with its frames (R296). -/
theorem Core.portOff_disables (t : Top) {p : Nat} (hp : p < 8) (c : Core) :
    ((c.portOff t p).port p).state = .disabled ∧ (c.portOff t p).telem.tests = c.telem.tests := by
  unfold Core.portOff
  extract_lets c1 c2
  have sent : c.Spares True c1 := (c.spares_sendLink _ _ _ _ _ _ _ _).trans (Core.spares_updPort _ _ _ (fun _ => rfl))
  have off : (c2.port p).state = .disabled := by
    unfold c2 Core.setPortState
    rw [Core.port_updPort_self hp]
  have tests : c2.telem.tests = c1.telem.tests := by
    unfold c2 Core.setPortState
    rw [Core.updPort_telem]
  have ended : c2.Spares True _ := ((c2.spares_giveUpSent t p (fun _ => true)).trans (Core.spares_giveUpQueued t p (fun _ => true) _)).trans
    (Core.spares_checkNodes t p _)
  exact ⟨(ended.ports p).trans off, ended.tests.trans (tests.trans sent.tests)⟩

end Sys2Proof.Machine
end

/-! ### Start-up, self-test in service and images read from host memory (R379 to R400, R435) -/

section
namespace Sys2Proof.Machine

/-! #### Fields of a payload (R12) -/

@[simp] theorem length_le_bytes (n v : Nat) : (le n v).length = n := by
  induction n generalizing v with
  | zero => rfl
  | succ n ih => simp [le, ih]

@[simp] theorem length_zeros (n : Nat) : (zeros n).length = n := List.length_replicate

/-- A field behind a part that ends before it. -/
theorem rd_skip (h t : List Byte) (off k : Nat) (ho : h.length ≤ off) : rd (h ++ t) off k = rd t (off - h.length) k := by
  induction k generalizing off with
  | zero => rfl
  | succ k ih => simp only [rd, List.getElem?_append_right ho, ih (off + 1) (by omega), Nat.sub_add_comm ho]

/-- A number reads back from the bytes that spell it. -/
theorem rd_le (n v : Nat) (t : List Byte) : rd (le n v ++ t) 0 n = v % 256 ^ n := by
  induction n generalizing v with
  | zero => simp [rd, Nat.mod_one]
  | succ n ih =>
    have first : ((le (n + 1) v ++ t)[0]?.getD 0).toNat = v % 256 := by simp [le]
    have rest : rd (le (n + 1) v ++ t) 1 n = v / 256 % 256 ^ n := by
      rw [← ih]
      exact rd_skip [BitVec.ofNat 8 v] (le n (v / 256) ++ t) 1 n (by simp)
    rw [rd, first, rest, pow_succ', Nat.mod_mul]

/-! #### The commands of start-up and self-test (R400) -/

section
variable {m : Nat} {a : Cmd} {s : State}

theorem bootQuery_answers (takes : Takes s m 0x0D01 a) (five : s.top.phaseEnds.length = 5) :
    ∃ p, exec (.bootQuery m) s = .next (s.answers m s.core p) ∧ p.length = 64 ∧
      rd p 40 1 = s.top.fwSlot % 256 ∧ rd p 41 1 = b2n s.top.fwFallback ∧ rd p 48 8 = s.top.failedStart.toNat ∧
      rd p 56 4 = s.top.fwVersion % 2 ^ 32 ∧ ∀ k < 5, rd p (8 * k) 8 = s.top.phaseEnds.getD k 0 % 2 ^ 64 := by
  refine ⟨_, congrArg Host.Outcome.next (runCommand_answers takes rfl), ?_⟩
  obtain ⟨e0, e1, e2, e3, e4, ends⟩ : ∃ e0 e1 e2 e3 e4, s.top.phaseEnds = [e0, e1, e2, e3, e4] := by
    match h : s.top.phaseEnds, five with
    | [e0, e1, e2, e3, e4], _ => exact ⟨e0, e1, e2, e3, e4, rfl⟩
  have fallback : b2n s.top.fwFallback % 256 = b2n s.top.fwFallback := by cases s.top.fwFallback <;> rfl
  simp only [ends, List.flatMap_cons, List.flatMap_nil, List.append_assoc, List.nil_append]
  refine ⟨by simp, ?_, ?_, ?_, ?_, fun k hk => ?_⟩
  · simp (disch := simp) [rd_skip, rd_le]
  · simp (disch := simp) [rd_skip, rd_le, fallback]
  · simp (disch := simp) [rd_skip, rd_le]
    exact s.top.failedStart.isLt
  · simp (disch := simp) [rd_skip, rd_le]
  · interval_cases k <;> simp (disch := simp) [rd_skip, rd_le]

/-- CFG_LOAD and FW_LOAD ask host memory for their image. -/
theorem Core.readHost_asks (p : ReadFor) (addr n : Nat) (c : Core) :
    ∃ k, (c.readHost p addr n).fabric.reads.get? k = some (p, n) ∧ (c.readHost p addr n).out = c.out ++ [.hostRead k addr n] :=
  ⟨c.host.nextRead, Tbl.get?_set_self _ _ _, rfl⟩

theorem load_runs (op : Nat) (takes : Takes s m op a) (body : Top → Core → Nat → Cmd → Ans) (p : ReadFor)
    (free : s.core.loading = false → body s.top s.core m a = waits (s.core.readHost p (a.arg 0 8) (a.arg 8 4)))
    (taken : s.core.loading = true → body s.top s.core m a = .error (.busy, 0)) :
    (s.core.loading = false → ∃ c' k, (.next (runCommand m op body s) : Host.Outcome State Fault Refusal) = .next (s.holds m c') ∧
      c'.fabric.reads.get? k = some (p, a.arg 8 4) ∧ c'.out = s.core.out ++ [.hostRead k (a.arg 0 8) (a.arg 8 4)]) ∧
    (s.core.loading = true → (.next (runCommand m op body s) : Host.Outcome State Fault Refusal) = .next (s.refuses m .busy 0)) := by
  refine ⟨fun idle => ?_, fun busy => congrArg Host.Outcome.next (runCommand_refuses takes (taken busy))⟩
  obtain ⟨k, read, out⟩ := s.core.readHost_asks p (a.arg 0 8) (a.arg 8 4)
  exact ⟨_, k, congrArg Host.Outcome.next (runCommand_holds takes (free idle)), read, out⟩

theorem cfgLoad_runs (takes : Takes s m 0x0D02 a) (least : 24 ≤ a.arg 8 4) (most : a.arg 8 4 ≤ 65536) :
    (s.core.loading = false → ∃ c' k, exec (.cfgLoad m) s = .next (s.holds m c') ∧ c'.fabric.reads.get? k = some (.cfgLoad m, a.arg 8 4) ∧
      c'.out = s.core.out ++ [.hostRead k (a.arg 0 8) (a.arg 8 4)]) ∧
    (s.core.loading = true → exec (.cfgLoad m) s = .next (s.refuses m .busy 0)) :=
  load_runs _ takes cfgLoadBody _ (fun idle => by simp [cfgLoadBody, needArg, need, least, most, idle]; rfl)
    (fun busy => by simp [cfgLoadBody, needArg, need, least, most, busy]; rfl)

theorem fwLoad_runs (takes : Takes s m 0x0D04 a) (least : 513 ≤ a.arg 8 4) (most : a.arg 8 4 ≤ 16777216) :
    (s.core.loading = false → ∃ c' k, exec (.fwLoad m) s = .next (s.holds m c') ∧ c'.fabric.reads.get? k = some (.fwLoad m, a.arg 8 4) ∧
      c'.out = s.core.out ++ [.hostRead k (a.arg 0 8) (a.arg 8 4)]) ∧
    (s.core.loading = true → exec (.fwLoad m) s = .next (s.refuses m .busy 0)) :=
  load_runs _ takes fwLoadBody _ (fun idle => by simp [fwLoadBody, needArg, need, least, most, idle]; rfl)
    (fun busy => by simp [fwLoadBody, needArg, need, least, most, busy]; rfl)

theorem cfgRead_answers (takes : Takes s m 0x0D03 a) (aligned : a.arg 0 4 % 4 = 0) :
    exec (.cfgRead m) s = .next (s.answers m s.core (le 4 s.top.cfgImage.length ++ (s.top.cfgImage.drop (a.arg 0 4)).take 4080)) :=
  congrArg Host.Outcome.next (runCommand_answers takes (by simp [cfgReadBody, needArg, need, aligned]; rfl))

theorem selftestSet_answers (takes : Takes s m 0x0D05 a) (period : a.arg 4 4 = 0 ∨ (3600 ≤ a.arg 4 4 ∧ a.arg 4 4 ≤ 2592000)) :
    exec (.selftestSet m) s = .next (s.answers m (s.core.onTelem (fun x => { x with
      testOn := bit (a.arg 0 4) 0
      testPeriod := if a.arg 4 4 = 0 then x.testPeriod else a.arg 4 4 }))) := by
  have fits : (a.arg 4 4 == 0 || (3600 ≤ a.arg 4 4 && a.arg 4 4 ≤ 2592000)) = true := by simpa using period
  exact congrArg Host.Outcome.next (runCommand_answers takes (by simp only [selftestSetBody, needArg, need, fits]; rfl))

theorem selftestRun_runs (takes : Takes s m 0x0D06 a) (die : a.arg 0 1 < 64) (here : s.top.gone (a.arg 0 1) = false) :
    (s.core.underTest (a.arg 0 1) = false →
      exec (.selftestRun m) s = .next (s.holds m (s.core.updTest (a.arg 0 1) (fun r => { r with runners := r.runners ++ [m] })))) ∧
    (s.core.underTest (a.arg 0 1) = true → exec (.selftestRun m) s = .next (s.refuses m .busy 0)) :=
  ⟨fun free => congrArg Host.Outcome.next (runCommand_holds takes (by simp [selftestRunBody, needArg, need, die, here, free]; rfl)),
   fun busy => congrArg Host.Outcome.next (runCommand_refuses takes (by simp [selftestRunBody, needArg, need, die, here, busy]; rfl))⟩

theorem selftestQuery_answers (takes : Takes s m 0x0D07 a) (die : a.arg 0 1 < 64) :
    ∃ p, exec (.selftestQuery m) s = .next (s.answers m s.core p) ∧ p.length = 32 ∧
      rd p 0 1 = (if s.top.gone (a.arg 0 1) = true ∧ (s.core.test (a.arg 0 1)).state ≠ 3 then 4 else (s.core.test (a.arg 0 1)).state % 256) ∧
      rd p 8 4 = (s.core.test (a.arg 0 1)).passes % 2 ^ 32 := by
  refine ⟨_, congrArg Host.Outcome.next (runCommand_answers takes (by simp only [selftestQueryBody, needArg, need, die]; rfl)), ?_⟩
  simp only [List.append_assoc]
  refine ⟨by simp [Rate.bytes], ?_, ?_⟩
  · rw [rd_le, pow_one]
    by_cases failed : s.top.gone (a.arg 0 1) = true ∧ (s.core.test (a.arg 0 1)).state ≠ 3
    · simp [failed]
    · rw [if_neg failed, if_neg (by simpa using failed)]
  · simp (disch := simp) [rd_skip, rd_le]

end

/-! #### The phases of start-up (R379) -/

section
variable {t : Top} {c : Core}

/-- A die's copy of package time as start-up loads it: its delay measured, and off by a free choice of at most 5 ns (R29). -/
def TimeBlk.CopyLoaded (b : TimeBlk) (d : Nat) : Prop :=
  ∃ x, b.copies.get? d = some x ∧ x.delay = Config.timeDelay d ∧ x.least = b.now ∧ -5 ≤ x.off ∧ x.off ≤ 5

theorem TimeBlk.copyLoaded_loadCopy (b : TimeBlk) (d k e : Nat) (was : b.CopyLoaded e ∨ e = d) : (b.loadCopy d k).CopyLoaded e := by
  by_cases same : e = d
  · subst same
    exact ⟨_, Tbl.get?_set_self _ _ _, rfl, rfl, by dsimp only; omega, by dsimp only; omega⟩
  · obtain ⟨x, at_, delay, least, low, high⟩ := was.resolve_right same
    exact ⟨x, (Tbl.get?_set_other _ _ _ _ same).trans at_, delay, least, low, high⟩

/-- Every die's copy loaded, whatever the free choices are; the rest of the device's own state stays. -/
theorem Top.loadCopies (k : Nat → Nat) (ds : List Nat) (t : Top) :
    ∃ b : TimeBlk, ds.foldl (fun (t : Top) d => t.onTime (fun b => b.loadCopy d (k d))) t = { t with time := b } ∧ b.now = t.now ∧
      ∀ e, t.time.CopyLoaded e ∨ e ∈ ds → b.CopyLoaded e := by
  induction ds generalizing t with
  | nil => exact ⟨t.time, rfl, rfl, fun e h => h.resolve_right List.not_mem_nil⟩
  | cons d ds ih =>
    obtain ⟨b, run, now, loaded⟩ := ih (t.onTime (fun b => b.loadCopy d (k d)))
    refine ⟨b, run, now, fun e h => loaded e ?_⟩
    rw [List.mem_cons] at h
    rcases h with was | rfl | later
    · exact .inl (TimeBlk.copyLoaded_loadCopy _ _ _ _ (.inl was))
    · exact .inl (TimeBlk.copyLoaded_loadCopy _ _ _ _ (.inr rfl))
    · exact .inr later

theorem bootRomDone_loads (dev : t.dev = .boot) (phase : t.phase = 1) (perst : t.perst = false) (left : t.allFailed = false) (ok : BitVec 4)
    (passed : ok &&& ~~~t.summitFail ≠ 0) : (bootRomDone ok t c).2 = { c with nonce := c.nonce + 64 } ∧
      (bootRomDone ok t c).1.dev = .boot ∧ (bootRomDone ok t c).1.phase = 2 ∧ (bootRomDone ok t c).1.candidates = ok &&& ~~~t.summitFail ∧
      (bootRomDone ok t c).1.allFailed = false ∧ ∀ d < 64, ∃ x, (bootRomDone ok t c).1.time.copies.get? d = some x ∧
        x.delay = Config.timeDelay d ∧ x.least = t.now ∧ -5 ≤ x.off ∧ x.off ≤ 5 := by
  unfold bootRomDone
  rw [if_neg (by simp [dev, phase, perst, left])]
  extract_lets good t1 ended t2
  rw [if_neg passed]
  have still : t1.still = t.still := t.still_foldl _ (fun t q => by split; exacts [rfl, t.still_failStart _]) _
  obtain ⟨b, loaded, now, copies⟩ := Top.loadCopies (fun d => Config.pick (c.nonce + d)) (List.range 64) t2
  dsimp only
  rw [loaded]
  have clock : b.now = t.now := now.trans (congrArg TimeBlk.now (Top.time_of_still still) : t1.now = t.now)
  exact ⟨rfl, (Top.dev_of_still still).trans dev, rfl, rfl, (Top.allFailed_of_still still).trans left,
    fun d low => clock ▸ copies d (.inr (List.mem_range.2 low))⟩

theorem bootRomDone_fails (dev : t.dev = .boot) (phase : t.phase = 1) (perst : t.perst = false) (left : t.allFailed = false) (ok : BitVec 4)
    (none_ : ok &&& ~~~t.summitFail = 0) : (bootRomDone ok t c).2 = c ∧ (bootRomDone ok t c).1.dev = .boot ∧
      (bootRomDone ok t c).1.allFailed = true := by
  unfold bootRomDone
  rw [if_neg (by simp [dev, phase, perst, left])]
  extract_lets good t1 ended t2
  rw [if_pos none_]
  have still : t1.still = t.still := t.still_foldl _ (fun t q => by split; exacts [rfl, t.still_failStart _]) _
  exact ⟨rfl, (Top.dev_of_still still).trans dev, rfl⟩

theorem Core.lifeLoaded_life (t : Top) (die item sub n : Nat) (c : Core) : (c.life t die item sub n).telem.lifeLoaded = c.telem.lifeLoaded := by
  unfold Core.life
  split
  · rfl
  · extract_lets r old new c1
    split
    · exact (c1.quiet_raise _ _ _ _ _).lifeLoaded
    · rfl

theorem Core.lifeLoaded_foldl {α : Type} (f : Core → α → Core) (h : ∀ (c : Core) (x : α), (f c x).telem.lifeLoaded = c.telem.lifeLoaded)
    (xs : List α) (c : Core) : (xs.foldl f c).telem.lifeLoaded = c.telem.lifeLoaded :=
  List.foldlRecOn (motive := fun b => b.telem.lifeLoaded = c.telem.lifeLoaded) xs f rfl fun b run x _ => (h b x).trans run

/-- The lifetime store is loaded once (R410, R411). -/
theorem Core.lifeLoaded_loadLife (t : Top) (c : Core) : (c.loadLife t).telem.lifeLoaded = true := by
  unfold Core.loadLife
  split
  · assumption
  · extract_lets c1
    refine (lifeLoaded_foldl _ (fun c d => ?_) _ c1 : _ = c1.telem.lifeLoaded)
    extract_lets q p m
    split
    next r finding _ =>
    extract_lets c2 c3 c4
    have raised : c4.telem.lifeLoaded = c3.telem.lifeLoaded := by
      unfold c4
      split
      · rfl
      · exact (c3.quiet_raise _ _ _ _ _).lifeLoaded
    split
    · exact raised
    · exact (c4.lifeLoaded_life t _ _ _ _).trans raised

theorem firmwareVerify_verifies {q n : Nat} (dev : t.dev = .boot) (phase : t.phase = 2) (left : t.allFailed = false)
    (lowest : (List.range 4).find? (fun q => t.candidates.getLsbD q) = some q) :
    let want := if t.bootWord = 0x00005A01#32 then 1 else 0
    let slot := fun (n : Nat) => if n = 1 then t.slot1 else t.slot0
    (n = want ∨ (n = 1 - want ∧ fwCheck t.secFloor (slot want) ≠ none)) → fwCheck t.secFloor (slot n) = none →
      (firmwareVerify t c).1 = { t.endPhase 2 with
        primary := q, fwValid := true, fwSlot := n, fwFallback := n != want, fwVersion := rd (slot n) 8 4, fwSecurity := rd (slot n) 6 2 } ∧
      (firmwareVerify t c).2.telem.lifeLoaded = true := by
  intro want slot which good
  have chosen : (if (fwCheck t.secFloor (slot want)).isNone = true then some want
      else if (fwCheck t.secFloor (slot (1 - want))).isNone = true then some (1 - want) else none) = some n := by
    rcases which with rfl | ⟨rfl, bad⟩
    · simp [good]
    · simp [good, bad]
  unfold firmwareVerify
  rw [if_neg (by simp [dev, phase, left]), lowest]
  dsimp only
  split
  · next n' found =>
    have same : n' = n := Option.some.inj (found.symm.trans chosen)
    subst same
    exact ⟨rfl, Core.lifeLoaded_loadLife _ _⟩
  · next found => exact absurd (found.symm.trans chosen) nofun

theorem Top.absent_lose {d : Nat} (hd : d < 64) (t : Top) : (t.lose d).absent.getLsbD d = true := by
  simp [Top.lose, hd]

theorem Top.absent_failStart (d : Nat) (t : Top) : (t.failStart d).absent = (t.lose d).absent := by
  unfold Top.failStart
  split <;> rfl

theorem firmwareVerify_fails {q : Nat} (dev : t.dev = .boot) (phase : t.phase = 2) (left : t.allFailed = false)
    (lowest : (List.range 4).find? (fun q => t.candidates.getLsbD q) = some q) (bad0 : fwCheck t.secFloor t.slot0 ≠ none)
    (bad1 : fwCheck t.secFloor t.slot1 ≠ none) :
    (firmwareVerify t c).2 = c ∧ (firmwareVerify t c).1.dev = .boot ∧ (firmwareVerify t c).1.phase = 2 ∧
      (firmwareVerify t c).1.candidates = t.candidates &&& ~~~(1#4 <<< q) ∧ (firmwareVerify t c).1.absent.getLsbD (summitDie q) = true := by
  have bad : ∀ n, (fwCheck t.secFloor (if n = 1 then t.slot1 else t.slot0)).isNone = false := fun n => by
    split <;> simpa [Option.isNone_eq_false_iff, Option.isSome_iff_ne_none]
  have still := t.still_failStart (summitDie q)
  unfold firmwareVerify
  rw [if_neg (by simp [dev, phase, left]), lowest]
  dsimp only
  simp only [bad, Bool.false_eq_true, if_false]
  have lost : (t.failStart (summitDie q)).absent.getLsbD (summitDie q) = true := by
    have low : q < 4 := List.mem_range.1 (List.mem_of_find?_eq_some lowest)
    rw [Top.absent_failStart]
    exact Top.absent_lose (by unfold summitDie; omega) t
  split
  · exact ⟨trivial, (Top.dev_of_still still).trans dev, (Top.phase_of_still still).trans phase, rfl, lost⟩
  · exact ⟨trivial, (Top.dev_of_still still).trans dev, (Top.phase_of_still still).trans phase, rfl, lost⟩

end

/-! #### Ports, stacks and dies as start-up leaves them (R380, R389, R390, R392) -/

theorem Core.port_updPort_other {p q : Nat} (other : p ≠ q) (f : Port → Port) (c : Core) : (c.updPort q f).port p = c.port p := by
  unfold Core.updPort
  split
  · simp [Core.port, Tbl.getD, Tbl.get?_set_other _ _ _ _ other]
  · rfl

theorem Core.portOn_trains (t : Top) {p : Nat} (hp : p < 8) (c : Core) : ((c.portOn t p).port p).state = .training := by
  unfold Core.portOn Core.setPortState
  rw [Core.port_updPort_self hp]

theorem Core.port_portOn_other (t : Top) {p q : Nat} (other : p ≠ q) (c : Core) : (c.portOn t q).port p = c.port p := by
  unfold Core.portOn Core.setPortState
  rw [Core.port_updPort_other other, Core.port_updPort_other other]
  rfl

/-- A port turned on is not turned on again. -/
theorem Core.portsOn_train (t : Top) {p : Nat} (hp : p < 8) (want : Nat → Bool) (wanted : want p = true) (ps : List Nat) (c : Core)
    (h : (c.port p).state = .training ∨ ((c.port p).state = .disabled ∧ p ∈ ps)) :
    ((ps.foldl (fun c p => if want p && (c.port p).state = .disabled then c.portOn t p else c) c).port p).state = .training := by
  induction ps generalizing c with
  | nil => exact h.resolve_right (fun h => List.not_mem_nil h.2)
  | cons q ps ih =>
    refine ih _ ?_
    dsimp only
    by_cases same : p = q
    · subst same
      split
      · exact .inl (c.portOn_trains t hp)
      · next off => exact .inl (h.resolve_right (fun h => off (by simp [wanted, h.1])))
    · have rest : (c.port p).state = .training ∨ ((c.port p).state = .disabled ∧ p ∈ ps) :=
        h.imp_right (And.imp_right (fun h => (List.mem_cons.1 h).resolve_left same))
      split
      · rwa [Core.port_portOn_other t same]
      · exact rest

section
variable {t : Top} {c : Core}

theorem configApply_defaults {k : Nat} (dev : t.dev = .boot) (phase : t.phase = 3) (unused : cfgCheck t.cfgFlash = some k) :
    (configApply t c).1.dev = .train ∧ (configApply t c).1.phase = 4 ∧ (configApply t c).1.cfgDefaulted = true ∧
      (configApply t c).1.cfgCause = k ∧ (configApply t c).1.nodeId = t.nodeId ∧
      ∀ p < 8, t.cfgPorts.getLsbD p = true → t.hasPort p = true → (c.port p).state = .disabled →
        ((configApply t c).2.port p).state = .training := by
  unfold configApply
  rw [if_neg (by simp [dev, phase]), unused]
  refine ⟨rfl, rfl, rfl, rfl, rfl, fun p hp on has off => ?_⟩
  exact Core.portsOn_train _ hp (fun p => t.cfgPorts.getLsbD p && t.hasPort p) (by simp [on, has]) _ c (.inr ⟨off, List.mem_range.2 hp⟩)

/-- The records of an image leave what was noted of the image itself. -/
theorem applyRecords_keeps (rs : List (Nat × List Byte)) (t : Top) (c : Core) :
    (applyRecords rs (t, c)).1.cfgDefaulted = t.cfgDefaulted ∧ (applyRecords rs (t, c)).1.cfgSeq = t.cfgSeq ∧
      (applyRecords rs (t, c)).1.cfgImage = t.cfgImage := by
  obtain ⟨_, same⟩ := applyRecords_runs rs (t, c)
  exact ⟨(congrArg Top.cfgDefaulted same :), (congrArg Top.cfgSeq same :), (congrArg Top.cfgImage same :)⟩

theorem configApply_uses (dev : t.dev = .boot) (phase : t.phase = 3) (used : cfgCheck t.cfgFlash = none) :
    (configApply t c).1.dev = .train ∧ (configApply t c).1.phase = 4 ∧ (configApply t c).1.cfgDefaulted = false ∧
      (configApply t c).1.cfgSeq = rd t.cfgFlash 12 4 ∧ (configApply t c).1.cfgImage = t.cfgFlash.take (rd t.cfgFlash 8 4) := by
  unfold configApply
  rw [if_neg (by simp [dev, phase]), used]
  obtain ⟨defaulted, seq, image⟩ := applyRecords_keeps ((cfgBody t.cfgFlash).getD []) { t with
    cfgDefaulted := false, cfgCause := 0, cfgImage := t.cfgFlash.take (rd t.cfgFlash 8 4), cfgSeq := rd t.cfgFlash 12 4 } c
  dsimp only [Top.endPhase]
  exact ⟨rfl, rfl, defaulted, seq, image⟩

/-- Leaving out a stack that a mask does not name changes nothing. -/
theorem clear_bit_of_clear {m : BitVec 16} {k : Nat} (h : m.getLsbD k = false) : m &&& ~~~(1#16 <<< k) = m := by
  ext i hi
  by_cases same : i = k
  · subst same
    simpa [BitVec.getLsbD_eq_getElem hi] using h
  · simp
    omega

theorem trainingDone_masks (mask : BitVec 16) (ds : List Nat) (dev : t.dev = .train)
    (here : ∀ k < 16, mask.getLsbD k = true → t.gone (saddleDie k) = false) :
    trainingDone mask ds t c = if mask = 0 then enterFaulted { t.endPhase 4 with stackMask := mask, warmDevices := ds, warmRemoved := [] } c 0xFF
      else ({ t.endPhase 4 with stackMask := mask, warmDevices := ds, warmRemoved := [], dev := .selftest }, c) := by
  have kept : (List.range 16).foldl (fun (m : BitVec 16) s => if t.gone (saddleDie s) then m &&& ~~~(1#16 <<< s) else m) mask = mask := by
    refine List.foldl_fixed' (fun k => ?_) _
    split
    · next gone =>
      refine clear_bit_of_clear (Bool.eq_false_iff.2 fun on => ?_)
      exact absurd gone (by simp [here k (BitVec.lt_of_getLsbD on) on])
    · rfl
  unfold trainingDone
  rw [if_neg (by simp [dev]), kept]

theorem Core.sameWork_noteTest (t : Top) (d kind res rows : Nat) (c : Core) : c.SameWork (c.noteTest t d kind res rows) := by
  unfold Core.noteTest
  extract_lets c1
  have counted : c.SameWork c1 := (c.sameWork_life _ _ _ _ _).trans (Core.sameWork_life _ _ _ _ _ _)
  exact counted.trans (c1.sameWork_telem _)

theorem Core.sameWork_grantQueues (t : Top) (c : Core) : c.SameWork (c.grantQueues t) :=
  Core.sameWork_foldl _ (fun c _ => c.sameWork_qRefill _ _ _) _ _

theorem startupDone_passes (rep : List Nat) (dev : t.dev = .selftest) (crests : t.crests ≠ []) (left : t.stackMask ≠ 0) :
    (startupDone 0 [] rep t c).1.dev = .ready ∧ (startupDone 0 [] rep t c).1.phase = 0 ∧ (startupDone 0 [] rep t c).1.absent = t.absent ∧
      (startupDone 0 [] rep t c).1.stackMask = t.stackMask ∧ (startupDone 0 [] rep t c).2.ports = c.ports := by
  unfold startupDone
  rw [if_neg (by simp [dev])]
  extract_lets up c1 lost1 far bad isFatal t1 c2 c3 t2 c4
  have none_ : bad = [] := by simp [bad, far]
  have noted : c.SameWork c1 := Core.sameWork_foldl _ (fun c d => c.sameWork_noteTest _ _ _ _ _) _ _
  have lost : t1 = t ∧ c3 = c1 := by simp only [t1, c3, c2, none_, List.foldl_nil, and_self]
  have granted : c1.SameWork c4 := by
    simp only [c4, none_, lost.2, List.foldl_nil]
    exact c1.sameWork_grantQueues t2
  have ended : t2 = t.endPhase 5 := by simp only [t2, lost.1]
  have complete : ¬ ([].any (96 ≤ ·) || t2.crests.isEmpty || t2.stackMask = 0) = true := by
    rw [ended]
    simpa using ⟨crests, left⟩
  rw [if_neg (by simp), none_, List.find?_nil]
  dsimp only
  rw [if_neg complete]
  exact ⟨rfl, (congrArg Top.phase ended :), (congrArg Top.absent ended :), (congrArg Top.stackMask ended :), granted.ports.trans noted.ports⟩

theorem startupDone_restarts (bad : BitVec 64) (links rep : List Nat) (dev : t.dev = .selftest) (failed : bad.getLsbD t.primaryDie = true) :
    (startupDone bad links rep t c).1.dev = .boot ∧ (startupDone bad links rep t c).1.phase = 1 ∧
      (startupDone bad links rep t c).1.fwValid = false := by
  unfold startupDone
  rw [if_neg (by simp [dev])]
  dsimp only
  rw [if_pos failed]
  exact ⟨rfl, rfl, rfl⟩

theorem startupDone_fatal (bad : BitVec 64) (links rep : List Nat) (dev : t.dev = .selftest) {q : Nat} (hq : q < 4)
    (failed : bad.getLsbD (passDie q) = true) (here : t.gone (passDie q) = false) (primary : bad.getLsbD t.primaryDie = false) :
    (startupDone bad links rep t c).1.dev = .faulted := by
  unfold startupDone
  rw [if_neg (by simp [dev])]
  extract_lets up c1 lost1 far lost isFatal t1 c2 c3 t2 c4
  rw [if_neg (by simp [primary])]
  have fatal : passDie q ∈ lost ∧ isFatal (passDie q) = true := by
    have low : passDie q < 64 := by unfold passDie; omega
    have type : dieType (passDie q) = (.pass, q) := by interval_cases q <;> rfl
    simp [lost, up, isFatal, low, here, failed, type]
  split
  · rw [enterFaulted_top]
  · next none_ => exact absurd fatal.2 (List.find?_eq_none.1 none_ _ fatal.1)

theorem Core.life_counts (t : Top) (die item sub n : Nat) (c : Core) (here : t.gone die = false) :
    (((c.life t die item sub n).telem.life.getD die {}).items.getD (lifeKey item sub) {}) =
      ((c.telem.life.getD die {}).items.getD (lifeKey item sub) {}).up n := by
  unfold Core.life
  rw [if_neg (by simp [here])]
  extract_lets r old new c1
  have counted : ((c1.telem.life.getD die {}).items.getD (lifeKey item sub) {}) = new := by
    simp [c1, Core.onTelem, Tbl.getD]
  split
  · rw [(c1.quiet_raise _ _ _ _ _).life]
    exact counted
  · exact counted

theorem interfaceRetrain_counts (st v : Nat) (low : Bool) (here : t.gone (saddleDie st) = false) (mask : t.stackMask.getLsbD st = true)
    (runs : c.fenced (saddleDie st) = false) :
    (c.retrainInterface t st v low).tiers = c.tiers ∧
      (((c.retrainInterface t st v low).telem.life.getD (saddleDie st) {}).items.getD (lifeKey 6 (min 15 (v / 4))) {}) =
        ((c.telem.life.getD (saddleDie st) {}).items.getD (lifeKey 6 (min 15 (v / 4))) {}).up 1 := by
  unfold Core.retrainInterface
  rw [if_neg (by simp [here, mask, runs])]
  extract_lets c1
  have tiers : c1.tiers = c.tiers := (c.sameWork_life _ _ _ _ _).tiers
  have counted := c.life_counts t (saddleDie st) 6 (min 15 (v / 4)) 1 here
  split
  · exact ⟨(c1.sameWork_raise _ _ _ _ _).tiers.trans tiers, by rw [(c1.quiet_raise _ _ _ _ _).life]; exact counted⟩
  · exact ⟨tiers, counted⟩

end

end Sys2Proof.Machine
end

/-! ### A slice of self-test (R394 to R400), and work that moves between engines -/

section
namespace Sys2Proof.Machine

/-! #### Work that moves between engines -/

/-- Only schedules, searches, queues, the mesh and counters differ: no context, page, connection, port or mailbox, and no die's self-test. -/
structure Core.Engages (a b : Core) : Prop where
  mboxes : b.host.mboxes = a.host.mboxes
  ctxs : b.ctxs = a.ctxs
  tiers : b.tiers = a.tiers
  fabric : b.fabric = a.fabric
  ports : b.ports = a.ports
  tests : b.telem.tests = a.telem.tests

theorem Core.Engages.refl (c : Core) : c.Engages c := ⟨rfl, rfl, rfl, rfl, rfl, rfl⟩

theorem Core.Engages.trans {a b c : Core} (h : a.Engages b) (k : b.Engages c) : a.Engages c :=
  ⟨k.mboxes.trans h.mboxes, k.ctxs.trans h.ctxs, k.tiers.trans h.tiers, k.fabric.trans h.fabric, k.ports.trans h.ports, k.tests.trans h.tests⟩

theorem Core.SameWork.engages {a b : Core} (h : a.SameWork b) (k : a.Quiet b) : a.Engages b :=
  ⟨h.mboxes, h.ctxs, h.tiers, h.fabric, h.ports, k.tests⟩

theorem Core.engages_ite {a b c : Core} (p : Prop) [Decidable p] (h : a.Engages b) (k : a.Engages c) : a.Engages (if p then b else c) := by
  split
  · exact h
  · exact k

theorem Core.engages_foldl {α : Type} (f : Core → α → Core) (h : ∀ (c : Core) (x : α), c.Engages (f c x)) (xs : List α) (c : Core) :
    c.Engages (xs.foldl f c) :=
  List.foldlRecOn xs f (.refl c) fun b run x _ => run.trans (h b x)

theorem Core.engages_sched (f : Sched → Sched) (c : Core) : c.Engages (c.onSched f) := ⟨rfl, rfl, rfl, rfl, rfl, rfl⟩
theorem Core.engages_search (f : Search → Search) (c : Core) : c.Engages (c.onSearch f) := ⟨rfl, rfl, rfl, rfl, rfl, rfl⟩
theorem Core.engages_updItem (k : Nat) (f : Item → Item) (c : Core) : c.Engages (c.updItem k f) := c.engages_sched _
theorem Core.engages_onSlice (k n : Nat) (f : Slice → Slice) (c : Core) : c.Engages (c.onSlice k n f) := c.engages_updItem _ _
theorem Core.engages_onUnit (k n : Nat) (f : RidgeUnit → RidgeUnit) (c : Core) : c.Engages (c.onUnit k n f) := c.engages_updItem _ _
theorem Core.engages_freeScore (crest n : Nat) (c : Core) : c.Engages (c.freeScore crest n) := c.engages_sched _
theorem Core.engages_askScore (crest : Nat) (r : ScoreReq) (c : Core) : c.Engages (c.askScore crest r) := c.engages_sched _
theorem Core.engages_pick (c : Core) : c.Engages c.pick.2 := ⟨rfl, rfl, rfl, rfl, rfl, rfl⟩
theorem Core.engages_chooseCrest (t : Top) (is : List Nat) (c : Core) : c.Engages (c.chooseCrest t is).2 := c.engages_pick

theorem Core.engages_qSend (t : Top) (id inst prod n : Nat) (w : Work) (c : Core) : c.Engages (c.qSend t id inst prod n w) :=
  (c.sameWork_qSend _ _ _ _ _ _).engages (c.quiet_qSend _ _ _ _ _ _)
theorem Core.engages_qEndAll (t : Top) (ids : Nat → Bool) (p : Work → Bool) (c : Core) : c.Engages (c.qEndAll t ids p) :=
  (c.sameWork_qEndAll _ _ _).engages (c.quiet_qEndAll _ _ _)

theorem Core.engages_meshSend (t : Top) (src dst : Nat) (cls : MeshClass) (cargo : Cargo) (w : Work) (units : Nat) (c : Core) :
    c.Engages (c.meshSend t src dst cls cargo w units) := by
  have work := c.sameWork_meshSend t src dst cls cargo w units
  exact ⟨work.mboxes, work.ctxs, work.tiers, work.fabric, work.ports, (c.spares_meshSend (wipes := True) _ _ _ _ _ _ _).tests⟩

theorem Core.engages_meshEnd (t : Top) (p : Transfer → Bool) (c : Core) : c.Engages (c.meshEnd t p) := by
  have work := c.sameWork_meshEnd t p
  exact ⟨work.mboxes, work.ctxs, work.tiers, work.fabric, work.ports, (c.spares_meshEnd (wipes := True) _ _).tests⟩

theorem Core.engages_freeWork (t : Top) (w : Work → Bool) (c : Core) : c.Engages (c.freeWork t w) :=
  (c.engages_qEndAll _ _ _).trans (Core.engages_meshEnd _ _ _)

theorem Core.engages_describe (t : Top) (summit crest : Nat) (w : Work) (c : Core) : c.Engages (c.describe t summit crest w) :=
  (c.engages_qSend _ _ _ _ _ _).trans (Core.engages_meshSend _ _ _ _ _ _ _ _)

theorem Core.engages_dispatch (t : Top) (summit crest : Nat) (r : ScoreReq) (c : Core) : c.Engages (c.dispatch t summit crest r) :=
  (c.engages_describe _ _ _ _).trans (Core.engages_askScore _ _ _)

theorem Core.engages_readStack (t : Top) (crest stack engine bytes : Nat) (w : Work) (c : Core) :
    c.Engages (c.readStack t crest stack engine bytes w) :=
  engages_ite _ (c.engages_qSend _ _ _ _ _ _)
    (((c.engages_qSend _ _ _ _ _ _).trans (Core.engages_meshSend _ _ _ _ _ _ _ _)).trans (Core.engages_meshSend _ _ _ _ _ _ _ _))

theorem Core.engages_readUnit (t : Top) (k n : Nat) (c : Core) : c.Engages (c.readUnit t k n) := by
  unfold Core.readUnit
  split
  · exact .refl c
  split
  · exact .refl c
  split
  · exact .refl c
  · exact engages_ite _ (.refl c) (engages_foldl _ (fun c st => c.engages_readStack _ _ _ _ _ _) _ _)

theorem Core.engages_startArray (t : Top) (crest a : Nat) (c : Core) : c.Engages (c.startArray t crest a) := by
  unfold Core.startArray
  extract_lets n centroid count prefill cent
  have units : ∀ k i, c.Engages (prefill k i c) := fun k i =>
    ((c.engages_sched _).trans (Core.engages_onUnit k i _ (count c))).trans (Core.engages_readUnit _ _ _ _)
  have centroids : ∀ u, c.Engages (cent u c) := fun u => (c.engages_sched _).trans (Core.engages_search _ (count c))
  refine engages_ite _ (.refl c) ?_
  split
  · exact .refl c
  · exact units _ _
  · exact centroids _
  · exact engages_ite _ (centroids _) (units _ _)

theorem Core.engages_startArrays (t : Top) (crest : Nat) (c : Core) : c.Engages (c.startArrays t crest) :=
  engages_foldl _ (fun c a => c.engages_startArray t crest a) _ _

/-! #### Work moved away from a die that drains to its fence (R396) -/

theorem Core.engages_moveUnit (t : Top) (k n source dest a : Nat) (c : Core) : c.Engages (c.moveUnit t k n source dest a) := by
  unfold Core.moveUnit
  split
  · exact .refl c
  · extract_lets credits held c1 c2 c3
    have freed : c.Engages c1 := engages_ite _ (c.engages_freeScore _ _) (.refl c)
    have moved : c2.Engages c3 := (c2.engages_freeWork _ _).trans (Core.engages_onUnit _ _ _ _)
    exact ((freed.trans (c1.engages_sched _)).trans moved).trans (c3.engages_dispatch _ _ _ _)

theorem Core.engages_moveUnits (t : Top) (i : Nat) (c : Core) : c.Engages (c.moveUnits t i) := by
  refine engages_foldl _ (fun c k => engages_foldl _ (fun c key => ?_) _ _) _ _
  have chosen := (c.engages_chooseCrest t ((List.range 32).filter (fun j => j / 8 == i / 8))).trans (Core.engages_pick _)
  exact engages_ite _ chosen (chosen.trans (engages_foldl _ (fun c u => c.engages_moveUnit _ _ _ _ _ _) _ _))

theorem Core.engages_moveCentroids (t : Top) (i : Nat) (c : Core) : c.Engages (c.moveCentroids t i) := by
  refine engages_foldl _ (fun c e => ?_) _ _
  have chosen := (c.engages_chooseCrest t ((List.range 32).filter (fun j => j / 8 == i / 8))).trans (Core.engages_pick _)
  exact (chosen.trans (Core.engages_search _ _)).trans (Core.engages_startArrays _ _ _)

theorem Core.engages_moveSlices (t : Top) (i : Nat) (c : Core) : c.Engages (c.moveSlices t i) := by
  unfold Core.moveSlices
  extract_lets other q c1
  refine engages_ite _ (.refl c) ((c.engages_sched _ : c.Engages c1).trans (engages_foldl _ (fun c r => ?_) _ _))
  exact ((c.engages_freeWork _ _).trans (Core.engages_onSlice _ _ _ _)).trans (Core.engages_dispatch _ _ _ _ _)

theorem Core.engages_moveWaiting (t : Top) (i : Nat) (c : Core) : c.Engages (c.moveWaiting t i) :=
  ((c.engages_moveSlices _ _).trans (Core.engages_moveUnits _ _ _)).trans (Core.engages_moveCentroids _ _ _)

/-! #### A slice of self-test (R394 to R400) -/

/-- A die's record after it has changed. -/
theorem Core.test_updTest (d : Nat) (f : DieTest → DieTest) (c : Core) : (c.updTest d f).test d = f (c.test d) := by
  simp [Core.test, Core.updTest, Core.onTelem, Tbl.getD, Tbl.updD]

theorem Core.test_of_tests {a b : Core} (h : b.telem.tests = a.telem.tests) (d : Nat) : b.test d = a.test d := by
  simp only [Core.test, h]

/-- The last result is noted; what runs on the die stays (R400, R410). -/
theorem Core.test_noteTest (t : Top) (d kind res rows : Nat) (c : Core) :
    (c.noteTest t d kind res rows).test d = { c.test d with last := res, repaired := (c.test d).repaired.up rows } := by
  have counted : ((c.life t d 0x0C (2 * kind + res)).life t d 0x0C 4 rows).telem.tests = c.telem.tests :=
    ((c.spares_life (wipes := True) _ _ _ _ _).trans (Core.spares_life _ _ _ _ _ _)).tests
  simp only [Core.noteTest, Core.test, Core.onTelem, counted]
  simp [Tbl.getD, Tbl.updD]

theorem Core.sliceStart_idle (t : Top) (d : Nat) (c : Core) (off : c.telem.testOn = false) (alone : (c.test d).runners = []) :
    c.sliceStart t d = c := by
  simp [Core.sliceStart, off, alone]

theorem Core.sliceStart_begins (t : Top) {d : Nat} (c : Core) (hd : d < 64) (here : t.gone d = false) (dev : t.dev = .ready ∨ t.dev = .bound)
    (asked : (c.test d).runners ≠ []) (free : ∀ k < 16, c.underTest (16 * (d / 16) + k) = false) :
    ((c.sliceStart t d).test d).state = 1 ∧ ((c.sliceStart t d).test d).runners = (c.test d).runners := by
  unfold Core.sliceStart
  extract_lets r busy due c1
  have idle : busy = false := by simpa [busy] using free
  have begun : c1.test d = { c.test d with state := 1 } := c.test_updTest _ _
  rw [if_neg (by rcases dev with dev | dev <;> simp [hd, here, idle, dev, r, asked])]
  split
  · next i _ =>
    rw [Core.test_of_tests (c1.engages_moveWaiting t i).tests, begun]
    exact ⟨rfl, rfl⟩
  · rw [begun]
    exact ⟨rfl, rfl⟩

theorem Core.fence_drained (t : Top) {d : Nat} (c : Core) (draining : (c.test d).state = 1)
    (drained : ∀ i, dieType d = (.crest, i) → c.crestBusy i = false) :
    c.fence t d = c.updTest d (fun r => { r with state := 2, began := t.now }) := by
  unfold Core.fence
  extract_lets done
  have go : done = true := by
    unfold done
    split
    · next i type => simp [drained i type]
    · rfl
  rw [if_pos (by simp [draining, go])]

theorem Core.fence_idle (t : Top) {d : Nat} (c : Core) (idle : (c.test d).state ≠ 1) : c.fence t d = c := by
  simp [Core.fence, idle]

/-- Every SELFTEST_RUN that waits is answered once. -/
theorem Core.result_stageAll {m : Nat} (st : Status) (d : Nat) (p : List Byte) (ms : List Nat) (c : Core) (taken : (c.mbox m).taken.isSome = true)
    (h : (c.mbox m).result = some ⟨st, d, p⟩ ∨ ((c.mbox m).result = none ∧ m ∈ ms)) :
    ((ms.foldl (fun c m => c.stage m st d p) c).mbox m).result = some ⟨st, d, p⟩ := by
  induction ms generalizing c with
  | nil => exact h.resolve_right (fun h => List.not_mem_nil h.2)
  | cons k ms ih =>
    by_cases same : m = k
    · subst same
      refine ih _ ?_ (.inl ?_)
      · simpa [Core.stage, apply_ite Mbox.taken] using taken
      · rcases h with done | ⟨open_, _⟩
        · exact (c.settles_stage _ _ _ _).results _ _ done
        · exact Core.result_stage_self taken open_
    · have other : (c.stage k st d p).mbox m = c.mbox m := Core.mbox_updMbox_other _ _ same
      refine ih _ (other ▸ taken) ?_
      rw [other]
      exact h.imp_right (And.imp_right (fun h => (List.mem_cons.1 h).resolve_left same))

/-- A held write of a block reaches no mailbox and no die's record. -/
theorem Core.applyHeld_keeps (t : Top) (n : Nat) (c : Core) :
    (c.applyHeld t n).host.mboxes = c.host.mboxes ∧ (c.applyHeld t n).telem.tests = c.telem.tests := by
  unfold Core.applyHeld
  split
  · dsimp only
    split
    · split
      · exact ⟨by simp [Core.onHost], by simp [Core.onHost]⟩
      · exact ⟨rfl, rfl⟩
    · exact ⟨rfl, rfl⟩
  · exact ⟨rfl, rfl⟩

theorem Core.applyAllHeld_keeps (t : Top) (ns : List Nat) (c : Core) :
    (ns.foldl (fun c n => c.applyHeld t n) c).host.mboxes = c.host.mboxes ∧
      (ns.foldl (fun c n => c.applyHeld t n) c).telem.tests = c.telem.tests := by
  refine List.foldlRecOn (motive := fun b : Core => b.host.mboxes = c.host.mboxes ∧ b.telem.tests = c.telem.tests)
    ns _ ⟨rfl, rfl⟩ fun b run n _ => ?_
  obtain ⟨mboxes, tests⟩ := b.applyHeld_keeps t n
  exact ⟨mboxes.trans run.1, tests.trans run.2⟩

/-- The record of a die whose slice has ended. -/
def DieTest.ended (now res rows : Nat) (r : DieTest) : DieTest :=
  let r := { r with last := res, repaired := r.repaired.up rows, state := 0, runners := [], slices := r.slices + 1 }
  if r.slices = slicesPerPass then { r with slices := 0, passes := r.passes + 1, lastEnd := now } else r

theorem DieTest.ended_fields (now res rows : Nat) (r : DieTest) :
    (r.ended now res rows).state = 0 ∧ (r.ended now res rows).last = res ∧ (r.ended now res rows).runners = [] := by
  unfold DieTest.ended
  dsimp only
  split <;> exact ⟨rfl, rfl, rfl⟩

/-- Everything but the device's own state once a slice has ended: the result noted, and every SELFTEST_RUN that waits answered. -/
def Core.sliceDone (t : Top) (d : Nat) (pass : Bool) (rows : Nat) (c : Core) : Core :=
  (c.test d).runners.foldl (fun c m => c.stage m .ok 0 []) ((c.noteTest t d 1 (b2n (!pass)) rows).updTest d (fun r =>
    let r := { r with state := 0, runners := [], slices := r.slices + 1 }
    if r.slices = slicesPerPass then { r with slices := 0, passes := r.passes + 1, lastEnd := t.now } else r))

theorem sliceEnd_eq {t : Top} {c : Core} (d : Nat) (pass : Bool) (rows : Nat)
    (dev : t.dev = .ready ∨ t.dev = .bound ∨ t.dev = .draining ∨ t.dev = .faulted) (running : (c.test d).state = 2) :
    sliceEnd d pass rows t c = if pass = true then
        (t, match dieType d with
          | (.crest, i) => ((blocksOf d).foldl (fun c n => c.applyHeld t n) (c.sliceDone t d pass rows)).startArrays t i
          | _ => (blocksOf d).foldl (fun c n => c.applyHeld t n) (c.sliceDone t d pass rows))
      else dieFails d t ((c.sliceDone t d pass rows).onHost (fun h => { h with
        farWrites := h.farWrites.filter (fun e => !(blocksOf d).contains e.1) })) := by
  unfold sliceEnd
  rw [if_neg (by rcases dev with dev | dev | dev | dev <;> simp [dev, running])]
  rfl

theorem Core.tests_stageAll (st : Status) (d : Nat) (p : List Byte) (ms : List Nat) (c : Core) :
    (ms.foldl (fun c m => c.stage m st d p) c).telem.tests = c.telem.tests :=
  List.foldlRecOn (motive := fun b : Core => b.telem.tests = c.telem.tests) ms _ rfl fun _ run _ _ => run

theorem Core.test_sliceDone (t : Top) (d : Nat) (pass : Bool) (rows : Nat) (c : Core) :
    (c.sliceDone t d pass rows).test d = (c.test d).ended t.now (b2n (!pass)) rows := by
  unfold Core.sliceDone
  rw [Core.test_of_tests (Core.tests_stageAll _ _ _ _ _), Core.test_updTest, Core.test_noteTest]
  rfl

theorem Core.result_sliceDone (t : Top) {d m : Nat} (pass : Bool) (rows : Nat) {c : Core} (waits : m ∈ (c.test d).runners)
    (taken : (c.mbox m).taken.isSome = true) (open_ : (c.mbox m).result = none) :
    ((c.sliceDone t d pass rows).mbox m).result = some ⟨.ok, 0, []⟩ := by
  have same : ∀ f, ((c.noteTest t d 1 (b2n (!pass)) rows).updTest d f).mbox m = c.mbox m := fun f => by
    simp only [Core.mbox, Core.updTest, Core.onTelem, (c.sameWork_noteTest t d 1 (b2n (!pass)) rows).mboxes]
  exact Core.result_stageAll _ _ _ _ _ (by rwa [same]) (.inr ⟨by rwa [same], waits⟩)

/-- The fence of a die that passes lifts, and only engines take work again. -/
theorem sliceEnd_passes {t : Top} {c : Core} {d : Nat} (rows : Nat)
    (dev : t.dev = .ready ∨ t.dev = .bound ∨ t.dev = .draining ∨ t.dev = .faulted) (running : (c.test d).state = 2) :
    (sliceEnd d true rows t c).1 = t ∧ ((sliceEnd d true rows t c).2.test d).state = 0 ∧ ((sliceEnd d true rows t c).2.test d).last = 0 ∧
      ((sliceEnd d true rows t c).2.test d).runners = [] ∧
      ∀ m ∈ (c.test d).runners, (c.mbox m).taken.isSome = true → (c.mbox m).result = none →
        ((sliceEnd d true rows t c).2.mbox m).result = some ⟨.ok, 0, []⟩ := by
  rw [sliceEnd_eq d true rows dev running, if_pos rfl]
  obtain ⟨mboxes, tests⟩ := Core.applyAllHeld_keeps t (blocksOf d) (c.sliceDone t d true rows)
  have kept : ∀ c' : Core, c'.host.mboxes = (c.sliceDone t d true rows).host.mboxes →
      c'.telem.tests = (c.sliceDone t d true rows).telem.tests → (c'.test d).state = 0 ∧ (c'.test d).last = 0 ∧ (c'.test d).runners = [] ∧
      ∀ m ∈ (c.test d).runners, (c.mbox m).taken.isSome = true → (c.mbox m).result = none → (c'.mbox m).result = some ⟨.ok, 0, []⟩ := by
    intro c' mboxes tests
    obtain ⟨state, last, runners⟩ := (c.test d).ended_fields t.now (b2n (!true)) rows
    rw [Core.test_of_tests tests, Core.test_sliceDone]
    refine ⟨state, last, runners, fun m waits taken open_ => ?_⟩
    have done := Core.result_sliceDone t true rows waits taken open_
    simpa only [Core.mbox, mboxes] using done
  generalize (blocksOf d).foldl (fun c n => c.applyHeld t n) (c.sliceDone t d true rows) = c1 at mboxes tests ⊢
  refine ⟨rfl, ?_⟩
  dsimp only
  split
  · next i _ =>
    have started := c1.engages_startArrays t i
    exact kept (c1.startArrays t i) (started.mboxes.trans mboxes) (started.tests.trans tests)
  · exact kept c1 mboxes tests

/-- A port's die that fails is out of service, and its port is off (R399). -/
theorem dieFails_port (t : Top) {d p : Nat} (c : Core) (hd : d < 64) (port : dieType d = (.port, p)) :
    (dieFails d t c).1 = t.lose d ∧ ((dieFails d t c).2.test d).state = 3 ∧ ((dieFails d t c).2.port p).state = .disabled := by
  have ports : ∀ d < 64, (dieType d).1 = .port → (dieType d).2 < 8 := by decide
  have hp : p < 8 := by simpa [port] using ports d hd
  unfold dieFails
  extract_lets t1 c1
  rw [port]
  dsimp only
  have failed : (c1.test d).state = 3 := by
    unfold c1
    rw [Core.test_updTest]
  have raised : (c1.raise t1 0x0D01 d d (le 1 1)).telem.tests = c1.telem.tests := (c1.quiet_raise _ _ _ _ _).tests
  refine ⟨rfl, ?_⟩
  split
  · next off =>
    rw [Core.test_of_tests raised]
    exact ⟨failed, off⟩
  · obtain ⟨off, tests⟩ := Core.portOff_disables t1 hp (c1.raise t1 0x0D01 d d (le 1 1))
    rw [Core.test_of_tests (tests.trans raised)]
    exact ⟨failed, off⟩

theorem sliceEnd_fails {t : Top} {c : Core} {d p : Nat} (rows : Nat)
    (dev : t.dev = .ready ∨ t.dev = .bound ∨ t.dev = .draining ∨ t.dev = .faulted) (running : (c.test d).state = 2) (hd : d < 64)
    (port : dieType d = (.port, p)) :
    (sliceEnd d false rows t c).1.absent.getLsbD d = true ∧ (sliceEnd d false rows t c).1.dev = t.dev ∧
      ((sliceEnd d false rows t c).2.test d).state = 3 ∧ ((sliceEnd d false rows t c).2.port p).state = .disabled := by
  rw [sliceEnd_eq d false rows dev running, if_neg (by simp)]
  obtain ⟨top, failed, off⟩ := dieFails_port t ((c.sliceDone t d false rows).onHost (fun h => { h with
    farWrites := h.farWrites.filter (fun e => !(blocksOf d).contains e.1) })) hd port
  rw [top]
  exact ⟨Top.absent_lose hd t, rfl, failed, off⟩

/-! #### Images read from host memory (R388, R400, R435) -/

section
variable {t : Top} {c : Core} {r m n : Nat} {bs : List Byte}

section
variable (asked : c.fabric.reads.get? r = some (.cfgLoad m, n)) (whole : bs.length = n)
include asked whole

theorem readDone_cfg (good : Bool) :
    readDone r good bs t c = cfgLoaded m good bs t (c.onFabric (fun f => { f with reads := f.reads.del r })) := by
  subst whole
  simp [readDone, asked]

variable (taken : (c.mbox m).taken.isSome = true) (open_ : (c.mbox m).result = none)
include taken open_

theorem readCfg_writes (good : cfgCheck bs = none) :
    (readDone r true bs t c).1 = { t with cfgFlash := bs } ∧ ((readDone r true bs t c).2.mbox m).result = some ⟨.ok, 0, []⟩ ∧
      (readDone r true bs t c).2.fabric.reads.get? r = none := by
  rw [readDone_cfg asked whole]
  simp only [cfgLoaded, good]
  exact ⟨rfl, Core.result_stage_self taken open_, Tbl.get?_del_self _ _⟩

theorem readCfg_refuses {k : Nat} (bad : cfgCheck bs = some k) :
    (readDone r true bs t c).1 = t ∧ ((readDone r true bs t c).2.mbox m).result = some ⟨.checkFail, k, []⟩ := by
  rw [readDone_cfg asked whole]
  simp only [cfgLoaded, bad]
  exact ⟨rfl, Core.result_stage_self taken open_⟩

theorem readCfg_lost : (readDone r false bs t c).1 = t ∧ ((readDone r false bs t c).2.mbox m).result = some ⟨.timeout, 0, []⟩ := by
  rw [readDone_cfg asked whole]
  exact ⟨rfl, Core.result_stage_self taken open_⟩
end

section
variable {a : Cmd} (asked : c.fabric.reads.get? r = some (.fwLoad m, n)) (whole : bs.length = n)
include asked whole

theorem readDone_fw : readDone r true bs t c = fwLoaded m true bs t (c.onFabric (fun f => { f with reads := f.reads.del r })) := by
  subst whole
  simp [readDone, asked]

variable (taken : (c.mbox m).taken = some a)
include taken

theorem readFw_writes (good : fwCheck t.secFloor bs = none) :
    (if t.fwSlot = 0 then (readDone r true bs t c).1.slot1 = bs ∧ (readDone r true bs t c).1.slot0 = t.slot0
      else (readDone r true bs t c).1.slot0 = bs ∧ (readDone r true bs t c).1.slot1 = t.slot1) ∧
      (readDone r true bs t c).1.secFloor = (if bit (a.arg 12 4) 0 then max t.secFloor t.fwSecurity else t.secFloor) := by
  have held : ((c.onFabric (fun f => { f with reads := f.reads.del r })).mbox m).taken = some a := taken
  rw [readDone_fw asked whole]
  unfold fwLoaded
  rw [held]
  simp only [Bool.not_true, Bool.false_eq_true, if_false, good]
  by_cases first : t.fwSlot = 0
  · simp only [first, if_true]
    split <;> exact ⟨⟨rfl, rfl⟩, rfl⟩
  · have other : ¬ 1 - t.fwSlot = 1 := by omega
    simp only [first, other, if_false]
    split <;> exact ⟨⟨rfl, rfl⟩, rfl⟩

theorem readFw_refuses {k : Nat} (open_ : (c.mbox m).result = none) (bad : fwCheck t.secFloor bs = some k) :
    (readDone r true bs t c).1 = t ∧ ((readDone r true bs t c).2.mbox m).result = some ⟨.checkFail, k, []⟩ := by
  have held : ((c.onFabric (fun f => { f with reads := f.reads.del r })).mbox m).taken = some a := taken
  rw [readDone_fw asked whole]
  unfold fwLoaded
  rw [held]
  simp only [Bool.not_true, Bool.false_eq_true, if_false, bad]
  exact ⟨trivial, Core.result_stage_self (by rw [held]; rfl) open_⟩
end
end

/-- Settles O58, row by row: a die that fails while frames are given up keeps its record and its port DISABLED by `Core.Spares`. -/
theorem startUpRunsItsPhasesAndTestsItsDies : Obligations.StartUpRunsItsPhasesAndTestsItsDies := by
  refine ⟨fun m a s => ⟨bootQuery_answers, cfgLoad_runs, cfgRead_answers, fwLoad_runs, selftestSet_answers, selftestRun_runs,
    selftestQuery_answers⟩, fun s live => ?_⟩
  have both : ∀ (f : Top → Core → Top × Core), (Host.Outcome.next (s.onBoth f) : Host.Outcome State Fault Refusal) =
      .next { s with top := (f s.top s.core).1, core := (f s.top s.core).2 } := fun f => congrArg Host.Outcome.next (s.onBoth_live f live)
  have core : ∀ (f : Top → Core → Core), (Host.Outcome.next (s.onCore f) : Host.Outcome State Fault Refusal) =
      .next { s with core := f s.top s.core } := fun f => congrArg Host.Outcome.next (s.onCore_live f live)
  refine ⟨?_, ?_, ?_, ?_, ?_, ?_, ?_, ?_, ?_, ?_⟩
  · intro ok dev phase perst left
    exact ⟨fun passed => ⟨_, both _, bootRomDone_loads dev phase perst left ok passed⟩,
      fun none_ => ⟨_, both _, bootRomDone_fails dev phase perst left ok none_⟩⟩
  · intro q dev phase left lowest
    refine ⟨fun n which good => ?_, fun bad0 bad1 => ⟨_, both _, firmwareVerify_fails dev phase left lowest bad0 bad1⟩⟩
    obtain ⟨top, loaded⟩ := firmwareVerify_verifies (c := s.core) dev phase left lowest which good
    refine ⟨_, both _, ?_⟩
    dsimp only
    rw [top]
    exact ⟨rfl, rfl, rfl, rfl, Bool.eq_iff_iff.2 (by simp), rfl, loaded⟩
  · intro k dev phase unused
    exact ⟨_, both _, configApply_defaults dev phase unused⟩
  · intro dev phase used
    exact ⟨_, both _, configApply_uses dev phase used⟩
  · intro mask ds dev here
    have masked := trainingDone_masks (c := s.core) mask ds dev here
    refine ⟨fun some_ => ⟨_, both _, ?_⟩, fun none_ => ⟨_, both _, ?_⟩⟩
    · rw [masked, if_neg some_]
      exact ⟨rfl, rfl, rfl, rfl, rfl⟩
    · rw [masked, if_pos none_, enterFaulted_top]
  · intro bad links rep dev
    refine ⟨?_, fun failed => ⟨_, both _, startupDone_restarts bad links rep dev failed⟩,
      fun q hq failed here primary => ⟨_, both _, startupDone_fatal bad links rep dev hq failed here primary⟩⟩
    rintro rfl rfl crests left
    exact ⟨_, both _, startupDone_passes rep dev crests left⟩
  · intro st v low _ here mask runs
    exact ⟨_, core _, rfl, interfaceRetrain_counts st v low here mask runs⟩
  · intro d hd here
    refine ⟨fun dev asked free => ⟨_, core _, rfl, Core.sliceStart_begins _ _ hd here dev asked free⟩, fun off alone => ?_,
      fun draining drained => ?_, fun idle => ?_, fun rows dev running => ⟨⟨_, both _, sliceEnd_passes rows dev running⟩,
      fun p port => ⟨_, both _, sliceEnd_fails rows dev running hd port⟩⟩⟩
    · exact State.next_onCore_id live _ (Core.sliceStart_idle _ _ _ off alone)
    · refine ⟨_, core _, rfl, ?_⟩
      dsimp only
      rw [Core.fence_drained _ _ draining drained, Core.test_updTest]
      exact ⟨rfl, rfl, rfl⟩
    · exact State.next_onCore_id live _ (Core.fence_idle _ _ idle)
  · intro r m n bs asked whole taken open_
    exact ⟨fun good => ⟨_, both _, readCfg_writes asked whole taken open_ good⟩,
      fun k bad => ⟨_, both _, readCfg_refuses asked whole taken open_ bad⟩,
      ⟨_, both _, readCfg_lost asked whole taken open_⟩⟩
  · intro r m n a bs asked whole taken open_
    exact ⟨fun good => ⟨_, both _, readFw_writes asked whole taken good⟩,
      fun k bad => ⟨_, both _, readFw_refuses asked whole taken open_ bad⟩⟩

end Sys2Proof.Machine
end

/-! ### A decode layer (R180, R188 to R190): sound copies in tier 0, the token's append, and slices -/

section
namespace Sys2Proof.Machine

/-! #### Pages -/

theorem Core.page_updPage_self (o : Nat) (f : PageObj → PageObj) (c : Core) : (c.updPage o f).page o = (c.page o).map f := by
  unfold Core.page Core.updPage Core.onTiers Tbl.upd
  dsimp only
  split
  · next p at_ => simp [at_]
  · next none_ => simp [none_]

theorem Core.page_updPage_other {o v : Nat} (other : o ≠ v) (f : PageObj → PageObj) (c : Core) : (c.updPage v f).page o = c.page o := by
  unfold Core.page Core.updPage Core.onTiers Tbl.upd
  dsimp only
  split
  · exact Tbl.get?_set_other _ _ _ _ other
  · rfl

theorem Core.shape_of_job {a b : Core} (h : b.job = a.job) : b.shape = a.shape := by simp only [Core.shape, h]

theorem copySound_of_job {t : Top} {a b : Core} (h : b.job = a.job) {n : Nat} {p : PageObj} (sound : Claims.copySound t a n p) :
    Claims.copySound t b n p := by
  unfold Claims.copySound
  rwa [Core.shape_of_job h]

/-- The items and the job are as they were, and a page has its fill and its write-down. -/
structure Core.Keeps (o : Nat) (a b : Core) : Prop where
  items : b.sched.items = a.sched.items
  job : b.job = a.job
  page : (b.page o).map (fun p => (p.fill, p.down)) = (a.page o).map (fun p => (p.fill, p.down))

/-- Every copy in tier 0 passes its check (R101). -/
def Core.Tier0Sound (t : Top) (c : Core) : Prop := ∀ g ∈ c.tiers.pages.vals, g.t0.isSome = true → Claims.copySound t c 0 g

/-- Only pages with a copy in tier 0 have changed, and such copies pass their check if they did. -/
structure Core.Tidies (t : Top) (a b : Core) : Prop where
  items : b.sched.items = a.sched.items
  job : b.job = a.job
  sound : a.Tier0Sound t → b.Tier0Sound t
  untouched : ∀ o, (a.page o).bind PageObj.t0 = none → b.page o = a.page o

section
variable {t : Top} {o : Nat}

theorem Core.Keeps.refl (c : Core) : c.Keeps o c := ⟨rfl, rfl, rfl⟩
theorem Core.Keeps.trans {a b c : Core} (h : a.Keeps o b) (k : b.Keeps o c) : a.Keeps o c :=
  ⟨k.items.trans h.items, k.job.trans h.job, k.page.trans h.page⟩
theorem Core.Keeps.of_same {a b : Core} (items : b.sched.items = a.sched.items) (job : b.job = a.job) (tiers : b.tiers = a.tiers) : a.Keeps o b :=
  ⟨items, job, by simp only [Core.page, tiers]⟩
theorem Core.SameWork.keeps {a b : Core} (h : a.SameWork b) : a.Keeps o b :=
  .of_same (by rw [h.sched]) h.job h.tiers

theorem Core.keeps_updPage (f : PageObj → PageObj) (c : Core) (h : ∀ p : PageObj, (f p).fill = p.fill ∧ (f p).down = p.down) :
    c.Keeps o (c.updPage o f) := by
  refine ⟨rfl, rfl, ?_⟩
  rw [Core.page_updPage_self, Option.map_map]
  congr 1
  funext p
  exact Prod.ext (h p).1 (h p).2

theorem Core.Tidies.refl (c : Core) : c.Tidies t c := ⟨rfl, rfl, id, fun _ _ => rfl⟩
theorem Core.Tidies.trans {a b c : Core} (h : a.Tidies t b) (k : b.Tidies t c) : a.Tidies t c where
  items := k.items.trans h.items
  job := k.job.trans h.job
  sound := k.sound ∘ h.sound
  untouched o none_ := by
    have same := h.untouched o none_
    exact (k.untouched o (by rwa [same])).trans same
theorem Core.SameWork.tidies {a b : Core} (h : a.SameWork b) : a.Tidies t b where
  items := by rw [h.sched]
  job := h.job
  sound := fun sound g here some_ => copySound_of_job h.job (sound g (by rwa [h.tiers] at here) some_)
  untouched := fun _ _ => by simp only [Core.page, h.tiers]

theorem Core.tidies_ite {a b c : Core} (p : Prop) [Decidable p] (h : a.Tidies t b) (k : a.Tidies t c) : a.Tidies t (if p then b else c) := by
  split
  · exact h
  · exact k

theorem Core.Tidies.keeps {a b : Core} (h : a.Tidies t b) (none_ : (a.page o).bind PageObj.t0 = none) : a.Keeps o b :=
  ⟨h.items, h.job, by rw [h.untouched o none_]⟩

theorem Tbl.mem_vals_of_get? {α : Type} {x : Tbl α} {k : Nat} {v : α} (h : x.get? k = some v) : v ∈ x.vals := by
  induction x with
  | nil => cases h
  | cons e x ih =>
    obtain ⟨j, w⟩ := e
    unfold Tbl.get? at h
    split at h
    · cases h
      exact List.mem_cons_self
    · exact List.mem_cons_of_mem _ (ih h)

/-- A page with a copy in tier 0 changed: a copy that it has then passes its check if it did. -/
theorem Core.tidies_updPage {v : Nat} {f : PageObj → PageObj} {c : Core}
    (h : ∀ p, c.page v = some p → (p.t0 = none → f p = p) ∧ (p.t0.isSome = true → (f p).t0.isSome = true →
      Claims.copySound t c 0 p → Claims.copySound t c 0 (f p))) : c.Tidies t (c.updPage v f) where
  items := rfl
  job := rfl
  sound := fun sound g here some_ => by
    suffices g ∈ c.tiers.pages.vals ∨ ∃ p, c.page v = some p ∧ g = f p by
      rcases this with was | ⟨p, at_, rfl⟩
      · exact sound g was some_
      · obtain ⟨same, kept⟩ := h p at_
        have copy : p.t0.isSome = true := by
          by_contra none_
          have none_ : p.t0 = none := by simpa using none_
          rw [same none_, none_] at some_
          cases some_
        exact kept copy some_ (sound p (Tbl.mem_vals_of_get? at_) copy)
    unfold Core.updPage Core.onTiers Tbl.upd at here
    dsimp only at here
    split at here
    · next p at_ =>
      obtain ⟨e, there, rfl⟩ := List.mem_map.1 here
      rcases Tbl.mem_set _ _ _ _ there with rfl | was
      · exact .inr ⟨p, at_, rfl⟩
      · exact .inl (List.mem_map_of_mem was)
    · exact .inl here
  untouched := fun o none_ => by
    by_cases same : o = v
    · subst same
      rw [Core.page_updPage_self]
      cases at_ : c.page o with
      | none => rfl
      | some p =>
        rw [at_] at none_
        exact congrArg some ((h p at_).1 none_)
    · exact Core.page_updPage_other same _ _

/-! #### Checks that pass (R101) -/

theorem Core.pick_tidies (c : Core) : c.Tidies t c.pick.2 := ⟨rfl, rfl, id, fun _ _ => rfl⟩

theorem Core.chrysBytes_sameWork (crest k n : Nat) (c : Core) : c.SameWork (c.chrysBytes crest k n) :=
  (c.sameWork_bump _ _).trans (Core.sameWork_bump _ _ _)

theorem Core.chrysWork_sameWork (crest i j : Nat) (page : Bool) (c : Core) : c.pick.2.SameWork (c.chrysWork crest i j page) := by
  have counted : c.pick.2.SameWork _ := ((Core.chrysBytes_sameWork crest (4 * (c.pick.1 % 2)) i _).trans
    (Core.chrysBytes_sameWork crest (4 * (c.pick.1 % 2) + 1) j _)).trans
    (Core.sameWork_bump (.chrys crest (4 * (c.pick.1 % 2) + 2)) (ceilDiv (max i j) 64) _)
  cases page with
  | true => exact counted.trans (Core.sameWork_bump (.chrys crest (4 * (c.pick.1 % 2) + 3)) 1 _)
  | false => exact counted

theorem Core.chrysWork_tidies (crest i j : Nat) (page : Bool) (c : Core) : c.Tidies t (c.chrysWork crest i j page) :=
  c.pick_tidies.trans (c.chrysWork_sameWork _ _ _ _).tidies

theorem Core.page_chrysWork (crest i j v : Nat) (page : Bool) (c : Core) : (c.chrysWork crest i j page).page v = c.page v := by
  simp only [Core.page, (c.chrysWork_sameWork crest i j page).tiers]
  rfl

theorem Core.freeWork_sameWork (w : Work → Bool) (c : Core) : c.SameWork (c.freeWork t w) :=
  (c.sameWork_qEndAll _ _ _).trans (Core.sameWork_meshEnd _ _ _)

theorem Core.writeStack_sameWork (crest stack engine bytes : Nat) (w : Work) (c : Core) : c.SameWork (c.writeStack t crest stack engine bytes w) := by
  unfold Core.writeStack
  split
  · exact c.sameWork_qSend _ _ _ _ _ _
  · exact c.sameWork_meshSend _ _ _ _ _ _ _

/-- A page with its digest rewritten from its data (R102). -/
def PageObj.redigested (s : List Byte) (p : PageObj) : PageObj :=
  { p with digest := pageDigest p.fmt (shH s) (shD s) p.data, badDigest := false }

theorem copySound_redigested {c : Core} {n : Nat} {p : PageObj} (h : Claims.copySound t c n p) : Claims.copySound t c n (p.redigested c.shape) :=
  ⟨h.1, .inr rfl⟩

/-- A sound copy passes its check: at most the page's digest is rewritten. -/
theorem Core.checkCopy_sound {n v finder : Nat} {c : Core} (h : ∀ p, c.page v = some p → Claims.copySound t c n p) :
    (c.checkCopy t v n finder).1 = c ∨ (c.checkCopy t v n finder).1 = (c.updPage v (PageObj.redigested c.shape)).bump (.dev 0) := by
  unfold Core.checkCopy
  split
  · exact .inl rfl
  · next p at_ =>
    obtain ⟨good, digest⟩ := h p at_
    split
    · exact .inl rfl
    rw [if_neg (by simp [good])]
    split
    · exact .inr rfl
    · next checked =>
      rw [if_pos (digest.resolve_left checked)]
      exact .inl rfl

/-- The page keeps whatever copy it has in tier 0. -/
def Core.Copied (c : Core) (v : Nat) : Prop := ∀ p, c.page v = some p → p.t0.isSome = true

theorem Core.checkCopy0_tidies {v finder : Nat} {c : Core} (sound : c.Tier0Sound t) (copy : c.Copied v) :
    c.Tidies t (c.checkCopy t v 0 finder).1 ∧ (c.checkCopy t v 0 finder).1.Copied v := by
  rcases Core.checkCopy_sound (finder := finder) (fun p at_ => sound p (Tbl.mem_vals_of_get? at_) (copy p at_)) with same | rewritten
  · rw [same]
    exact ⟨.refl c, copy⟩
  · rw [rewritten]
    have edited : c.Tidies t (c.updPage v (PageObj.redigested c.shape)) := Core.tidies_updPage fun p at_ =>
      ⟨fun none_ => absurd (copy p at_) (by simp [none_]), fun _ _ h => copySound_redigested h⟩
    have counted := (c.updPage v (PageObj.redigested c.shape)).sameWork_bump (.dev 0) 1
    refine ⟨edited.trans counted.tidies, fun q at_ => ?_⟩
    rw [Core.page, counted.tiers] at at_
    obtain ⟨p, was, rfl⟩ := Option.map_eq_some_iff.1 ((c.page_updPage_self v _).symm.trans at_)
    exact copy p was

/-- A dirty copy in tier 0 that passes its check is written back (R92). -/
theorem Core.writeBack0_tidies {v : Nat} {c : Core} (sound : c.Tier0Sound t) : c.Tidies t (c.writeBack0 t v) := by
  have done : ∀ c : Core, c.Copied v → c.Tidies t (c.updPage v (fun p => (p.setTier 0 true false).setTier 1 true false)) := fun c copy =>
    Core.tidies_updPage fun p at_ => ⟨fun none_ => absurd (copy p at_) (by simp [none_]), fun _ _ h => h⟩
  unfold Core.writeBack0
  split
  · exact .refl c
  next p at_ =>
  split
  · exact .refl c
  next cr slot copy =>
  have copied : c.Copied v := fun q same => by
    cases at_.symm.trans same
    simp [copy]
  split
  · exact .refl c
  extract_lets done' n
  refine Core.tidies_ite _ (done c copied) ?_
  have worked : c.Tidies t (c.chrysWork cr n n true) := c.chrysWork_tidies _ _ _ _
  have kept : (c.chrysWork cr n n true).Copied v := fun q same => copied q (by rwa [Core.page_chrysWork] at same)
  obtain ⟨passed, still⟩ := Core.checkCopy0_tidies (finder := c.handle p.owner) (worked.sound sound) kept
  split
  next c1 good checked =>
  rw [checked] at passed still
  have written : c1.SameWork ((c1.writeStack t cr (cr / 2) 1 n (.page v)).freeWork t (· == .page v)) :=
    (c1.writeStack_sameWork _ _ _ _ _).trans (Core.freeWork_sameWork _ _)
  refine (worked.trans passed).trans (Core.tidies_ite _ (written.tidies.trans (done _ fun q same => still q ?_)) (.refl c1))
  rwa [Core.page, written.tiers] at same

theorem Core.drop0_tidies {v : Nat} {c : Core} (sound : c.Tier0Sound t) : c.Tidies t (c.drop0 t v) := by
  have first : c.Tidies t (c.writeBack0 t v) := Core.writeBack0_tidies sound
  have both := first.trans (Core.writeBack0_tidies (v := v) (first.sound sound))
  refine both.trans (Core.tidies_updPage fun p _ => ⟨fun none_ => by simp [none_], fun copy some_ => ?_⟩)
  rw [if_pos copy] at some_
  unfold PageObj.fixDirty at some_
  split at some_ <;> cases some_

theorem Core.roomFor0_tidies {crest n total fuel s : Nat} {c c' : Core} (sound : c.Tier0Sound t)
    (room : Core.roomFor0 t crest n total fuel c = some (s, c')) : c.Tidies t c' := by
  induction fuel generalizing c with
  | zero => cases room
  | succ fuel ih =>
    unfold Core.roomFor0 at room
    split at room
    · cases room
      exact .refl _
    · dsimp only at room
      split at room
      · cases room
      · have dropped := fun v => Core.drop0_tidies (v := v) sound
        exact (dropped _).trans (ih ((dropped _).sound sound) room)

/-- A sound page is copied as it is (R101): its fill and its write-down stay. -/
theorem Core.checkPage1_keeps {p : PageObj} {c : Core} {finder : Nat} (at_ : c.page o = some p) (alone : p.t0 = none)
    (sound : Claims.copySound t c 1 p) : c.Keeps o (c.checkPage t o 1 finder).1 := by
  unfold Core.checkPage
  rw [at_]
  dsimp only
  split
  · exact .refl c
  split
  · have same : c.writeBack0 t o = c := by
      unfold Core.writeBack0
      simp [at_, alone]
    rw [same]
    exact .refl c
  have chosen : c.Keeps o (c.chrysFor t p).2 ∧ (c.chrysFor t p).2.tiers = c.tiers := by
    unfold Core.chrysFor
    split
    · exact ⟨.refl c, rfl⟩
    · exact ⟨.of_same rfl rfl rfl, rfl⟩
    · exact ⟨.of_same rfl rfl rfl, rfl⟩
  generalize c.chrysFor t p = chosen' at chosen
  obtain ⟨cr, c1⟩ := chosen'
  obtain ⟨chosen, tiers⟩ := chosen
  dsimp only at chosen tiers ⊢
  have worked := c1.chrysWork_sameWork cr (c1.bytesIn p.fmt) 0 true
  generalize c1.chrysWork cr (c1.bytesIn p.fmt) 0 true = c2 at worked ⊢
  have kept : c.Keeps o c2 := (chosen.trans (Core.Keeps.of_same (b := c1.pick.2) rfl rfl rfl)).trans worked.keeps
  have page : c2.page o = some p := by
    rw [← at_]
    simp only [Core.page, worked.tiers]
    exact congrArg (fun x : Tiers => x.pages.get? o) tiers
  rcases Core.checkCopy_sound (t := t) (c := c2) (v := o) (n := 1) (finder := finder)
    (fun q same => by cases page.symm.trans same; exact copySound_of_job kept.job sound) with same | rewritten
  · rw [same]
    exact kept
  · rw [rewritten]
    exact (kept.trans (c2.keeps_updPage (PageObj.redigested c2.shape) fun _ => ⟨rfl, rfl⟩)).trans (Core.sameWork_bump _ _ _).keeps

theorem Core.tier0Choice_keeps {p : PageObj} {c : Core} (at_ : c.page o = some p) (sound : Claims.CopiesSound t c p) :
    c.Keeps o (c.tier0Choice t o) := by
  unfold Core.tier0Choice
  rw [at_]
  dsimp only
  split
  swap
  · exact .refl c
  next st fr alone frame =>
  split
  · exact .refl c
  obtain ⟨own, copies⟩ := sound
  have picked : c.Tidies t c.pick.2 := c.pick_tidies
  have page : c.pick.2.page o = some p := at_
  generalize c.pick = choice at picked page ⊢
  obtain ⟨v, c1⟩ := choice
  dsimp only at picked page ⊢
  have untouched : (c.page o).bind PageObj.t0 = none := by rw [at_]; exact alone
  split
  · exact picked.keeps untouched
  split
  · exact picked.keeps untouched
  next s c2 room =>
  have cleared : c.Tidies t c2 := picked.trans (Core.roomFor0_tidies (picked.sound copies) room)
  have page : c2.page o = some p := (cleared.untouched o untouched).trans at_
  have checked := Core.checkPage1_keeps (finder := c2.handle p.owner) page alone (copySound_of_job cleared.job own)
  have copied : ∀ c3 : Core, c2.Keeps o c3 →
      c.Keeps o (c3.updPage o (fun p => { (p.setTier 0 true false) with t0 := some (2 * st + v % 3 - 1, s) })) := fun c3 kept =>
    ((cleared.keeps untouched).trans kept).trans (c3.keeps_updPage _ fun _ => ⟨rfl, rfl⟩)
  by_cases fresh : p.fill = 0
  · rw [if_pos fresh]
    exact copied c2 (.refl c2)
  · rw [if_neg fresh]
    split
    · exact copied _ checked
    · exact (cleared.keeps untouched).trans checked

end

/-! #### A token appended (R182) -/

section
variable {t : Top} {o : Nat} {p : PageObj} {c : Core}

/-- A write-down that has not passed its page's frame on is abandoned with nothing of the page's data lost. -/
theorem Core.abandon_fill (at_ : c.page o = some p) (mine : p.given = false) :
    (c.abandon t o).sched.items = c.sched.items ∧ ((c.abandon t o).page o).map PageObj.fill = some p.fill := by
  unfold Core.abandon
  rw [at_]
  dsimp only
  split
  · exact ⟨rfl, congrArg (Option.map PageObj.fill) at_⟩
  next d down =>
  have alone : d.given = false := by simpa [PageObj.given, down] using mine
  rw [if_pos (by simp [alone])]
  have counted := (c.updPage o (fun p => { p with down := none })).sameWork_bump (.chrys d.crest 11) 1
  have freed := Core.freeWork_sameWork (t := t) (· == .page o)
    (((c.updPage o (fun p => { p with down := none })).bump (.chrys d.crest 11)).dropPool3 o)
  refine ⟨(congrArg Sched.items freed.sched).trans (congrArg Sched.items counted.sched), ?_⟩
  have tiers := freed.tiers.trans counted.tiers
  rw [Core.page, tiers]
  refine (congrArg (Option.map PageObj.fill) (c.page_updPage_self o _)).trans ?_
  rw [at_]
  rfl

theorem Core.chrysCount_sameWork (crest : Nat) (n : NumCount) (c : Core) : c.SameWork (c.chrysCount crest n) :=
  (c.sameWork_bump _ _).trans (Core.sameWork_bump _ _ _)

theorem Core.Keeps.fill {a b : Core} (h : a.Keeps o b) : (b.page o).map PageObj.fill = (a.page o).map PageObj.fill := by
  have fields := congrArg (Option.map Prod.fst) h.page
  rw [Option.map_map, Option.map_map] at fields
  exact fields

theorem Core.transcoded_keeps (crest i j : Nat) (n1 n2 : NumCount) (page : Bool) (c : Core) :
    c.Keeps o (((c.chrysCount crest n1).chrysCount crest n2).chrysWork crest i j page) := by
  have counted := (c.chrysCount_sameWork crest n1).trans (Core.chrysCount_sameWork crest n2 _)
  generalize (c.chrysCount crest n1).chrysCount crest n2 = c1 at counted ⊢
  exact (counted.keeps.trans (Core.Keeps.of_same (b := c1.pick.2) rfl rfl rfl)).trans (c1.chrysWork_sameWork _ _ _ _).keeps

/-- The fill of a page reaches the last token appended. -/
theorem Core.appendPage_fill (crest : Nat) (rows : List (Nat × List (List F32) × List (List F32))) (at_ : c.page o = some p)
    (mine : p.given = false) : (c.appendPage t o crest rows).sched.items = c.sched.items ∧
      ((c.appendPage t o crest rows).page o).map PageObj.fill = some (max p.fill (maxL (rows.map (fun r => r.1 + 1)))) := by
  obtain ⟨items, fill⟩ := Core.abandon_fill (t := t) at_ mine
  unfold Core.appendPage
  extract_lets c1 hn d
  obtain ⟨q, page, same⟩ := Option.map_eq_some_iff.1 fill
  rw [page]
  dsimp only
  have worked := fun c2 : Core => c2.transcoded_keeps (o := o) crest (4 * hn * d * rows.length)
  refine ⟨(worked _ _ _ _ _).items.trans items, (worked _ _ _ _ _).fill.trans ?_⟩
  rw [Core.page_updPage_self, page, ← same]
  rfl
end

/-! #### What moves work between engines and leaves every item as it is -/

/-- Work moved between engines with no item changed. -/
structure Core.Spends (a b : Core) : Prop extends Core.Engages a b where
  items : b.sched.items = a.sched.items

theorem Core.Spends.refl (c : Core) : c.Spends c := ⟨.refl c, rfl⟩
theorem Core.Spends.trans {a b c : Core} (h : a.Spends b) (k : b.Spends c) : a.Spends c := ⟨h.toEngages.trans k.toEngages, k.items.trans h.items⟩
theorem Core.SameWork.spends {a b : Core} (h : a.SameWork b) (k : a.Engages b) : a.Spends b := ⟨k, by rw [h.sched]⟩

theorem Core.spends_foldl {α : Type} (f : Core → α → Core) (h : ∀ (c : Core) (x : α), c.Spends (f c x)) (xs : List α) (c : Core) :
    c.Spends (xs.foldl f c) :=
  List.foldlRecOn xs f (.refl c) fun b run x _ => run.trans (h b x)

theorem Core.spends_foldl_snd {α β : Type} (f : β × Core → α → β × Core) (h : ∀ (p : β × Core) (x : α), p.2.Spends (f p x).2)
    (xs : List α) (p : β × Core) : p.2.Spends (xs.foldl f p).2 :=
  List.foldlRecOn (motive := fun q => p.2.Spends q.2) xs f (.refl p.2) fun b run x _ => run.trans (h b x)

theorem Core.spends_bump (k : Ctr) (n : Nat) (c : Core) : c.Spends (c.bump k n) :=
  (c.sameWork_bump k n).spends ((c.sameWork_bump k n).engages (c.quiet_bump k n))
theorem Core.spends_qSend (t : Top) (id inst prod n : Nat) (w : Work) (c : Core) : c.Spends (c.qSend t id inst prod n w) :=
  (c.sameWork_qSend _ _ _ _ _ _).spends (c.engages_qSend _ _ _ _ _ _)
theorem Core.spends_meshSend (t : Top) (src dst : Nat) (cls : MeshClass) (cargo : Cargo) (w : Work) (units : Nat) (c : Core) :
    c.Spends (c.meshSend t src dst cls cargo w units) := (c.sameWork_meshSend _ _ _ _ _ _ _).spends (c.engages_meshSend _ _ _ _ _ _ _)
theorem Core.spends_freeWork (t : Top) (w : Work → Bool) (c : Core) : c.Spends (c.freeWork t w) :=
  (c.freeWork_sameWork w).spends (c.engages_freeWork _ _)
theorem Core.spends_pick (c : Core) : c.Spends c.pick.2 := ⟨c.engages_pick, rfl⟩
theorem Core.spends_freeScore (crest n : Nat) (c : Core) : c.Spends (c.freeScore crest n) := ⟨c.engages_freeScore _ _, rfl⟩
theorem Core.spends_stepSpan (t : Top) (n item : Nat) (ridge : Bool) (since : Nat) (c : Core) : c.Spends (c.stepSpan t n item ridge since) :=
  ⟨c.engages_sched _, rfl⟩
theorem Core.spends_engineCount (crest : Nat) (n : NumCount) (c : Core) : c.Spends (c.engineCount crest n) :=
  (c.spends_bump _ _).trans (Core.spends_bump _ _ _)
theorem Core.spends_askScore (crest : Nat) (r : ScoreReq) (c : Core) : c.Spends (c.askScore crest r) := ⟨c.engages_askScore _ _, rfl⟩

theorem Core.spends_dispatch (t : Top) (summit crest : Nat) (r : ScoreReq) (c : Core) : c.Spends (c.dispatch t summit crest r) :=
  ((c.spends_qSend _ _ _ _ _ _).trans (Core.spends_meshSend _ _ _ _ _ _ _ _)).trans (Core.spends_askScore _ _ _)

theorem Core.spends_writeStack (t : Top) (crest stack engine bytes : Nat) (w : Work) (c : Core) :
    c.Spends (c.writeStack t crest stack engine bytes w) := by
  unfold Core.writeStack
  split
  · exact c.spends_qSend _ _ _ _ _ _
  · exact c.spends_meshSend _ _ _ _ _ _ _

theorem Core.spends_writeAppend (t : Top) (k o crest rows : Nat) (c : Core) : c.Spends (c.writeAppend t k o crest rows) := by
  unfold Core.writeAppend
  split
  · exact .refl c
  split
  · split
    · exact .refl c
    · exact (c.spends_writeStack _ _ _ _ _ _).trans (Core.spends_freeWork _ _ _)
  · exact .refl c

theorem Core.spends_placeSlices (t : Top) (i l tail : Nat) (plan : List (Nat × List Nat)) (c : Core) :
    c.Spends (c.placeSlices t i l tail plan).2 := by
  refine spends_foldl_snd _ (fun acc e => ?_) plan ([], c)
  obtain ⟨st, ps⟩ := e
  dsimp only
  generalize (if ps.contains tail = true then (acc.2.pageOf i l tail).bind (fun e => e.2.t0) else none) = t0
  have chosen : acc.2.Spends (acc.2.chooseCrest t [2 * st, 2 * st + 1]).2 := acc.2.spends_pick
  cases t0 with
  | none => exact chosen
  | some place =>
    by_cases tested : acc.2.underTest (crestDie place.1) = true
    · simpa only [if_pos tested] using chosen
    · simpa only [if_neg tested] using .refl acc.2

section
variable {t : Top} {o k : Nat} {it : Item} {r : LayerRun} {m : LayerMsg} {pg : PageObj} {c : Core}

theorem Core.page_of_pageOf {i l p : Nat} (at_ : c.pageOf i l p = some (o, pg)) : c.page o = some pg := by
  unfold Core.pageOf at at_
  split at at_
  · cases at_
  · obtain ⟨q, page, same⟩ := Option.map_eq_some_iff.1 at_
    cases same
    exact page

theorem Core.own_of_frameBusy {fr : Nat × Nat} (page : c.page o = some pg) (frame : pg.t1 = some fr) (free : c.frameBusy fr = false) :
    pg.given = false := by
  have each := List.any_eq_false.1 free pg (Tbl.mem_vals_of_get? page)
  simpa [frame] using each

theorem Core.get?_updItem {f : Item → Item} (item : c.sched.items.get? k = some it) : (c.updItem k f).sched.items.get? k = some (f it) := by
  simp [Core.updItem, Core.onSched, Tbl.upd, item]

/-- A layer that starts appends its token and runs (R180, R182, R187). -/
theorem Core.startDecode_starts {st fr : Nat} (item : c.sched.items.get? k = some it) (at_ : c.pageOf it.ctx r.layer (m.pos / 256) = some (o, pg))
    (frame : pg.t1 = some (st, fr)) (free : c.frameBusy (st, fr) = false) (appends : (c.appendDie t (2 * st)).isSome = true)
    (sound : Claims.CopiesSound t c pg) : ∃ x' r', (c.startDecode t k it r m).sched.items.get? k = some x' ∧ x'.run = some r' ∧
      r'.started = true ∧ r'.merge = 2 * st ∧ r'.layer = r.layer ∧ x'.msgs = it.msgs ∧
      ((c.startDecode t k it r m).page o).map PageObj.fill = some (max pg.fill (m.pos % 256 + 1)) := by
  obtain ⟨ap, die⟩ := Option.isSome_iff_exists.1 appends
  have page := Core.page_of_pageOf at_
  have mine := Core.own_of_frameBusy page frame free
  unfold Core.startDecode
  extract_lets n
  rw [at_]
  dsimp only
  rw [frame]
  dsimp only
  rw [if_neg (by simp [free]), die]
  dsimp only
  have choice := Core.tier0Choice_keeps page sound
  generalize c.tier0Choice t o = c1 at choice ⊢
  obtain ⟨p, page1, same⟩ := Option.map_eq_some_iff.1 (choice.page.trans (congrArg (Option.map _) page))
  obtain ⟨fill, down⟩ := Prod.mk.inj same
  obtain ⟨items, filled⟩ := Core.appendPage_fill (t := t) (c := c1) ap [stepRow c1.shape m.body (n % 256)] page1
    (by rw [PageObj.given, down]; exact mine)
  generalize c1.appendPage t o ap [stepRow c1.shape m.body (n % 256)] = c2 at items filled ⊢
  have written := c2.spends_writeAppend t k o ap 1
  generalize c2.writeAppend t k o ap 1 = c3 at written ⊢
  generalize c3.attended it = pages
  obtain ⟨a, b⟩ := pages
  dsimp only
  generalize slicePlan _ _ _ _ = plan
  have placed := c3.spends_placeSlices t it.ctx r.layer b plan
  generalize c3.placeSlices t it.ctx r.layer b plan = slices at placed ⊢
  obtain ⟨sl, c4⟩ := slices
  dsimp only at placed ⊢
  have kept : c4.sched.items.get? k = some it := by rwa [placed.items, written.items, items, choice.items]
  have sent := fun (xs : List (Slice × Nat)) (c : Core) => Core.spends_foldl (fun c e => c.dispatch t (it.ctx / 32768) e.1.crest
    { item := k, index := e.2, ridge := false, credits := c.sliceCredits e.1 }) (fun c e => c.spends_dispatch _ _ _ _) xs c
  have appended : some (max p.fill (maxL ([stepRow c1.shape m.body (n % 256)].map (fun r => r.1 + 1)))) =
      some (max pg.fill (m.pos % 256 + 1)) := by simp [maxL, stepRow, fill, n]
  refine ⟨_, _, (congrArg (fun x : Tbl Item => x.get? k) (sent _ _).items).trans (Core.get?_updItem kept), rfl, rfl, rfl, rfl, rfl, ?_⟩
  have tiers := fun f : Item → Item => (sent sl.zipIdx (c4.updItem k f)).tiers.trans (placed.tiers.trans written.tiers)
  exact (congrArg (fun x : Tiers => (x.pages.get? o).map PageObj.fill) (tiers _)).trans (filled.trans appended)
end

/-! #### A decode layer at work (R180, R188 to R190) -/

/-- Pages that become ready change the moves alone (R128). -/
theorem Core.noteReady_moves (c : Core) : ∃ ms, c.noteReady = { c with moves := ms } := by
  suffices ∀ (es : Tbl Move) (c : Core) (f : Core → Nat × Move → Core), (∀ c e, ∃ ms, f c e = { c with moves := ms }) →
      ∃ ms, es.foldl f c = { c with moves := ms } from this _ _ _ fun c e => by
    dsimp only
    split
    · exact ⟨c.moves, rfl⟩
    · exact ⟨_, rfl⟩
  intro es c f each
  induction es generalizing c with
  | nil => exact ⟨c.moves, rfl⟩
  | cons e es ih =>
    obtain ⟨ms, first⟩ := each c e
    obtain ⟨ms', rest⟩ := ih (f c e)
    exact ⟨ms', by rw [List.foldl_cons, rest, first]⟩

theorem Core.spends_ite {a b c : Core} (p : Prop) [Decidable p] (h : a.Spends b) (k : a.Spends c) : a.Spends (if p then b else c) := by
  split
  · exact h
  · exact k

theorem Core.spends_countSlice (t : Top) (crest : Nat) (s : Slice) (vs : List PView) (c : Core) : c.Spends (c.countSlice t crest s vs) := by
  have counted : ∀ (e bytes units bound : Nat) (c : Core), c.Spends (((((c.bump (.hawk crest (64 + e)) bytes).bump (.hawk crest (4 * e)) units).bump
      (.hawk crest (4 * e + 1)) (2 * (t.now - s.at_))).bump (.hawk crest (4 * e + 2)) bound).bump (.hawk crest (4 * e + 3))) := fun _ _ _ _ c =>
    ((((c.spends_bump _ _).trans (Core.spends_bump _ _ _)).trans (Core.spends_bump _ _ _)).trans (Core.spends_bump _ _ _)).trans
      (Core.spends_bump _ _ _)
  exact c.spends_pick.trans (counted _ _ _ _ _)

section
variable {t : Top} {k n : Nat} {it : Item} {r : LayerRun} {m : LayerMsg} {ms : List LayerMsg} {c : Core}
  (item : c.sched.items.get? k = some it) (run : it.run = some r) (msgs : it.headMsgs = m :: ms)
include item run msgs

/-- A member whose pages have come and whose engines are on starts its decode layer. -/
theorem Core.layerStart_decodes (step : it.step ≠ 0) (decode : it.chunk = false) (idle : r.started = false)
    (engines : ∀ e ∈ it.needsEngines, c.engine e = .on) (here : c.awaited it r.summarised = []) (epoch : m.epoch = (c.ctx it.ctx).epoch)
    (next_ : m.pos = (c.ctx it.ctx).held1 r.layer)
    (clean : ∀ p q g, (c.attended it).1 ≤ p → p ≤ (c.attended it).2 → c.pageOf it.ctx r.layer p = some (q, g) → g.poison = false) :
    c.layerStart t k = c.startDecode t k it r m := by
  have sound : ((List.range ((c.attended it).2 + 1)).filter ((c.attended it).1 ≤ ·)).any
      (fun p => ((c.pageOf it.ctx r.layer p).map (fun e => e.2.poison)).getD false) = false := by
    rw [List.any_eq_false]
    intro p attended
    simp only [List.mem_filter, List.mem_range, decide_eq_true_eq] at attended
    cases found : c.pageOf it.ctx r.layer p with
    | none => simp
    | some e => simp [clean p e.1 e.2 attended.2 (by omega) found]
  have ready : ¬ (!it.inStep || r.started || !it.needsEngines.all (fun e => c.engine e == .on) || !(c.awaited it r.summarised).isEmpty) = true := by
    simp [Item.inStep, step, idle, here]
    exact engines
  unfold Core.layerStart
  rw [item]
  dsimp only
  rw [run, msgs]
  dsimp only
  rw [if_neg ready, if_neg (not_not.2 epoch), if_neg (not_not.2 next_), if_neg (by rw [sound]; exact Bool.false_ne_true), if_neg (by simp [decode])]

/-- A slice that completes has its partial computed and sent (R188). -/
theorem Core.sliceComplete_sends {sl : Slice} (slice : r.slices[n]? = some sl) (running : sl.state = .running) :
    let vs := c.views it.ctx r.layer sl.pages
    let q := headsOf m.body 32 (shHq c.shape) (shD c.shape)
    let rq : Int := ((m.pos + (c.ctx it.ctx).posOff : Nat) : Int)
    let lo := c.lowOf false m m.pos
    ∃ x' r', (c.sliceComplete t k n).sched.items.get? k = some x' ∧ x'.run = some r' ∧
      r'.slices[n]? = some { sl with
        state := .sent
        parts := (if sl.skipper then ((Att.ofShape c.shape).skipper q rq vs lo m.pos).go
          else ((Att.ofShape c.shape).slice q rq vs lo m.pos).go).1 } ∧
      (∀ j, j ≠ n → r'.slices[j]? = r.slices[j]?) ∧ c.Engages (c.sliceComplete t k n) := by
  intro vs q rq lo
  unfold Core.sliceComplete
  rw [item]
  dsimp only
  rw [run, msgs]
  dsimp only
  rw [slice]
  dsimp only
  rw [if_neg (not_not.2 running)]
  generalize (if sl.skipper = true then ((Att.ofShape c.shape).skipper q rq vs lo m.pos).go
    else ((Att.ofShape c.shape).slice q rq vs lo m.pos).go) = ps
  obtain ⟨parts, cnt⟩ := ps
  dsimp only
  have counted := c.spends_engineCount sl.crest cnt
  have changed := (c.engineCount sl.crest cnt).engages_onSlice k n (fun s => { s with state := .sent, parts := parts })
  have at_ : ((c.engineCount sl.crest cnt).onSlice k n (fun s => { s with state := .sent, parts := parts })).sched.items.get? k =
      some { it with run := some { r with slices := r.slices.modify n (fun s => { s with state := .sent, parts := parts }) } } :=
    (Core.get?_updItem (counted.items ▸ item)).trans (by rw [run]; rfl)
  generalize (c.engineCount sl.crest cnt).onSlice k n (fun s => { s with state := .sent, parts := parts }) = c2 at changed at_ ⊢
  have sent : c2.Spends _ := Core.spends_ite (sl.skipper = true) (c2.spends_bump (.hawk sl.crest 19) 1)
    (((((c2.spends_countSlice t sl.crest sl vs).trans (Core.spends_freeScore sl.crest (c2.sliceCredits sl) _)).trans
      (Core.spends_stepSpan t it.step k false sl.at_ _)).trans (Core.spends_freeWork t (· == .slice k n) _)).trans
      (Core.spends_meshSend t (crestDie sl.crest) (crestDie r.merge) .response .result (.slice k n)
        (ceilDiv (4 * shHq c.shape * (shD c.shape + 2)) 256) _))
  refine ⟨_, _, (congrArg (fun x : Tbl Item => x.get? k) sent.items).trans at_, rfl, ?_, ?_,
    (counted.toEngages.trans changed).trans sent.toEngages⟩
  · simp [slice]
  · intro j other
    simp [other.symm]

/-- A partial that reaches the merge die is marked, and its transfer is over. -/
theorem Core.partialArrive_takes {sl : Slice} (slice : r.slices[n]? = some sl) (sent : sl.state = .sent) (epoch : m.epoch = (c.ctx it.ctx).epoch)
    (due : c.meshDue .result (.slice k n) = true) :
    let r' := { r with slices := r.slices.modify n (fun s => { s with state := .arrived }) }
    let c' := (c.freeWork t (· == .slice k n)).onSlice k n (fun s => { s with state := .arrived })
    c.partialArrive t k n = if r'.slices.all (fun s => s.state == .arrived) then c'.decodeDone t k it r' m else c' := by
  intro r' c'
  unfold Core.partialArrive
  rw [item]
  dsimp only
  rw [run, msgs]
  dsimp only
  rw [slice]
  dsimp only
  rw [if_neg (by simp [sent, due])]
  simp only [epoch, bne_self_eq_false, Bool.false_eq_true, if_false]
  by_cases whole : r'.slices.all (fun s => s.state == .arrived) = true
  · rw [if_pos whole, if_neg (by rw [whole]; exact Bool.false_ne_true)]
  · rw [if_neg whole, if_pos (by rw [Bool.eq_false_iff.2 whole]; rfl)]

end

/-! #### A decode layer that completes (R190, R197) -/

section
variable {wipes : Prop}

theorem Core.spares_answerLayer (t : Top) (i : Nat) (chunk : Bool) (m : LayerMsg) (body : List Byte) (c : Core) :
    c.Spares wipes (c.answerLayer t i chunk m body) :=
  ((c.spares_sendMsg _ _ _ _ _ _ _).trans (Core.spares_signalDone _ _ _)).trans (Core.spares_dropRef _ _ _)

theorem Core.spares_holdCheck (t : Top) (k : Nat) (c : Core) : c.Spares wipes (c.holdCheck t k) := by
  unfold Core.holdCheck
  split
  · exact .refl c
  · exact spares_ite _ (spares_ite _ (c.spares_updItem _ _) (.refl c)) (c.spares_endHold _ _)

theorem Core.spares_enterLayer (t : Top) (k : Nat) (c : Core) : c.Spares wipes (c.enterLayer t k) := by
  unfold Core.enterLayer
  split
  · exact .refl c
  split
  · exact spares_ite _ (.refl c) (((c.spares_endHold _ _).trans (Core.spares_updItem _ _ _)).trans (Core.spares_holdCheck _ _ _))
  · exact c.spares_holdCheck _ _

theorem Core.spares_nextLayer (t : Top) (k l : Nat) (c : Core) : c.Spares wipes (c.nextLayer t k l) := by
  unfold Core.nextLayer
  extract_lets c1
  have left : c.Spares wipes c1 := c.spares_updItem _ _
  split
  · exact left
  · extract_lets c2
    have entered : c1.Spares wipes c2 := spares_ite _ (c1.spares_updItem _ _) (c1.spares_enterLayer _ _)
    exact (left.trans entered).trans (spares_ite _ (c2.spares_dropIdle _ _) (.refl c2))

end

/-- A decode layer that completes holds the token of its message. -/
theorem Core.decodeDone_holds (t : Top) (k : Nat) (it : Item) (r : LayerRun) (m : LayerMsg) (c : Core) :
    ((c.decodeDone t k it r m).ctx it.ctx).held1 r.layer = m.pos + 1 := by
  unfold Core.decodeDone
  extract_lets sh n slices
  split
  next outs cnt _ =>
  extract_lets c1 lo c2 c3 c4
  split
  next st d _ =>
  have tokens : (c2.ctx it.ctx).tokens = (c1.ctx it.ctx).tokens.set r.layer (m.pos + 1) := by
    simp [c2, Core.ctx, Core.updCtx, Tbl.getD]
  have kept := fun body => (((c2.spares_bump _ _).trans (c3.spares_updItem _ _)).trans (c4.spares_answerLayer t it.ctx false m body)).trans
    (Core.spares_nextLayer (wipes := False) t k r.layer _)
  rw [Ctx.held1, (kept _).tokens id, tokens]
  simp [Tbl.getD]

/-- Settles O36: sound copies are tidied without touching an item, and whatever a completed layer's answer brings spares the tokens held. -/
theorem decodeLayerRunsToItsResult : Obligations.DecodeLayerRunsToItsResult := by
  intro k it r m ms s live c sh x lo item run msgs decode
  refine ⟨?_, ?_, ?_⟩
  · intro o pg st fr step idle engines here epoch next_ clean at_ frame free appends sound
    have starts := Core.layerStart_decodes (t := s.top) item run msgs step decode idle engines here epoch next_ clean
    obtain ⟨x', r', at', run', started, merge, layer, msgs', fill⟩ := Core.startDecode_starts item at_ frame free appends sound
    obtain ⟨moves, ready⟩ := (c.layerStart s.top k).noteReady_moves
    rw [starts] at ready
    refine ⟨_, x', r', State.next_onCore live _, rfl, ?_, run', started, merge, layer, msgs', ?_⟩
    · dsimp only
      rw [starts, ready]
      exact at'
    · dsimp only
      rw [starts, ready]
      exact fill
  · intro n sl slice running
    obtain ⟨x', r', at', run', sent, others, engages⟩ := Core.sliceComplete_sends (t := s.top) item run msgs slice running
    exact ⟨_, x', r', State.next_onCore live _, rfl, at', run', sent, others, engages.ctxs, engages.tiers, engages.fabric⟩
  · intro n sl slice sent epoch due
    have takes := Core.partialArrive_takes (t := s.top) item run msgs slice sent epoch due
    have marked : ∀ j, (r.slices.modify n (fun s => { s with state := .arrived }))[j]? =
        if j = n then some { sl with state := .arrived } else r.slices[j]? := fun j => by
      by_cases same : j = n
      · simp [same, slice]
      · simp [same, Ne.symm same]
    refine ⟨?_, ?_⟩
    · rintro ⟨j, y, other, at_, missing⟩
      have waits : ¬ (r.slices.modify n (fun s => { s with state := .arrived })).all (fun s => s.state == .arrived) = true := fun whole => by
        have there := List.mem_of_getElem? ((marked j).trans ((if_neg other).trans at_))
        exact missing (by simpa using List.all_eq_true.1 whole y there)
      replace takes := takes.trans (if_neg waits)
      obtain ⟨moves, ready⟩ := (c.partialArrive s.top k n).noteReady_moves
      have engages := (c.engages_freeWork s.top (· == .slice k n)).trans (Core.engages_onSlice k n (fun s => { s with state := .arrived }) _)
      refine ⟨_, State.next_onCore live _, rfl, ?_⟩
      dsimp only
      rw [ready, takes]
      exact ⟨engages.ctxs, engages.tiers, engages.fabric⟩
    · intro rest
      have whole : (r.slices.modify n (fun s => { s with state := .arrived })).all (fun s => s.state == .arrived) = true := by
        rw [List.all_eq_true]
        intro y there
        obtain ⟨j, at_⟩ := List.mem_iff_getElem?.1 there
        rw [marked] at at_
        split at at_
        · cases at_
          rfl
        · next other => simp [rest j y other at_]
      replace takes := takes.trans (if_pos whole)
      obtain ⟨moves, ready⟩ := (c.partialArrive s.top k n).noteReady_moves
      refine ⟨_, State.next_onCore live _, rfl, ?_⟩
      dsimp only
      rw [ready, takes]
      exact Core.decodeDone_holds _ _ _ _ _ _

end Sys2Proof.Machine
end

/-! ### Sending neither reads nor changes what lies behind the fabric: contexts, tiers, schedules, moves, synchronisation objects -/

section
namespace Sys2Proof.Machine

/-- The state `c` with all that a job's work is made of taken from `k`: it keeps its job, host interface, ports, fabric, telemetry and output. -/
def Core.withInner (c k : Core) : Core :=
  { c with pset := k.pset, pact := k.pact, clients := k.clients, ctxs := k.ctxs, summits := k.summits, tiers := k.tiers, syncs := k.syncs,
           moves := k.moves, nextMove := k.nextMove, usedIds := k.usedIds, stallUs := k.stallUs, sched := k.sched, search := k.search,
           power := k.power, nonce := k.nonce }

section
variable {k : Core} (c : Core)

@[simp] theorem Core.withInner_host : (c.withInner k).host = c.host := rfl
@[simp] theorem Core.withInner_job : (c.withInner k).job = c.job := rfl
@[simp] theorem Core.withInner_telem : (c.withInner k).telem = c.telem := rfl
@[simp] theorem Core.withInner_onTelem (f : Telem → Telem) : (c.withInner k).onTelem f = (c.onTelem f).withInner k := rfl
@[simp] theorem Core.withInner_onHost (f : HostIf → HostIf) : (c.withInner k).onHost f = (c.onHost f).withInner k := rfl
@[simp] theorem Core.withInner_onFabric (f : Fabric → Fabric) : (c.withInner k).onFabric f = (c.onFabric f).withInner k := rfl
@[simp] theorem Core.withInner_emit (x : Out) : (c.withInner k).emit x = (c.emit x).withInner k := rfl

@[simp] theorem Core.ite_withInner (p : Prop) [Decidable p] (a b : Core) :
    (if p then a.withInner k else b.withInner k) = (if p then a else b).withInner k := (apply_ite (·.withInner k) p a b).symm

theorem Core.foldl_withInner {α : Type} (f : Core → α → Core) (h : ∀ (c : Core) x, f (c.withInner k) x = (f c x).withInner k) (xs : List α) :
    xs.foldl f (c.withInner k) = (xs.foldl f c).withInner k := List.foldl_hom (Core.withInner · k) h

/-! #### Counters, events and queues -/

@[simp] theorem Core.bump_withInner (x : Ctr) (n : Nat) : (c.withInner k).bump x n = (c.bump x n).withInner k := by simp [Core.bump]
@[simp] theorem Core.msix_withInner (v : Nat) : (c.withInner k).msix v = (c.msix v).withInner k := by simp [Core.msix]
@[simp] theorem Core.wm_withInner (id : Nat) : (c.withInner k).wm id = c.wm id := rfl
@[simp] theorem Core.setWm_withInner (id : Nat) (w : Wm) : (c.withInner k).setWm id w = (c.setWm id w).withInner k := rfl

@[simp] theorem Core.evWrite_withInner (t : Top) (code src subject : Nat) (detail : List Byte) :
    (c.withInner k).evWrite t code src subject detail = (c.evWrite t code src subject detail).withInner k := by
  simp only [Core.evWrite, bump_withInner, withInner_host, withInner_emit, withInner_onHost, msix_withInner, ite_withInner]

@[simp] theorem Core.wmStep_withInner (id : Nat) (up : Bool) (thr clr v : Nat) :
    (c.withInner k).wmStep id up thr clr v = ((c.wmStep id up thr clr v).1.withInner k, (c.wmStep id up thr clr v).2) := by
  simp [Core.wmStep]

@[simp] theorem Core.evqWatch_withInner (t : Top) : (c.withInner k).evqWatch t = (c.evqWatch t).withInner k := by
  simp [Core.evqWatch]

@[simp] theorem Core.raise_withInner (t : Top) (code src subject : Nat) (detail : List Byte) :
    (c.withInner k).raise t code src subject detail = (c.raise t code src subject detail).withInner k := by simp [Core.raise]

@[simp] theorem Core.watch_withInner (t : Top) (id : Nat) (up : Bool) (dflt : Nat × Nat) (v src : Nat) :
    (c.withInner k).watch t id up dflt v src = (c.watch t id up dflt v src).withInner k := by simp [Core.watch]

@[simp] theorem Core.queue_withInner (id inst : Nat) : (c.withInner k).queue id inst = c.queue id inst := rfl
@[simp] theorem Core.qRoom_withInner (t : Top) (id inst prod : Nat) : (c.withInner k).qRoom t id inst prod = c.qRoom t id inst prod := rfl

@[simp] theorem Core.putQueue_withInner (t : Top) (id inst : Nat) (es : List QEntry) :
    (c.withInner k).putQueue t id inst es = (c.putQueue t id inst es).withInner k := by simp [Core.putQueue]

@[simp] theorem Core.qSend_withInner (t : Top) (id inst prod n : Nat) (w : Work) :
    (c.withInner k).qSend t id inst prod n w = (c.qSend t id inst prod n w).withInner k := by simp [Core.qSend]

@[simp] theorem Core.qRefill_withInner (t : Top) (id inst : Nat) : (c.withInner k).qRefill t id inst = (c.qRefill t id inst).withInner k :=
  Core.foldl_withInner _ _ (fun c e => by simp) _

@[simp] theorem Core.qEnd_withInner (t : Top) (id inst : Nat) (p : Work → Bool) :
    (c.withInner k).qEnd t id inst p = (c.qEnd t id inst p).withInner k := by simp [Core.qEnd]

@[simp] theorem Core.qEndAll_withInner (t : Top) (ids : Nat → Bool) (p : Work → Bool) :
    (c.withInner k).qEndAll t ids p = (c.qEndAll t ids p).withInner k :=
  Core.foldl_withInner _ _ (fun _ _ => qEnd_withInner _ _ _ _ _) _

@[simp] theorem Core.fenced_withInner (d : Nat) : (c.withInner k).fenced d = c.fenced d := rfl

@[simp] theorem Core.qPass_withInner (t : Top) (id inst prod n : Nat) (w : Work) :
    (c.withInner k).qPass t id inst prod n w = (c.qPass t id inst prod n w).withInner k := by simp [Core.qPass]

/-! #### The mesh, ports and cells -/

@[simp] theorem Core.meshSend_withInner (t : Top) (src dst : Nat) (cls : MeshClass) (cargo : Cargo) (w : Work) (units : Nat) :
    (c.withInner k).meshSend t src dst cls cargo w units = (c.meshSend t src dst cls cargo w units).withInner k := by
  unfold Core.meshSend
  split
  · rfl
  · simp

@[simp] theorem Core.meshPass_withInner (t : Top) (src dst : Nat) (cls : MeshClass) (cargo : Cargo) (w : Work) (units : Nat) :
    (c.withInner k).meshPass t src dst cls cargo w units = (c.meshPass t src dst cls cargo w units).withInner k := by
  simp [Core.meshPass, Core.meshGone]

@[simp] theorem Core.port_withInner (p : Nat) : (c.withInner k).port p = c.port p := rfl
@[simp] theorem Core.updPort_withInner (p : Nat) (f : Port → Port) : (c.withInner k).updPort p f = (c.updPort p f).withInner k := by
  unfold Core.updPort; split <;> rfl
@[simp] theorem Core.head_withInner (p : Nat) : (c.withInner k).head p = c.head p := rfl

@[simp] theorem Core.acctQueue_withInner (h t0 t1 : Nat) (x : Port) (n j : Nat) :
    (c.withInner k).acctQueue h t0 t1 x n j = (c.acctQueue h t0 t1 x n j).withInner k := by
  unfold Core.acctQueue
  split
  · rfl
  · simp

@[simp] theorem Core.egressAcct_withInner (t : Top) (p : Nat) : (c.withInner k).egressAcct t p = (c.egressAcct t p).withInner k := by
  unfold Core.egressAcct
  extract_lets h x n c1 h' x' n' c2
  have queues : c1 = c2.withInner k := Core.foldl_withInner _ _ (fun _ j => acctQueue_withInner _ _ _ _ _ _ j) _
  rw [queues]
  exact updPort_withInner _ _ _

@[simp] theorem Core.enqueue_withInner (t : Top) (p j : Nat) (f : QFrame) :
    (c.withInner k).enqueue t p j f = (c.enqueue t p j f).withInner k := by simp [Core.enqueue, Core.egressWatch]

@[simp] theorem Core.choosePath_withInner (mask : Nat) (hash : Option Nat) : (c.withInner k).choosePath mask hash = c.choosePath mask hash := rfl

/-! #### Messages -/

@[simp] theorem Core.conn_withInner (j : Nat) : (c.withInner k).conn j = c.conn j := rfl
@[simp] theorem Core.updConn_withInner (j : Nat) (f : Conn → Conn) : (c.withInner k).updConn j f = (c.updConn j f).withInner k := rfl

@[simp] theorem Core.putCells_withInner (t : Top) (cid : Nat) (m : Msg) (control : Bool) :
    (c.withInner k).putCells t cid m control = (c.putCells t cid m control).withInner k :=
  Core.foldl_withInner _ _ (fun c x => by simp) _

@[simp] theorem Core.sendNow_withInner (t : Top) (cid : Nat) (m : Msg) (req : Option Nat) :
    (c.withInner k).sendNow t cid m req = (c.sendNow t cid m req).withInner k := by
  unfold Core.sendNow
  cases req <;> simp [Core.jobId]

@[simp] theorem Core.mayAsk_withInner (t : Top) (m : Msg) (stages : Nat) : (c.withInner k).mayAsk t m stages = c.mayAsk t m stages := rfl

/-- A message sent reads and changes nothing of the contexts, tiers, schedules, moves and synchronisation objects (R313). -/
@[simp] theorem Core.sendMsg_withInner (t : Top) (cid type : Nat) (rsp : Bool) (cls : Nat) (body : List Byte) (req : Option Nat) :
    (c.withInner k).sendMsg t cid type rsp cls body req = (c.sendMsg t cid type rsp cls body req).withInner k := by
  simp only [Core.sendMsg, conn_withInner, mayAsk_withInner, updConn_withInner, sendNow_withInner, ite_withInner]
  rfl

end

/-! #### What is kept behind the fabric -/

/-- Nothing that lies behind the fabric differs. -/
def Core.KeepsInner (a b : Core) : Prop := b.withInner a = b

section
variable {a b : Core} (h : a.KeepsInner b)
include h

theorem Core.KeepsInner.ctxs : b.ctxs = a.ctxs := (congrArg Core.ctxs h).symm
theorem Core.KeepsInner.summits : b.summits = a.summits := (congrArg Core.summits h).symm
theorem Core.KeepsInner.tiers : b.tiers = a.tiers := (congrArg Core.tiers h).symm
theorem Core.KeepsInner.syncs : b.syncs = a.syncs := (congrArg Core.syncs h).symm
theorem Core.KeepsInner.moves : b.moves = a.moves := (congrArg Core.moves h).symm
theorem Core.KeepsInner.sched : b.sched = a.sched := (congrArg Core.sched h).symm
end

theorem Core.keepsInner_sendMsg (t : Top) (cid type : Nat) (rsp : Bool) (cls : Nat) (body : List Byte) (req : Option Nat) (c : Core) :
    c.KeepsInner (c.sendMsg t cid type rsp cls body req) := (c.sendMsg_withInner (k := c) t cid type rsp cls body req).symm

theorem Core.SameWork.keepsInner {a b : Core} (h : a.SameWork b) : a.KeepsInner b := by
  obtain ⟨_, _, pset, pact, clients, ctxs, summits, tiers, syncs, moves, nextMove, usedIds, stallUs, sched, search, _, _, power, nonce⟩ := h
  unfold Core.KeepsInner Core.withInner
  rw [← pset, ← pact, ← clients, ← ctxs, ← summits, ← tiers, ← syncs, ← moves, ← nextMove, ← usedIds, ← stallUs, ← sched, ← search,
    ← power, ← nonce]

theorem Core.keepsInner_newReq (t : Top) (cid type tag : Nat) (p : Purpose) (c : Core) : c.KeepsInner (c.newReq t cid type tag p).2 := rfl

end Sys2Proof.Machine
end

/-! ### Contexts, Summit dies and free numbers -/

section
namespace Sys2Proof.Machine

@[simp] theorem Core.ctx_updCtx_self (i : Nat) (f : Ctx → Ctx) (c : Core) : (c.updCtx i f).ctx i = f (c.ctx i) := by
  simp [Core.ctx, Core.updCtx, Tbl.getD]

theorem Core.ctx_updCtx_other {i j : Nat} (other : j ≠ i) (f : Ctx → Ctx) (c : Core) : (c.updCtx i f).ctx j = c.ctx j := by
  simp [Core.ctx, Core.updCtx, Tbl.getD, Tbl.get?_set_other _ _ _ _ other]

theorem Core.ctx_of_ctxs {a b : Core} (h : b.ctxs = a.ctxs) (i : Nat) : b.ctx i = a.ctx i := by simp only [Core.ctx, h]

/-- A change that touches no field seen through `g` leaves every context the same there. -/
theorem Core.ctx_updCtx_view {α : Type} (g : Ctx → α) {i : Nat} {f : Ctx → Ctx} (h : ∀ x, g (f x) = g x) (c : Core) (j : Nat) :
    g ((c.updCtx i f).ctx j) = g (c.ctx j) := by
  by_cases same : j = i
  · subst same
    simp [h]
  · rw [Core.ctx_updCtx_other same]

@[simp] theorem Core.summit_updSummit_self (q : Nat) (f : Summit → Summit) (c : Core) : (c.updSummit q f).summit q = f (c.summit q) := by
  simp [Core.summit, Core.updSummit, Tbl.getD]

theorem Core.summit_updSummit_other {p q : Nat} (other : p ≠ q) (f : Summit → Summit) (c : Core) : (c.updSummit q f).summit p = c.summit p := by
  simp [Core.summit, Core.updSummit, Tbl.getD, Tbl.get?_set_other _ _ _ _ other]

theorem Core.summit_updSummit_view {α : Type} (g : Summit → α) {q : Nat} {f : Summit → Summit} (h : ∀ x, g (f x) = g x) (c : Core) (p : Nat) :
    g ((c.updSummit q f).summit p) = g (c.summit p) := by
  by_cases same : p = q
  · subst same
    simp [h]
  · rw [Core.summit_updSummit_other same]

theorem Core.summit_of_summits {a b : Core} (h : b.summits = a.summits) (q : Nat) : b.summit q = a.summit q := by simp only [Core.summit, h]

/-! #### Free numbers -/

theorem length_insertBy {α : Type} (lt : α → α → Bool) (x : α) (ys : List α) : (insertBy lt x ys).length = ys.length + 1 := by
  induction ys with
  | nil => rfl
  | cons y ys ih =>
    unfold insertBy
    split
    · rfl
    · simp [ih]

theorem mem_insertBy {α : Type} (lt : α → α → Bool) (x y : α) (ys : List α) : y ∈ insertBy lt x ys ↔ y = x ∨ y ∈ ys := by
  induction ys with
  | nil => simp [insertBy]
  | cons z ys ih =>
    unfold insertBy
    split
    · simp
    · simp [ih, or_left_comm]

theorem sorted_insertBy (x : Nat) {ys : List Nat} (h : ys.Pairwise (· ≤ ·)) : (insertBy (fun a b => a < b) x ys).Pairwise (· ≤ ·) := by
  induction ys with
  | nil => simp [insertBy]
  | cons y ys ih =>
    obtain ⟨above, rest⟩ := List.pairwise_cons.1 h
    unfold insertBy
    split
    · next less =>
      have less : x < y := by simpa using less
      refine List.pairwise_cons.2 ⟨fun z hz => ?_, h⟩
      rcases List.mem_cons.1 hz with rfl | hz
      · exact less.le
      · exact less.le.trans (above z hz)
    · next notLess =>
      have notLess : y ≤ x := by simpa using notLess
      refine List.pairwise_cons.2 ⟨fun z hz => ?_, ih rest⟩
      rcases (mem_insertBy _ _ _ _).1 hz with rfl | hz
      · exact notLess
      · exact above z hz

theorem length_sortBy {α : Type} (lt : α → α → Bool) (xs : List α) : (sortBy lt xs).length = xs.length := by
  have grown : ∀ acc : List α, (xs.foldl (fun acc x => insertBy lt x acc) acc).length = acc.length + xs.length := by
    induction xs with
    | nil => simp
    | cons x xs ih =>
      intro acc
      rw [List.foldl_cons, ih, length_insertBy, List.length_cons]
      omega
  simpa [sortBy] using grown []

theorem mem_sortBy {α : Type} (lt : α → α → Bool) (y : α) (xs : List α) : y ∈ sortBy lt xs ↔ y ∈ xs := by
  have grown : ∀ acc : List α, y ∈ xs.foldl (fun acc x => insertBy lt x acc) acc ↔ y ∈ acc ∨ y ∈ xs := by
    induction xs with
    | nil => simp
    | cons x xs ih =>
      intro acc
      rw [List.foldl_cons, ih, mem_insertBy, List.mem_cons]
      tauto
  simpa [sortBy] using grown []

theorem sorted_sortBy (xs : List Nat) : (sortBy (fun a b => a < b) xs).Pairwise (· ≤ ·) :=
  List.foldlRecOn (motive := List.Pairwise (· ≤ ·)) xs _ .nil fun _ sorted x _ => sorted_insertBy x sorted

/-- The number chosen is none of those in use, and not below the first allowed. -/
theorem nthFree_free {used : List Nat} (sorted : used.Pairwise (· ≤ ·)) (from_ k : Nat) : from_ ≤ nthFree used from_ k ∧ nthFree used from_ k ∉ used := by
  induction used generalizing from_ k with
  | nil => simp [nthFree]
  | cons u used ih =>
    obtain ⟨above, rest⟩ := List.pairwise_cons.1 sorted
    unfold nthFree
    split
    · obtain ⟨least, free⟩ := ih rest from_ k
      refine ⟨least, fun mem => ?_⟩
      rcases List.mem_cons.1 mem with same | mem
      · omega
      · exact free mem
    split
    · refine ⟨by omega, fun mem => ?_⟩
      rcases List.mem_cons.1 mem with same | mem
      · omega
      · have := above _ mem
        omega
    · obtain ⟨least, free⟩ := ih rest (u + 1) (k - (u - from_))
      refine ⟨by omega, fun mem => ?_⟩
      rcases List.mem_cons.1 mem with same | mem
      · omega
      · exact free mem

/-- With fewer numbers in use than there are, one that is free is chosen, and the choice is counted. -/
theorem Core.pickFree_sortBy (xs : List Nat) (limit : Nat) (c : Core) (room : xs.length < limit) :
    ∃ v, c.pickFree (sortBy (fun a b => a < b) xs) limit = some (v, c.pick.2) ∧ v ∉ xs := by
  refine ⟨_, if_neg (by rw [length_sortBy]; omega), ?_⟩
  rw [← mem_sortBy (fun a b => a < b)]
  exact (nthFree_free (sorted_sortBy xs) _ _).2

end Sys2Proof.Machine
end

/-! ### Contexts admitted, and commands refused by a context's state (R47, R49, R57, R58, R60) -/

section
namespace Sys2Proof.Machine

section
variable {m : Nat} {a : Cmd} {s : State}

/-- A command that its body refuses for the state of its context. -/
theorem refusedByState {op : Nat} (takes : Takes s m op a) (body : Top → Core → Nat → Cmd → Ans)
    (refuses : body s.top s.core m a = .error (refuseState (s.core.ctx (hIndex a.handle)))) :
    (.next (runCommand m op body s) : Host.Outcome State Fault Refusal) =
      .next (s.refuses m .stateReject (stateDetail .context (s.core.ctx (hIndex a.handle)).state.code)) :=
  congrArg Host.Outcome.next (runCommand_refuses takes refuses)

/-- Settles O25: each of the five bodies looks at the state first. -/
theorem contextCommandsAreRefusedInOtherStates : Obligations.ContextCommandsAreRefusedInOtherStates := by
  intro m a s x no
  refine ⟨fun takes state => ?_, fun takes paused generate => ?_, fun takes paused parked => ?_, fun takes paused parked => ?_,
    fun takes state => ?_⟩
  · refine refusedByState takes ctxSetBody (if_pos ?_)
    simpa using state
  · exact refusedByState takes ctxPauseBody ((if_neg paused).trans (if_neg generate))
  · refine refusedByState takes ctxParkBody (if_neg ?_)
    simpa using ⟨paused, parked⟩
  · exact refusedByState takes ctxResumeBody ((if_neg paused).trans (if_neg parked))
  · have live : x.state ≠ .draining := by rcases state with h | h <;> simp [h]
    refine refusedByState takes ctxRetireBody ((if_neg live).trans (if_pos ?_))
    simpa using state

end

/-! #### Admission -/

/-- A context never issued is the first of its Summit die's free list (R47, R49). -/
theorem Core.popCtx_fresh {t : Top} {q : Nat} {c : Core} (left : (c.summit q).ctxNext < ctxTotal q) (late : 1000000000 ≤ t.now) :
    c.popCtx t q = some (ctxFirst q + (c.summit q).ctxNext, c.updSummit q (fun s => { s with ctxNext := s.ctxNext + 1 })) :=
  (if_pos left).trans (if_pos (by simpa [freeLongEnough] using late))

/-- A context taken out of FREE, and its region. -/
theorem Core.takeCtx_takes {t : Top} {q i base : Nat} {new : Ctx} {c c1 : Core} (pop : c.popCtx t q = some (i, c1))
    (region : c.findRegion new.maxLen = some base) :
    c.takeCtx t q new = .ok (i, c1.updCtx i (fun x =>
      { new with gen := (x.gen + 1) % 32768, base := base, admitted := t.now, prioAct := new.prio, clsAct := new.cls })) := by
  simp only [Core.takeCtx, pop, region]

/-- The context that CTX_ADMIT asks for, before it has its generation and region (R60). -/
def Core.asked (c : Core) (a : Cmd) : Ctx :=
  { state := .reserved, client := a.arg 0 1, prio := if a.arg 1 1 = 0xFF then (c.pact.client (a.arg 0 1)).prio else a.arg 1 1,
    cls := if a.arg 2 1 = 0xFF then (c.pact.client (a.arg 0 1)).cls else a.arg 2 1, maxLen := a.arg 4 4 }

/-- CTX_ADMIT on a named Summit die whose arguments are in order. -/
theorem ctxAdmitBody_takes {t : Top} {c c' : Core} {m i : Nat} {a : Cmd} (client : c.isClient (a.arg 0 1) = true)
    (prio : a.arg 1 1 < 8 ∨ a.arg 1 1 = 0xFF) (cls : a.arg 2 1 < 16 ∨ a.arg 2 1 = 0xFF) (named : a.arg 3 1 ≠ 0xFF) (up : a.arg 3 1 ∈ t.summitsUp)
    (least : 1 ≤ a.arg 4 4) (most : a.arg 4 4 ≤ shMax c.shape) (taken : c.takeCtx t (a.arg 3 1) (c.asked a) = .ok (i, c')) :
    ctxAdmitBody t c m a = ok c' (le 4 (c'.handle i)) := by
  have prioFits : (a.arg 1 1 < 8 || a.arg 1 1 == 0xFF) = true := by simpa using prio
  have clsFits : (a.arg 2 1 < 16 || a.arg 2 1 == 0xFF) = true := by simpa using cls
  have summitFits : (a.arg 3 1 == 0xFF || t.summitsUp.contains (a.arg 3 1)) = true := by simpa using .inr up
  have lenFits : (1 ≤ a.arg 4 4 && a.arg 4 4 ≤ shMax c.shape) = true := by simpa using ⟨least, most⟩
  unfold Core.asked at taken
  simp only [ctxAdmitBody, Core.clientArg, needArg, need, client, prioFits, clsFits, summitFits, lenFits, named, taken, bind, Except.bind,
    if_true, if_false]

/-- Settles O23. -/
theorem admissionReservesAFreshContext : Obligations.AdmissionReservesAFreshContext := by
  intro m q base a s c k n i g takes client prio cls summit up least most left late region
  subst summit
  have named : a.arg 3 1 ≠ 0xFF := by
    have : a.arg 3 1 < 4 := by simpa using (List.mem_filter.1 up).1
    omega
  have taken := Core.takeCtx_takes (new := c.asked a) (Core.popCtx_fresh (t := s.top) left late) region
  have admitted := ctxAdmitBody_takes (m := m) client prio cls named up least most taken
  rw [Core.handle, Core.ctx_updCtx_self] at admitted
  refine ⟨_, congrArg Host.Outcome.next (runCommand_answers takes admitted), ?_⟩
  simp only [i, n, c, Core.ctx_updCtx_self]
  exact ⟨rfl, rfl, rfl, rfl, trivial, rfl, rfl, rfl, fun j other => Core.ctx_updCtx_other other _ _, rfl, rfl⟩

end Sys2Proof.Machine
end

/-! ### What a signal and an answer leave alone: pages, schedules, and contexts but for their references -/

section
namespace Sys2Proof.Machine

/-- A context without its counts of references (R54). -/
def Ctx.bare (x : Ctx) : Ctx := { x with msgs := 0, pins := 0, waits := 0 }

@[simp] theorem Ctx.bare_onRefs (k : RefKind) (f : Nat → Nat) (x : Ctx) : (x.onRefs k f).bare = x.bare := by cases k <;> rfl

/-! #### The count of stale handles -/

/-- Two states have counted the same stale handles on their Summit dies. -/
def Core.SameStales (a b : Core) : Prop := ∀ q < 4, b.ctr (.summit q 0) = a.ctr (.summit q 0)

theorem Core.SameDieCtrs.stales {a b : Core} (h : a.SameDieCtrs b) : a.SameStales b :=
  fun q hq => h _ (by simp only [Ctr.key]; omega)

theorem Core.sameDieCtrs_raise (t : Top) (code src subject : Nat) (detail : List Byte) (c : Core) :
    c.SameDieCtrs (c.raise t code src subject detail) := (c.sameDieCtrs_evWrite _ _ _ _ _).trans (Core.sameDieCtrs_evqWatch _ _)

theorem Core.ctr_bump_other {k j : Ctr} (other : j.key ≠ k.key) (n : Nat) (c : Core) : (c.bump k n).ctr j = c.ctr j := by
  unfold Core.bump
  split
  · rfl
  · simp [Core.ctr, Tbl.getD, Tbl.get?_set_other _ _ _ _ other]

/-! #### Signals and answers -/

/-- Two states differ at most in what a signal and an answer may change: nothing of the tiers and the schedule, of the lists of free contexts,
of a context but its references, and of the counts of stale handles. -/
structure Core.Signals (a b : Core) : Prop where
  tiers : b.tiers = a.tiers
  sched : b.sched = a.sched
  ctx : ∀ j, (b.ctx j).bare = (a.ctx j).bare
  freed : ∀ q, (b.summit q).ctxFree = (a.summit q).ctxFree
  stales : a.SameStales b

theorem Core.Signals.refl (c : Core) : c.Signals c := ⟨rfl, rfl, fun _ => rfl, fun _ => rfl, fun _ _ => rfl⟩

theorem Core.Signals.trans {a b c : Core} (h : a.Signals b) (k : b.Signals c) : a.Signals c :=
  ⟨k.tiers.trans h.tiers, k.sched.trans h.sched, fun j => (k.ctx j).trans (h.ctx j), fun q => (k.freed q).trans (h.freed q),
    fun q hq => (k.stales q hq).trans (h.stales q hq)⟩

theorem Core.KeepsInner.signals {a b : Core} (h : a.KeepsInner b) (k : a.SameStales b) : a.Signals b :=
  ⟨h.tiers, h.sched, fun j => by rw [Core.ctx_of_ctxs h.ctxs], fun q => by rw [Core.summit_of_summits h.summits], k⟩

theorem Core.signals_ite {a b c : Core} (p : Prop) [Decidable p] (h : a.Signals b) (k : a.Signals c) : a.Signals (if p then b else c) := by
  split
  · exact h
  · exact k

theorem Core.signals_foldl {α : Type} (f : Core → α → Core) (h : ∀ (c : Core) (x : α), c.Signals (f c x)) (xs : List α) (c : Core) :
    c.Signals (xs.foldl f c) := List.foldlRecOn (motive := fun d => c.Signals d) xs f (.refl c) fun b run x _ => run.trans (h b x)

theorem Core.signals_updCtx (i : Nat) (f : Ctx → Ctx) (c : Core) (h : ∀ x, (f x).bare = x.bare) : c.Signals (c.updCtx i f) :=
  ⟨rfl, rfl, Core.ctx_updCtx_view Ctx.bare h c, fun _ => rfl, fun _ _ => rfl⟩

theorem Core.signals_updSummit (q : Nat) (f : Summit → Summit) (c : Core) (h : ∀ x, (f x).ctxFree = x.ctxFree) : c.Signals (c.updSummit q f) :=
  ⟨rfl, rfl, fun _ => rfl, Core.summit_updSummit_view Summit.ctxFree h c, fun _ _ => rfl⟩

theorem Core.signals_syncs (s : Tbl SyncObj) (c : Core) : c.Signals { c with syncs := s } := ⟨rfl, rfl, fun _ => rfl, fun _ => rfl, fun _ _ => rfl⟩

theorem Core.signals_stage (m : Nat) (st : Status) (d : Nat) (p : List Byte) (c : Core) : c.Signals (c.stage m st d p) :=
  ⟨rfl, rfl, fun _ => rfl, fun _ => rfl, fun _ _ => rfl⟩

theorem Core.signals_dropRef (i : Nat) (k : RefKind) (c : Core) : c.Signals (c.dropRef i k) := c.signals_updCtx _ _ fun x => x.bare_onRefs k _

theorem Core.signals_bump (k : Ctr) (n : Nat) (c : Core) (h : ∀ q < 4, (Ctr.summit q 0).key ≠ k.key) : c.Signals (c.bump k n) :=
  (c.sameWork_bump k n).keepsInner.signals fun q hq => Core.ctr_bump_other (h q hq) n c

theorem Core.signals_raise (t : Top) (code src subject : Nat) (detail : List Byte) (c : Core) : c.Signals (c.raise t code src subject detail) :=
  (c.sameWork_raise _ _ _ _ _).keepsInner.signals (c.sameDieCtrs_raise _ _ _ _ _).stales

theorem Core.signals_sendMsg (t : Top) (cid type : Nat) (rsp : Bool) (cls : Nat) (body : List Byte) (req : Option Nat) (c : Core) :
    c.Signals (c.sendMsg t cid type rsp cls body req) :=
  (c.keepsInner_sendMsg _ _ _ _ _ _ _).signals (c.talks_sendMsg _ _ _ _ _ _ _).ctrs.stales

theorem Core.signals_newReq (t : Top) (cid type tag : Nat) (p : Purpose) (c : Core) : c.Signals (c.newReq t cid type tag p).2 :=
  (c.keepsInner_newReq _ _ _ _ _).signals fun _ _ => rfl

theorem Core.signals_staleSync (id : Nat) (c : Core) : c.Signals (c.staleSync id) :=
  signals_ite _ (c.signals_bump _ _ fun q _ => by simp only [Ctr.key]; omega) (.refl c)

theorem Core.signals_putSync (id : Nat) (o : SyncObj) (excess : Nat) (c : Core) : c.Signals (c.putSync id o excess) :=
  signals_ite _ (c.signals_syncs _) ((c.signals_syncs _).trans (Core.signals_updSummit _ _ _ fun _ => rfl))

theorem Core.signals_removeWaiter (w : Waiter) (c : Core) : c.Signals (c.removeWaiter w) := c.signals_updSummit _ _ fun _ => rfl

/-- A waiter's release (R70). -/
theorem Core.signals_fire (t : Top) (w : Waiter) (value : Nat) (c : Core) : c.Signals (c.fire t w value) := by
  unfold Core.fire
  extract_lets c1
  have released : c.Signals c1 := by
    unfold c1; split
    · exact c.signals_dropRef _ _
    · exact .refl c
  refine released.trans ?_
  split
  · exact c1.signals_stage _ _ _ _
  · extract_lets c2
    have raised : c1.Signals c2 := (c1.sameWork_msix _).keepsInner.signals (c1.sameDieCtrs_msix _).stales
    exact signals_ite _ (raised.trans (c2.signals_raise _ _ _ _ _)) raised
  · split
    · exact c1.signals_bump _ _ fun q _ => by simp only [Ctr.key]; omega
    split
    · exact (c1.signals_newReq _ _ _ _ _).trans (Core.signals_sendMsg _ _ _ _ _ _ _ _)
    · exact c1.signals_staleSync _

theorem Core.signals_fireAll (t : Top) (value : Nat) (ws : List Waiter) (c : Core) : c.Signals (c.fireAll t value ws) :=
  signals_foldl _ (fun c w => (c.signals_removeWaiter w).trans (Core.signals_fire _ _ _ _)) _ _

theorem Core.signals_fireSem (t : Top) (id : Nat) (ws : List Waiter) (c : Core) : c.Signals (c.fireSem t id ws) := by
  induction ws generalizing c with
  | nil => exact .refl c
  | cons w ws ih =>
    unfold Core.fireSem
    split
    · exact .refl c
    · split
      · exact .refl c
      · exact (((c.signals_syncs _).trans (Core.signals_removeWaiter w _)).trans (Core.signals_fire _ _ _ _)).trans (ih _)

theorem Core.signals_evaluate (t : Top) (id : Nat) (c : Core) : c.Signals (c.evaluate t id) := by
  unfold Core.evaluate
  split
  · exact .refl c
  · extract_lets ws c1
    split
    · exact signals_ite _ (c.signals_fireAll _ _ _) (.refl c)
    · exact signals_ite _ (c.signals_fireAll _ _ _) (.refl c)
    · exact c.signals_fireSem _ _ _
    · exact signals_ite _ (.refl c) ((c.signals_syncs _).trans (c1.signals_fireAll _ _ _))

/-- A signal (R68, R69). -/
theorem Core.signals_signal (t : Top) (id n : Nat) (c : Core) : c.Signals (c.signal t id n) := by
  unfold Core.signal
  split
  · exact c.signals_staleSync _
  · exact signals_ite _ (c.signals_staleSync _) ((c.signals_putSync _ _ _).trans (Core.signals_evaluate _ _ _))

theorem Core.signals_signalDone (t : Top) (id : Nat) (c : Core) : c.Signals (c.signalDone t id) := signals_ite _ (.refl c) (c.signals_signal _ _ _)

/-- A layer message answered (R180). -/
theorem Core.signals_failLayer (t : Top) (i : Nat) (chunk : Bool) (st : Status) (d : Nat) (m : LayerMsg) (c : Core) :
    c.Signals (c.failLayer t i chunk st d m) :=
  ((c.signals_sendMsg _ _ _ _ _ _ _).trans (Core.signals_signalDone _ _ _)).trans (Core.signals_dropRef _ _ _)

theorem Core.signals_failLayers (t : Top) (i : Nat) (chunk : Bool) (st : Status) (d : Nat) (ms : List LayerMsg) (c : Core) :
    c.Signals (ms.foldl (fun c m => c.failLayer t i chunk st d m) c) := signals_foldl _ (fun c m => c.signals_failLayer _ _ _ _ _ m) _ _

/-- A message of a type that names work, refused (R51, R179). -/
theorem Core.signals_rejectWork (t : Top) (cid : Nat) {m : Msg} (st : Status) (d : Nat) (c : Core) (work : m.type = 0x10 ∨ m.type = 0x20) :
    c.Signals (c.rejectWork t cid m st d) := by
  have refused : c.Signals (c.refuseMsg t cid m st d) := by
    rcases work with type | type
    · rw [show c.refuseMsg t cid m st d = c.answerMsg t cid m 0x11 (stepResult m.body st d 0 0 0 []) by simp only [Core.refuseMsg, type]]
      exact c.signals_sendMsg _ _ _ _ _ _ _
    · rw [show c.refuseMsg t cid m st d = c.answerMsg t cid m 0x21 (chunkResult m.body st d 0 0 []) by simp only [Core.refuseMsg, type]]
      exact c.signals_sendMsg _ _ _ _ _ _ _
  exact signals_ite _ (refused.trans (Core.signals_signal _ _ _ _)) refused

end Sys2Proof.Machine
end

/-! ### What moving pages and ending work leave alone -/

section
namespace Sys2Proof.Machine

/-! #### Clean pages (R92) -/

/-- The page, if it is there, has nothing in tier 0 that tier 1 lacks. -/
def Core.Clean0 (c : Core) (o : Nat) : Prop := ∀ p, c.page o = some p → p.dirty.getLsbD 0 = false

theorem Core.Clean0.of_tiers {a b : Core} (h : b.tiers = a.tiers) {o : Nat} (clean : a.Clean0 o) : b.Clean0 o :=
  fun p at_ => clean p (by rwa [Core.page, h] at at_)

theorem Core.clean0_updPage {o v : Nat} {f : PageObj → PageObj} {c : Core} (h : ∀ p, p.dirty.getLsbD 0 = false → (f p).dirty.getLsbD 0 = false)
    (clean : c.Clean0 v) : (c.updPage o f).Clean0 v := by
  intro p at_
  by_cases same : v = o
  · subst same
    rw [Core.page_updPage_self] at at_
    obtain ⟨p, was, rfl⟩ := Option.map_eq_some_iff.1 at_
    exact h p (clean p was)
  · rw [Core.page_updPage_other same] at at_
    exact clean p at_

theorem PageObj.clean0_setTier {p : PageObj} (n : Nat) (here : Bool) (h : p.dirty.getLsbD 0 = false) :
    (p.setTier n here false).dirty.getLsbD 0 = false := by
  have h : p.dirty[0] = false := h
  simp [PageObj.setTier, h]

theorem PageObj.clean0_fixDirty {p : PageObj} (h : p.dirty.getLsbD 0 = false) : p.fixDirty.dirty.getLsbD 0 = false := by
  unfold PageObj.fixDirty
  split
  · exact (by decide : (2#4).getLsbD 0 = false)
  · exact h

theorem Tbl.get?_mapVal {α β : Type} (t : Tbl α) (f : Nat → α → β) (k : Nat) : (Tbl.mapVal t f).get? k = (t.get? k).map (f k) := by
  induction t with
  | nil => rfl
  | cons e t ih =>
    obtain ⟨j, v⟩ := e
    simp only [Tbl.mapVal, List.map_cons, Tbl.get?] at ih ⊢
    split
    · next same => simp [same]
    · exact ih

/-! #### Pages that move -/

/-- Two states differ at most in what moving pages and frames may change: nothing of contexts, Summit dies and items, and no page has become dirty
in tier 0. -/
structure Core.Repages (a b : Core) : Prop where
  ctxs : b.ctxs = a.ctxs
  summits : b.summits = a.summits
  items : b.sched.items = a.sched.items
  clean : ∀ o, a.Clean0 o → b.Clean0 o

theorem Core.Repages.refl (c : Core) : c.Repages c := ⟨rfl, rfl, rfl, fun _ h => h⟩

theorem Core.Repages.trans {a b c : Core} (h : a.Repages b) (k : b.Repages c) : a.Repages c :=
  ⟨k.ctxs.trans h.ctxs, k.summits.trans h.summits, k.items.trans h.items, fun o clean => k.clean o (h.clean o clean)⟩

theorem Core.Repages.of_same {a b : Core} (ctxs : b.ctxs = a.ctxs) (summits : b.summits = a.summits) (items : b.sched.items = a.sched.items)
    (tiers : b.tiers = a.tiers) : a.Repages b := ⟨ctxs, summits, items, fun _ clean => clean.of_tiers tiers⟩

theorem Core.SameWork.repages {a b : Core} (h : a.SameWork b) : a.Repages b := .of_same h.ctxs h.summits (by rw [h.sched]) h.tiers

theorem Core.repages_ite {a b c : Core} (p : Prop) [Decidable p] (h : a.Repages b) (k : a.Repages c) : a.Repages (if p then b else c) := by
  split
  · exact h
  · exact k

theorem Core.repages_foldl {α : Type} (f : Core → α → Core) (h : ∀ (c : Core) (x : α), c.Repages (f c x)) (xs : List α) (c : Core) :
    c.Repages (xs.foldl f c) := List.foldlRecOn (motive := fun d => c.Repages d) xs f (.refl c) fun b run x _ => run.trans (h b x)

theorem Core.repages_updPage (o : Nat) (f : PageObj → PageObj) (c : Core) (h : ∀ p, p.dirty.getLsbD 0 = false → (f p).dirty.getLsbD 0 = false) :
    c.Repages (c.updPage o f) := ⟨rfl, rfl, rfl, fun _ => Core.clean0_updPage h⟩

theorem Core.repages_pick (c : Core) : c.Repages c.pick.2 := .of_same rfl rfl rfl rfl

theorem Core.repages_freeWork (t : Top) (w : Work → Bool) (c : Core) : c.Repages (c.freeWork t w) := (c.freeWork_sameWork w).repages

theorem Core.repages_watchFree (t : Top) (c : Core) : c.Repages (c.watchFree t) :=
  repages_ite _ (c.sameWork_watch _ _ _ _ _ _).repages (.refl c)

theorem Core.repages_dropPool3 (o : Nat) (c : Core) : c.Repages (c.dropPool3 o) := .of_same rfl rfl rfl rfl

theorem Core.repages_findFrame {t : Top} {k0 : Nat} {c c' : Core} {fr : Nat × Nat} (h : c.findFrame t k0 = some (fr, c')) : c.Repages c' := by
  unfold Core.findFrame Core.pickFree at h
  dsimp only at h
  split at h
  · cases h
  · split at h
    · cases h
    · next f c1 hp =>
      split at hp
      · cases hp
      · simp only [Option.some.injEq, Prod.mk.injEq] at h hp
        obtain ⟨-, rfl⟩ := hp
        obtain ⟨-, rfl⟩ := h
        exact .of_same rfl rfl rfl rfl

theorem Core.repages_findWarm {t : Top} {n : Nat} {c c' : Core} {off : Nat} (h : c.findWarm t n = some (off, c')) : c.Repages c' := by
  unfold Core.findWarm at h
  dsimp only at h
  split at h
  · cases h
  split at h
  · cases h
  · simp only [Option.some.injEq, Prod.mk.injEq] at h
    obtain ⟨-, rfl⟩ := h
    exact c.repages_pick

theorem Core.repages_chrysFor (t : Top) (p : PageObj) (c : Core) : c.Repages (c.chrysFor t p).2 := by
  unfold Core.chrysFor
  split
  · exact .refl c
  · exact c.repages_pick
  · exact c.repages_pick

theorem Core.repages_warmPage (t : Top) (crest bytes : Nat) (w : Work) (c : Core) : c.Repages (c.warmPage t crest bytes w) :=
  ((c.sameWork_qSend _ _ _ _ _ _).trans (Core.sameWork_qSend _ _ _ _ _ _ _)).repages

theorem Core.repages_readStack (t : Top) (crest stack engine bytes : Nat) (w : Work) (c : Core) :
    c.Repages (c.readStack t crest stack engine bytes w) := by
  unfold Core.readStack
  extract_lets n c1 c2
  refine repages_ite _ (c.sameWork_qSend _ _ _ _ _ _).repages ?_
  exact (((c.sameWork_qSend _ _ _ _ _ _).trans (c1.sameWork_meshSend _ _ _ _ _ _ _)).trans (c2.sameWork_meshSend _ _ _ _ _ _ _)).repages

theorem Core.repages_retireFrame (t : Top) (st fr why : Nat) (c : Core) : c.Repages (c.retireFrame t st fr why) := by
  unfold Core.retireFrame
  extract_lets die r c1 c2 c3
  have listed : c.Repages c2 := ⟨rfl, rfl, rfl, fun _ h => h⟩
  have kept : c2.Repages c3 := repages_ite _ (c2.sameWork_telem _).repages (.refl c2)
  exact (listed.trans kept).trans (c3.sameWork_raise _ _ _ _ _).repages

/-- A page's frame released (R237). -/
theorem Core.repages_releaseFrame (t : Top) (o : Nat) (c : Core) : c.Repages (c.releaseFrame t o) := by
  unfold Core.releaseFrame
  split
  · exact .refl c
  · extract_lets given c1 c2
    have freed : c.Repages c2 := (c.repages_updPage o _ fun p h => PageObj.clean0_setTier (p := p) 1 false h : c.Repages c1).trans ⟨rfl, rfl, rfl, fun _ h => h⟩
    refine freed.trans ?_
    split
    · refine repages_ite _ (.refl c2) (repages_ite _ ⟨rfl, rfl, rfl, fun v clean p at_ => ?_⟩ (c2.repages_retireFrame _ _ _ _))
      rw [Core.page, Core.onTiers, Tbl.get?_mapVal] at at_
      obtain ⟨q, was, rfl⟩ := Option.map_eq_some_iff.1 at_
      split
      · exact clean q was
      · exact clean q was
    · exact .refl c2

theorem Core.repages_dropPage (t : Top) (o : Nat) (c : Core) : c.Repages (c.dropPage t o) := by
  unfold Core.dropPage
  extract_lets c1
  have freed : c.Repages c1 := (c.repages_releaseFrame t o).trans (Core.repages_freeWork _ _ _)
  refine freed.trans ⟨rfl, rfl, rfl, fun v clean p at_ => ?_⟩
  by_cases same : v = o
  · subst same
    exact absurd at_ (by simp [Core.page, Core.onTiers, Tbl.get?_del_self])
  · exact clean p (by rwa [Core.page, Core.onTiers, Tbl.get?_del_other _ _ _ same] at at_)

/-- A write-down abandoned (R240). -/
theorem Core.repages_abandon (t : Top) (o : Nat) (c : Core) : c.Repages (c.abandon t o) := by
  unfold Core.abandon
  split
  · exact .refl c
  · split
    · exact .refl c
    · extract_lets stop
      have stops : ∀ c : Core, c.Repages (stop c) := fun c => by
        have cleared := c.repages_updPage o (fun p => { p with down := none }) fun _ h => h
        exact ((cleared.trans (Core.sameWork_bump _ _ _).repages).trans (Core.repages_dropPool3 _ _)).trans (Core.repages_freeWork _ _ _)
      split
      · exact stops c
      · split
        · exact stops c
        · split
          split
          · next fr c1 found =>
            have taken : ∀ v, c1.Repages (c1.updPage v (fun p => { p with t1 := some fr })) := fun v => c1.repages_updPage _ _ fun _ h => h
            exact ((Core.repages_findFrame found).trans (taken _)).trans (stops _)
          · exact .refl c

/-- A page asked up to tier 1 (R109, R240). -/
theorem Core.repages_promote (t : Top) (urgent first : Bool) (o : Nat) (c : Core) : c.Repages (c.promote t urgent first o) := by
  unfold Core.promote
  extract_lets c1 c2
  have abandoned : c.Repages c1 := c.repages_abandon t o
  split
  · exact abandoned
  · next p _ =>
    have asked : c.Repages c2 := abandoned.trans (c1.repages_updPage _ _ fun _ h => h)
    refine repages_ite _ (abandoned.trans (c1.repages_updPage _ _ fun _ h => h)) (repages_ite _ asked ?_)
    exact (asked.trans (c2.repages_chrysFor t p)).trans (Core.repages_warmPage _ _ _ _ _)

theorem Core.repages_promoteAll (t : Top) (i : Nat) (c : Core) : c.Repages (c.promoteAll t i) :=
  repages_foldl _ (fun c _ => c.repages_promote _ _ _ _) _ _

/-- A clean page has nothing to write back (R92). -/
theorem Core.writeBack0_clean {t : Top} {o : Nat} {c : Core} (clean : c.Clean0 o) : c.writeBack0 t o = c := by
  unfold Core.writeBack0
  split
  · rfl
  · next p at_ =>
    split
    · rfl
    · rw [if_pos (by rw [clean p at_, Bool.and_false]; rfl)]

theorem Core.repages_drop0 {t : Top} {o : Nat} {c : Core} (clean : c.Clean0 o) : c.Repages (c.drop0 t o) := by
  unfold Core.drop0
  rw [Core.writeBack0_clean clean, Core.writeBack0_clean clean]
  refine c.repages_updPage _ _ fun p h => ?_
  split
  · exact PageObj.clean0_fixDirty (PageObj.clean0_setTier 0 false h)
  · exact h

/-- A clean page sent down (R240). -/
theorem Core.repages_demote {t : Top} {o : Nat} {c : Core} (given : Bool) (clean : c.Clean0 o) : c.Repages (c.demote t given o) := by
  unfold Core.demote
  extract_lets c1 c2
  have dropped : c.Repages c1 := Core.repages_drop0 clean
  split
  · exact dropped
  · next p _ =>
    have calm : c.Repages c2 := dropped.trans (c1.repages_updPage _ _ fun _ h => h)
    refine repages_ite _ calm (repages_ite _ (calm.trans (c2.repages_releaseFrame t o)) (repages_ite _ calm (repages_ite _ calm ?_)))
    split
    · exact repages_ite _ (calm.trans (c2.repages_updPage _ _ fun _ h => h)) calm
    · extract_lets f n
      have pending : c.Repages (c2.updPage o (fun p => { p with pendingDown := true })) := calm.trans (c2.repages_updPage _ _ fun _ h => h)
      refine repages_ite _ pending ?_
      split
      · exact pending
      · next off c5 found =>
        have placed : c.Repages c5 := calm.trans (Core.repages_findWarm found)
        have chosen := placed.trans (c5.repages_chrysFor t p)
        refine .trans (.trans (chosen.trans ?_) (Core.repages_readStack _ _ _ _ _ _ _)) (Core.repages_warmPage _ _ _ _ _)
        exact Core.repages_updPage _ _ _ fun _ h => h

/-- Clean pages sent down one after another. -/
theorem Core.repages_demotes {t : Top} (given : Bool) {os : List Nat} {c : Core} (clean : ∀ o ∈ os, c.Clean0 o) :
    c.Repages (os.foldl (fun c o => c.demote t given o) c) := by
  induction os generalizing c with
  | nil => exact .refl c
  | cons o os ih =>
    have first := Core.repages_demote (t := t) given (clean o List.mem_cons_self)
    exact first.trans (ih fun v hv => first.clean v (clean v (List.mem_cons_of_mem _ hv)))

theorem Core.repages_demoteAll {t : Top} {i : Nat} {c : Core} (given : Bool) (clean : ∀ o ∈ c.ownPages i, c.Clean0 o) :
    c.Repages (c.demoteAll t given i) := (Core.repages_demotes given clean).trans (Core.repages_watchFree _ _)

end Sys2Proof.Machine
end

/-! ### What ending work and dropping pages leave alone -/

section
namespace Sys2Proof.Machine

/-- A context without what ending its work takes from it: its references, its pages and tokens, and the pauses that wait. -/
def Ctx.lasting (x : Ctx) : Ctx := { x.bare with pauseMbox := [], pauseDue := false, pages := [], tokens := [] }

/-- Two states differ at most in what ending work and dropping pages may change: of a context, what `Ctx.lasting` leaves out and no page
that it did not name; no page has become dirty in tier 0. -/
structure Core.Sheds (a b : Core) : Prop where
  ctx : ∀ j, (b.ctx j).lasting = (a.ctx j).lasting
  pages : ∀ j, ∀ r ∈ (b.ctx j).pages.vals, r ∈ (a.ctx j).pages.vals
  freed : ∀ q, (b.summit q).ctxFree = (a.summit q).ctxFree
  clean : ∀ o, a.Clean0 o → b.Clean0 o

theorem Core.Sheds.refl (c : Core) : c.Sheds c := ⟨fun _ => rfl, fun _ _ h => h, fun _ => rfl, fun _ h => h⟩

theorem Core.Sheds.trans {a b c : Core} (h : a.Sheds b) (k : b.Sheds c) : a.Sheds c :=
  ⟨fun j => (k.ctx j).trans (h.ctx j), fun j r here => h.pages j r (k.pages j r here), fun q => (k.freed q).trans (h.freed q),
    fun o clean => k.clean o (h.clean o clean)⟩

theorem Core.Sheds.state {a b : Core} (h : a.Sheds b) (j : Nat) : (b.ctx j).state = (a.ctx j).state := (congrArg Ctx.state (h.ctx j) :)
theorem Core.Sheds.gen {a b : Core} (h : a.Sheds b) (j : Nat) : (b.ctx j).gen = (a.ctx j).gen := (congrArg Ctx.gen (h.ctx j) :)
theorem Core.Sheds.ttlAt {a b : Core} (h : a.Sheds b) (j : Nat) : (b.ctx j).ttlAt = (a.ctx j).ttlAt := (congrArg Ctx.ttlAt (h.ctx j) :)

theorem Core.Repages.sheds {a b : Core} (h : a.Repages b) : a.Sheds b :=
  ⟨fun j => by rw [Core.ctx_of_ctxs h.ctxs], fun j r here => by rwa [Core.ctx_of_ctxs h.ctxs] at here,
    fun q => by rw [Core.summit_of_summits h.summits], h.clean⟩

theorem Core.Signals.sheds {a b : Core} (h : a.Signals b) : a.Sheds b :=
  ⟨fun j => congrArg (fun x : Ctx => { x with pauseMbox := [], pauseDue := false, pages := [], tokens := [] }) (h.ctx j),
    fun j _ here => (congrArg (fun x : Ctx => x.pages.vals) (h.ctx j)) ▸ here, h.freed, fun _ clean => clean.of_tiers h.tiers⟩

theorem Core.sheds_sched (f : Sched → Sched) (c : Core) : c.Sheds (c.onSched f) := ⟨fun _ => rfl, fun _ _ h => h, fun _ => rfl, fun _ h => h⟩

theorem Core.sheds_ite {a b c : Core} (p : Prop) [Decidable p] (h : a.Sheds b) (k : a.Sheds c) : a.Sheds (if p then b else c) := by
  split
  · exact h
  · exact k

theorem Core.sheds_foldl {α : Type} (f : Core → α → Core) (h : ∀ (c : Core) (x : α), c.Sheds (f c x)) (xs : List α) (c : Core) :
    c.Sheds (xs.foldl f c) := List.foldlRecOn (motive := fun d => c.Sheds d) xs f (.refl c) fun b run x _ => run.trans (h b x)

/-- A change of a context that leaves what lasts of it, and adds no page. -/
theorem Core.sheds_updCtx (i : Nat) (f : Ctx → Ctx) (c : Core) (lasts : ∀ x, (f x).lasting = x.lasting)
    (pages : ∀ x, ∀ r ∈ (f x).pages.vals, r ∈ x.pages.vals) : c.Sheds (c.updCtx i f) := by
  refine ⟨Core.ctx_updCtx_view Ctx.lasting lasts c, fun j r here => ?_, fun _ => rfl, fun _ h => h⟩
  by_cases same : j = i
  · subst same
    rw [Core.ctx_updCtx_self] at here
    exact pages _ r here
  · rwa [Core.ctx_updCtx_other same] at here

/-! #### Pages dropped -/

/-- A page that a context no longer names (R94). -/
theorem Core.sheds_unref (t : Top) (i key : Nat) (c : Core) : c.Sheds (c.unref t i key) := by
  unfold Core.unref
  split
  · exact .refl c
  · extract_lets c1
    have left : c.Sheds c1 := c.sheds_updCtx _ _ (fun _ => rfl) fun x r here => by
      obtain ⟨e, there, rfl⟩ := List.mem_map.1 here
      exact List.mem_map_of_mem (List.mem_filter.1 there).1
    refine left.trans ?_
    split
    · exact (c1.repages_dropPage _ _).sheds
    · refine (c1.repages_updPage _ _ fun p clean => ?_).sheds
      split
      · exact clean
      · exact clean

theorem Core.sheds_freePages (t : Top) (i : Nat) (c : Core) : c.Sheds (c.freePages t i) := by
  unfold Core.freePages
  extract_lets c1
  have dropped : c.Sheds c1 := sheds_foldl _ (fun c k => c.sheds_unref t i k) _ _
  exact (dropped.trans (c1.sheds_updCtx i (fun x => { x with tokens := [] }) (fun _ => rfl) fun _ _ h => h)).trans (Core.repages_watchFree _ _).sheds

theorem Core.sheds_freeAllPages (t : Top) (i : Nat) (c : Core) : c.Sheds (c.freeAllPages t i) :=
  (c.sheds_freePages t i).trans (sheds_foldl _ (fun c k => c.sheds_unref t i k) _ _)

/-! #### Work that ends -/

theorem Core.sheds_unappend (t : Top) (o fill : Nat) (c : Core) : c.Sheds (c.unappend t o fill) := by
  unfold Core.unappend
  split
  · exact .refl c
  · extract_lets hn d data
    refine (c.repages_updPage o _ fun _ h => ?_).sheds
    exact h

theorem Core.sheds_endHold (t : Top) (i : Nat) (c : Core) : c.Sheds (c.endHold t i) := by
  unfold Core.endHold
  split
  · exact .refl c
  · split
    · exact .refl c
    · exact (c.sheds_sched _).trans (Core.sheds_sched _ _)

theorem Core.sheds_dropRun (t : Top) (i : Nat) (c : Core) : c.Sheds (c.dropRun t i) := by
  unfold Core.dropRun
  split
  · exact .refl c
  · split
    · exact .refl c
    · next it _ r _ =>
      extract_lets c1 c2 c3 c4 m n c5
      have slices : c1.Sheds c2 := sheds_foldl _ (fun c s =>
        sheds_ite _ ((c.sheds_sched _).trans (Core.sheds_sched _ _)) (.refl c)) _ _
      have units : c2.Sheds c3 := by
        refine sheds_foldl _ (fun c u => ?_) _ _
        extract_lets d
        have scores : c.Sheds d := sheds_ite _ (c.sheds_sched _) (.refl c)
        exact sheds_ite _ (scores.trans (d.sheds_sched _)) scores
      have work : c3.Sheds c4 := (c3.repages_freeWork _ _).sheds
      have tokens : c4.Sheds c5 := by
        refine sheds_ite _ (.refl c4) (sheds_ite _ (sheds_foldl _ (fun c p => ?_) _ _) ?_)
        · split
          · exact c.sheds_unappend _ _ _
          · exact .refl c
        · split
          · exact c4.sheds_unappend _ _ _
          · exact .refl c4
      exact (((((c.sheds_sched _).trans slices).trans units).trans work).trans tokens).trans (c5.sheds_sched _)

/-- An item ended (R57, R108). -/
theorem Core.sheds_failItem (t : Top) (i : Nat) (st : Status) (d : Nat) (c : Core) : c.Sheds (c.failItem t i st d) := by
  unfold Core.failItem
  split
  · exact .refl c
  · next it _ =>
    extract_lets c1 c2 c3 mine c4 c5
    have run : c.Sheds c1 := (c.sheds_endHold t i).trans (Core.sheds_dropRun _ _ _)
    have engines : c1.Sheds c2 := sheds_ite _ (.refl c1) (c1.sheds_sched _)
    have messages : c2.Sheds c3 := (c2.signals_failLayers _ _ _ _ _ _).sheds
    have parts : c3.Sheds c4 := sheds_foldl _ (fun c l => (c.signals_failLayers _ _ _ _ _ _).sheds) _ _
    exact (((run.trans engines).trans messages).trans parts).trans ((c4.sheds_sched _).trans (c5.sheds_sched _))

theorem Core.sheds_failParts (t : Top) (x : Nat) (st : Status) (d : Nat) (c : Core) : c.Sheds (c.failParts t x st d) := by
  unfold Core.failParts
  extract_lets mine c1
  have parts : c.Sheds c1 := sheds_foldl _ (fun c _ => (c.signals_failLayers _ _ _ _ _ _).sheds.trans (Core.sheds_sched _ _)) _ _
  exact parts.trans (c1.sheds_sched _)

theorem Core.sheds_endPause (i : Nat) (st : Status) (d : Nat) (c : Core) : c.Sheds (c.endPause i st d) :=
  (c.sheds_updCtx i (fun x => { x with pauseMbox := [], pauseDue := false }) (fun _ => rfl) fun _ _ h => h).trans
    (sheds_foldl _ (fun c _ => (c.signals_stage _ _ _ _).sheds) _ _)

end Sys2Proof.Machine
end

/-! ### Contexts set, paused, parked, resumed, retired, listed and freed (R50, R57, R58, R62, R63, R144) -/

section
namespace Sys2Proof.Machine

/-! #### The commands in the states that accept them -/

section
variable {m : Nat} {a : Cmd} {s : State}

theorem CtxState.code_lt (x : CtxState) : x.code < 16 := by cases x <;> decide

theorem ctxQuery_answers (takes : Takes s m 0x0202 a) :
    let x := s.core.ctx (hIndex a.handle)
    ∃ p, exec (.ctxQuery m) s = .next (s.answers m s.core p) ∧ p.length = 64 ∧ rd p 0 4 = a.handle % 2 ^ 32 ∧
      rd p 4 1 = x.state.code + 16 * x.prior.code ∧ rd p 8 8 = x.base % 2 ^ 64 ∧ rd p 16 4 = x.maxLen % 2 ^ 32 := by
  intro x
  have states : (x.state.code + 16 * x.prior.code) % 256 = x.state.code + 16 * x.prior.code :=
    Nat.mod_eq_of_lt (by have := x.state.code_lt; have := x.prior.code_lt; omega)
  refine ⟨_, congrArg Host.Outcome.next (runCommand_answers takes rfl), ?_⟩
  simp only [List.append_assoc]
  refine ⟨by simp, ?_, ?_, ?_, ?_⟩
  · simp (disch := simp) [rd_le]
  · simp (disch := simp) [rd_skip, rd_le]
    exact states
  · simp (disch := simp) [rd_skip, rd_le, x]
  · simp (disch := simp) [rd_skip, rd_le, x]

theorem ctxSetBody_sets {t : Top} {c : Core} (live : (c.ctx (hIndex a.handle)).state ≠ .draining)
    (sound : (c.ctx (hIndex a.handle)).state ≠ .faulted) (prio : a.arg 0 1 < 8 ∨ a.arg 0 1 = 0xFF) (cls : a.arg 1 1 < 16 ∨ a.arg 1 1 = 0xFF) :
    ctxSetBody t c m a = ok ((c.updCtx (hIndex a.handle) (fun x => { x with
      prio := if a.arg 0 1 = 0xFF then x.prio else a.arg 0 1
      cls := if a.arg 1 1 = 0xFF then x.cls else a.arg 1 1 })).onSched (fun s => { s with due := true })) := by
  have open_ : ¬((c.ctx (hIndex a.handle)).state = .draining || (c.ctx (hIndex a.handle)).state = .faulted) = true := by simpa using ⟨live, sound⟩
  have prioFits : (a.arg 0 1 < 8 || a.arg 0 1 == 0xFF) = true := by simpa using prio
  have clsFits : (a.arg 1 1 < 16 || a.arg 1 1 == 0xFF) = true := by simpa using cls
  refine (if_neg open_).trans ?_
  simp only [needArg, need, prioFits, clsFits, bind, Except.bind, if_true]

/-- A context is parked by ending its work; its state and time to live are written last (R62). -/
theorem Core.enterParked_ends (t : Top) (i ttl : Nat) (c : Core) :
    ∃ b n, c.Sheds b ∧ c.enterParked t i ttl false =
      b.updCtx i (fun x => { x with state := .parked, ttlAt := some (t.now + ttl * 1000000000), parkedNo := n, pauseDue := false }) := by
  refine ⟨_, _, ?_, rfl⟩
  have counted : c.Sheds (c.onTiers (fun s => { s with parkings := c.tiers.parkings + 1 })) := ⟨fun _ => rfl, fun _ _ h => h, fun _ => rfl, fun _ h => h⟩
  refine counted.trans (.trans ?_ ((Core.sheds_failParts t i _ _ _).trans (Core.sheds_endPause i _ _ _)))
  exact Core.sheds_foldl _ (fun c (e : Nat × Item) => Core.sheds_ite _ (.refl c) (c.sheds_failItem t e.1 _ _)) _ _

theorem Core.ownPages_named {c : Core} {i o : Nat} (own : o ∈ c.ownPages i) : ∃ r ∈ (c.ctx i).pages.vals, r.obj = o := by
  obtain ⟨⟨l, p, r⟩, listed, kept⟩ := List.mem_filterMap.1 own
  obtain ⟨k, -, there⟩ := List.mem_flatMap.1 listed
  obtain ⟨e, held, same⟩ := List.mem_map.1 there
  simp only [Prod.mk.injEq] at same
  obtain ⟨-, -, rfl⟩ := same
  refine ⟨e.2, List.mem_map_of_mem (List.mem_filter.1 held).1, ?_⟩
  dsimp only at kept
  split at kept
  · exact Option.some.inj kept
  · cases kept

/-- A context parked, whose pages are clean: they go down without a look at its state. -/
theorem Core.parked_by (t : Top) (i ttl : Nat) {c : Core} (clean : ∀ r ∈ (c.ctx i).pages.vals, c.Clean0 r.obj) :
    ((((c.enterParked t i ttl false).demoteAll t false i).ctx i).state = .parked) ∧
      (((c.enterParked t i ttl false).demoteAll t false i).ctx i).ttlAt = some (t.now + ttl * 1000000000) := by
  obtain ⟨b, n, ended, parked⟩ := c.enterParked_ends t i ttl
  rw [parked]
  have sent := Core.repages_demoteAll (t := t) (i := i) (c := b.updCtx i (fun x => { x with
    state := .parked, ttlAt := some (t.now + ttl * 1000000000), parkedNo := n, pauseDue := false })) false fun o own => by
      obtain ⟨r, named, rfl⟩ := Core.ownPages_named own
      rw [Core.ctx_updCtx_self] at named
      exact ended.clean _ (clean r (ended.pages i r named))
  rw [Core.ctx_of_ctxs sent.ctxs, Core.ctx_updCtx_self]
  exact ⟨rfl, rfl⟩

theorem ctxParkBody_parked {t : Top} {c : Core} (short : a.arg 0 4 ≤ 86400) (parked : (c.ctx (hIndex a.handle)).state = .parked) :
    ctxParkBody t c m a = ok c := by
  simp [ctxParkBody, needArg, need, short, parked, bind, Except.bind]

theorem ctxParkBody_paused {t : Top} {c : Core} (short : a.arg 0 4 ≤ 86400) (paused : (c.ctx (hIndex a.handle)).state = .paused) :
    ctxParkBody t c m a = ok ((c.enterParked t (hIndex a.handle)
      (if a.arg 0 4 = 0 then (c.client (c.ctx (hIndex a.handle)).client).ttl else a.arg 0 4) false).demoteAll t false (hIndex a.handle)) := by
  simp [ctxParkBody, needArg, need, short, paused, bind, Except.bind]

theorem ctxPark_parks (takes : Takes s m 0x0205 a) (short : a.arg 0 4 ≤ 86400) :
    let c := s.core
    let i := hIndex a.handle
    let x := c.ctx i
    (x.state = .parked → exec (.ctxPark m) s = .next (s.answers m c)) ∧
    (x.state = .paused → ∃ c', exec (.ctxPark m) s = .next (s.answers m c') ∧
      ((∀ r ∈ x.pages.vals, ∀ p, c.page r.obj = some p → p.dirty.getLsbD 0 = false) → (c'.ctx i).state = .parked ∧
        (c'.ctx i).ttlAt = some (s.top.time.now + (if a.arg 0 4 = 0 then (c.client x.client).ttl else a.arg 0 4) * 1000000000))) :=
  ⟨fun parked => congrArg Host.Outcome.next (runCommand_answers takes (ctxParkBody_parked short parked)),
    fun paused => ⟨_, congrArg Host.Outcome.next (runCommand_answers takes (ctxParkBody_paused short paused)), Core.parked_by s.top _ _⟩⟩

theorem ctxResume_resumes (takes : Takes s m 0x0206 a) :
    let x := s.core.ctx (hIndex a.handle)
    (x.state = .paused → exec (.ctxResume m) s = .next (s.answers m s.core)) ∧
    (x.state = .parked → ∃ c', exec (.ctxResume m) s = .next (s.answers m c') ∧ (c'.ctx (hIndex a.handle)).state = .paused ∧
      (c'.ctx (hIndex a.handle)).ttlAt = none) := by
  intro x
  refine ⟨fun paused => congrArg Host.Outcome.next (runCommand_answers takes (if_pos paused)), fun parked => ?_⟩
  have waiting : ¬ x.state = .paused := by simp [parked]
  refine ⟨_, congrArg Host.Outcome.next (runCommand_answers takes ((if_neg waiting).trans (if_pos parked))), ?_⟩
  rw [Core.ctx_of_ctxs (Core.repages_promoteAll _ _ _).ctxs, Core.ctx_updCtx_self]
  exact ⟨rfl, rfl⟩

theorem Core.enterDraining_drains (t : Top) (i : Nat) (c : Core) :
    ((c.enterDraining t i).ctx i).state = .draining ∧ ((c.enterDraining t i).ctx i).ttlAt = none := by
  rw [Core.enterDraining, Core.ctx_updCtx_self]
  exact ⟨rfl, rfl⟩

theorem ctxRetire_drains (takes : Takes s m 0x0207 a) :
    let x := s.core.ctx (hIndex a.handle)
    (x.state = .draining → exec (.ctxRetire m) s = .next (s.answers m s.core)) ∧
    (x.state ≠ .draining → x.state ≠ .movingOut → x.state ≠ .movingIn →
      ∃ c', exec (.ctxRetire m) s = .next (s.answers m c') ∧ (c'.ctx (hIndex a.handle)).state = .draining) := by
  intro x
  refine ⟨fun draining => congrArg Host.Outcome.next (runCommand_answers takes (if_pos draining)), fun live out in_ => ?_⟩
  have settled : ¬((x.state = .movingOut || x.state = .movingIn) = true) := by simpa using ⟨out, in_⟩
  exact ⟨_, congrArg Host.Outcome.next (runCommand_answers takes ((if_neg live).trans (if_neg settled))),
    (Core.enterDraining_drains _ _ _).1⟩

theorem ctxList_lists (takes : Takes s m 0x0208 a) (whose : a.arg 3 1 % 2 = 1 ∨ s.core.isClient (a.arg 2 1) = true) :
    let es := s.core.ctxs.filter (fun e => decide (a.arg 4 4 ≤ e.1) && !s.top.gone (ctxDie e.1) && e.2.state != .free &&
      bit (a.arg 0 2) e.2.state.code && (bit (a.arg 3 1) 0 || e.2.client == a.arg 2 1))
    ∃ p, exec (.ctxList m) s = .next (s.answers m s.core p) ∧ p.length = 8 + 4 * min 1020 es.length ∧ rd p 0 4 = min 1020 es.length := by
  intro es
  have asked : (bit (a.arg 3 1) 0 || s.core.isClient (a.arg 2 1)) = true := by simpa [bit] using whose
  have count : (es.take 1020).length = min 1020 es.length := List.length_take
  refine ⟨le 4 (es.take 1020).length ++ le 4 (((es.drop 1020).head?.map Prod.fst).getD 0) ++
    (es.take 1020).flatMap (fun e => le 4 (mkHandle e.1 e.2.gen)), congrArg Host.Outcome.next (runCommand_answers takes ?_), ?_, ?_⟩
  · simp only [ctxListBody, needArg, need, asked, bind, Except.bind, if_true]
    rfl
  · simp [List.length_flatMap, count]
    omega
  · rw [List.append_assoc, rd_le, count]
    exact Nat.mod_eq_of_lt (by omega)

end

/-- Settles O24, command by command: what ends a context's work and moves its pages leaves its state by `Core.Sheds` and `Core.Repages`. -/
theorem contextCommandsFollowTheStateTable : Obligations.ContextCommandsFollowTheStateTable := by
  intro m a s c i x due
  refine ⟨ctxQuery_answers, fun takes live sound prio cls => ?_, fun takes => ⟨fun paused => ?_, fun generate => ?_⟩, ctxPark_parks,
    ctxResume_resumes, ctxRetire_drains, ctxList_lists⟩
  · exact congrArg Host.Outcome.next (runCommand_answers takes (ctxSetBody_sets live sound prio cls))
  · exact congrArg Host.Outcome.next (runCommand_answers takes (if_pos paused))
  · have running : ¬ x.state = .paused := by simp [generate]
    exact congrArg Host.Outcome.next (runCommand_holds takes ((if_neg running).trans (if_pos generate)))

end Sys2Proof.Machine
end

/-! ### Contexts that expire and are freed (R50, R57, R144) -/

section
namespace Sys2Proof.Machine

theorem Core.ttlExpiry_due {t : Top} {i d : Nat} {c : Core} (parked : (c.ctx i).state = .parked) (at_ : (c.ctx i).ttlAt = some d) (due : d ≤ t.now) :
    ((c.ttlExpiry t i).ctx i).state = .draining ∧ ((c.ttlExpiry t i).ctx i).ttlAt = none := by
  simp only [Core.ttlExpiry, parked, at_, due, if_true]
  rw [(Core.sheds_freePages _ _ _).state, (Core.sheds_freePages _ _ _).ttlAt]
  exact Core.enterDraining_drains _ _ _

theorem Core.ttlExpiry_early {t : Top} {i d : Nat} {c : Core} (parked : (c.ctx i).state = .parked) (at_ : (c.ctx i).ttlAt = some d) (early : t.now < d) :
    c.ttlExpiry t i = c := by
  simp only [Core.ttlExpiry, parked, at_, Nat.not_le.2 early, if_false]

/-- Without items, only tokens are dropped. -/
theorem Core.dropIdle_none {t : Top} {i : Nat} {c : Core} (none_ : c.itemsOf i = []) :
    ∃ f, (∀ x : Sched, (f x).items = x.items) ∧ c.dropIdle t i = c.onSched f := by
  refine ⟨fun s => { s with tokens := s.tokens.filter (fun e => e.2.ctx != i || c.sched.items.any (fun x => x.2.token == e.1)) }, fun _ => rfl, ?_⟩
  unfold Core.dropIdle
  rw [none_]
  rfl

/-- A context without items freed (R50). -/
theorem Core.enterFree_frees {t : Top} {i : Nat} {c : Core} (none_ : c.itemsOf i = []) :
    let c' := c.enterFree t i
    c'.ctx i = { gen := (c.ctx i).gen } ∧ (c'.summit (i / 32768)).ctxFree = (c.summit (i / 32768)).ctxFree ++ [(i, t.now)] ∧
      ∀ j, j ≠ i → (c'.ctx j).state = (c.ctx j).state := by
  have dropped := c.sheds_freeAllPages t i
  unfold Core.enterFree
  rw [none_]
  extract_lets c0 c1 g q c2 c3
  have table : ∀ j, (c3.updSummit q (fun s => { s with ctxFree := s.ctxFree ++ [(i, t.now)] })).ctx j = (c1.updCtx i (fun x => { gen := x.gen })).ctx j :=
    fun _ => rfl
  refine ⟨?_, ?_, fun j other => ?_⟩
  · rw [table, Core.ctx_updCtx_self]
    exact congrArg (fun g => ({ gen := g } : Ctx)) (dropped.gen i)
  · rw [Core.summit_updSummit_self]
    exact congrArg (· ++ [(i, t.now)]) (dropped.freed q)
  · rw [table, Core.ctx_updCtx_other other]
    exact dropped.state j

theorem Core.contextFreed_frees {t : Top} {i : Nat} {c : Core} (draining : (c.ctx i).state = .draining) (stays : (c.ctx i).leaving = false)
    (msgs : (c.ctx i).msgs = 0) (pins : (c.ctx i).pins = 0) (waits : (c.ctx i).waits = 0) (none_ : c.itemsOf i = []) :
    let c' := c.contextFreed t i
    c'.ctx i = { gen := (c.ctx i).gen } ∧ (c'.summit (i / 32768)).ctxFree = (c.summit (i / 32768)).ctxFree ++ [(i, t.now)] ∧
      ∀ j, j ≠ i → (c'.ctx j).state = (c.ctx j).state := by
  obtain ⟨f, items, idle⟩ := Core.dropIdle_none (t := t) none_
  have rest : (c.onSched f).itemsOf i = [] := by
    rw [← none_]
    simp only [Core.itemsOf, Core.onSched, items]
  have freed := Core.enterFree_frees (t := t) rest
  have ready : ((c.onSched f).ctx i).state = .draining && !((c.onSched f).ctx i).leaving && ((c.onSched f).ctx i).msgs = 0 &&
      ((c.onSched f).ctx i).pins = 0 && ((c.onSched f).ctx i).waits = 0 := by
    have same : (c.onSched f).ctx i = c.ctx i := rfl
    simp [same, draining, stays, msgs, pins, waits]
  simp only [Core.contextFreed, draining, if_true, idle]
  rw [if_pos ready]
  exact freed

theorem Core.contextFreed_pinned {t : Top} {i : Nat} {c : Core} (draining : (c.ctx i).state = .draining) (pinned : 0 < (c.ctx i).pins)
    (none_ : c.itemsOf i = []) : ((c.contextFreed t i).ctx i).state = .draining := by
  obtain ⟨f, -, idle⟩ := Core.dropIdle_none (t := t) none_
  have held : ¬((c.onSched f).ctx i).pins = 0 := pinned.ne'
  simp only [Core.contextFreed, draining, if_true, idle]
  rw [if_neg (by simp [held])]
  exact draining

/-- Settles O26: draining a context, and dropping its pages, keep its state and generation by `Core.Sheds`. -/
theorem contextsExpireAndAreFreed : Obligations.ContextsExpireAndAreFreed := by
  intro i d s live c x
  refine ⟨fun parked at_ due => ?_, fun parked at_ early => ?_, fun draining stays msgs pins waits none_ => ?_, fun draining pinned none_ => ?_⟩
  · exact ⟨_, State.next_onCore live _, rfl, Core.ttlExpiry_due parked at_ due⟩
  · exact State.next_onCore_id live _ (Core.ttlExpiry_early parked at_ early)
  · exact ⟨_, State.next_onCore live _, rfl, Core.contextFreed_frees draining stays msgs pins waits none_⟩
  · exact ⟨_, State.next_onCore live _, Core.contextFreed_pinned draining pinned none_⟩

end Sys2Proof.Machine
end

/-! ### Moves that start (R57, R115 to R117, R127) -/

section
namespace Sys2Proof.Machine

theorem Core.KeepsInner.trans {a b c : Core} (h : a.KeepsInner b) (k : b.KeepsInner c) : a.KeepsInner c := by
  calc c.withInner a = c.withInner (b.withInner a) := rfl
    _ = c.withInner b := by rw [show b.withInner a = b from h]
    _ = c := k

/-- A number chosen is none of those in use, and the choice is counted. -/
theorem Core.pickFree_free {xs : List Nat} {limit v : Nat} {c c' : Core} (h : c.pickFree (sortBy (fun a b => a < b) xs) limit = some (v, c')) :
    v ∉ xs ∧ c' = c.pick.2 := by
  have room : xs.length < limit := by
    by_contra full
    rw [Core.pickFree, length_sortBy, Nat.sub_eq_zero_of_le (Nat.le_of_not_lt full)] at h
    cases h
  obtain ⟨w, picked, free⟩ := c.pickFree_sortBy xs limit room
  rw [h] at picked
  cases picked
  exact ⟨free, rfl⟩

/-- A new move's ID is borne by no other record of this node (R116). -/
theorem Core.newMoveId_fresh {t : Top} {c c' : Core} {id : Nat} (h : c.newMoveId t = some (id, c')) :
    (∀ e ∈ c.moves, e.2.initiator = t.nodeId → e.2.id ≠ id) ∧ c' = c.pick.2 := by
  obtain ⟨free, picked⟩ := Core.pickFree_free h
  refine ⟨fun e there mine same => free ?_, picked⟩
  rw [List.mem_dedup, ← same]
  refine List.mem_append_left _ (List.mem_map_of_mem (List.mem_filter.2 ⟨List.mem_map_of_mem there, ?_⟩))
  simpa using mine

/-- A question asked of the peer changes no more than the reference that it takes (R54, R127). -/
theorem Core.moveAsk_keepsInner {t : Top} {r : Nat} {c : Core} {m : Move} (at_ : c.moves.get? r = some m) (conn type kind key cls : Nat)
    (body : List Byte) :
    (if m.ctx = 0 then c else c.updCtx m.ctx (Ctx.onRefs .msg (· + 1))).KeepsInner (c.moveAsk t r conn type kind key cls body) := by
  simp only [Core.moveAsk, at_]
  refine .trans ?_ (Core.keepsInner_sendMsg _ _ _ _ _ _ _ _)
  split
  · exact rfl
  · exact rfl

section
variable {t : Top} {r : Nat} {c : Core} {m : Move} (at_ : c.moves.get? r = some m) (conn type kind key cls : Nat) (body : List Byte)
include at_

theorem Core.moveAsk_moves : (c.moveAsk t r conn type kind key cls body).moves = c.moves := by
  rw [(Core.moveAsk_keepsInner at_ conn type kind key cls body).moves]
  split
  · rfl
  · rfl
theorem Core.moveAsk_tiers : (c.moveAsk t r conn type kind key cls body).tiers = c.tiers := by
  rw [(Core.moveAsk_keepsInner at_ conn type kind key cls body).tiers]
  split
  · rfl
  · rfl
theorem Core.moveAsk_sched : (c.moveAsk t r conn type kind key cls body).sched = c.sched := by
  rw [(Core.moveAsk_keepsInner at_ conn type kind key cls body).sched]
  split
  · rfl
  · rfl
theorem Core.moveAsk_ctxs (none_ : m.ctx = 0) : (c.moveAsk t r conn type kind key cls body).ctxs = c.ctxs := by
  rw [(Core.moveAsk_keepsInner at_ conn type kind key cls body).ctxs, if_pos none_]
theorem Core.moveAsk_ctx_bare (j : Nat) : ((c.moveAsk t r conn type kind key cls body).ctx j).bare = (c.ctx j).bare := by
  rw [Core.ctx_of_ctxs (Core.moveAsk_keepsInner at_ conn type kind key cls body).ctxs]
  split
  · rfl
  · exact Core.ctx_updCtx_view Ctx.bare (fun x => x.bare_onRefs .msg _) c j
theorem Core.moveAsk_ctx_other {j : Nat} (other : j ≠ m.ctx) : (c.moveAsk t r conn type kind key cls body).ctx j = c.ctx j := by
  rw [Core.ctx_of_ctxs (Core.moveAsk_keepsInner at_ conn type kind key cls body).ctxs]
  split
  · rfl
  · exact Core.ctx_updCtx_other other _ c
end

theorem Ctx.state_noteConn (n : Nat) (x : Ctx) : (Ctx.noteConn n x).state = x.state ∧ (Ctx.noteConn n x).prior = x.prior := by
  unfold Ctx.noteConn
  split
  · exact ⟨rfl, rfl⟩
  split
  · exact ⟨rfl, rfl⟩
  · exact ⟨rfl, rfl⟩

/-- A record without what the start of a push fills in (R115). -/
def Move.asked (m : Move) : Move :=
  { m with arrival := .generate, handle := 0, oldEpoch := 0, newEpoch := 0, phase := .opening, client := 0, carried := 0, started := .free, expected := 0 }

/-- A push that starts (R57, R115): its record is OPENING with the context's next epoch, and the context is MOVING_OUT. -/
theorem Core.startPush_opens {t : Top} {r : Nat} {c : Core} {m : Move} (at_ : c.moves.get? r = some m) :
    let c' := c.startPush t r
    (∃ n, c'.moves.get? r = some n ∧ n.asked = m.asked ∧ n.phase = .opening ∧ n.newEpoch = ((c.ctx m.ctx).epoch + 1) % 65536) ∧
    (c'.ctx m.ctx).state = .movingOut ∧ (c'.ctx m.ctx).prior = (c.ctx m.ctx).state ∧ (∀ j, j ≠ m.ctx → c'.ctx j = c.ctx j) ∧
    c'.tiers = c.tiers ∧ c'.sched = c.sched := by
  rw [Core.startPush, at_]
  dsimp -zeta only
  intro c'
  unfold c'
  extract_lets i x left arrival ttl c1 n c2
  have opened : c2.moves.get? r = some n := by
    simp [c2, c1, Core.updMove, Core.updCtx, Tbl.upd, at_]
  have same : ∀ j, c2.ctx j = c1.ctx j := fun _ => rfl
  have leaving : c2.ctx i = Ctx.noteConn m.conn { x with state := .movingOut, prior := x.state, cut := false, ttlAt := none, ttlLeft := left } :=
    (same i).trans (Core.ctx_updCtx_self i _ c)
  have bare := Core.moveAsk_ctx_bare (t := t) opened n.conn 0x30 1 0 2 (c2.openBody n ttl) i
  rw [leaving] at bare
  obtain ⟨state, prior⟩ := Ctx.state_noteConn m.conn { x with state := .movingOut, prior := x.state, cut := false, ttlAt := none, ttlLeft := left }
  refine ⟨⟨n, ?_, rfl, rfl, rfl⟩, ?_, ?_, fun j other => ?_, ?_, ?_⟩
  · rw [Core.moveAsk_moves opened, opened]
  · exact (congrArg Ctx.state bare :).trans state
  · exact (congrArg Ctx.prior bare :).trans prior
  · rw [Core.moveAsk_ctx_other opened _ _ _ _ _ _ other]
    exact (same j).trans (Core.ctx_updCtx_other other _ c)
  · exact Core.moveAsk_tiers opened _ _ _ _ _ _
  · exact Core.moveAsk_sched opened _ _ _ _ _ _

/-! #### MOVE_START -/

section
variable {m cid : Nat} {y : MoveType} {a : Cmd} {t : Top} {c : Core}

/-- A tag that no live record bears (R117). -/
theorem Core.needTag_free {tag : Nat} (free : tag = 0 ∨ ∀ e ∈ c.moves, e.2.tag = tag → e.2.ended ≠ none) : c.needTag tag = .ok () := by
  refine if_pos ?_
  rcases free with rfl | free
  · rfl
  · rw [Bool.or_eq_true, Bool.not_eq_true', List.any_eq_false]
    refine .inr fun v there => ?_
    obtain ⟨e, listed, rfl⟩ := List.mem_map.1 there
    simpa using free e listed

/-- The checks that MOVE_START makes of every type but ATTACH (R115, R117). -/
theorem moveStartBody_checked (kind : MoveType.ofCode (a.arg 0 1) = some y) (state : y.push = true → (c.ctx (hIndex a.handle)).state ∈ y.from_)
    (other : y ≠ .attach) (arrival : if y = .park then a.arg 1 1 = 4 ∨ a.arg 1 1 = 5 else a.arg 1 1 = 0)
    (peer : a.arg 2 2 < 0x3FFF) (away : y.push = true → a.arg 2 2 ≠ t.nodeId) (obj : a.arg 32 2 < 16384 ∨ a.arg 32 2 = 0xFFFF) :
    moveStartBody t c m a = if y = .resume then resumeBody t c m (a.arg 2 2) (a.arg 32 2) (a.arg 34 1) (a.arg 8 8) (a.arg 36 2) a
      else pushBody t c m y (a.arg 2 2) (a.arg 1 1) (a.arg 32 2) (a.arg 34 1) (a.arg 8 8) (a.arg 36 2) a := by
  have stateFits : (!y.push || y.from_.contains (c.ctx (hIndex a.handle)).state) = true := by
    cases push : y.push with
    | false => rfl
    | true => simpa using state push
  have peerFits : (decide (a.arg 2 2 < 0x3FFF) && !(y.push && a.arg 2 2 == t.nodeId)) = true := by
    cases push : y.push with
    | false => simpa using peer
    | true => simpa using ⟨peer, away push⟩
  have objFits : (decide (a.arg 32 2 < 16384) || a.arg 32 2 == 0xFFFF) = true := by simpa using obj
  unfold moveStartBody
  simp only [kind, needArg, need, stateFits, peerFits, objFits, bind, Except.bind, if_true]
  cases y with
  | attach => exact absurd rfl other
  | park =>
    have arrival : a.arg 1 1 = 4 ∨ a.arg 1 1 = 5 := arrival
    simp [arrival]
  | _ =>
    have arrival : a.arg 1 1 = 0 := arrival
    simp [arrival]

/-- The record of a push, before it starts (R115 to R117). -/
def Core.pushMove (c : Core) (t : Top) (m cid id : Nat) (y : MoveType) (a : Cmd) : Move :=
  { initiator := t.nodeId, id := id, type := y, source := true, phase := .opening, ctx := hIndex a.handle, handle := a.handle, peerNode := a.arg 2 2,
    oldEpoch := (c.ctx (hIndex a.handle)).epoch, newEpoch := ((c.ctx (hIndex a.handle)).epoch + 1) % 65536, tag := a.arg 8 8, conn := cid,
    mbox := some m, syncObj := a.arg 32 2, client := a.arg 34 1, arrival := (CtxState.ofCode (a.arg 1 1)).getD .generate,
    expected := if y = .park then 0 else a.arg 16 4, ttl := a.arg 20 4, summit := hIndex a.handle / 32768 }

theorem pushBody_starts {id : Nat} {c1 : Core}
    (expects : y = .park ∨ a.arg 16 4 = 0 ∨ (c.curLen (c.ctx (hIndex a.handle)) ≤ a.arg 16 4 ∧ a.arg 16 4 ≤ (c.ctx (hIndex a.handle)).maxLen))
    (path : c.connFor (a.arg 36 2) (a.arg 2 2) = some cid) (free : a.arg 8 8 = 0 ∨ ∀ e ∈ c.moves, e.2.tag = a.arg 8 8 → e.2.ended ≠ none)
    (room : c.moveRoom (hIndex a.handle / 32768) = true) (ref : c.hasRef (hIndex a.handle) .msg = true) (new : c.newMoveId t = some (id, c1)) :
    pushBody t c m y (a.arg 2 2) (a.arg 1 1) (a.arg 32 2) (a.arg 34 1) (a.arg 8 8) (a.arg 36 2) a =
      waits ((c1.addMove (c.pushMove t m cid id y a)).2.startPush t c1.nextMove) := by
  have expFits : ((if y = .park then 0 else a.arg 16 4) == 0 || decide (c.curLen (c.ctx (hIndex a.handle)) ≤ if y = .park then 0 else a.arg 16 4) &&
      decide ((if y = .park then 0 else a.arg 16 4) ≤ (c.ctx (hIndex a.handle)).maxLen)) = true := by
    by_cases park : y = .park
    · simp [park]
    · simpa [park] using expects
  simp only [pushBody, needArg, need, expFits, path, Core.needTag_free free, room, ref, new, Bool.and_self, bind, Except.bind, if_true]
  rfl

/-- The record of a RESUME (R117, R146). -/
def Move.ofResume (t : Top) (m cid id q : Nat) (a : Cmd) : Move :=
  { initiator := t.nodeId, id := id, type := .resume, source := false, phase := .opening, ctx := 0, handle := 0, peerNode := a.arg 2 2,
    peerHandle := a.arg 4 4, oldEpoch := 0, newEpoch := 0, tag := a.arg 8 8, conn := cid, mbox := some m, syncObj := a.arg 32 2, client := a.arg 34 1,
    arrival := .paused, summit := q }

theorem resumeBody_starts {id q : Nat} {c1 : Core} (runs : c.quiesced = false) (client : a.arg 34 1 = 0xFF ∨ c.isClient (a.arg 34 1) = true)
    (path : c.connFor (a.arg 36 2) (a.arg 2 2) = some cid) (free : a.arg 8 8 = 0 ∨ ∀ e ∈ c.moves, e.2.tag = a.arg 8 8 → e.2.ended ≠ none)
    (best : bestSummit (c.admissible t) (c.moveSummits t) = some q) (new : c.newMoveId t = some (id, c1)) :
    resumeBody t c m (a.arg 2 2) (a.arg 32 2) (a.arg 34 1) (a.arg 8 8) (a.arg 36 2) a =
      waits ((c1.addMove (Move.ofResume t m cid id q a)).2.moveAsk t c1.nextMove cid 0x31 1 0 2 (le 8 (a.arg 8 8) ++ zeros 12)) := by
  have clientFits : (a.arg 34 1 == 0xFF || c.isClient (a.arg 34 1)) = true := by simpa using client
  simp only [resumeBody, needArg, need, runs, clientFits, path, Core.needTag_free free, best, new, Bool.not_false, bind, Except.bind, if_true]
  rfl

end

/-- Settles O40: a push fills in its record and sends its context off, a RESUME leaves the contexts alone, and asking the peer changes no
context but for a reference. -/
theorem moveStartOpensARecord : Obligations.MoveStartOpensARecord := by
  intro m cid y a s c i x peer tag new takes kind near obj path free id_
  obtain ⟨⟨id, c1⟩, newId⟩ := Option.isSome_iff_exists.1 id_
  obtain ⟨fresh, rfl⟩ := Core.newMoveId_fresh newId
  refine ⟨fun push state away arrival expects room ref => ?_, fun resume arrival runs client best => ?_⟩
  · have other : y ≠ .attach ∧ y ≠ .resume := by rcases push with rfl | rfl | rfl <;> decide
    have body := (moveStartBody_checked (m := m) (t := s.top) kind (fun _ => state) other.1 arrival near (fun _ => away) obj).trans
      ((if_neg other.2).trans (pushBody_starts expects path free room ref newId))
    have added : (c.pick.2.addMove (c.pushMove s.top m cid id y a)).2.moves.get? c.nextMove = some (c.pushMove s.top m cid id y a) :=
      Tbl.get?_set_self _ _ _
    obtain ⟨⟨mv, at_, asked, phase, epoch⟩, left, prior, others, tiers, sched⟩ := Core.startPush_opens (t := s.top) added
    have same : ∀ {α : Type} (f : Move → α), (∀ v : Move, f v.asked = f v) → f mv = f (c.pushMove s.top m cid id y a) := fun f h => by
      rw [← h mv, asked, h]
    refine ⟨_, mv, congrArg Host.Outcome.next (runCommand_holds takes body), ?_, same Move.source fun _ => rfl, same Move.ctx fun _ => rfl, epoch,
      left, prior, others, tiers, sched⟩
    exact ⟨at_, same Move.type fun _ => rfl, phase, same Move.mbox fun _ => rfl, same Move.conn fun _ => rfl, same Move.peerNode fun _ => rfl,
      same Move.tag fun _ => rfl, same Move.initiator fun _ => rfl, same Move.ended fun _ => rfl,
      fun e there mine => (same Move.id fun _ => rfl) ▸ fresh e there mine⟩
  · subst resume
    obtain ⟨q, best⟩ := Option.isSome_iff_exists.1 best
    have body := (moveStartBody_checked (m := m) (t := s.top) kind (fun push => by cases push) (by decide) arrival near (fun push => by cases push) obj).trans
      ((if_pos rfl).trans (resumeBody_starts runs client path free best newId))
    have added : (c.pick.2.addMove (Move.ofResume s.top m cid id q a)).2.moves.get? c.nextMove = some (Move.ofResume s.top m cid id q a) :=
      Tbl.get?_set_self _ _ _
    refine ⟨_, Move.ofResume s.top m cid id q a, congrArg Host.Outcome.next (runCommand_holds takes body), ?_, rfl, rfl, rfl,
      Core.moveAsk_ctxs added _ _ _ _ _ _ rfl, Core.moveAsk_tiers added _ _ _ _ _ _, Core.moveAsk_sched added _ _ _ _ _ _⟩
    refine ⟨?_, rfl, rfl, rfl, rfl, rfl, rfl, rfl, rfl, fresh⟩
    exact (congrArg (Tbl.get? · c.nextMove) (Core.moveAsk_moves added _ _ _ _ _ _)).trans added

end Sys2Proof.Machine
end

/-! ### Messages of work (R51, R58, R133, R149, R178, R179, R205, R206) -/

section
namespace Sys2Proof.Machine

/-! #### What becomes of a message that is delivered -/

/-- A row of a delivered message acts on it once it has left the inbox (R313). -/
theorem onMsg_delivered {s : State} {cid type : Nat} {kind : Option Nat} {q : Msg} (h : Claims.delivered s cid type kind q)
    (f : Top → Core → Nat → Msg → Core) : onMsg cid type kind f s = { s with core := f s.top (s.core.takeMsg cid q) cid q } := by
  obtain ⟨live, head⟩ := h
  unfold onMsg
  rw [head]
  exact s.onCore_live _ live

/-- A delivered message has the type of its row. -/
theorem Core.type_of_headMsg {c : Core} {cid type : Nat} {kind : Option Nat} {q : Msg} (h : c.headMsg cid type kind = some q) : q.type = type := by
  unfold Core.headMsg at h
  split at h
  · split at h
    · next found =>
      cases h
      simp only [Bool.and_eq_true, decide_eq_true_eq] at found
      exact found.1
    · cases h
  · cases h

theorem rd_lt (n : Nat) (bs : List Byte) (off : Nat) : rd bs off n < 256 ^ n := by
  induction n generalizing off with
  | zero => simp [rd]
  | succ n ih =>
    have byte := (bs[off]?.getD 0).isLt
    have rest := ih (off + 1)
    rw [rd, pow_succ]
    omega

/-- A handle of 32 bits names a context of one of four Summit dies (R46). -/
theorem summit_of_handle (q : Msg) : hIndex (q.arg 0 4) / 32768 < 4 := by
  have := rd_lt 4 q.body 0
  rw [hIndex, Msg.arg]
  omega

/-! #### A message that reaches its context -/

/-- Two states differ at most in what recording a connection with context `i` and looking the context up change. -/
structure Core.Notes (i : Nat) (a b : Core) : Prop where
  job : b.job = a.job
  clients : b.clients = a.clients
  sched : b.sched = a.sched
  tiers : b.tiers = a.tiers
  own : ∃ cs full, b.ctx i = { a.ctx i with conns := cs, connsOver := full }
  others : ∀ j, j ≠ i → b.ctx j = a.ctx j

theorem Ctx.noteConn_notes (n : Nat) (x : Ctx) : ∃ cs full, Ctx.noteConn n x = { x with conns := cs, connsOver := full } := by
  unfold Ctx.noteConn
  split
  · exact ⟨_, _, rfl⟩
  split
  · exact ⟨_, _, rfl⟩
  · exact ⟨_, _, rfl⟩

section
variable {i cid : Nat} {q : Msg} {a b : Core} (notes : a.Notes i b)
include notes

theorem Core.Notes.state : (b.ctx i).state = (a.ctx i).state := by
  obtain ⟨_, _, own⟩ := notes.own
  rw [own]
theorem Core.Notes.msgs : (b.ctx i).msgs = (a.ctx i).msgs := by
  obtain ⟨_, _, own⟩ := notes.own
  rw [own]
theorem Core.Notes.held : (b.ctx i).held = (a.ctx i).held := by
  obtain ⟨_, _, own⟩ := notes.own
  rw [own]
theorem Core.Notes.workFate (chunk : Bool) : (b.ctx i).workFate chunk = (a.ctx i).workFate chunk := by
  obtain ⟨_, _, own⟩ := notes.own
  rw [own]
  rfl
theorem Core.Notes.expected (l : Nat) : b.expected i l = a.expected i l := by
  obtain ⟨_, _, own⟩ := notes.own
  simp only [Core.expected, Core.itemsOf, notes.sched, own]
  rfl
theorem Core.Notes.shape : b.shape = a.shape := Core.shape_of_job notes.job
theorem Core.Notes.itemFor (l : Nat) (chunk : Bool) : b.itemFor i l chunk = a.itemFor i l chunk := by
  have last : b.groupLast = a.groupLast := funext fun g => by rw [Core.groupLast, Core.groupLast, notes.shape]
  rw [Core.itemFor, Core.itemFor, Core.itemsOf, Core.itemsOf, notes.sched, last]
theorem Core.Notes.stepBad : b.stepBad i q = a.stepBad i q := by
  have len : (b.ctx i).maxLen = (a.ctx i).maxLen := by
    obtain ⟨_, _, own⟩ := notes.own
    rw [own]
  simp only [Core.stepBad, notes.shape, notes.itemFor, notes.expected, len]
theorem Core.Notes.chunkBad : b.chunkBad i cid q = a.chunkBad i cid q := by
  have len : (b.ctx i).maxLen = (a.ctx i).maxLen := by
    obtain ⟨_, _, own⟩ := notes.own
    rw [own]
  have client : b.client (b.ctx i).client = a.client (a.ctx i).client := by
    obtain ⟨_, _, own⟩ := notes.own
    rw [own, Core.client, Core.client, notes.clients]
  simp only [Core.chunkBad, notes.shape, notes.itemFor, notes.expected, len, client, Core.partLayer, Core.tokenAt, Core.groupOf, notes.sched]
  rfl

end

/-- A message that passes checks 1 to 3 of R179 meets its fate in a state that differs no more than `Core.Notes` says. -/
theorem Core.workArrives_passes {s : State} {cid : Nat} {q : Msg} (passes : Claims.workPasses s q) :
    let i := hIndex (q.arg 0 4)
    ∃ b, s.core.Notes i b ∧
      ((s.core.ctx i).workFate (q.type == 0x20) = .accept → (s.core.takeMsg cid q).workArrives s.top cid q = b.acceptWork s.top i cid q) ∧
      ((s.core.ctx i).workFate (q.type == 0x20) = .hold → (s.core.takeMsg cid q).workArrives s.top cid q = b.holdWork s.top i cid q) := by
  intro i
  obtain ⟨bound, runs, fresh, epoch⟩ := passes
  have quiet : (s.core.takeMsg cid q).quiesced = false := runs
  have known : (s.core.takeMsg cid q).stale s.top (q.arg 0 4) = false := fresh
  have current : q.arg 4 2 = ((s.core.takeMsg cid q).ctx i).epoch := epoch
  have noted := ((s.core.takeMsg cid q).updCtx i (Ctx.noteConn cid)).sameWork_qPass s.top 0x07 (i / 32768) (crestDie (storeCrest cid)) 1 .cells
  have notes : s.core.Notes i (((s.core.takeMsg cid q).updCtx i (Ctx.noteConn cid)).lookup s.top (crestDie (storeCrest cid)) (i / 32768)) := by
    refine ⟨noted.job, noted.clients, noted.sched, noted.tiers, ?_, fun j other => ?_⟩
    · rw [Core.lookup, Core.ctx_of_ctxs noted.ctxs, Core.ctx_updCtx_self]
      exact Ctx.noteConn_notes cid _
    · rw [Core.lookup, Core.ctx_of_ctxs noted.ctxs]
      exact Core.ctx_updCtx_other other _ (s.core.takeMsg cid q)
  refine ⟨_, notes, fun accept => ?_, fun hold => ?_⟩
  · rw [← notes.workFate] at accept
    simp only [Core.workArrives, bound, quiet, known, current, i, ne_eq, not_true, if_false, Bool.false_eq_true] at accept ⊢
    rw [accept]
  · rw [← notes.workFate] at hold
    simp only [Core.workArrives, bound, quiet, known, current, i, ne_eq, not_true, if_false, Bool.false_eq_true] at hold ⊢
    rw [hold]

section
variable {i cid : Nat} {q : Msg} {a b : Core} (notes : a.Notes i b)
include notes

/-- The reference that an accepted message takes (R54). -/
theorem Core.Notes.takeRef (live : (a.ctx i).state ≠ .draining) (room : (a.ctx i).msgs < 16777215) :
    b.takeRef i .msg = .ok (b.updCtx i (Ctx.onRefs .msg (· + 1))) := by
  have open_ : ((b.ctx i).state != .draining) = true := by simpa [notes.state] using live
  have left : b.hasRef i .msg = true := by simpa [Core.hasRef, Ctx.refs, notes.msgs] using room
  simp only [Core.takeRef, need, open_, left, if_true]
  rfl

end

/-- Work is accepted in no state that lets a reference be refused (R54, R58). -/
theorem Ctx.live_of_accept {x : Ctx} {chunk : Bool} (accept : x.workFate chunk = .accept) : x.state ≠ .draining := by
  intro draining
  simp [Ctx.workFate, draining] at accept

end Sys2Proof.Machine
end

/-! ### Layer messages that begin an item, join one, or wait (R133, R149, R178, R205) -/

section
namespace Sys2Proof.Machine

/-! #### Items -/

theorem Core.beginToken_keeps (t : Top) (i : Nat) (chunk : Bool) (pos g : Nat) (c : Core) :
    ∃ s : Sched, (c.beginToken t i chunk pos g).2 = { c with sched := s } ∧ s.items = c.sched.items ∧ s.nextItem = c.sched.nextItem ∧
      s.layers = c.sched.layers := by
  unfold Core.beginToken
  split
  · exact ⟨_, rfl, rfl, rfl, rfl⟩
  · exact ⟨_, rfl, rfl, rfl, rfl⟩

/-- What an item holds: its messages, and the layer that it next takes. -/
def Item.queue (it : Item) : List LayerMsg × Nat := (it.msgs, it.next)

/-- Two states differ at most in what planning, holding and entering layers change: nothing of the contexts, and no item's messages. -/
structure Core.Plans (a b : Core) : Prop where
  ctxs : b.ctxs = a.ctxs
  items : ∀ k, (b.sched.items.get? k).map Item.queue = (a.sched.items.get? k).map Item.queue

theorem Core.Plans.refl (c : Core) : c.Plans c := ⟨rfl, fun _ => rfl⟩
theorem Core.Plans.trans {a b c : Core} (h : a.Plans b) (k : b.Plans c) : a.Plans c :=
  ⟨k.ctxs.trans h.ctxs, fun j => (k.items j).trans (h.items j)⟩

theorem Core.Repages.plans {a b : Core} (h : a.Repages b) : a.Plans b := ⟨h.ctxs, fun k => by rw [h.items]⟩

theorem Core.plans_ite {a b c : Core} (p : Prop) [Decidable p] (h : a.Plans b) (k : a.Plans c) : a.Plans (if p then b else c) := by
  split
  · exact h
  · exact k

theorem Core.plans_sched (f : Sched → Sched) (c : Core) (h : ∀ s, (f s).items = s.items) : c.Plans (c.onSched f) :=
  ⟨rfl, fun k => by rw [Core.onSched, h]⟩

theorem Core.plans_updItem (k : Nat) (f : Item → Item) (c : Core) (h : ∀ it, (f it).queue = it.queue) : c.Plans (c.updItem k f) := by
  refine ⟨rfl, fun j => ?_⟩
  simp only [Core.updItem, Core.onSched, Tbl.upd]
  split
  · next it at_ =>
    by_cases same : j = k
    · subst same
      rw [Tbl.get?_set_self, at_, Option.map_some, Option.map_some, h]
    · rw [Tbl.get?_set_other _ _ _ _ same]
  · rfl

theorem Core.plans_endHold (t : Top) (k : Nat) (c : Core) : c.Plans (c.endHold t k) := by
  unfold Core.endHold
  split
  · exact .refl c
  · split
    · exact .refl c
    · extract_lets ns c1
      exact (c.plans_updItem k _ fun _ => rfl : c.Plans c1).trans (c1.plans_sched _ fun _ => rfl)

theorem Core.plans_holdCheck (t : Top) (k : Nat) (c : Core) : c.Plans (c.holdCheck t k) := by
  unfold Core.holdCheck
  split
  · exact .refl c
  · exact plans_ite _ (plans_ite _ (c.plans_updItem k _ fun _ => rfl) (.refl c)) (c.plans_endHold t k)

theorem Core.plans_enterLayer (t : Top) (k : Nat) (c : Core) : c.Plans (c.enterLayer t k) := by
  unfold Core.enterLayer
  split
  · exact .refl c
  · split
    · refine plans_ite _ (.refl c) (.trans (.trans (c.plans_endHold t k) ?_) (Core.plans_holdCheck _ _ _))
      exact Core.plans_updItem _ _ _ fun _ => rfl
    · exact c.plans_holdCheck t k

theorem Core.plans_planLayer (t : Top) (k l : Nat) (c : Core) : c.Plans (c.planLayer t k l) := by
  unfold Core.planLayer
  split
  · exact .refl c
  · next it _ =>
    refine plans_ite _ (.refl c) ?_
    split
    extract_lets ps absent bySum w dead late summed c1
    have moved : c.Repages c1 := Core.repages_foldl _ (fun c p => by
      split
      · exact Core.repages_ite _ (c.repages_promote _ _ _ _) (c.repages_abandon _ _)
      · exact .refl c) _ _
    exact moved.plans.trans (c1.plans_updItem _ _ fun _ => rfl)

/-- A layer that has arrived for an item is planned and entered, or the item pends again (R149, R166). -/
theorem Core.plans_itemArrived (t : Top) (k l : Nat) (waited : Bool) (c : Core) : c.Plans (c.itemArrived t k l waited) := by
  unfold Core.itemArrived
  split
  · exact .refl c
  · refine plans_ite _ (plans_ite _ ?_ (.refl c)) (plans_ite _ ((c.plans_planLayer t k l).trans (Core.plans_enterLayer _ _ _)) (.refl c))
    exact (c.plans_updItem k (fun x => { x with detached := false, since := t.now }) fun _ => rfl).trans (Core.plans_sched _ _ fun _ => rfl)

/-! #### Steps -/

section
variable {t : Top} {i cid : Nat} {q : Msg} {a b : Core}

/-- The first layer message of a group begins an item (R149, R178). -/
theorem Core.acceptStep_begins (notes : a.Notes i b) (live : (a.ctx i).state ≠ .draining) (room : (a.ctx i).msgs < 16777215)
    (good : a.stepBad i q = none) (first : q.arg 6 2 % shG a.shape = 0) :
    ∃ it sc, b.acceptStep t i cid q = { b.updCtx i (Ctx.onRefs .msg (· + 1)) with sched := sc } ∧
      sc.items.get? a.sched.nextItem = some it ∧ it.ctx = i ∧ it.chunk = false ∧ it.group = q.arg 6 2 / shG a.shape ∧
      it.start = q.arg 8 4 ∧ it.msgs = [stepMsg cid q] ∧ it.step = 0 := by
  have shape : (b.updCtx i (Ctx.onRefs .msg (· + 1))).shape = a.shape := notes.shape
  obtain ⟨sc, begun, items, next, layers⟩ := (b.updCtx i (Ctx.onRefs .msg (· + 1))).beginToken_keeps t i false (q.arg 8 4) (q.arg 6 2 / shG a.shape)
  have next : sc.nextItem = a.sched.nextItem := next.trans (congrArg Sched.nextItem notes.sched)
  have layer : (stepMsg cid q).layer = q.arg 6 2 := rfl
  have pos : (stepMsg cid q).pos = q.arg 8 4 := rfl
  simp only [Core.acceptStep, notes.stepBad, good, notes.takeRef live room, layer, pos, shape, first, Core.groupOf, begun, if_true]
  rw [Core.newItem]
  dsimp only
  exact ⟨_, _, rfl, (congrArg (Tbl.get? _) next.symm).trans (Tbl.get?_set_self _ _ _), rfl, rfl, rfl, rfl, rfl, rfl⟩

/-- Another layer message joins the item whose next layer it is for (R149, R178). -/
theorem Core.acceptStep_joins {k : Nat} {it : Item} (notes : a.Notes i b) (live : (a.ctx i).state ≠ .draining) (room : (a.ctx i).msgs < 16777215)
    (good : a.stepBad i q = none) (later : q.arg 6 2 % shG a.shape ≠ 0) (open_ : a.itemFor i (q.arg 6 2) false = some (k, it))
    (at_ : a.sched.items.get? k = some it) :
    ∃ y, (b.acceptStep t i cid q).sched.items.get? k = some y ∧ y.msgs = it.msgs ++ [stepMsg cid q] ∧ y.next = q.arg 6 2 + 1 ∧
      (b.acceptStep t i cid q).ctxs = (b.updCtx i (Ctx.onRefs .msg (· + 1))).ctxs := by
  have shape : (b.updCtx i (Ctx.onRefs .msg (· + 1))).shape = a.shape := notes.shape
  have found : (b.updCtx i (Ctx.onRefs .msg (· + 1))).itemFor i (q.arg 6 2) false = some (k, it) := (notes.itemFor _ _).trans open_
  have item : (b.updCtx i (Ctx.onRefs .msg (· + 1))).sched.items.get? k = some it := (congrArg (fun s => Tbl.get? s.items k) notes.sched).trans at_
  have layer : (stepMsg cid q).layer = q.arg 6 2 := rfl
  simp only [Core.acceptStep, notes.stepBad, good, notes.takeRef live room, layer, shape, later, found, if_false]
  generalize joined : Core.updItem k _ (b.updCtx i (Ctx.onRefs .msg (· + 1))) = c
  have put : c.sched.items.get? k = some { it with next := q.arg 6 2 + 1, msgs := it.msgs ++ [stepMsg cid q] } := by
    rw [← joined, Core.get?_updItem item]
  have planned := c.plans_itemArrived t k (q.arg 6 2) it.msgs.isEmpty
  have queue := planned.items k
  rw [put, Option.map_some, Option.map_eq_some_iff] at queue
  obtain ⟨y, there, same⟩ := queue
  refine ⟨y, there, congrArg Prod.fst same, congrArg Prod.snd same, planned.ctxs.trans ?_⟩
  rw [← joined]
  rfl

/-- A message held for a context that is moving in (R133). -/
theorem Core.holdWork_holds {x : Held} (notes : a.Notes i b) (live : (a.ctx i).state ≠ .draining) (room : (a.ctx i).msgs < 16777215)
    (held : x = { conn := cid, cls := q.cls, chunk := q.type == 0x20, epoch := q.arg 4 2, body := q.body, at_ := t.now })
    (few : heldCount ((a.ctx i).held ++ [x]) ≤ 4) :
    b.holdWork t i cid q = (b.updCtx i (Ctx.onRefs .msg (· + 1))).updCtx i (fun y => { y with held := y.held ++ [x] }) := by
  subst held
  have few : ¬4 < heldCount ((b.ctx i).held ++ [_]) := notes.held ▸ Nat.not_lt.2 few
  simp only [Core.holdWork, few, notes.takeRef live room, if_false]

/-! #### Parts of a chunk layer (R205, R206) -/

/-- Of checks that all pass, each passes. -/
theorem passes_of_firstBad {xs : List (Nat × Bool)} (good : firstBad xs = none) {e : Nat × Bool} (here : e ∈ xs) : e.2 = true := by
  simpa using List.find?_eq_none.1 (Option.map_eq_none_iff.1 good) e here

/-- An accepted first part has a length that is not zero (R206). -/
theorem Core.count_of_chunkBad (good : a.chunkBad i cid q = none) (part : q.arg 16 1 = 0) : 0 < q.arg 12 2 := by
  have passes := passes_of_firstBad good (.tail _ (.tail _ (.tail _ (.tail _ (.head _)))))
  simp only [Bool.and_eq_true, decide_eq_true_eq, part, Nat.mul_zero] at passes
  obtain ⟨⟨some_, -⟩, -⟩ := passes
  exact some_

theorem Core.ite_onSched (p : Prop) [Decidable p] (f : Sched → Sched) (c : Core) :
    (if p then c.onSched f else c) = { c with sched := if p then f c.sched else c.sched } := by
  split
  · rfl
  · rfl

/-- Part 0 of the first layer of a group begins its layer (R205): GENERATE turns to PROMPT (R57), and the layer is ready where it has no more parts. -/
theorem Core.addPart_first {c : Core} (part : q.arg 16 1 = 0) (first : q.arg 6 2 % shG c.shape = 0) :
    ∃ (sc : Sched) (pl : PartLayer), sc.nextItem = c.sched.nextItem ∧ pl ∈ sc.layers ∧
      (pl.ctx = i ∧ pl.layer = q.arg 6 2 ∧ pl.start = q.arg 8 4 ∧ pl.count = q.arg 12 2 ∧ pl.parts = [partMsg cid q] ∧ pl.item = none) ∧
      c.addPart t i cid q =
        if 1 = ceilDiv (q.arg 12 2) 256 then
          (({ c with sched := sc } : Core).updCtx i (fun x => if x.standing = .generate then x.stand .prompt else x)).layerReady t pl
        else ({ c with sched := sc } : Core).updCtx i (fun x => if x.standing = .generate then x.stand .prompt else x) := by
  obtain ⟨sc, begun, items, next, layers⟩ := c.beginToken_keeps t i true (q.arg 8 4) (q.arg 6 2 / shG c.shape)
  have layer : (partMsg cid q).layer = q.arg 6 2 := rfl
  have zero : (partMsg cid q).part = 0 := part
  simp only [Core.addPart, layer, zero, first, Core.groupOf, begun, if_true]
  simp only [Core.ite_onSched]
  refine ⟨_, _, ?_, ?_, ?_, rfl⟩
  · refine Eq.trans ?_ next
    split
    · rfl
    · rfl
  · exact List.mem_append_right _ (List.mem_singleton_self _)
  · exact ⟨rfl, rfl, rfl, rfl, rfl, rfl⟩

end

end Sys2Proof.Machine
end

/-! ### STEP_QUERY, CHUNK_SUBMIT and HELD_MESSAGE_TIMEOUT -/

section
namespace Sys2Proof.Machine

/-- A chunk layer whose item has not begun begins it when it is ready (R205). -/
theorem Core.layerReady_begins (t : Top) {p : PartLayer} (none_ : p.item = none) (c : Core) :
    ∃ it sc, c.layerReady t p = { c with sched := sc } ∧ sc.items.get? c.sched.nextItem = some it ∧ it.ctx = p.ctx ∧ it.chunk = true ∧
      it.start = p.start ∧ it.count = p.count ∧ it.msgs = p.parts := by
  simp only [Core.layerReady, none_]
  exact ⟨_, _, rfl, Tbl.get?_set_self _ _ _, rfl, rfl, rfl, rfl, rfl⟩

/-- A chunk's part turns GENERATE to PROMPT, or the state that a move will give back (R57). -/
theorem Ctx.turned_part (x : Ctx) :
    (if x.standing = .generate then x.stand .prompt else x).msgs = x.msgs ∧
    (if x.standing = .generate then x.stand .prompt else x).state = if x.state = .generate then .prompt else x.state := by
  by_cases moving : x.state = .movingOut
  · have still : (if x.state = .generate then CtxState.prompt else x.state) = x.state := if_neg (by simp [moving])
    rw [still]
    split
    · simp [Ctx.stand, moving]
    · exact ⟨rfl, rfl⟩
  · simp only [Ctx.standing, Ctx.stand, moving, if_false]
    split
    · exact ⟨rfl, rfl⟩
    · exact ⟨rfl, rfl⟩

/-- A context that is moving in holds work before its cutover (R133). -/
theorem Ctx.hold_of_movingIn {x : Ctx} {chunk : Bool} (moving : x.state = .movingIn) (uncut : x.cut = false) : x.workFate chunk = .hold := by
  simp [Ctx.workFate, moving, uncut]

section
variable {t : Top} {i cid : Nat} {q : Msg} {a b : Core}

/-- Part 0 of the first layer of a group accepted (R205, R206). -/
theorem Core.acceptPart_begins (notes : a.Notes i b) (live : (a.ctx i).state ≠ .draining) (room : (a.ctx i).msgs < 16777215)
    (good : a.chunkBad i cid q = none) (part : q.arg 16 1 = 0) (first : q.arg 6 2 % shG a.shape = 0) :
    let c := b.acceptPart t i cid q
    (c.ctx i).msgs = (a.ctx i).msgs + 1 ∧ (c.ctx i).state = (if (a.ctx i).state = .generate then .prompt else (a.ctx i).state) ∧
      c.tiers = a.tiers ∧
      (q.arg 12 2 ≤ 256 → ∃ it, c.sched.items.get? a.sched.nextItem = some it ∧ it.ctx = i ∧ it.chunk = true ∧
        it.start = q.arg 8 4 ∧ it.count = q.arg 12 2 ∧ it.msgs = [partMsg cid q]) ∧
      (256 < q.arg 12 2 → ∃ p ∈ c.sched.layers, p.ctx = i ∧ p.layer = q.arg 6 2 ∧ p.parts = [partMsg cid q] ∧ p.count = q.arg 12 2) := by
  intro c
  have first : q.arg 6 2 % shG (b.updCtx i (Ctx.onRefs .msg (· + 1))).shape = 0 := (congrArg (fun s => q.arg 6 2 % shG s) notes.shape).trans first
  obtain ⟨sc, pl, next, member, ⟨ctx, layer, start, count, parts, none_⟩, added⟩ := Core.addPart_first (t := t) (i := i) (cid := cid) part first
  have next : sc.nextItem = a.sched.nextItem := next.trans (congrArg Sched.nextItem notes.sched)
  have accepted : c = (b.updCtx i (Ctx.onRefs .msg (· + 1))).addPart t i cid q := by
    simp only [c, Core.acceptPart, notes.chunkBad, good, notes.takeRef live room]
  rw [added] at accepted
  have some_ := Core.count_of_chunkBad good part
  generalize turned : ({ b.updCtx i (Ctx.onRefs .msg (· + 1)) with sched := sc } : Core).updCtx i _ = d at accepted
  have own : (d.ctx i).msgs = (a.ctx i).msgs + 1 ∧ (d.ctx i).state = if (a.ctx i).state = .generate then .prompt else (a.ctx i).state := by
    have ref : ({ b.updCtx i (Ctx.onRefs .msg (· + 1)) with sched := sc } : Core).ctx i = (b.ctx i).onRefs .msg (· + 1) := Core.ctx_updCtx_self i _ b
    obtain ⟨msgs, state⟩ := ((b.ctx i).onRefs .msg (· + 1)).turned_part
    rw [← turned, Core.ctx_updCtx_self, ref, msgs, state]
    exact ⟨congrArg (· + 1) notes.msgs, congrArg (fun s : CtxState => (if s = .generate then .prompt else s : CtxState)) notes.state⟩
  have tiers : d.tiers = a.tiers := by
    rw [← turned]
    exact notes.tiers
  have sched : d.sched = sc := by
    rw [← turned]
    rfl
  by_cases short : q.arg 12 2 ≤ 256
  · rw [if_pos (by rw [ceilDiv]; omega)] at accepted
    obtain ⟨it, sc', ready, put, itCtx, chunk, itStart, itCount, msgs⟩ := Core.layerReady_begins t none_ d
    rw [accepted, ready]
    refine ⟨own.1, own.2, tiers, fun _ => ⟨it, ?_, itCtx.trans ctx, chunk, itStart.trans start, itCount.trans count, msgs.trans parts⟩,
      fun long => absurd short (Nat.not_le.2 long)⟩
    rw [← next, ← sched]
    exact put
  · rw [if_neg (by rw [ceilDiv]; omega)] at accepted
    rw [accepted]
    exact ⟨own.1, own.2, tiers, fun fits => absurd fits short, fun _ => ⟨pl, sched ▸ member, ctx, layer, parts, count⟩⟩

end

section
variable {cid : Nat} {q : Msg} {s : State}

/-- A message of work on its row. -/
theorem workArrives_runs {type : Nat} (delivered : Claims.delivered s cid type none q) :
    (.next (onMsg cid type none (fun t c n m => c.workArrives t n m) s) : Host.Outcome State Fault Refusal) =
      .next { s with core := (s.core.takeMsg cid q).workArrives s.top cid q } := congrArg Host.Outcome.next (onMsg_delivered delivered _)

theorem stepQuery_accepts (delivered : Claims.delivered s cid 0x10 none q) (passes : Claims.workPasses s q)
    (accept : (s.core.ctx (hIndex (q.arg 0 4))).workFate false = .accept) :
    ∃ b, s.core.Notes (hIndex (q.arg 0 4)) b ∧
      exec (.stepQuery cid) s = .next { s with core := b.acceptStep s.top (hIndex (q.arg 0 4)) cid q } := by
  have type : q.type = 0x10 := Core.type_of_headMsg delivered.2
  obtain ⟨b, notes, accepts, -⟩ := Core.workArrives_passes (cid := cid) passes
  have work : (q.type == 0x20) = false := by rw [type]; rfl
  refine ⟨b, notes, (workArrives_runs delivered).trans ?_⟩
  rw [accepts (work ▸ accept), Core.acceptWork, if_neg (by rw [type]; decide)]

theorem stepQuery_holds (delivered : Claims.delivered s cid 0x10 none q) (passes : Claims.workPasses s q)
    (hold : (s.core.ctx (hIndex (q.arg 0 4))).workFate false = .hold) :
    ∃ b, s.core.Notes (hIndex (q.arg 0 4)) b ∧
      exec (.stepQuery cid) s = .next { s with core := b.holdWork s.top (hIndex (q.arg 0 4)) cid q } := by
  have type : q.type = 0x10 := Core.type_of_headMsg delivered.2
  obtain ⟨b, notes, -, holds⟩ := Core.workArrives_passes (cid := cid) passes
  have work : (q.type == 0x20) = false := by rw [type]; rfl
  refine ⟨b, notes, (workArrives_runs delivered).trans ?_⟩
  rw [holds (work ▸ hold)]

theorem chunkSubmit_accepts (delivered : Claims.delivered s cid 0x20 none q) (passes : Claims.workPasses s q)
    (accept : (s.core.ctx (hIndex (q.arg 0 4))).workFate true = .accept) :
    ∃ b, s.core.Notes (hIndex (q.arg 0 4)) b ∧
      exec (.chunkSubmit cid) s = .next { s with core := b.acceptPart s.top (hIndex (q.arg 0 4)) cid q } := by
  have type : q.type = 0x20 := Core.type_of_headMsg delivered.2
  obtain ⟨b, notes, accepts, -⟩ := Core.workArrives_passes (cid := cid) passes
  have work : (q.type == 0x20) = true := by rw [type]; rfl
  refine ⟨b, notes, (workArrives_runs delivered).trans ?_⟩
  rw [accepts (work ▸ accept), Core.acceptWork, if_pos type]

/-- A message that bears a stale handle is counted and refused, and begins nothing (R51). -/
theorem stepQuery_stale (delivered : Claims.delivered s cid 0x10 none q) (bound : s.top.dev = .bound) (runs : s.core.quiesced = false)
    (stale : s.core.stale s.top (q.arg 0 4) = true) :
    let k := hIndex (q.arg 0 4) / 32768
    ∃ t, exec (.stepQuery cid) s = .next t ∧ t.top = s.top ∧ t.core.sched.nextItem = s.core.sched.nextItem ∧
      t.core.ctr (.summit k 0) = (s.core.ctr (.summit k 0)).up 1 := by
  intro k
  have type : q.type = 0x10 := Core.type_of_headMsg delivered.2
  have quiet : (s.core.takeMsg cid q).quiesced = false := runs
  have known : (s.core.takeMsg cid q).stale s.top (q.arg 0 4) = true := stale
  refine ⟨_, workArrives_runs delivered, rfl, ?_⟩
  simp only [Core.workArrives, bound, quiet, known, ne_eq, not_true, if_false, Bool.false_eq_true, if_true]
  have refused := ((s.core.takeMsg cid q).countStale (hIndex (q.arg 0 4)) 0).signals_rejectWork s.top cid .staleHandle 0 (.inl type)
  refine ⟨?_, (refused.stales k (summit_of_handle q)).trans (Core.ctr_bump_self _ _)⟩
  rw [refused.sched, Core.countStale, ((s.core.takeMsg cid q).sameWork_bump _ _).sched]
  rfl

end

/-- A held message whose time is over is answered and leaves (R133). -/
theorem Core.heldTimeout_fails {t : Top} {k : Nat} {h : Held} {c : Core}
    (over_ : (c.ctx k).held.find? (fun h => h.at_ + 500000000 ≤ t.now) = some h) :
    ((c.heldTimeout t k).ctx k).held = (c.ctx k).held.erase h ∧ ((c.heldTimeout t k).ctx k).state = (c.ctx k).state ∧
      (c.heldTimeout t k).tiers = c.tiers := by
  simp only [Core.heldTimeout, over_]
  generalize left : c.updCtx k (fun x => { x with held := x.held.erase h }) = d
  have failed : d.Signals (d.failHeld t k .stateReject (stateDetail .context CtxState.movingIn.code) h) := d.signals_failLayer _ _ _ _ _ _
  have own : d.ctx k = { c.ctx k with held := (c.ctx k).held.erase h } := by rw [← left, Core.ctx_updCtx_self]
  refine ⟨(congrArg Ctx.held (failed.ctx k) :).trans ?_, (congrArg Ctx.state (failed.ctx k) :).trans ?_, failed.tiers.trans ?_⟩
  · rw [own]
    rfl
  · rw [own]
    rfl
  · rw [← left]
    rfl

/-- Settles O39: up to its fate a message changes its context's connections alone (`Core.Notes`); an item that is joined keeps its messages through
planning and entering the layer (`Core.Plans`). -/
theorem workMessagesBecomeItems : Obligations.WorkMessagesBecomeItems := by
  intro cid q s c i x l
  refine ⟨fun delivered passes accept room good => ?_, stepQuery_stale, fun delivered passes moving uncut room few => ?_,
    fun delivered passes accept room good part first => ?_, fun k h live over_ => ?_⟩
  · obtain ⟨b, notes, runs⟩ := stepQuery_accepts delivered passes accept
    have live := Ctx.live_of_accept accept
    refine ⟨fun first => ?_, fun k it later open_ at_ => ?_⟩
    · obtain ⟨it, sc, accepted, put, ctx, chunk, group, start, msgs, step⟩ :=
        Core.acceptStep_begins (t := s.top) (cid := cid) notes live room good first
      rw [accepted] at runs
      have own : ({ b.updCtx i (Ctx.onRefs .msg (· + 1)) with sched := sc } : Core).ctx i = (b.ctx i).onRefs .msg (· + 1) := Core.ctx_updCtx_self i _ b
      refine ⟨_, it, runs, rfl, put, ctx, chunk, group, start, msgs, step, ?_, ?_, notes.tiers, fun j other => ?_⟩
      · rw [own]
        exact congrArg (· + 1) notes.msgs
      · rw [own]
        exact notes.state
      · exact (Core.ctx_updCtx_other other _ b).trans (notes.others j other)
    · obtain ⟨y, put, msgs, next, ctxs⟩ := Core.acceptStep_joins (t := s.top) (cid := cid) notes live room good later open_ at_
      refine ⟨_, y, runs, rfl, put, msgs, next, ?_⟩
      rw [Core.ctx_of_ctxs ctxs, Core.ctx_updCtx_self]
      exact congrArg (· + 1) notes.msgs
  · obtain ⟨b, notes, runs⟩ := stepQuery_holds delivered passes (Ctx.hold_of_movingIn moving uncut)
    have type : q.type = 0x10 := Core.type_of_headMsg delivered.2
    obtain ⟨-, -, -, epoch⟩ := passes
    have held : ({ conn := cid, cls := q.cls, chunk := false, epoch := x.epoch, body := q.body, at_ := s.top.now } : Held) =
        { conn := cid, cls := q.cls, chunk := q.type == 0x20, epoch := q.arg 4 2, body := q.body, at_ := s.top.now } := by
      rw [type, epoch]
      rfl
    rw [Core.holdWork_holds (t := s.top) notes (fun draining => by cases moving.symm.trans draining) room held few] at runs
    refine ⟨_, runs, rfl, ?_⟩
    rw [Core.ctx_updCtx_self, Core.ctx_updCtx_self]
    exact ⟨congrArg (· + 1) notes.msgs, congrArg (· ++ [_]) notes.held⟩
  · obtain ⟨b, notes, runs⟩ := chunkSubmit_accepts delivered passes accept
    exact ⟨_, runs, rfl, Core.acceptPart_begins notes (Ctx.live_of_accept accept) room good part first⟩
  · exact ⟨_, State.next_onCore live _, rfl, Core.heldTimeout_fails over_⟩

end Sys2Proof.Machine
end

/-! ### Synchronisation objects: what operations on them do (R64 to R71) -/

section
namespace Sys2Proof.Machine

/-! #### An object stored -/

section
variable {t : Top} {id : Nat} {o : SyncObj} {x : Nat} {c : Core}

@[simp] theorem Core.syncs_putSync : (c.putSync id o x).syncs = c.syncs.set id o := by
  unfold Core.putSync
  split
  · rfl
  · rfl
@[simp] theorem Core.ctxs_putSync : (c.putSync id o x).ctxs = c.ctxs := by
  unfold Core.putSync
  split
  · rfl
  · rfl
@[simp] theorem Core.tiers_putSync : (c.putSync id o x).tiers = c.tiers := by
  unfold Core.putSync
  split
  · rfl
  · rfl
@[simp] theorem Core.fabric_putSync : (c.putSync id o x).fabric = c.fabric := by
  unfold Core.putSync
  split
  · rfl
  · rfl
@[simp] theorem Core.host_putSync : (c.putSync id o x).host = c.host := by
  unfold Core.putSync
  split
  · rfl
  · rfl

/-- Storing an object changes of its Summit die the overflow alone (R67). -/
theorem Core.summit_putSync_view {α : Type} (g : Summit → α) (h : ∀ (s : Summit) n, g { s with overflow := n } = g s) (q : Nat) :
    g ((c.putSync id o x).summit q) = g (c.summit q) := by
  unfold Core.putSync
  split
  · rfl
  · exact Core.summit_updSummit_view g (fun s => h s _) { c with syncs := c.syncs.set id o } q

theorem Core.waitersOf_putSync (k : Nat) : (c.putSync id o x).waitersOf k = c.waitersOf k :=
  congrArg (List.filter fun w : Waiter => w.obj == k) (Core.summit_putSync_view Summit.waiters (fun _ _ => rfl) (syncSummit k))

theorem Core.waitersOf_of_summits {a b : Core} (h : b.summits = a.summits) (k : Nat) : b.waitersOf k = a.waitersOf k := by
  rw [Core.waitersOf, Core.waitersOf, Core.summit_of_summits h]

/-- Without waiters, an object that is no barrier is left as it is (R68). -/
theorem Core.evaluate_none (at_ : c.syncs.get? id = some o) (kind : o.kind ≠ .barrier) (none_ : c.waitersOf id = []) : c.evaluate t id = c := by
  have idle : c.fireAll t o.value [] = c := rfl
  simp only [Core.evaluate, at_, none_]
  cases counts : o.kind with
  | barrier => exact absurd counts kind
  | semaphore => rfl
  | _ => simp [idle]

/-- A counter below its threshold releases nobody (R68). -/
theorem Core.evaluate_below (at_ : c.syncs.get? id = some o) (kind : o.kind = .counter) (below : o.value < o.threshold) : c.evaluate t id = c := by
  simp only [Core.evaluate, at_, kind]
  exact if_neg (Nat.not_le.2 below)

/-- A counter that has reached its threshold releases every waiter (R68, R70). -/
theorem Core.evaluate_reached (at_ : c.syncs.get? id = some o) (kind : o.kind = .counter) (reached : o.threshold ≤ o.value) :
    c.evaluate t id = c.fireAll t o.value (c.waitersOf id) := by
  simp only [Core.evaluate, at_, kind]
  exact if_pos reached

/-- A barrier that has reached its threshold starts over and counts its completions (R68). -/
theorem Core.evaluate_barrier (at_ : c.syncs.get? id = some o) (kind : o.kind = .barrier) (some_ : 0 < o.threshold) (reached : o.threshold ≤ o.value)
    (none_ : c.waitersOf id = []) : c.evaluate t id =
      { c with syncs := (c.syncs.set id { o with value := o.value % o.threshold, completions := o.completions.up (o.value / o.threshold) }) } := by
  have full : ¬((o.threshold = 0 || o.value < o.threshold) = true) := by simp; omega
  simp only [Core.evaluate, at_, kind, none_]
  exact if_neg full

/-! #### Values (R66, R67) -/

theorem SyncObj.clamp_fits {v : Nat} (fits : v ≤ o.limit) : o.clamp v = ({ o with value := v }, 0) := if_neg (Nat.not_lt.2 fits)
theorem SyncObj.clamp_over {v : Nat} (above : o.limit < v) : o.clamp v = ({ o with value := o.limit, sat := true }, v - o.limit) := if_pos above
theorem SyncObj.signal_clamp {n : Nat} (kind : o.kind ≠ .event) : o.signal n = o.clamp (o.value + n) := by
  unfold SyncObj.signal
  split
  · contradiction
  · rfl
theorem SyncObj.clamp_value (v : Nat) : (o.clamp v).1.value = min o.limit v ∧ (o.clamp v).1.kind = o.kind ∧ (o.clamp v).1.threshold = o.threshold := by
  by_cases fits : v ≤ o.limit
  · rw [SyncObj.clamp_fits fits]
    exact ⟨(Nat.min_eq_right fits).symm, rfl, rfl⟩
  · rw [SyncObj.clamp_over (Nat.lt_of_not_le fits)]
    exact ⟨(Nat.min_eq_left (Nat.le_of_not_le fits)).symm, rfl, rfl⟩

/-! #### Waiters that leave -/

/-- A waiter removed is gone from its object's list, and nobody joins it (R70). -/
theorem Core.mem_removeWaiter {w v : Waiter} {q : Nat} (mine : syncSummit w.obj = q) :
    v ∈ ((c.removeWaiter w).summit q).waiters ↔ v ∈ (c.summit q).waiters ∧ v.num ≠ w.num := by
  subst mine
  rw [Core.removeWaiter, Core.summit_updSummit_self]
  simp

/-- A waiter of a mailbox released or cancelled: its mailbox has the answer, if it waits for one, and nothing else but a reference changes. -/
theorem Core.staged_release {w : Waiter} {k : Nat} (kind : w.kind = .mailbox k) (taken : (c.mbox k).taken.isSome = true)
    (open_ : (c.mbox k).result = none) (value : Nat) :
    ((c.fire t w value).mbox k).result = some ⟨.ok, 0, le 4 value⟩ ∧ (c.fire t w value).summits = c.summits ∧ (c.fire t w value).syncs = c.syncs := by
  unfold Core.fire
  rw [kind]
  cases w.ctx with
  | none => exact ⟨Core.result_stage_self taken open_, rfl, rfl⟩
  | some i => exact ⟨Core.result_stage_self (c := c.dropRef i .wait) taken open_, rfl, rfl⟩

theorem Core.staged_cancel {w : Waiter} {k : Nat} (kind : w.kind = .mailbox k) (taken : (c.mbox k).taken.isSome = true)
    (open_ : (c.mbox k).result = none) (st : Status) (d : Nat) :
    ((c.cancelWaiter w st d).mbox k).result = some ⟨st, d, []⟩ := by
  unfold Core.cancelWaiter
  rw [kind]
  cases w.ctx with
  | none => exact Core.result_stage_self taken open_
  | some i => exact Core.result_stage_self (c := c.dropRef i .wait) taken open_

/-- Cancelling a waiter changes no object and no list (R71). -/
theorem Core.cancelWaiter_keeps (w : Waiter) (st : Status) (d : Nat) (c : Core) :
    (c.cancelWaiter w st d).summits = c.summits ∧ (c.cancelWaiter w st d).syncs = c.syncs ∧ (c.cancelWaiter w st d).tiers = c.tiers := by
  unfold Core.cancelWaiter
  cases w.ctx with
  | none =>
    cases w.kind with
    | _ => exact ⟨rfl, rfl, rfl⟩
  | some i =>
    cases w.kind with
    | _ => exact ⟨rfl, rfl, rfl⟩

end

end Sys2Proof.Machine
end

/-! ### The commands of synchronisation (R64 to R74) -/

section
namespace Sys2Proof.Machine

/-- A command whose body completes it with a status of its own. -/
theorem runCommand_completes {s : State} {m op : Nat} {a : Cmd} (h : Takes s m op a) {body : Top → Core → Nat → Cmd → Ans} {c : Core}
    {st : Status} {d : Nat} {p : List Byte} (hb : body s.top s.core m a = answer c st d p) :
    runCommand m op body s = { s with core := (c.start m).stage m st d p } := by
  rw [runCommand_takes h, hb]
  rfl

theorem Core.mbox_start (m : Nat) (c : Core) : (c.start m).mbox m = { c.mbox m with started := true } := by
  simp [Core.start, Core.mbox, Core.updMbox, Core.onHost, Tbl.getD]

section
variable {m : Nat} {a : Cmd} {s : State} {t : Top} {c : Core} {o : SyncObj}

/-- An object that is there (R64). -/
theorem Core.syncArg_there {id : Nat} (exists_ : syncExists t id = true) (at_ : c.syncs.get? id = some o) : c.syncArg t id = .ok o := by
  simp only [Core.syncArg, needArg, need, exists_, at_, if_true]
  rfl

/-! #### SYNC_ALLOC -/

/-- Objects stored one after another on one Summit die. -/
theorem Core.get?_putSyncs (q x : Nat) (offs : List Nat) (c : Core) (k : Nat) :
    ((offs.foldl (fun c off => c.putSync (4096 * q + off) o x) c).syncs.get? k = if ∃ off ∈ offs, k = 4096 * q + off then some o else c.syncs.get? k) := by
  induction offs generalizing c with
  | nil => simp
  | cons off offs ih =>
    rw [List.foldl_cons, ih, Core.syncs_putSync]
    by_cases here : k = 4096 * q + off
    · subst here
      simp
    · simp [here, Tbl.get?_set_other _ _ _ _ here]

theorem Core.putSyncs_keeps (q x : Nat) (offs : List Nat) (c : Core) :
    ((offs.foldl (fun c off => c.putSync (4096 * q + off) o x) c).summit q).syncNext = (c.summit q).syncNext ∧
      (offs.foldl (fun c off => c.putSync (4096 * q + off) o x) c).ctxs = c.ctxs := by
  induction offs generalizing c with
  | nil => exact ⟨rfl, rfl⟩
  | cons off offs ih =>
    rw [List.foldl_cons]
    obtain ⟨next, ctxs⟩ := ih (c.putSync (4096 * q + off) o x)
    exact ⟨next.trans (Core.summit_putSync_view Summit.syncNext (fun _ _ => rfl) q), ctxs.trans Core.ctxs_putSync⟩

/-- What SYNC_ALLOC gives out of a Summit die: numbers never issued first, then those freed long enough (R64). -/
def Core.syncOffers (c : Core) (t : Top) (q n : Nat) : List Nat :=
  (List.range (min n (4096 - (c.summit q).syncNext))).map ((c.summit q).syncNext + ·) ++
    ((c.syncReady t q).2.take (n - min n (4096 - (c.summit q).syncNext))).map Prod.fst

/-- The lists of a Summit die once SYNC_ALLOC has taken its numbers (R64). -/
def Core.syncTaken (c : Core) (t : Top) (q n : Nat) : Core :=
  c.updSummit q (fun s => { s with
    syncNext := s.syncNext + min n (4096 - (c.summit q).syncNext),
    syncFree := s.syncFree.filter (fun e => !((c.syncReady t q).2.take (n - min n (4096 - (c.summit q).syncNext))).contains e) })

/-- SYNC_ALLOC on a named Summit die whose arguments are in order. -/
theorem syncAllocBody_room {kind : SyncKind} (known : SyncKind.ofCode (a.arg 0 1) = some kind) (up : a.arg 1 1 ∈ t.summitsUp) (least : 1 ≤ a.arg 2 2)
    (most : a.arg 2 2 ≤ 256) (threshold : kind = .barrier → a.arg 8 4 ≠ 0) :
    let q := a.arg 1 1
    let n := a.arg 2 2
    let new := ({ kind := kind, value := 0, threshold := a.arg 8 4 } : SyncObj).clamp (a.arg 4 4)
    (c.syncCount t q < n → syncAllocBody t c m a = .error (.noResource, 0)) ∧
    (n ≤ c.syncCount t q → syncAllocBody t c m a =
      ok ((c.syncOffers t q n).foldl (fun c off => c.putSync (4096 * q + off) new.1 new.2) (c.syncTaken t q n))
        (le 2 n ++ (c.syncOffers t q n).flatMap (fun off => le 2 (4096 * q + off)))) := by
  intro q n new
  have named : a.arg 1 1 ≠ 0xFF := by
    have : a.arg 1 1 < 4 := by simpa using (List.mem_filter.1 up).1
    omega
  have summitFits : (a.arg 1 1 == 0xFF || t.summitsUp.contains (a.arg 1 1)) = true := by simpa using .inr up
  have countFits : (decide (1 ≤ a.arg 2 2) && decide (a.arg 2 2 ≤ 256)) = true := by simpa using ⟨least, most⟩
  have thresholdFits : (!(kind == .barrier && a.arg 8 4 == 0)) = true := by
    cases kind with
    | barrier => simpa using threshold rfl
    | _ => rfl
  refine ⟨fun full => ?_, fun room => ?_⟩
  · have none_ : decide (a.arg 2 2 ≤ c.syncCount t (a.arg 1 1)) = false := decide_eq_false (Nat.not_le.2 full)
    simp only [syncAllocBody, known, needArg, need, summitFits, countFits, thresholdFits, named, none_, bind, Except.bind, if_true, if_false]
    rfl
  · have fits : decide (a.arg 2 2 ≤ c.syncCount t (a.arg 1 1)) = true := decide_eq_true room
    simp only [syncAllocBody, known, needArg, need, summitFits, countFits, thresholdFits, named, fits, bind, Except.bind, if_true, if_false]
    rfl

/-- Numbers never issued are given out in order (R64). -/
theorem syncAlloc_fresh {kind : SyncKind} (takes : Takes s m 0x0E01 a) (known : SyncKind.ofCode (a.arg 0 1) = some kind)
    (up : a.arg 1 1 ∈ s.top.summitsUp) (least : 1 ≤ a.arg 2 2) (most : a.arg 2 2 ≤ 256) (threshold : kind = .barrier → a.arg 8 4 ≠ 0)
    (left : (s.core.summit (a.arg 1 1)).syncNext + a.arg 2 2 ≤ 4096) :
    let c := s.core
    let q := a.arg 1 1
    let n := a.arg 2 2
    let o := (({ kind := kind, value := 0, threshold := a.arg 8 4 } : SyncObj).clamp (a.arg 4 4)).1
    let first := 4096 * q + (c.summit q).syncNext
    ∃ c', exec (.syncAlloc m) s = .next (s.answers m c' (le 2 n ++ (List.range n).flatMap (fun i => le 2 (first + i)))) ∧
      (∀ i < n, c'.syncs.get? (first + i) = some o) ∧ (∀ k, k < first ∨ first + n ≤ k → c'.syncs.get? k = c.syncs.get? k) ∧
      (c'.summit q).syncNext = (c.summit q).syncNext + n ∧ c'.ctxs = c.ctxs := by
  intro c q n o first
  have left : (c.summit q).syncNext + n ≤ 4096 := left
  have fresh : min n (4096 - (c.summit q).syncNext) = n := Nat.min_eq_left (by omega)
  have offers : c.syncOffers s.top q n = (List.range n).map ((c.summit q).syncNext + ·) := by
    simp [Core.syncOffers, fresh]
  have room : n ≤ c.syncCount s.top q := by
    simp only [Core.syncCount, Core.syncReady]
    omega
  have body := (syncAllocBody_room (m := m) (t := s.top) (c := c) known up least most threshold).2 room
  rw [offers] at body
  obtain ⟨next, ctxs⟩ := Core.putSyncs_keeps (o := o) q (({ kind := kind, value := 0, threshold := a.arg 8 4 } : SyncObj).clamp (a.arg 4 4)).2
    ((List.range n).map ((c.summit q).syncNext + ·)) (c.syncTaken s.top q n)
  refine ⟨_, congrArg Host.Outcome.next (runCommand_answers takes (body.trans (congrArg (fun p => ok _ p) ?_))), fun i less => ?_, fun k outside => ?_, ?_, ctxs⟩
  · simp only [List.flatMap_map, first, Nat.add_assoc]
    rfl
  · rw [Core.get?_putSyncs, if_pos ⟨(c.summit q).syncNext + i, List.mem_map_of_mem (List.mem_range.2 less), by omega⟩]
  · rw [Core.get?_putSyncs, if_neg]
    · rfl
    · rintro ⟨off, there, rfl⟩
      obtain ⟨i, less, rfl⟩ := List.mem_map.1 there
      have := List.mem_range.1 less
      omega
  · refine next.trans ?_
    rw [Core.syncTaken, Core.summit_updSummit_self, fresh]

/-- With none left, a number freed long enough is given out again (R64). -/
theorem syncAlloc_again {kind : SyncKind} {e : Nat × Nat} {rest : List (Nat × Nat)} (takes : Takes s m 0x0E01 a)
    (known : SyncKind.ofCode (a.arg 0 1) = some kind) (up : a.arg 1 1 ∈ s.top.summitsUp) (threshold : kind = .barrier → a.arg 8 4 ≠ 0)
    (none_ : (s.core.summit (a.arg 1 1)).syncNext = 4096) (one : a.arg 2 2 = 1) (ready : (s.core.syncReady s.top (a.arg 1 1)).2 = e :: rest) :
    let q := a.arg 1 1
    ∃ c', exec (.syncAlloc m) s = .next (s.answers m c' (le 2 1 ++ le 2 (4096 * q + e.1))) ∧
      c'.syncs.get? (4096 * q + e.1) = some (({ kind := kind, value := 0, threshold := a.arg 8 4 } : SyncObj).clamp (a.arg 4 4)).1 := by
  intro q
  have offers : s.core.syncOffers s.top q (a.arg 2 2) = [e.1] := by
    simp only [q, Core.syncOffers, none_, one, ready]
    rfl
  have room : a.arg 2 2 ≤ s.core.syncCount s.top q := by
    simp only [q, Core.syncCount, ready, one, List.length_cons]
    omega
  have body := (syncAllocBody_room (m := m) (t := s.top) (c := s.core) known up one.ge (by omega) threshold).2 room
  rw [offers] at body
  refine ⟨_, congrArg Host.Outcome.next (runCommand_answers takes (body.trans (congrArg (fun p => ok _ p) ?_))), ?_⟩
  · rw [one]
    simp [q]
  · rw [Core.get?_putSyncs, if_pos ⟨e.1, List.mem_singleton_self _, rfl⟩]

/-! #### SYNC_FREE -/

/-- Waiters cancelled one after another leave, and none joins. -/
theorem Core.mem_cancelled {id : Nat} {w : Waiter} (st : Status) (d : Nat) (ws : List Waiter) (c : Core)
    (here : w ∈ (ws.foldl (fun c w => if w.obj == id then (c.removeWaiter w).cancelWaiter w st d else c) c).waitersOf id) :
    w ∈ c.waitersOf id ∧ w ∉ ws := by
  induction ws generalizing c with
  | nil => exact ⟨here, List.not_mem_nil⟩
  | cons v ws ih =>
    rw [List.foldl_cons] at here
    obtain ⟨was, later⟩ := ih _ here
    by_cases mine : v.obj = id
    · rw [if_pos (by simp [mine]), Core.waitersOf_of_summits (Core.cancelWaiter_keeps _ _ _ _).1] at was
      obtain ⟨listed, own⟩ := List.mem_filter.1 was
      obtain ⟨listed, other⟩ := (Core.mem_removeWaiter (by rw [mine])).1 listed
      refine ⟨List.mem_filter.2 ⟨listed, own⟩, fun mem => ?_⟩
      rcases List.mem_cons.1 mem with rfl | mem
      · exact other rfl
      · exact later mem
    · rw [if_neg (by simp [mine])] at was
      refine ⟨was, fun mem => ?_⟩
      rcases List.mem_cons.1 mem with rfl | mem
      · exact mine (by simpa using (List.mem_filter.1 was).2)
      · exact later mem

/-- Every waiter of an object is on the list of its Summit die. -/
theorem Core.waiter_listed {id : Nat} {w : Waiter} (here : w ∈ c.waitersOf id) : w ∈ c.summits.vals.flatMap Summit.waiters := by
  have listed := (List.mem_filter.1 here).1
  rw [Core.summit, Tbl.getD] at listed
  cases at_ : c.summits.get? (syncSummit id) with
  | none =>
    rw [at_] at listed
    cases listed
  | some x =>
    rw [at_] at listed
    exact List.mem_flatMap.2 ⟨x, Tbl.mem_vals_of_get? at_, listed⟩

/-- Cancelling an object's waiters leaves none of them, and changes nothing else of Summit dies, objects and tiers (R71). -/
theorem Core.cancelWaiters_leaves (id : Nat) (st : Status) (d : Nat) (c : Core) :
    let c' := c.cancelWaiters (fun w => w.obj == id) st d
    c'.waitersOf id = [] ∧ c'.syncs = c.syncs ∧ c'.tiers = c.tiers ∧ ∀ q, (c'.summit q).syncFree = (c.summit q).syncFree := by
  intro c'
  refine ⟨List.eq_nil_iff_forall_not_mem.2 fun w here => ?_, ?_⟩
  · obtain ⟨was, gone⟩ := Core.mem_cancelled st d _ c here
    exact gone (Core.waiter_listed was)
  · refine List.foldlRecOn (motive := fun d : Core => d.syncs = c.syncs ∧ d.tiers = c.tiers ∧ ∀ q, (d.summit q).syncFree = (c.summit q).syncFree)
      _ _ ⟨rfl, rfl, fun _ => rfl⟩ fun b ⟨syncs, tiers, freed⟩ w _ => ?_
    split
    · obtain ⟨summits', syncs', tiers'⟩ := Core.cancelWaiter_keeps w st d (b.removeWaiter w)
      refine ⟨syncs'.trans syncs, tiers'.trans tiers, fun q => ?_⟩
      rw [Core.summit_of_summits summits', ← freed q]
      refine Core.summit_updSummit_view Summit.syncFree (fun _ => ?_) b q
      rfl
    · exact ⟨syncs, tiers, freed⟩

theorem syncFree_frees (takes : Takes s m 0x0E02 a) (exists_ : syncExists s.top (a.arg 0 2) = true) :
    let c := s.core
    let id := a.arg 0 2
    (∀ o, c.syncs.get? id = some o → ∃ c', exec (.syncFree m) s = .next (s.answers m c') ∧ c'.syncs.get? id = none ∧ c'.waitersOf id = [] ∧
      (∀ k, k ≠ id → c'.syncs.get? k = c.syncs.get? k) ∧
      (c'.summit (id / 4096)).syncFree = (c.summit (id / 4096)).syncFree ++ [(id % 4096, s.top.now)] ∧ c'.tiers = c.tiers) ∧
    (c.syncs.get? id = none → exec (.syncFree m) s = .next (s.refuses m .stateReject (stateDetail .sync 0))) := by
  intro c id
  refine ⟨fun o at_ => ?_, fun none_ => ?_⟩
  · have at_ : s.core.syncs.get? (a.arg 0 2) = some o := at_
    obtain ⟨left, syncs, tiers, freed⟩ := c.cancelWaiters_leaves id .staleHandle 0
    refine ⟨c.freeSync s.top id .staleHandle 0, congrArg Host.Outcome.next (runCommand_answers takes ?_), ?_, ?_, fun k other => ?_, ?_, tiers⟩
    · simp only [syncFreeBody, Core.syncArg_there exists_ at_]
      rfl
    · exact Tbl.get?_del_self _ _
    · refine Eq.trans ?_ left
      refine congrArg (List.filter fun w : Waiter => w.obj == id) (Core.summit_updSummit_view Summit.waiters (fun _ => ?_) _ _)
      rfl
    · refine (Tbl.get?_del_other _ _ _ other).trans ?_
      rw [syncs]
    · rw [Core.freeSync, syncSummit, Core.summit_updSummit_self]
      exact congrArg (· ++ [(id % 4096, s.top.now)]) (freed _)
  · refine congrArg Host.Outcome.next (runCommand_refuses takes ?_)
    simp only [syncFreeBody, Core.syncArg, needArg, need, exists_, show s.core.syncs.get? (a.arg 0 2) = none from none_, if_true]
    rfl

end

end Sys2Proof.Machine
end

/-! ### Objects set and signalled (R66 to R70) -/

section
namespace Sys2Proof.Machine

section
variable {m : Nat} {a : Cmd} {s : State} {t : Top} {c : Core} {o : SyncObj} {id : Nat}

/-- An object stored and nobody waiting for it: what an operation on it leaves (R68). -/
theorem Core.putSync_quiet {y : SyncObj} (x : Nat) (kind : y.kind ≠ .barrier) (none_ : c.waitersOf id = []) :
    (c.putSync id y x).evaluate t id = c.putSync id y x :=
  Core.evaluate_none (by rw [Core.syncs_putSync, Tbl.get?_set_self]) kind ((Core.waitersOf_putSync id).trans none_)

/-- Storing an object changes no other object, no context, no tier and nothing of the fabric. -/
theorem Core.putSync_others (id : Nat) (y : SyncObj) (x : Nat) (c : Core) :
    (∀ k, k ≠ id → (c.putSync id y x).syncs.get? k = c.syncs.get? k) ∧ (c.putSync id y x).ctxs = c.ctxs ∧
      (c.putSync id y x).tiers = c.tiers ∧ (c.putSync id y x).fabric = c.fabric :=
  ⟨fun k other => by rw [Core.syncs_putSync, Tbl.get?_set_other _ _ _ _ other], Core.ctxs_putSync, Core.tiers_putSync, Core.fabric_putSync⟩

/-! #### SYNC_SET -/

/-- The object that SYNC_SET clamps (R66, R67). -/
def SyncObj.reset (o : SyncObj) (flags thr : Nat) : SyncObj :=
  let o := if bit flags 1 then { o with threshold := thr } else o
  if bit flags 0 then { o with sat := false } else o

theorem SyncObj.reset_keeps (o : SyncObj) (flags thr : Nat) :
    (o.reset flags thr).kind = o.kind ∧ (o.reset flags thr).value = o.value ∧
      (o.reset flags thr).threshold = if bit flags 1 then thr else o.threshold := by
  unfold SyncObj.reset
  by_cases setT : bit flags 1 = true
  · by_cases setV : bit flags 0 = true
    · simp [setT, setV]
    · simp [setT, setV]
  · by_cases setV : bit flags 0 = true
    · simp [setT, setV]
    · simp [setT, setV]

theorem syncSetBody_sets (exists_ : syncExists t (a.arg 0 2) = true) (at_ : c.syncs.get? (a.arg 0 2) = some o) (kind : o.kind ≠ .barrier) :
    let y := (o.reset (a.arg 2 2) (a.arg 8 4)).clamp (if bit (a.arg 2 2) 0 then a.arg 4 4 else (o.reset (a.arg 2 2) (a.arg 8 4)).value)
    syncSetBody t c m a = ok ((c.putSync (a.arg 0 2) y.1 y.2).evaluate t (a.arg 0 2)) := by
  have plain : (o.kind == .barrier) = false := by simpa using kind
  have fits : (!(bit (a.arg 2 2) 1 && o.kind == .barrier && a.arg 8 4 == 0)) = true := by simp [plain]
  simp only [syncSetBody, Core.syncArg_there exists_ at_, needArg, need, fits, bind, Except.bind, if_true]
  rfl

theorem syncSet_sets (takes : Takes s m 0x0E03 a) (exists_ : syncExists s.top (a.arg 0 2) = true)
    (at_ : s.core.syncs.get? (a.arg 0 2) = some o) (kind : o.kind ≠ .barrier) (none_ : s.core.waitersOf (a.arg 0 2) = []) :
    let c := s.core
    let id := a.arg 0 2
    let thr := if bit (a.arg 2 2) 1 then a.arg 8 4 else o.threshold
    let top := if o.kind = .semaphore then semCeiling thr else 0xFFFFFFFF
    ∃ c' y, exec (.syncSet m) s = .next (s.answers m c') ∧ c'.syncs.get? id = some y ∧
      ((∀ k, k ≠ id → c'.syncs.get? k = c.syncs.get? k) ∧ c'.ctxs = c.ctxs ∧ c'.tiers = c.tiers ∧ c'.fabric = c.fabric) ∧
      y.kind = o.kind ∧ y.threshold = thr ∧ y.value = min top (if bit (a.arg 2 2) 0 then a.arg 4 4 else o.value) := by
  intro c id thr top
  obtain ⟨sameKind, sameValue, threshold⟩ := o.reset_keeps (a.arg 2 2) (a.arg 8 4)
  obtain ⟨value, newKind, newThreshold⟩ := SyncObj.clamp_value (o := o.reset (a.arg 2 2) (a.arg 8 4)) (if bit (a.arg 2 2) 0 then a.arg 4 4 else o.value)
  have limit : (o.reset (a.arg 2 2) (a.arg 8 4)).limit = top := by rw [SyncObj.limit, sameKind, threshold]
  have body := syncSetBody_sets (m := m) (t := s.top) exists_ at_ kind
  dsimp only at body
  rw [sameValue, Core.putSync_quiet _ (by rw [newKind, sameKind]; exact kind) none_] at body
  exact ⟨_, _, congrArg Host.Outcome.next (runCommand_answers takes body), by rw [Core.syncs_putSync, Tbl.get?_set_self], Core.putSync_others _ _ _ _,
    newKind.trans sameKind, newThreshold.trans threshold, limit ▸ value⟩

/-! #### SYNC_SIGNAL -/

theorem syncSignalBody_counts {y : SyncObj} {x : Nat} (exists_ : syncExists t (a.arg 0 2) = true) (at_ : c.syncs.get? (a.arg 0 2) = some o)
    (runs : c.quiesced = false) (op : a.arg 2 1 = 1 ∨ (a.arg 2 1 = 2 ∧ o.kind = .event))
    (new : (if a.arg 2 1 = 2 then ({ o with value := o.value &&& (0xFFFFFFFF - a.arg 4 4) }, 0) else o.signal (a.arg 4 4)) = (y, x)) :
    let c' := (c.putSync (a.arg 0 2) y x).evaluate t (a.arg 0 2)
    syncSignalBody t c m a = ok c' (le 4 (((c'.syncs.get? (a.arg 0 2)).map SyncObj.value).getD 0)) := by
  have opFits : (a.arg 2 1 == 1 || (a.arg 2 1 == 2 && o.kind == .event)) = true := by simpa using op
  simp only [syncSignalBody, needArg, need, exists_, at_, opFits, runs, new, bind, Except.bind, if_true, Bool.false_eq_true, if_false]

/-- A signal to an object that nobody waits for, and that is no barrier, leaves it with its new value (R68). -/
theorem syncSignal_quiet {y : SyncObj} {x : Nat} (takes : Takes s m 0x0E04 a) (exists_ : syncExists s.top (a.arg 0 2) = true)
    (at_ : s.core.syncs.get? (a.arg 0 2) = some o) (runs : s.core.quiesced = false) (none_ : s.core.waitersOf (a.arg 0 2) = [])
    (op : a.arg 2 1 = 1 ∨ (a.arg 2 1 = 2 ∧ o.kind = .event))
    (new : (if a.arg 2 1 = 2 then ({ o with value := o.value &&& (0xFFFFFFFF - a.arg 4 4) }, 0) else o.signal (a.arg 4 4)) = (y, x))
    (kind : y.kind ≠ .barrier) :
    ∃ c', exec (.syncSignal m) s = .next (s.answers m c' (le 4 y.value)) ∧ c'.syncs.get? (a.arg 0 2) = some y ∧
      (∀ k, k ≠ a.arg 0 2 → c'.syncs.get? k = s.core.syncs.get? k) ∧ c'.ctxs = s.core.ctxs ∧ c'.tiers = s.core.tiers ∧ c'.fabric = s.core.fabric := by
  have body := syncSignalBody_counts (m := m) (t := s.top) exists_ at_ runs op new
  have put : (s.core.putSync (a.arg 0 2) y x).syncs.get? (a.arg 0 2) = some y := by rw [Core.syncs_putSync, Tbl.get?_set_self]
  rw [Core.putSync_quiet x kind none_] at body
  dsimp only at body
  rw [put] at body
  exact ⟨_, congrArg Host.Outcome.next (runCommand_answers takes body), put, Core.putSync_others _ _ _ _⟩

/-- A signal that fills a barrier starts it over (R68). -/
theorem syncSignal_barrier (takes : Takes s m 0x0E04 a) (exists_ : syncExists s.top (a.arg 0 2) = true)
    (at_ : s.core.syncs.get? (a.arg 0 2) = some o) (runs : s.core.quiesced = false) (none_ : s.core.waitersOf (a.arg 0 2) = [])
    (op : a.arg 2 1 = 1) (kind : o.kind = .barrier) (some_ : 0 < o.threshold) (reached : o.threshold ≤ o.value + a.arg 4 4)
    (fits : o.value + a.arg 4 4 ≤ 0xFFFFFFFF) :
    let y := { o with value := (o.value + a.arg 4 4) % o.threshold, completions := o.completions.up ((o.value + a.arg 4 4) / o.threshold) }
    ∃ c', exec (.syncSignal m) s = .next (s.answers m c' (le 4 y.value)) ∧ c'.syncs.get? (a.arg 0 2) = some y ∧
      (∀ k, k ≠ a.arg 0 2 → c'.syncs.get? k = s.core.syncs.get? k) ∧ c'.ctxs = s.core.ctxs ∧ c'.tiers = s.core.tiers ∧ c'.fabric = s.core.fabric := by
  intro y
  have limit : o.limit = 0xFFFFFFFF := if_neg (by simp [kind])
  have new : o.signal (a.arg 4 4) = ({ o with value := o.value + a.arg 4 4 }, 0) := by
    rw [SyncObj.signal_clamp (by simp [kind]), SyncObj.clamp_fits (limit ▸ fits)]
  have body := syncSignalBody_counts (m := m) (t := s.top) exists_ at_ runs (.inl op) ((if_neg (by rw [op]; decide)).trans new)
  have put : (s.core.putSync (a.arg 0 2) { o with value := o.value + a.arg 4 4 } 0).syncs.get? (a.arg 0 2) =
      some { o with value := o.value + a.arg 4 4 } := by rw [Core.syncs_putSync, Tbl.get?_set_self]
  rw [Core.evaluate_barrier put kind some_ reached ((Core.waitersOf_putSync _).trans none_)] at body
  simp only [Tbl.get?_set_self] at body
  refine ⟨_, congrArg Host.Outcome.next (runCommand_answers takes body), Tbl.get?_set_self _ _ _, fun k other => ?_, Core.ctxs_putSync, Core.tiers_putSync,
    Core.fabric_putSync⟩
  rw [Tbl.get?_set_other _ _ _ _ other, Core.syncs_putSync, Tbl.get?_set_other _ _ _ _ other]

theorem syncSignal_signals (takes : Takes s m 0x0E04 a) (exists_ : syncExists s.top (a.arg 0 2) = true)
    (at_ : s.core.syncs.get? (a.arg 0 2) = some o) (runs : s.core.quiesced = false) (none_ : s.core.waitersOf (a.arg 0 2) = []) :
    let c := s.core
    let id := a.arg 0 2
    let v := a.arg 4 4
    let done := fun (y : SyncObj) => ∃ c', exec (.syncSignal m) s = .next (s.answers m c' (le 4 y.value)) ∧ c'.syncs.get? id = some y ∧
      (∀ k, k ≠ id → c'.syncs.get? k = c.syncs.get? k) ∧ c'.ctxs = c.ctxs ∧ c'.tiers = c.tiers ∧ c'.fabric = c.fabric
    (a.arg 2 1 = 1 → o.kind = .counter ∨ o.kind = .semaphore → o.value + v ≤ o.limit → done { o with value := o.value + v }) ∧
    (a.arg 2 1 = 1 → o.kind = .counter ∨ o.kind = .semaphore → o.limit < o.value + v → done { o with value := o.limit, sat := true }) ∧
    (a.arg 2 1 = 1 → o.kind = .event → done { o with value := o.value ||| v }) ∧
    (a.arg 2 1 = 2 → o.kind = .event → done { o with value := o.value &&& (0xFFFFFFFF - v) }) ∧
    (a.arg 2 1 = 1 → o.kind = .barrier → 0 < o.threshold → o.threshold ≤ o.value + v → o.value + v ≤ 0xFFFFFFFF →
      done { o with value := (o.value + v) % o.threshold, completions := o.completions.up ((o.value + v) / o.threshold) }) := by
  intro c id v done
  have adds : a.arg 2 1 = 1 → o.kind ≠ .event → o.kind ≠ .barrier → done (o.clamp (o.value + v)).1 := fun op event barrier => by
    obtain ⟨-, kind, -⟩ := SyncObj.clamp_value (o := o) (o.value + v)
    exact syncSignal_quiet takes exists_ at_ runs none_ (.inl op) ((if_neg (by rw [op]; decide)).trans (SyncObj.signal_clamp event))
      (by rw [kind]; exact barrier)
  have plain : o.kind = .counter ∨ o.kind = .semaphore → o.kind ≠ .event ∧ o.kind ≠ .barrier := by
    rintro (kind | kind)
    · simp [kind]
    · simp [kind]
  refine ⟨fun op kind fits => ?_, fun op kind above => ?_, fun op event => ?_, fun op event => ?_, ?_⟩
  · have added := adds op (plain kind).1 (plain kind).2
    rwa [SyncObj.clamp_fits fits] at added
  · have added := adds op (plain kind).1 (plain kind).2
    rwa [SyncObj.clamp_over above] at added
  · have new : o.signal v = ({ o with value := o.value ||| v }, 0) := by simp only [SyncObj.signal, event]
    exact syncSignal_quiet takes exists_ at_ runs none_ (.inl op) ((if_neg (by rw [op]; decide)).trans new) (by simp [event])
  · exact syncSignal_quiet takes exists_ at_ runs none_ (.inr ⟨op, event⟩) (if_pos op) (by simp [event])
  · exact syncSignal_barrier takes exists_ at_ runs none_

/-- A FREE object's signal is counted as stale (R69). -/
theorem syncSignal_free (takes : Takes s m 0x0E04 a) (exists_ : syncExists s.top (a.arg 0 2) = true) (none_ : s.core.syncs.get? (a.arg 0 2) = none) :
    exec (.syncSignal m) s =
      .next { s with core := ((s.core.staleSync (a.arg 0 2)).start m).stage m .stateReject (stateDetail .sync 0) [] } := by
  refine congrArg Host.Outcome.next (runCommand_completes takes ?_)
  simp only [syncSignalBody, needArg, need, exists_, none_, bind, Except.bind, if_true]

/-- In a quiesced job a signal is counted as stale too, and changes no object (R69). -/
theorem syncSignal_quiesced (takes : Takes s m 0x0E04 a) (exists_ : syncExists s.top (a.arg 0 2) = true)
    (at_ : s.core.syncs.get? (a.arg 0 2) = some o) (quiet : s.core.quiesced = true) (op : a.arg 2 1 = 1) :
    ∃ t, exec (.syncSignal m) s = .next t ∧ t.top = s.top ∧ t.core.syncs = s.core.syncs ∧ (t.core.mbox m).result = some ⟨.jobFaulted, 0, []⟩ := by
  have body : syncSignalBody s.top s.core m a = answer (s.core.staleSync (a.arg 0 2)) .jobFaulted := by
    simp only [syncSignalBody, needArg, need, exists_, at_, quiet, op, bind, Except.bind, if_true, beq_self_eq_true, Bool.true_or]
  have kept : s.core.syncs = (s.core.staleSync (a.arg 0 2)).syncs ∧ (s.core.staleSync (a.arg 0 2)).mbox m = s.core.mbox m := by
    unfold Core.staleSync
    split
    · have counted := s.core.sameWork_bump (.summit (syncSummit (a.arg 0 2)) 1) 1
      exact ⟨counted.syncs.symm, by simp only [Core.mbox, counted.mboxes]⟩
    · exact ⟨rfl, rfl⟩
  obtain ⟨syncs, mbox⟩ := kept
  generalize s.core.staleSync (a.arg 0 2) = b at body syncs mbox
  refine ⟨_, congrArg Host.Outcome.next (runCommand_completes takes body), rfl, syncs.symm, ?_⟩
  refine Core.result_stage_self ?_ ?_
  · rw [Core.mbox_start, mbox]
    exact congrArg Option.isSome takes.taken
  · rw [Core.mbox_start, mbox]
    exact takes.unanswered

end

end Sys2Proof.Machine
end

/-! ### Waiters that join, are released, cancelled and time out (R70, R71) -/

section
namespace Sys2Proof.Machine

section
variable {m : Nat} {a : Cmd} {s : State} {t : Top} {c : Core} {o : SyncObj} {id : Nat} {w : Waiter}

theorem Core.mbox_putSync (x k : Nat) : (c.putSync id o x).mbox k = c.mbox k := by simp only [Core.mbox, Core.host_putSync]

/-- An object whose only waiter leaves has none (R70). -/
theorem Core.waitersOf_removeWaiter (only : c.waitersOf id = [w]) : (c.removeWaiter w).waitersOf id = [] := by
  have mine : w.obj = id := by simpa using (List.mem_filter.1 (only ▸ List.mem_singleton_self w : w ∈ c.waitersOf id)).2
  refine List.eq_nil_iff_forall_not_mem.2 fun v here => ?_
  obtain ⟨listed, own⟩ := List.mem_filter.1 here
  obtain ⟨was, other⟩ := (Core.mem_removeWaiter (by rw [mine])).1 listed
  have same : v ∈ c.waitersOf id := List.mem_filter.2 ⟨was, own⟩
  rw [only, List.mem_singleton] at same
  exact other (same ▸ rfl)

/-- The only waiter of an object, released: its mailbox has the value, and its object stands as it is (R70). -/
theorem Core.fireAll_only {k value : Nat} (only : c.waitersOf id = [w]) (kind : w.kind = .mailbox k) (taken : (c.mbox k).taken.isSome = true)
    (open_ : (c.mbox k).result = none) :
    ((c.fireAll t value [w]).mbox k).result = some ⟨.ok, 0, le 4 value⟩ ∧ (c.fireAll t value [w]).waitersOf id = [] ∧
      (c.fireAll t value [w]).syncs = c.syncs := by
  obtain ⟨result, summits, syncs⟩ := Core.staged_release (t := t) (c := c.removeWaiter w) kind taken open_ value
  exact ⟨result, (Core.waitersOf_of_summits summits id).trans (Core.waitersOf_removeWaiter only), syncs⟩

/-- A signal that takes a counter to its threshold releases its waiter at the new value (R68, R70). -/
theorem syncSignal_releases {k : Nat} (takes : Takes s m 0x0E04 a) (exists_ : syncExists s.top (a.arg 0 2) = true)
    (at_ : s.core.syncs.get? (a.arg 0 2) = some o) (runs : s.core.quiesced = false) (only : s.core.waitersOf (a.arg 0 2) = [w]) (op : a.arg 2 1 = 1)
    (kind : w.kind = .mailbox k) (taken : (s.core.mbox k).taken.isSome = true) (open_ : (s.core.mbox k).result = none) (counter : o.kind = .counter)
    (fits : o.value + a.arg 4 4 ≤ 0xFFFFFFFF) (reached : o.threshold ≤ o.value + a.arg 4 4) :
    ∃ c', exec (.syncSignal m) s = .next (s.answers m c' (le 4 (o.value + a.arg 4 4))) ∧
      (c'.mbox k).result = some ⟨.ok, 0, le 4 (o.value + a.arg 4 4)⟩ ∧ c'.waitersOf (a.arg 0 2) = [] := by
  have limit : o.limit = 0xFFFFFFFF := if_neg (by simp [counter])
  have new : o.signal (a.arg 4 4) = ({ o with value := o.value + a.arg 4 4 }, 0) := by
    rw [SyncObj.signal_clamp (by simp [counter]), SyncObj.clamp_fits (limit ▸ fits)]
  have body := syncSignalBody_counts (m := m) (t := s.top) exists_ at_ runs (.inl op) ((if_neg (by rw [op]; decide)).trans new)
  have put : (s.core.putSync (a.arg 0 2) { o with value := o.value + a.arg 4 4 } 0).syncs.get? (a.arg 0 2) =
      some { o with value := o.value + a.arg 4 4 } := by rw [Core.syncs_putSync, Tbl.get?_set_self]
  have waits := (Core.waitersOf_putSync (o := { o with value := o.value + a.arg 4 4 }) (x := 0) (id := a.arg 0 2) (a.arg 0 2)).trans only
  obtain ⟨result, left, syncs⟩ := Core.fireAll_only (t := s.top) (value := o.value + a.arg 4 4) waits kind
    (by rw [Core.mbox_putSync]; exact taken) (by rw [Core.mbox_putSync]; exact open_)
  rw [Core.evaluate_reached put counter reached, waits] at body
  dsimp only at body
  rw [syncs, put] at body
  exact ⟨_, congrArg Host.Outcome.next (runCommand_answers takes body), result, left⟩

/-! #### SYNC_WAIT -/

/-- The waiter that SYNC_WAIT puts on its object's list, for its mailbox or for an interrupt (R70, R71). -/
def Cmd.waiter (a : Cmd) (t : Top) (m num : Nat) : Waiter :=
  { num := num, obj := a.arg 0 2, kind := if a.arg 2 1 = 1 then .mailbox m else .msix (a.arg 4 4) (bit (a.arg 3 1) 0),
    deadline := if a.arg 2 1 = 1 && a.arg 4 4 != 0 then some (t.now + 1000 * a.arg 4 4) else none,
    ctx := if a.handle = 0 then none else some (hIndex a.handle) }

/-- The waiter put on the list. -/
def Core.listed (c : Core) (t : Top) (m num : Nat) (a : Cmd) : Core :=
  c.updSummit (syncSummit (a.arg 0 2)) (fun s => { s with waiters := s.waiters ++ [a.waiter t m num] })

/-- A waiter that has joined, and its object evaluated (R68, R70). -/
def Core.joined (c : Core) (t : Top) (m num : Nat) (a : Cmd) : Core := (c.listed t m num a).evaluate t (a.arg 0 2)

theorem syncWaitBody_joins {num : Nat} {b c' : Core} (exists_ : syncExists t (a.arg 0 2) = true) (at_ : c.syncs.get? (a.arg 0 2) = some o)
    (runs : c.quiesced = false) (kind : (a.arg 2 1 = 1 ∧ a.arg 4 4 ≤ 10000000) ∨ (a.arg 2 1 = 2 ∧ a.arg 4 4 ≤ 2047))
    (number : c.pickFree (sortBy (fun x y => x < y) ((c.summit (syncSummit (a.arg 0 2))).waiters.map Waiter.num)) 16384 = some (num, b))
    (ref : (if a.handle = 0 then .ok b else b.takeRef (hIndex a.handle) .wait) = (.ok c' : Chk Core)) :
    syncWaitBody t c m a = if a.arg 2 1 = 1 then waits (c'.joined t m num a) else ok (c'.joined t m num a) (le 2 num) := by
  have known : (decide (1 ≤ a.arg 2 1) && decide (a.arg 2 1 ≤ 3)) = true := by simp; omega
  have near : (!(a.arg 2 1 == 3 && addrNode (a.arg 8 8) == 0x3FFF)) = true := by simp; omega
  have local_ : ¬ a.arg 2 1 = 3 := by omega
  have argFits : (!(a.arg 2 1 == 1 && decide (a.arg 4 4 > 10000000)) && !(a.arg 2 1 == 2 && decide (a.arg 4 4 > 2047))) = true := by simp; omega
  have released : (if a.arg 2 1 = 1 then .mailbox m else if a.arg 2 1 = 2 then .msix (a.arg 4 4) (bit (a.arg 3 1) 0) else .remote (a.arg 8 8) (a.arg 16 4) 0) =
      (if a.arg 2 1 = 1 then .mailbox m else .msix (a.arg 4 4) (bit (a.arg 3 1) 0) : WaitKind) := by
    rcases kind with ⟨one, -⟩ | ⟨two, -⟩
    · rw [if_pos one, if_pos one]
    · rw [if_pos two]
  simp only [syncWaitBody, Core.syncArg_there exists_ at_, needArg, need, known, argFits, near, local_, runs, number, ref, Bool.not_false, bind, Except.bind,
    if_true, if_false, released]
  rfl

/-- With room on its Summit die's list, a waiter of a running job gets a number that no other there bears (R70). -/
theorem Core.waiterNumber (room : (c.summit (id / 4096)).waiters.length < 16384) :
    ∃ num, c.pickFree (sortBy (fun x y => x < y) ((c.summit (syncSummit id)).waiters.map Waiter.num)) 16384 = some (num, c.pick.2) ∧
      ∀ x ∈ (c.summit (id / 4096)).waiters, x.num ≠ num := by
  obtain ⟨num, picked, free⟩ := c.pickFree_sortBy ((c.summit (syncSummit id)).waiters.map Waiter.num) 16384 (by rw [List.length_map]; exact room)
  exact ⟨num, picked, fun x here same => free (same ▸ List.mem_map_of_mem here)⟩

theorem Core.summit_listed (m num : Nat) : ((c.listed t m num a).summit (a.arg 0 2 / 4096)).waiters =
    (c.summit (a.arg 0 2 / 4096)).waiters ++ [a.waiter t m num] := by
  rw [Core.listed, syncSummit, Core.summit_updSummit_self]

theorem Core.waitersOf_listed (m num : Nat) (none_ : c.waitersOf (a.arg 0 2) = []) :
    (c.listed t m num a).waitersOf (a.arg 0 2) = [a.waiter t m num] := by
  rw [Core.waitersOf, Core.listed, Core.summit_updSummit_self, List.filter_append, show (c.summit _).waiters.filter _ = [] from none_]
  simp [Cmd.waiter]

/-- A waiter that joins an object below its threshold stays on its list (R70). -/
theorem Core.joined_below {num : Nat} (at_ : c.syncs.get? (a.arg 0 2) = some o) (counter : o.kind = .counter) (below : o.value < o.threshold) :
    c.joined t m num a = c.listed t m num a := Core.evaluate_below at_ counter below

/-- One that joins an object that has reached its threshold is released (R70). -/
theorem Core.joined_reached {num : Nat} (at_ : c.syncs.get? (a.arg 0 2) = some o) (counter : o.kind = .counter) (reached : o.threshold ≤ o.value)
    (none_ : c.waitersOf (a.arg 0 2) = []) : c.joined t m num a = (c.listed t m num a).fireAll t o.value [a.waiter t m num] := by
  rw [Core.joined, Core.evaluate_reached (c := c.listed t m num a) at_ counter reached, Core.waitersOf_listed m num none_]

theorem syncWait_waits (takes : Takes s m 0x0E05 a) (exists_ : syncExists s.top (a.arg 0 2) = true) (at_ : s.core.syncs.get? (a.arg 0 2) = some o)
    (counter : o.kind = .counter) (runs : s.core.quiesced = false) (alone : a.handle = 0)
    (room : (s.core.summit (a.arg 0 2 / 4096)).waiters.length < 16384) :
    let c := s.core
    let id := a.arg 0 2
    let v := a.arg 4 4
    (a.arg 2 1 = 1 → v ≤ 10000000 → o.value < o.threshold → ∃ c' w, exec (.syncWait m) s = .next (s.holds m c') ∧
      (c'.summit (id / 4096)).waiters = (c.summit (id / 4096)).waiters ++ [w] ∧ w.obj = id ∧ w.kind = .mailbox m ∧ w.ctx = none ∧
      w.deadline = (if v = 0 then none else some (s.top.now + 1000 * v)) ∧ (∀ x ∈ (c.summit (id / 4096)).waiters, x.num ≠ w.num) ∧
      c'.syncs = c.syncs ∧ c'.ctxs = c.ctxs) ∧
    (a.arg 2 1 = 1 → v ≤ 10000000 → o.threshold ≤ o.value → c.waitersOf id = [] → ∃ c', exec (.syncWait m) s = .next (s.holds m c') ∧
      (c'.mbox m).result = some ⟨.ok, 0, le 4 o.value⟩ ∧ c'.waitersOf id = [] ∧ c'.syncs = c.syncs) ∧
    (a.arg 2 1 = 2 → v ≤ 2047 → o.value < o.threshold → ∃ c' w, exec (.syncWait m) s = .next (s.answers m c' (le 2 w.num)) ∧
      (c'.summit (id / 4096)).waiters = (c.summit (id / 4096)).waiters ++ [w] ∧ w.obj = id ∧ w.kind = .msix v (bit (a.arg 3 1) 0)) := by
  intro c id v
  obtain ⟨num, number, fresh⟩ := Core.waiterNumber (c := c) (id := id) room
  have ref : (if a.handle = 0 then .ok c.pick.2 else c.pick.2.takeRef (hIndex a.handle) .wait) = (.ok c.pick.2 : Chk Core) := if_pos alone
  have body := fun kind => syncWaitBody_joins (m := m) (t := s.top) exists_ at_ runs kind number ref
  have there : c.pick.2.syncs.get? (a.arg 0 2) = some o := at_
  refine ⟨fun one fits below => ?_, fun one fits reached none_ => ?_, fun two fits below => ?_⟩
  · have waits := (body (.inl ⟨one, fits⟩)).trans (if_pos one)
    rw [Core.joined_below there counter below] at waits
    refine ⟨_, a.waiter s.top m num, congrArg Host.Outcome.next (runCommand_holds takes waits), Core.summit_listed m num, rfl, if_pos one, if_pos alone, ?_, fresh,
      rfl, rfl⟩
    by_cases zero : v = 0
    · rw [if_pos zero]
      exact if_neg (by simp [show a.arg 4 4 = 0 from zero])
    · rw [if_neg zero]
      exact if_pos (by simpa [one] using zero)
  · have waits := (body (.inl ⟨one, fits⟩)).trans (if_pos one)
    rw [Core.joined_reached there counter reached none_] at waits
    have only := Core.waitersOf_listed (t := s.top) (c := c.pick.2) m num none_
    exact ⟨_, congrArg Host.Outcome.next (runCommand_holds takes waits),
      Core.fireAll_only only (if_pos one) ((congrArg Option.isSome takes.taken :)) takes.unanswered⟩
  · have answers := (body (.inr ⟨two, fits⟩)).trans (if_neg (by rw [two]; decide))
    rw [Core.joined_below there counter below] at answers
    exact ⟨_, a.waiter s.top m num, congrArg Host.Outcome.next (runCommand_answers takes answers), Core.summit_listed m num, rfl,
      if_neg (by rw [two]; decide)⟩

/-- A wait for a context takes a reference of it (R54, R70). -/
theorem syncWait_references (takes : Takes s m 0x0E05 a) (exists_ : syncExists s.top (a.arg 0 2) = true)
    (at_ : s.core.syncs.get? (a.arg 0 2) = some o) (counter : o.kind = .counter) (below : o.value < o.threshold) (runs : s.core.quiesced = false)
    (named : a.handle ≠ 0) (live : (s.core.ctx (hIndex a.handle)).state ≠ .draining) (left : (s.core.ctx (hIndex a.handle)).waits < 16777215)
    (one : a.arg 2 1 = 1) (fits : a.arg 4 4 ≤ 10000000) (room : (s.core.summit (a.arg 0 2 / 4096)).waiters.length < 16384) :
    ∃ c', exec (.syncWait m) s = .next (s.holds m c') ∧ (c'.ctx (hIndex a.handle)).waits = (s.core.ctx (hIndex a.handle)).waits + 1 := by
  obtain ⟨num, number, -⟩ := Core.waiterNumber (c := s.core) (id := a.arg 0 2) room
  have same : s.core.pick.2.ctx (hIndex a.handle) = s.core.ctx (hIndex a.handle) := rfl
  have open_ : ((s.core.pick.2.ctx (hIndex a.handle)).state != .draining) = true := by simpa [same] using live
  have held : s.core.pick.2.hasRef (hIndex a.handle) .wait = true := by simpa [Core.hasRef, Ctx.refs, same] using left
  have taken : s.core.pick.2.takeRef (hIndex a.handle) .wait = .ok (s.core.pick.2.updCtx (hIndex a.handle) (Ctx.onRefs .wait (· + 1))) := by
    simp only [Core.takeRef, need, open_, held, if_true]
    rfl
  have waits := (syncWaitBody_joins (m := m) (t := s.top) exists_ at_ runs (.inl ⟨one, fits⟩) number ((if_neg named).trans taken)).trans (if_pos one)
  have there : (s.core.pick.2.updCtx (hIndex a.handle) (Ctx.onRefs .wait (· + 1))).syncs.get? (a.arg 0 2) = some o := at_
  rw [Core.joined_below there counter below] at waits
  refine ⟨_, congrArg Host.Outcome.next (runCommand_holds takes waits), ?_⟩
  exact congrArg Ctx.waits (Core.ctx_updCtx_self (hIndex a.handle) (Ctx.onRefs .wait (· + 1)) s.core.pick.2)

/-! #### SYNC_QUERY, SYNC_CANCEL and SYNC_WAIT_TIMEOUT -/

theorem syncQuery_answers (takes : Takes s m 0x0E06 a) (exists_ : syncExists s.top (a.arg 0 2) = true) :
    (s.core.syncs.get? (a.arg 0 2) = none → exec (.syncQuery m) s = .next (s.answers m s.core (zeros 16))) ∧
    (∀ o, s.core.syncs.get? (a.arg 0 2) = some o → exec (.syncQuery m) s = .next (s.answers m s.core (le 1 1 ++ le 1 o.kind.code ++
      le 1 (b2n o.sat) ++ zeros 1 ++ le 4 o.value ++ le 4 o.threshold ++ le 4 (o.completions.toNat % 2 ^ 32)))) := by
  refine ⟨fun none_ => ?_, fun o at_ => ?_⟩
  · refine congrArg Host.Outcome.next (runCommand_answers takes ?_)
    simp only [syncQueryBody, needArg, need, exists_, none_, bind, Except.bind, if_true]
  · refine congrArg Host.Outcome.next (runCommand_answers takes ?_)
    simp only [syncQueryBody, needArg, need, exists_, at_, bind, Except.bind, if_true]

/-- A waiter that leaves without its object (R71): its mailbox has the answer, nobody on the list bears its number, and objects stand. -/
theorem Core.dismissed {k q : Nat} (mine : syncSummit w.obj = q) (kind : w.kind = .mailbox k) (taken : (c.mbox k).taken.isSome = true)
    (open_ : (c.mbox k).result = none) (st : Status) :
    ((((c.removeWaiter w).cancelWaiter w st 0).mbox k).result = some ⟨st, 0, []⟩) ∧
      (∀ x ∈ (((c.removeWaiter w).cancelWaiter w st 0).summit q).waiters, x.num ≠ w.num) ∧
      ((c.removeWaiter w).cancelWaiter w st 0).syncs = c.syncs := by
  obtain ⟨summits, syncs, -⟩ := Core.cancelWaiter_keeps w st 0 (c.removeWaiter w)
  refine ⟨Core.staged_cancel (c := c.removeWaiter w) kind taken open_ st 0, fun x here => ?_, syncs⟩
  rw [Core.summit_of_summits summits] at here
  exact ((Core.mem_removeWaiter mine).1 here).2

theorem syncCancel_cancels (takes : Takes s m 0x0E07 a) (exists_ : syncExists s.top (a.arg 0 2) = true) :
    let c := s.core
    let id := a.arg 0 2
    let n := a.arg 2 2
    ((∀ w ∈ c.waitersOf id, w.num ≠ n) → exec (.syncCancel m) s = .next (s.answers m c)) ∧
    (∀ w k, (c.waitersOf id).find? (fun w => w.num == n) = some w → w.kind = .mailbox k → (c.mbox k).taken.isSome = true →
      (c.mbox k).result = none → k ≠ m → ∃ c', exec (.syncCancel m) s = .next (s.answers m c') ∧
        (c'.mbox k).result = some ⟨.staleHandle, 0, []⟩ ∧ (∀ x ∈ (c'.summit (id / 4096)).waiters, x.num ≠ n) ∧ c'.syncs = c.syncs) := by
  intro c id n
  refine ⟨fun none_ => ?_, fun w k found kind taken open_ _ => ?_⟩
  · have missing : (s.core.waitersOf (a.arg 0 2)).find? (fun w => w.num == a.arg 2 2) = none :=
      List.find?_eq_none.2 fun w here => by simpa using none_ w here
    refine congrArg Host.Outcome.next (runCommand_answers takes ?_)
    simp only [syncCancelBody, needArg, need, exists_, missing, bind, Except.bind, if_true]
    rfl
  · have found : (s.core.waitersOf (a.arg 0 2)).find? (fun w => w.num == a.arg 2 2) = some w := found
    have body : syncCancelBody s.top s.core m a = ok ((s.core.removeWaiter w).cancelWaiter w .staleHandle 0) := by
      simp only [syncCancelBody, needArg, need, exists_, found, bind, Except.bind, if_true]
    have number : w.num = n := by simpa using List.find?_some found
    have mine : w.obj = id := by simpa using (List.mem_filter.1 (List.mem_of_find?_eq_some found)).2
    have left := Core.dismissed (c := c) (q := id / 4096) (by rw [mine, syncSummit]) kind taken open_ .staleHandle
    rw [number] at left
    exact ⟨_, congrArg Host.Outcome.next (runCommand_answers takes body), left⟩

theorem syncWaitTimeout_times {q num k d : Nat} (live : s.top.live = true) (found : (s.core.summit q).waiters.find? (fun w => w.num == num) = some w)
    (mine : w.obj / 4096 = q) (deadline : w.deadline = some d) (kind : w.kind = .mailbox k) (taken : (s.core.mbox k).taken.isSome = true)
    (open_ : (s.core.mbox k).result = none) :
    (d ≤ s.top.now → ∃ t, exec (.syncWaitTimeout q num) s = .next t ∧ t.top = s.top ∧ (t.core.mbox k).result = some ⟨.timeout, 0, []⟩ ∧
      (∀ x ∈ (t.core.summit q).waiters, x.num ≠ num) ∧ t.core.syncs = s.core.syncs) ∧
    (s.top.now < d → exec (.syncWaitTimeout q num) s = .next s) := by
  refine ⟨fun due => ⟨_, State.next_onCore live _, rfl, ?_⟩, fun early => State.next_onCore_id live _ ?_⟩
  · simp only [Core.syncTimeout, found, deadline, due, if_true]
    have number : w.num = num := by simpa using List.find?_some found
    have left := Core.dismissed (c := s.core) (q := q) mine kind taken open_ .timeout
    rwa [number] at left
  · simp only [Core.syncTimeout, found, deadline, Nat.not_le.2 early, if_false]

end

end Sys2Proof.Machine
end

/-! ### The signal window (R72 to R74) -/

section
namespace Sys2Proof.Machine

section
variable {t : Top} {cid i off : Nat} {q : Msg} {r : Region} {o : SyncObj} {c : Core} {s : State}

/-- A request that reaches a signal region is served by it (R72, R310). -/
theorem Core.memRequest_signal (node : addrNode (q.arg 0 8) = q.dst) (target : c.memTarget (addrLocal (q.arg 0 8)) (q.arg 8 4) false = some (.region i r))
    (backing : r.backing = .signal) (pd : r.pd = (c.conn cid).pd) (right_ : bit r.rights (memRight q.type) = true) (plain : q.takesLine = false)
    (type : (q.type = 0x50 ∧ q.arg 8 4 = 8) ∨ (q.type = 0x52 ∧ q.arg 8 4 = 4)) (aligned : addrLocal (q.arg 0 8) % 4 = 0)
    (inside : addrLocal (q.arg 0 8) + q.arg 8 4 ≤ 2 ^ 50) :
    c.memRequest t cid q none = (none, c.serveSignal t cid q (addrLocal (q.arg 0 8)) (q.arg 8 4)) := by
  have noWriteback : q.isWriteback = false := by
    rcases type with ⟨type, -⟩ | ⟨type, -⟩
    · simp [Msg.isWriteback, type]
    · simp [Msg.isWriteback, type]
  have size : q.arg 8 4 ≤ 8 ∧ q.arg 8 4 ≠ 0 := by omega
  have checks : ¬(q.type = 0x52 && q.arg 8 4 ≠ 4 && q.arg 8 4 ≠ 8) = true ∧ ¬(q.arg 8 4 = 0 || 65536 < q.arg 8 4) = true ∧
      ¬(q.type = 0x52 && addrLocal (q.arg 0 8) % q.arg 8 4 ≠ 0) = true ∧ ¬(q.type = 0x51 && (q.body.drop 40).length < q.arg 8 4) = true := by
    rcases type with ⟨type, n⟩ | ⟨type, n⟩
    · simp [type, n]
    · simp [type, n, aligned]
  have allowed : ¬((MemTarget.region i r).pd ≠ (c.conn cid).pd || !bit (MemTarget.region i r).rights (memRight q.type)) = true := by
    simp [MemTarget.pd, MemTarget.rights, pd, right_]
  obtain ⟨width, length, multiple, data⟩ := checks
  simp only [Core.memRequest, node, ne_eq, not_true, if_false]
  rw [if_neg width, if_neg length, if_neg multiple, if_neg data, if_neg (Nat.not_lt.2 inside)]
  simp only [Option.isSome_none, target]
  rw [if_neg allowed, if_neg (by simp [plain, noWriteback]), if_pos backing]

/-- An answer to a message does not see what lies behind the fabric, nor changes it. -/
theorem Core.answerMsg_withInner {k : Core} (t : Top) (cid : Nat) (q : Msg) (type : Nat) (body : List Byte) (c : Core) :
    (c.withInner k).answerMsg t cid q type body = (c.answerMsg t cid q type body).withInner k := Core.sendMsg_withInner _ _ _ _ _ _ _ _

/-- A request that reaches a signal region, once it has left the inbox. -/
theorem memArrives_signal (node : addrNode (q.arg 0 8) = q.dst)
    (target : s.core.memTarget (addrLocal (q.arg 0 8)) (q.arg 8 4) false = some (.region i r)) (backing : r.backing = .signal)
    (pd : r.pd = (s.core.conn cid).pd) (right_ : bit r.rights (memRight q.type) = true) (plain : q.takesLine = false)
    (type : (q.type = 0x50 ∧ q.arg 8 4 = 8) ∨ (q.type = 0x52 ∧ q.arg 8 4 = 4)) (aligned : addrLocal (q.arg 0 8) % 4 = 0)
    (inside : addrLocal (q.arg 0 8) + q.arg 8 4 ≤ 2 ^ 50) :
    (s.core.takeMsg cid q).memArrives s.top cid q = (s.core.takeMsg cid q).serveSignal s.top cid q (addrLocal (q.arg 0 8)) (q.arg 8 4) := by
  have taken : r.pd = ((s.core.takeMsg cid q).conn cid).pd := by
    rw [Core.takeMsg, Core.oweUnits, Core.conn_updConn_self, Core.conn_updConn_self, pd]
    cases q.rsp
    · rfl
    · rfl
  rw [Core.memArrives, Core.memRequest_signal (c := s.core.takeMsg cid q) node target backing taken right_ plain type aligned inside]

/-- A read of a signal object's window gives its value and threshold (R73). -/
theorem memRead_signal (delivered : Claims.delivered s cid 0x50 none q) (node : addrNode (q.arg 0 8) = q.dst)
    (target : s.core.memTarget (addrLocal (q.arg 0 8)) (q.arg 8 4) false = some (.region i r)) (backing : r.backing = .signal)
    (pd : r.pd = (s.core.conn cid).pd) (eight : (addrLocal (q.arg 0 8) - signalBase) % 8 = 0) (aligned : addrLocal (q.arg 0 8) % 4 = 0)
    (inside : addrLocal (q.arg 0 8) + q.arg 8 4 ≤ 2 ^ 50) (at_ : s.core.syncs.get? ((addrLocal (q.arg 0 8) - signalBase) / 8) = some o)
    (runs : s.core.quiesced = false) (right_ : bit r.rights 0 = true) (size : q.arg 8 4 = 8) (op : q.arg 12 1 = 0) :
    exec (.memRead cid) s = .next { s with core := ((s.core.takeMsg cid q).answerMsg s.top cid q 0x53
      (memCompletion (q.arg 16 4) .ok 0 0 0 (le 4 o.value ++ le 4 o.threshold))) } := by
  have type : q.type = 0x50 := Core.type_of_headMsg delivered.2
  have live : (((s.core.takeMsg cid q).syncs.get? ((addrLocal (q.arg 0 8) - signalBase) / 8)).filter fun _ => !(s.core.takeMsg cid q).quiesced) = some o := by
    rw [show (s.core.takeMsg cid q).syncs = s.core.syncs from rfl, show (s.core.takeMsg cid q).quiesced = s.core.quiesced from rfl, at_, runs]
    rfl
  refine congrArg Host.Outcome.next ((onMsg_delivered delivered _).trans ?_)
  rw [memArrives_signal node target backing pd (by rw [type]; exact right_) (by simp [Msg.takesLine, op]) (.inl ⟨type, size⟩) aligned inside]
  simp only [Core.serveSignal, live]
  rw [if_pos (by simp [type, op, size, eight]), Core.memAnswer, if_neg (by simp [type])]

/-- An atomic add to a signal object's window signals it, and gives the value before (R73). -/
theorem memAtomic_signal (delivered : Claims.delivered s cid 0x52 none q) (node : addrNode (q.arg 0 8) = q.dst)
    (target : s.core.memTarget (addrLocal (q.arg 0 8)) (q.arg 8 4) false = some (.region i r)) (backing : r.backing = .signal)
    (pd : r.pd = (s.core.conn cid).pd) (eight : (addrLocal (q.arg 0 8) - signalBase) % 8 = 0) (aligned : addrLocal (q.arg 0 8) % 4 = 0)
    (inside : addrLocal (q.arg 0 8) + q.arg 8 4 ≤ 2 ^ 50) (at_ : s.core.syncs.get? ((addrLocal (q.arg 0 8) - signalBase) / 8) = some o)
    (runs : s.core.quiesced = false) (right_ : bit r.rights 2 = true) (size : q.arg 8 4 = 4) (op : q.arg 12 1 = 1) (counter : o.kind = .counter)
    (none_ : s.core.waitersOf ((addrLocal (q.arg 0 8) - signalBase) / 8) = []) (fits : o.value + q.arg 24 4 ≤ 0xFFFFFFFF) :
    ∃ t, exec (.memAtomic cid) s = .next t ∧ Claims.replies s t cid q 0x53 (memCompletion (q.arg 16 4) .ok 0 0 o.value []) ∧
      t.core.syncs.get? ((addrLocal (q.arg 0 8) - signalBase) / 8) = some { o with value := o.value + q.arg 24 4 } ∧
      t.core.tiers.mem = s.core.tiers.mem := by
  have type : q.type = 0x52 := Core.type_of_headMsg delivered.2
  generalize window : (addrLocal (q.arg 0 8) - signalBase) / 8 = id at at_ none_ ⊢
  generalize taken : s.core.takeMsg cid q = c
  have syncs : c.syncs = s.core.syncs := taken ▸ rfl
  have quiet : c.quiesced = false := by rw [← taken]; exact runs
  have there : c.syncs.get? id = some o := by rw [syncs, at_]
  have live : (c.syncs.get? id).filter (fun _ => !c.quiesced) = some o := by
    rw [there, quiet]
    rfl
  have limit : o.limit = 0xFFFFFFFF := if_neg (by simp [counter])
  have new : o.signal (q.arg 24 4) = ({ o with value := o.value + q.arg 24 4 }, 0) := by
    rw [SyncObj.signal_clamp (by simp [counter]), SyncObj.clamp_fits (limit ▸ fits)]
  have nobody : c.waitersOf id = [] := by rw [← taken]; exact none_
  have signalled : c.signal s.top id (q.arg 24 4) = c.withInner { c with syncs := c.syncs.set id { o with value := o.value + q.arg 24 4 } } := by
    simp only [Core.signal, there, quiet, new, Bool.false_eq_true, if_false]
    rw [Core.putSync_quiet 0 (by simp [counter]) nobody]
    rfl
  have served : c.serveSignal s.top cid q (addrLocal (q.arg 0 8)) (q.arg 8 4) =
      (c.answerMsg s.top cid q 0x53 (memCompletion (q.arg 16 4) .ok 0 0 o.value [])).withInner
        { c with syncs := c.syncs.set id { o with value := o.value + q.arg 24 4 } } := by
    simp only [Core.serveSignal, window, live, signalled]
    rw [if_neg (by simp [type]), if_pos (by simp [type, op, size, eight]), Core.memAnswer, if_neg (by simp [type]), Core.answerMsg_withInner]
  have answered : c.KeepsInner (c.answerMsg s.top cid q 0x53 (memCompletion (q.arg 16 4) .ok 0 0 o.value [])) := c.keepsInner_sendMsg _ _ _ _ _ _ _
  have arrives := memArrives_signal (s := s) (cid := cid) node target backing pd (by rw [type]; exact right_)
    (by simp [Msg.takesLine, type]) (.inr ⟨type, size⟩) aligned inside
  rw [taken, served] at arrives
  refine ⟨_, congrArg Host.Outcome.next (onMsg_delivered delivered _), ?_⟩
  dsimp only
  rw [taken, arrives]
  refine ⟨⟨rfl, ?_, ?_, ?_⟩, Tbl.get?_set_self _ _ _, ?_⟩
  · rw [taken]
    rfl
  · rw [taken]
    rfl
  · rw [← taken]
    rfl
  · rw [← taken]
    rfl

end

/-- Settles O59, operation by operation: without waiters an operation only stores its object; the waiter of a mailbox that leaves answers its command. -/
theorem syncObjectsCountAndReleaseWaiters : Obligations.SyncObjectsCountAndReleaseWaiters := by
  refine ⟨fun m a s => ?_, fun q num k d w s live found mine deadline kind taken open_ =>
    syncWaitTimeout_times live found mine deadline kind taken open_, fun cid q i r o s => ?_⟩
  · intro c q n id v at_ others
    refine ⟨fun kind takes known up least most threshold => ?_, syncFree_frees, fun o => syncSet_sets, fun o => syncSignal_signals, syncSignal_free,
      fun o w k takes exists_ there runs only op kind _ => syncSignal_releases takes exists_ there runs only op kind, fun o => syncSignal_quiesced,
      fun o => syncWait_waits, fun o takes exists_ there counter below runs named live left one fits =>
        syncWait_references takes exists_ there counter below runs named live left one fits, syncQuery_answers, syncCancel_cancels⟩
    refine ⟨fun left => syncAlloc_fresh takes known up least most threshold left, fun e rest none_ one ready => ?_, fun full => ?_⟩
    · exact syncAlloc_again takes known up threshold none_ one ready
    · exact congrArg Host.Outcome.next (runCommand_refuses takes ((syncAllocBody_room known up least most threshold).1 full))
  · intro c off id node target backing pd eight aligned inside there runs
    refine ⟨fun delivered right_ size op => ?_, fun delivered right_ size op counter none_ fits => ?_⟩
    · exact memRead_signal delivered node target backing pd eight aligned inside there runs right_ size op
    · exact memAtomic_signal delivered node target backing pd eight aligned inside there runs right_ size op counter none_ fits

end Sys2Proof.Machine
end

/-! ### The tiers' commands, the pool and the stripe sets (R91, R95, R96, R104 to R106, R112 to R114) -/

section
namespace Sys2Proof.Machine

section
variable {m : Nat} {a : Cmd} {s : State}

/-! #### Tier queries and quotas -/

@[simp] theorem length_tierRecord (cap gran total free floor pend hon : Nat) : (tierRecord cap gran total free floor pend hon).length = 48 := by
  simp [tierRecord]

theorem tierQuery_answers (takes : Takes s m 0x0301 a) {p : List Byte} {c : Core} (body : tierQueryBody s.top s.core m a = ok c p) :
    exec (.tierQuery m) s = .next (s.answers m c p) :=
  congrArg Host.Outcome.next (runCommand_answers takes body)

/-- With a job or without one, the query of a tier of this node reports a record of that tier. -/
theorem tierQueryBody_local (t : Top) (c : Core) (here : a.arg 0 1 < 3) :
    ∃ cap gran total free floor pend hon, tierQueryBody t c m a = ok c (tierRecord cap gran total free floor pend hon) := by
  obtain hot | pool | warm : a.arg 0 1 = 0 ∨ a.arg 0 1 = 1 ∨ a.arg 0 1 = 2 := by omega
  · cases job : c.job.isSome with
    | false => exact ⟨_, _, _, _, _, _, _, by simp only [tierQueryBody, hot, job]; rfl⟩
    | true => exact ⟨_, _, _, _, _, _, _, by simp only [tierQueryBody, hot, job]; rfl⟩
  · cases job : c.job.isSome with
    | false => exact ⟨_, _, _, _, _, _, _, by simp only [tierQueryBody, pool, job]; rfl⟩
    | true => exact ⟨_, _, _, _, _, _, _, by simp only [tierQueryBody, pool, job]; rfl⟩
  · exact ⟨_, _, _, _, _, _, _, by simp only [tierQueryBody, warm]; rfl⟩

theorem tierQuery_warm (takes : Takes s m 0x0301 a) (warm : a.arg 0 1 = 2) : ∃ p, exec (.tierQuery m) s = .next (s.answers m s.core p) ∧
    p.length = 48 ∧ rd p 0 8 = 4096 * s.top.warmUnits % 2 ^ 64 ∧ rd p 8 4 = 4096 ∧ rd p 16 8 = s.top.warmUnits % 2 ^ 64 := by
  refine ⟨_, tierQuery_answers takes (by simp only [tierQueryBody, warm]; rfl), length_tierRecord .., ?_, ?_, ?_⟩
  · simp only [tierRecord, List.append_assoc, rd_le, mul_comm]
    rfl
  · simp (disch := simp) [tierRecord, rd_skip, rd_le]
  · simp (disch := simp) [tierRecord, rd_skip, rd_le]

theorem quotaSet_sets (takes : Takes s m 0x0302 a) (client : s.core.isClient (a.arg 0 1) = true) (tier : a.arg 1 1 = 1 ∨ a.arg 1 1 = 2)
    (ceil : a.arg 16 8 ≠ 2 ^ 64 - 1) (fits : a.arg 8 8 ≤ a.arg 16 8) (overcommit : a.arg 2 2 % 2 = 1) :
    exec (.quotaSet m) s = .next (s.answers m (s.core.setNext (Params.onClient (a.arg 0 1) (fun x =>
      if a.arg 1 1 = 1 then { x with q1 := some ⟨a.arg 8 8, a.arg 16 8⟩ } else { x with q2 := some ⟨a.arg 8 8, a.arg 16 8⟩ })))) := by
  have tiers : (a.arg 1 1 == 1 || a.arg 1 1 == 2) = true := by simpa using tier
  have may : bit (a.arg 2 2) 0 = true := by simpa [bit] using overcommit
  exact congrArg Host.Outcome.next (runCommand_answers takes
    (by simp only [quotaSetBody, Core.clientArg, needArg, need, client, tiers, may, if_neg ceil, fits, decide_true, Bool.true_or]; rfl))

theorem quotaQuery_answers (takes : Takes s m 0x0303 a) (client : s.core.isClient (a.arg 0 1) = true) (tier : a.arg 1 1 = 1 ∨ a.arg 1 1 = 2) :
    ∃ p, exec (.quotaQuery m) s = .next (s.answers m s.core p) ∧ p.length = 40 ∧
      rd p 0 8 = (s.core.quota s.top s.core.pset (a.arg 0 1) (a.arg 1 1)).1 % 2 ^ 64 ∧
      rd p 16 8 = (s.core.quota s.top s.core.pset (a.arg 0 1) (a.arg 1 1)).2 % 2 ^ 64 := by
  have tiers : (a.arg 1 1 == 1 || a.arg 1 1 == 2) = true := by simpa using tier
  refine ⟨_, congrArg Host.Outcome.next (runCommand_answers takes
    (by simp only [quotaQueryBody, Core.clientArg, needArg, need, client, tiers]; rfl)), ?_⟩
  refine ⟨by simp, ?_, ?_⟩
  · simp only [List.append_assoc, rd_le]
    rfl
  · simp (disch := simp) [rd_skip, rd_le]

theorem tier0Set_default (takes : Takes s m 0x0304 a) (default_ : a.arg 4 4 % 2 = 1) :
    exec (.tier0Set m) s = .next (s.answers m (s.core.setNext (fun p => { p with parts := none, partsNo := p.partsNo + 1 }))) := by
  have flag : bit (a.arg 4 4) 0 = true := by simpa [bit] using default_
  exact congrArg Host.Outcome.next (runCommand_answers takes (by simp only [tier0SetBody, flag]; rfl))

theorem tier0Set_sets (takes : Takes s m 0x0304 a) (own : a.arg 4 4 % 2 = 0) (whole : a.arg 0 1 + a.arg 1 1 + a.arg 2 1 + a.arg 3 1 = 64)
    (score : 4 ≤ a.arg 0 1) (staging : 4 ≤ a.arg 1 1) (tables : s.core.tableNeed ≤ a.arg 3 1) :
    exec (.tier0Set m) s = .next (s.answers m (s.core.setNext (fun p => { p with
      parts := some ⟨a.arg 0 1, a.arg 1 1, a.arg 2 1, a.arg 3 1⟩, partsNo := p.partsNo + 1 }))) := by
  have flag : bit (a.arg 4 4) 0 = false := by simpa [bit] using own
  exact congrArg Host.Outcome.next (runCommand_answers takes
    (by simp only [tier0SetBody, flag, needArg, need, whole, score, staging, tables, decide_true]; rfl))

/-! #### Stripe sets and the pool -/

theorem stripeSet_sets {n : Nat} (takes : Takes s m 0x0305 a) (count : a.arg 2 1 = n) (least : 1 ≤ n) (most : n ≤ 8)
    (nodes : ∀ i, i < n → a.arg (8 + 16 * i) 2 ≠ s.top.nodeId ∧ a.arg (8 + 16 * i) 2 < 0x3FFF)
    (idle : ∀ p ∈ s.core.tiers.pages.vals, p.t3.map Prod.fst ≠ some (a.arg 0 2) ∧ (∀ d, p.down = some d → d.tier = 3 → d.set ≠ a.arg 0 2)) :
    exec (.stripeSet m) s = .next (s.answers m (s.core.onTiers (fun x => { x with
      stripes := x.stripes.set (a.arg 0 2) ((List.range n).map (fun i => (a.arg (8 + 16 * i) 2, a.arg (16 + 16 * i) 8))) }))) := by
  subst count
  have fits : (1 ≤ a.arg 2 1 && a.arg 2 1 ≤ 8) = true := by simp [least, most]
  have members : ((List.range (a.arg 2 1)).map (fun i => (a.arg (8 + 16 * i) 2, a.arg (16 + 16 * i) 8))).zipIdx.find?
      (fun e => e.1.1 == s.top.nodeId || 0x3FFF ≤ e.1.1) = none := by
    refine List.find?_eq_none.2 fun e he => ?_
    obtain ⟨i, hi, at_⟩ := List.mem_map.1 (List.fst_mem_of_mem_zipIdx he)
    obtain ⟨other, below⟩ := nodes i (List.mem_range.1 hi)
    simp [← at_, other, below]
  have free : s.core.tiers.pages.vals.any (fun p => (p.t3.map Prod.fst) == some (a.arg 0 2) ||
      p.down.any (fun d => d.tier == 3 && d.set == a.arg 0 2)) = false := by
    refine List.any_eq_false.2 fun p hp => ?_
    obtain ⟨copy, writes⟩ := idle p hp
    cases down : p.down with
    | none => simpa [down] using copy
    | some d => simpa [copy] using writes d down
  exact congrArg Host.Outcome.next (runCommand_answers takes
    (by simp only [stripeSetBody, needArg, need, fits, members, free, Bool.not_false]; rfl))

theorem poolGrant_grants (takes : Takes s m 0x0306 a) (aligned : a.arg 0 8 % 65536 = 0) (units : a.arg 8 8 % 65536 = 0) (some_ : 0 < a.arg 8 8)
    (inside : a.arg 0 8 + a.arg 8 8 ≤ 2 ^ 47) (apart : ∀ g ∈ s.core.tiers.grants, g.off + g.size ≤ a.arg 0 8 ∨ a.arg 0 8 + a.arg 8 8 ≤ g.off)
    (client : s.core.isClient (a.arg 16 1) = true) (domain : (s.core.fabric.pds.get? (a.arg 18 2)).isSome = true)
    (quota : a.arg 8 8 ≤ (s.core.quota s.top s.core.pact (a.arg 16 1) 1).2) :
    ∃ c', exec (.poolGrant m) s = .next (s.answers m c') ∧ c'.tiers.grants = s.core.tiers.grants ++
        [{ off := a.arg 0 8, size := a.arg 8 8, client := a.arg 16 1, pd := a.arg 18 2, origin := a.arg 0 8 }] ∧
      c'.tiers.mem = s.core.tiers.mem ∧ c'.tiers.pages = s.core.tiers.pages ∧ c'.ctxs = s.core.ctxs := by
  have start : (a.arg 0 8 % 65536 == 0 && a.arg 0 8 < poolWindow) = true := by
    simp only [aligned, beq_self_eq_true, Bool.true_and, poolWindow]
    exact decide_eq_true (by omega)
  have length : (a.arg 8 8 % 65536 == 0 && 0 < a.arg 8 8 && a.arg 0 8 + a.arg 8 8 ≤ poolWindow) = true := by
    simp only [units, beq_self_eq_true, some_, decide_true, Bool.true_and, poolWindow]
    exact decide_eq_true inside
  have free : s.core.tiers.grants.any (fun g => a.arg 0 8 < g.off + g.size && g.off < a.arg 0 8 + a.arg 8 8) = false :=
    List.any_eq_false.2 fun g hg => by have := apart g hg; simp; omega
  refine ⟨_, congrArg Host.Outcome.next (runCommand_answers takes
    (by simp only [poolGrantBody, Core.clientArg, needArg, need, start, length, free, client, domain, quota, Bool.not_false, decide_true]; rfl)), ?_⟩
  exact ⟨rfl, rfl, rfl, rfl⟩

theorem poolRevoke_revokes (takes : Takes s m 0x0307 a) (aligned : a.arg 0 8 % 65536 = 0) (units : a.arg 8 8 % 65536 = 0) (some_ : 0 < a.arg 8 8)
    (granted : covered s.core.tiers.grants (a.arg 0 8) (a.arg 8 8) = true) :
    ∃ c', exec (.poolRevoke m) s = .next (s.answers m c') ∧ c'.tiers.revoked = s.core.tiers.revoked ++ [(a.arg 0 8, a.arg 8 8)] ∧
      (∀ b, c'.tiers.mem.read b = if 0x3000000000000 + a.arg 0 8 ≤ b ∧ b < 0x3000000000000 + a.arg 0 8 + a.arg 8 8 then 0
        else s.core.tiers.mem.read b) ∧
      c'.tiers.pages = s.core.tiers.pages ∧ c'.ctxs = s.core.ctxs ∧ c'.fabric = s.core.fabric := by
  have start : (a.arg 0 8 % 65536 == 0) = true := by simp [aligned]
  have length : (a.arg 8 8 % 65536 == 0 && 0 < a.arg 8 8) = true := by simp [units, some_]
  refine ⟨_, congrArg Host.Outcome.next (runCommand_answers takes
    (by simp only [poolRevokeBody, needArg, need, start, length, granted]; rfl)), ?_⟩
  exact ⟨rfl, fun b => Mem.read_zero .., rfl, rfl, rfl⟩

theorem length_entryBytes (c : Core) (r : PageRef) (p : PageObj) : (c.entryBytes r p).length = 32 := length_le_bytes ..

theorem length_pageAnswer (c : Core) (x : Ctx) (layer page : Nat) : (c.pageAnswer x layer page).length = 36 := by
  unfold Core.pageAnswer
  split
  · exact length_zeros 36
  · split
    · exact length_zeros 36
    · simp [length_entryBytes]

theorem pageQuery_answers (takes : Takes s m 0x0308 a) (layer : a.arg 0 2 < shLayers s.core.shape)
    (page : a.arg 2 2 < (s.core.ctx (hIndex a.handle)).pagesP) : ∃ p, exec (.pageQuery m) s = .next (s.answers m s.core p) ∧ p.length = 36 :=
  ⟨_, congrArg Host.Outcome.next (runCommand_answers takes (by simp only [pageQueryBody, needArg, need, layer, page, decide_true]; rfl)),
    length_pageAnswer ..⟩

end

/-- Settles O27, command by command: what a set asks for is accepted, and changes the settings that await the next boundary alone. -/
theorem tierAndQuotaCommandsAnswer : Obligations.TierAndQuotaCommandsAnswer := by
  intro m a s c k tier g ceil
  refine ⟨fun takes => ⟨fun here => ?_, fun cold => ?_⟩, fun takes client tiers ceil_ fits may =>
    quotaSet_sets takes client tiers ceil_ fits may, fun takes client tiers => quotaQuery_answers takes client tiers,
    fun takes => ⟨fun default_ => tier0Set_default takes default_, fun own whole score staging tables =>
      tier0Set_sets takes own whole score staging tables⟩⟩
  · by_cases warm : k = 2
    · obtain ⟨p, runs, length, fields⟩ := tierQuery_warm takes warm
      exact ⟨p, runs, length, fun _ => fields⟩
    · obtain ⟨cap, gran, total, free, floor, pend, hon, body⟩ := tierQueryBody_local (m := m) s.top s.core here
      exact ⟨_, tierQuery_answers takes body, length_tierRecord .., fun h => absurd h warm⟩
  · exact ⟨_, tierQuery_answers takes (by simp only [tierQueryBody, show a.arg 0 1 = 3 from cold]; rfl), length_tierRecord ..⟩

/-- Settles O28, command by command; a revoked range is zeroed where the pool's window maps it (R76). -/
theorem poolIsGrantedAndRevoked : Obligations.PoolIsGrantedAndRevoked := by
  intro m a s c off size
  exact ⟨fun n takes count least most nodes idle => stripeSet_sets takes count least most nodes idle,
    fun takes aligned units some_ inside apart client domain quota =>
      poolGrant_grants takes aligned units some_ inside apart client domain quota,
    fun takes aligned units some_ granted => poolRevoke_revokes takes aligned units some_ granted,
    fun takes layer page => pageQuery_answers takes layer page⟩

end Sys2Proof.Machine
end

/-! ### A page that a demotion counts twice (R93, R100, R107) -/

section
namespace Sys2Proof.Machine

/-- A page of context 1 in tier 1 alone that waits for its demotion, with the place of 40 units in tier 2 still in its entry (R87, R100). -/
def strayPage : PageObj := { fmt := .bf16, fill := 1, present := 2#4, t1 := some (0, 0), t2 := some (0, 40), owner := 1, pendingDown := true }

/-- Another page of it. -/
def strayOther : PageObj := { fmt := .bf16, fill := 1, present := 2#4, t1 := some (0, 1), owner := 1 }

/-- A device with a job of one key head of 64 dimensions, a warm space of 64 units, and a page table whose keys do not rise: the waiting page, of
key 7, stands behind the other, of key 9. -/
def strayPages : State := { State.reset with
  top := { ({} : Top) with dev := .bound, phase := 0, fwValid := true, nodeId := 1, warmDevices := [2 ^ 18] }
  core := { ({} : Core) with
    job := some { id := 5, shape := [1, 1, 1, 1] ++ le 2 1 ++ le 2 1 ++ le 2 1 ++ le 2 64, clientCount := 1, framesPerStack := 1000, f1 := 16000 }
    ctxs := [(1, { state := .parked, gen := 1, maxLen := 1024, pages := [(0, { obj := 7, base := 0 }), (1, { obj := 9, base := 256 })] })]
    tiers := { ({} : Tiers) with pages := [(9, strayOther), (7, strayPage)], nextPage := 10 } } }

theorem strayPages_hasRoom : (strayPages.core.within strayPages.top (strayPages.core.payer strayPage) 2
      (4096 * strayPages.core.unitsIn (strayPages.core.downFmt strayPage 2))) = true ∧
    (strayPages.core.findWarm strayPages.top (strayPages.core.unitsIn (strayPages.core.downFmt strayPage 2))).isSome = true := by
  decide +kernel

/-- The demotion changes the page before it looks for room, and the first change puts it into the table a second time. -/
theorem strayPages_waits : ((strayPages.core.pendingStart strayPages.top).page 7).bind PageObj.down = none := by decide +kernel

theorem pendingDemotionStart_core {s t : State} (live : s.top.live = true) (run : exec .pendingDemotionStart s = .next t) :
    t.core = s.core.pendingStart s.top := by
  cases (State.next_onCore live fun t c => c.pendingStart t).symm.trans run
  rfl

/-- Refutes O38: in a page table whose keys do not rise, which the statement does not exclude, a page that its demotion has begun to change stands
twice, so that its units of tier 2 count twice and the room that there was is gone: the page goes on waiting. -/
theorem not_pagesMoveBetweenTiers : ¬ Obligations.PagesMoveBetweenTiers := by
  unfold Obligations.PagesMoveBetweenTiers
  intro rows
  obtain ⟨_, _, demotion, _⟩ := rows 7 strayPage strayPages rfl rfl rfl
  obtain ⟨begins, _⟩ := demotion rfl rfl rfl rfl rfl
  obtain ⟨within_, found⟩ := strayPages_hasRoom
  obtain ⟨t, g, d, run, _, page, _, down, _⟩ := begins within_ found
  have waits := strayPages_waits
  rw [← pendingDemotionStart_core rfl run, page] at waits
  cases down.symm.trans waits

end Sys2Proof.Machine
end

/-! ### A boundary that nothing but settings awaits, and the step that it forms (R107, R151, R152, R155, R445) -/

section
namespace Sys2Proof.Machine

/-! #### What planning and entering layers leave of steps and members -/

/-- What a member is in its step: the step, the boundaries that passed it over, and its messages. -/
def Item.seat (it : Item) : Nat × Nat × List LayerMsg := (it.step, it.passed, it.msgs)

/-- What a step is from its forming on. -/
def StepRec.form (r : StepRec) : Nat × Nat × Bool × Bool := (r.group, r.formed, r.hasDecode, r.hasChunk)

/-- Two states differ at most in what planning, holding and entering layers change: no setting in force, no step as it was formed, and no member's
place in its step. -/
structure Core.Seats (a b : Core) : Prop where
  pact : b.pact = a.pact
  lastStep : b.sched.lastStep = a.sched.lastStep
  items : ∀ k, (b.sched.items.get? k).map Item.seat = (a.sched.items.get? k).map Item.seat
  steps : ∀ n, (b.sched.steps.get? n).map StepRec.form = (a.sched.steps.get? n).map StepRec.form

theorem Core.Seats.of_same {a b : Core} (sched : b.sched = a.sched) (pact : b.pact = a.pact) : a.Seats b :=
  ⟨pact, by rw [sched], fun _ => by rw [sched], fun _ => by rw [sched]⟩

theorem Core.Seats.refl (c : Core) : c.Seats c := .of_same rfl rfl

theorem Core.Seats.trans {a b c : Core} (h : a.Seats b) (k : b.Seats c) : a.Seats c :=
  ⟨k.pact.trans h.pact, k.lastStep.trans h.lastStep, fun j => (k.items j).trans (h.items j), fun n => (k.steps n).trans (h.steps n)⟩

theorem Core.SameWork.seats {a b : Core} (h : a.SameWork b) : a.Seats b := .of_same h.sched h.pact

theorem Core.seats_ite {a b c : Core} (p : Prop) [Decidable p] (h : a.Seats b) (k : a.Seats c) : a.Seats (if p then b else c) := by
  split
  · exact h
  · exact k

theorem Core.seats_foldl {α : Type} (f : Core → α → Core) (h : ∀ (c : Core) (x : α), c.Seats (f c x)) (xs : List α) (c : Core) :
    c.Seats (xs.foldl f c) := List.foldlRecOn (motive := fun d => c.Seats d) xs f (.refl c) fun b run x _ => run.trans (h b x)

theorem Core.seats_updPage (o : Nat) (f : PageObj → PageObj) (c : Core) : c.Seats (c.updPage o f) := .of_same rfl rfl

theorem Tbl.map_get?_upd {α β : Type} (x : Tbl α) (k : Nat) {f : α → α} {g : α → β} (h : ∀ v, g (f v) = g v) (j : Nat) :
    ((x.upd k f).get? j).map g = (x.get? j).map g := by
  unfold Tbl.upd
  split
  · next v at_ =>
    by_cases same : j = k
    · subst same
      rw [Tbl.get?_set_self, at_, Option.map_some, Option.map_some, h]
    · rw [Tbl.get?_set_other _ _ _ _ same]
  · rfl

theorem Core.seats_updItem (k : Nat) (f : Item → Item) (c : Core) (h : ∀ it, (f it).seat = it.seat) : c.Seats (c.updItem k f) :=
  ⟨rfl, rfl, fun j => Tbl.map_get?_upd c.sched.items k h j, fun _ => rfl⟩

theorem Core.seats_findFrame {t : Top} {k0 : Nat} {c c' : Core} {fr : Nat × Nat} (h : c.findFrame t k0 = some (fr, c')) : c.Seats c' := by
  unfold Core.findFrame Core.pickFree at h
  dsimp only at h
  split at h
  · cases h
  split at h
  · cases h
  next f c1 hp =>
  split at hp
  · cases hp
  simp only [Option.some.injEq, Prod.mk.injEq] at h hp
  obtain ⟨-, rfl⟩ := hp
  obtain ⟨-, rfl⟩ := h
  exact .of_same rfl rfl

theorem Core.seats_dropPool3 (o : Nat) (c : Core) : c.Seats (c.dropPool3 o) := .of_same rfl rfl

theorem Core.seats_freeWork (t : Top) (w : Work → Bool) (c : Core) : c.Seats (c.freeWork t w) := (Core.freeWork_sameWork _ _).seats

theorem Core.seats_abandon (t : Top) (o : Nat) (c : Core) : c.Seats (c.abandon t o) := by
  unfold Core.abandon
  split
  · exact .refl c
  split
  · exact .refl c
  extract_lets stop
  have stops : ∀ c : Core, c.Seats (stop c) := fun c => by
    have cleared := c.seats_updPage o (fun p => { p with down := none })
    exact ((cleared.trans (Core.sameWork_bump _ _ _).seats).trans (Core.seats_dropPool3 _ _)).trans (Core.seats_freeWork _ _ _)
  refine seats_ite _ (stops c) ?_
  split
  · exact stops c
  split
  split
  · next fr c1 found => exact ((Core.seats_findFrame found).trans (c1.seats_updPage _ _)).trans (stops _)
  · exact .refl c

theorem Core.seats_promote (t : Top) (urgent first : Bool) (o : Nat) (c : Core) : c.Seats (c.promote t urgent first o) := by
  unfold Core.promote
  extract_lets c1 c2
  have abandoned : c.Seats c1 := c.seats_abandon t o
  split
  · exact abandoned
  next p _ =>
  have asked : c.Seats c2 := abandoned.trans (c1.seats_updPage _ _)
  refine seats_ite _ (abandoned.trans (c1.seats_updPage _ _)) (seats_ite _ asked ?_)
  have chosen : c2.Seats (c2.chrysFor t p).2 := by
    unfold Core.chrysFor
    split
    · exact .refl c2
    · exact .of_same rfl rfl
    · exact .of_same rfl rfl
  exact (asked.trans chosen).trans ((Core.sameWork_qSend _ _ _ _ _ _ _).trans (Core.sameWork_qSend _ _ _ _ _ _ _)).seats

theorem Core.seats_endHold (t : Top) (k : Nat) (c : Core) : c.Seats (c.endHold t k) := by
  unfold Core.endHold
  split
  · exact .refl c
  next it _ =>
  split
  · exact .refl c
  extract_lets ns c1
  refine (c.seats_updItem k _ fun _ => rfl : c.Seats c1).trans ⟨rfl, rfl, fun _ => rfl, fun n => ?_⟩
  exact Tbl.map_get?_upd c1.sched.steps it.step (fun r => by split <;> rfl) n

theorem Core.seats_holdCheck (t : Top) (k : Nat) (c : Core) : c.Seats (c.holdCheck t k) := by
  unfold Core.holdCheck
  split
  · exact .refl c
  · exact seats_ite _ (seats_ite _ (c.seats_updItem k _ fun _ => rfl) (.refl c)) (c.seats_endHold t k)

theorem Core.seats_enterLayer (t : Top) (k : Nat) (c : Core) : c.Seats (c.enterLayer t k) := by
  unfold Core.enterLayer
  split
  · exact .refl c
  split
  · refine seats_ite _ (.refl c) (.trans (.trans (c.seats_endHold t k) ?_) (Core.seats_holdCheck _ _ _))
    exact Core.seats_updItem _ _ _ fun _ => rfl
  · exact c.seats_holdCheck t k

theorem Core.seats_planLayer (t : Top) (k l : Nat) (c : Core) : c.Seats (c.planLayer t k l) := by
  unfold Core.planLayer
  split
  · exact .refl c
  refine seats_ite _ (.refl c) ?_
  split
  extract_lets ps absent bySum w dead late summed c1
  have moved : c.Seats c1 := Core.seats_foldl _ (fun c p => by
    split
    · exact Core.seats_ite _ (c.seats_promote _ _ _ _) (c.seats_abandon _ _)
    · exact .refl c) _ _
  exact moved.trans (c1.seats_updItem _ _ fun _ => rfl)

/-- An item that joins is a member of its step, passed over no more and with its messages; the step and the settings stay. -/
theorem Core.joinStep_joins {t : Top} {n k : Nat} {it x : Item} {c : Core} (item : c.sched.items.get? k = some x) :
    (∃ y, (c.joinStep t n k it).sched.items.get? k = some y ∧ y.step = n ∧ y.passed = 0 ∧ y.msgs = x.msgs) ∧
    (c.joinStep t n k it).pact = c.pact ∧ (c.joinStep t n k it).sched.lastStep = c.sched.lastStep ∧
    ((c.joinStep t n k it).sched.steps.get? n).map StepRec.form = (c.sched.steps.get? n).map StepRec.form := by
  unfold Core.joinStep
  extract_lets us cl c1 c2 c3 c4
  have counted : c.SameWork c1 := (c.sameWork_bump _ _).trans (Core.sameWork_bump _ _ _)
  have turned : c3.sched = c1.sched ∧ c3.pact = c1.pact := by
    simp only [c3, c2]
    split
    · exact ⟨rfl, rfl⟩
    · exact ⟨rfl, rfl⟩
  obtain ⟨sched, pact⟩ := turned
  have taken : c4.sched.items.get? k = some { x with step := n, passed := 0, starved := false, turns := false, holdJoin := x.holdNs } :=
    Core.get?_updItem (by rw [sched, counted.sched, item])
  have entered : c4.Seats (c.joinStep t n k it) := (Core.seats_foldl _ (fun c l => c.seats_planLayer t k l) _ _).trans (Core.seats_enterLayer _ _ _)
  obtain ⟨pact', last, items, steps⟩ := entered
  have same : c3.sched = c.sched := sched.trans counted.sched
  have lastStays : c4.sched.lastStep = c.sched.lastStep := (congrArg Sched.lastStep same : c3.sched.lastStep = c.sched.lastStep)
  have stepsStay : c4.sched.steps = c.sched.steps := (congrArg Sched.steps same : c3.sched.steps = c.sched.steps)
  refine ⟨?_, (pact'.trans pact).trans counted.pact, last.trans lastStays, (steps n).trans (by rw [stepsStay])⟩
  have seat := items k
  rw [taken] at seat
  obtain ⟨y, at_, same⟩ := Option.map_eq_some_iff.1 seat
  simp only [Item.seat, Prod.mk.injEq] at same
  exact ⟨y, at_, same⟩

/-! #### What a boundary brings into force -/

/-- A context whose priority and class in force are those that are set (R152). -/
def Ctx.inForce (x : Ctx) : Ctx := { x with prioAct := x.prio, clsAct := x.cls }

/-- A boundary has brought the settings into force and found nothing else that awaited it (R445). -/
structure Core.Governs (a : Core) (t : Top) (b : Core) : Prop where
  job : b.job = a.job.map (fun j => { j with f1 := a.f1Now t })
  pset : b.pset = a.pset
  pact : b.pact = a.pset
  ctxs : b.ctxs = a.ctxs.mapVal (fun _ x => x.inForce)
  tiers : b.tiers = a.tiers
  fabric : b.fabric = a.fabric
  search : b.search = a.search
  moves : b.moves = a.moves
  items : b.sched.items = a.sched.items
  tokens : b.sched.tokens = a.sched.tokens
  steps : b.sched.steps = a.sched.steps
  lastStep : b.sched.lastStep = a.sched.lastStep
  due : b.sched.due = false

theorem Core.Governs.of_sameWork {t : Top} {a b d : Core} (g : a.Governs t b) (w : b.SameWork d) : a.Governs t d where
  job := w.job.trans g.job
  pset := w.pset.trans g.pset
  pact := w.pact.trans g.pact
  ctxs := w.ctxs.trans g.ctxs
  tiers := w.tiers.trans g.tiers
  fabric := w.fabric.trans g.fabric
  search := w.search.trans g.search
  moves := w.moves.trans g.moves
  items := w.sched.symm ▸ g.items
  tokens := w.sched.symm ▸ g.tokens
  steps := w.sched.symm ▸ g.steps
  lastStep := w.sched.symm ▸ g.lastStep
  due := w.sched.symm ▸ g.due

/-- The governor sets its state and the allowance alone (R159). -/
theorem Core.govern_sets (c : Core) : ∃ a g, c.govern = c.onSched (fun s => { s with allowance := a, governor := g }) := by
  unfold Core.govern Core.onSched
  dsimp only
  split
  · exact ⟨_, _, rfl⟩
  split
  · exact ⟨_, _, rfl⟩
  · exact ⟨c.sched.allowance, _, rfl⟩

theorem Core.roleCheck_of_none {c : Core} (none_ : c.sched.drains = []) : c.roleCheck = c := by
  unfold Core.roleCheck
  rw [none_]
  show c.onSched (fun s => { s with drains := [] }) = c
  rw [← none_]
  rfl

/-- The watermarks of free frames and of power change what is reported alone (R404). -/
theorem Core.sameWork_watches (t : Top) (c : Core) : c.SameWork ((c.watchFree t).watchPower t) := by
  unfold Core.watchFree Core.watchPower
  split
  · exact (c.sameWork_watch _ _ _ _ _ _).trans (Core.sameWork_watch _ _ _ _ _ _ _)
  · exact c.sameWork_watch _ _ _ _ _ _

section
variable {t : Top} {c : Core} (calm : Claims.Calm t c)
include calm

theorem none_leaves_of_calm : (c.ctxs.mapVal (fun _ x => x.inForce)).filter (fun e => e.2.leaving) = [] := by
  refine List.filter_eq_nil_iff.2 fun e he => ?_
  obtain ⟨e, old, rfl⟩ := List.mem_map.1 he
  simpa [Ctx.inForce] using (calm.still e old).1

theorem none_pauses_of_calm : (c.ctxs.mapVal (fun _ x => x.inForce)).filter (fun e => e.2.pauseDue) = [] := by
  refine List.filter_eq_nil_iff.2 fun e he => ?_
  obtain ⟨e, old, rfl⟩ := List.mem_map.1 he
  simpa [Ctx.inForce] using (calm.still e old).2

theorem Core.boundaryEffects_governs : c.Governs t (c.boundaryEffects t) := by
  unfold Core.boundaryEffects
  rw [if_pos calm.parts]
  extract_lets c1 c2 c3 c4 c5 c6 c7 c8
  have left : c6 = c5 := by
    refine (congrArg (List.foldl _ c5) ?_ : c6 = List.foldl _ c5 [])
    exact none_leaves_of_calm calm
  have paused : c7 = c6 := by
    refine (congrArg (List.foldl _ c6) ?_ : c7 = List.foldl _ c6 [])
    rw [left]
    exact none_pauses_of_calm calm
  have cut : c8 = c7 := by
    refine (congrArg (List.foldl _ c7) ?_ : c8 = List.foldl _ c7 [])
    rw [paused, left]
    exact (congrArg (List.filter _) calm.moves : _ = List.filter _ [])
  have quiet : c8 = c5 := cut.trans (paused.trans left)
  have none_waits : c5.sched.drains = [] := (congrArg (List.map _) calm.drains : c5.sched.drains = List.map _ [])
  obtain ⟨a, g, governs⟩ := c5.govern_sets
  have roles : c8.govern.roleCheck = c5.onSched (fun s => { s with allowance := a, governor := g }) := by
    rw [quiet, governs]
    exact Core.roleCheck_of_none none_waits
  rw [roles]
  refine .of_sameWork ?_ (Core.sameWork_watches t _)
  constructor <;> simp only [c5, c4, c3, c2, c1, Core.onSched, Core.powerUp, Core.clipA, Ctx.inForce]
end

/-! #### What a quiet boundary leaves of the candidates and of the ledger -/

section
variable {t : Top} {c b : Core} (g : c.Governs t b)
include g

theorem Core.Governs.ctx (i : Nat) : b.ctx i = (c.ctx i).inForce := by
  unfold Core.ctx Tbl.getD
  rw [g.ctxs, Tbl.get?_mapVal]
  cases c.ctxs.get? i <;> rfl

theorem Core.Governs.shape : b.shape = c.shape := by
  unfold Core.shape
  rw [g.job, Option.map_map]
  rfl

theorem Core.Governs.eligible : b.eligible = c.eligible := by
  unfold Core.eligible Core.tokenTurn
  rw [g.items, g.tokens]
  exact List.filter_congr fun e _ => by rw [g.ctx]; rfl

theorem Core.Governs.needs (it : Item) : b.needs it = c.needs it := by
  unfold Core.needs Core.layersLeft Core.pageOf Core.page
  rw [g.shape, g.ctx, g.tiers]
  rfl

theorem Core.Governs.joins (it : Item) : b.joins it = c.joins it := by
  unfold Core.joins
  rw [g.ctx]
  rfl

theorem Core.Governs.perStack : b.perStack = c.perStack := by
  unfold Core.perStack
  rw [g.job, Option.map_map]
  rfl

theorem Core.Governs.freeFrames : b.freeFrames t = c.freeFrames t := by
  unfold Core.freeFrames Core.stackFree Core.framesUsed Core.framesRetired Core.takenOn Core.frameF Core.slotB
  simp only [g.perStack, g.shape, g.tiers, g.search, g.fabric]

/-- Free frames stand at the floor (R107), so that no context is evicted. -/
theorem Core.Governs.restoreFloor (calm : Claims.Calm t c) (fuel : Nat) : b.restoreFloor t fuel = b := by
  obtain ⟨j, job⟩ := Option.isSome_iff_exists.1 calm.job
  have floor : b.floor = ceilDiv (c.f1Now t * 5) 1000 := by
    unfold Core.floor Core.f1
    rw [g.job, job]
    rfl
  cases fuel with
  | zero => rfl
  | succ fuel => exact if_neg (by rw [g.freeFrames, floor]; exact Nat.not_lt.2 calm.floor)

/-- A lone decode item that needs no frame is served as it is (R107). -/
theorem Core.Governs.settle (calm : Claims.Calm t c) {k : Nat} {it : Item} (item : c.sched.items.get? k = some it) (needs : c.needs it = [])
    (joins : c.joins it = false) (leaving : List Nat) : b.settle t leaving [(k, it)] = b := by
  have served : b.serve t leaving it (2 * b.ctxs.length + 2) = (b, true) := by
    unfold Core.serve
    rw [g.needs, needs]
    rfl
  have here : (b.sched.items.get? k).isNone = false := by rw [g.items, item]; rfl
  have stays : [(k, it)].filter (fun e => !b.joins e.2) = [(k, it)] := by simp [g.joins, joins]
  have none_joins : [(k, it)].filter (fun e => b.joins e.2) = [] := by simp [g.joins, joins]
  unfold Core.settle
  simp only [stays, none_joins]
  show (if (b.sched.items.get? k).isNone = true then b else _).restoreFloor t _ = b
  rw [here, if_neg Bool.false_ne_true, served]
  exact g.restoreFloor calm _

/-- The former takes a lone decode item (R155). -/
theorem Core.Governs.former {k : Nat} {it : Item} (decode : it.chunk = false) (room : 1 ≤ c.pset.field 0) :
    b.former [(k, it)] = (it.group, [(k, it)], []) := by
  obtain ⟨n, room⟩ := Nat.exists_eq_add_of_le' room
  simp [Core.former, sortBy, insertBy, decode, g.pact, room, Core.chunkRound]

end

/-! #### The step that is formed -/

/-- A step of some form opened under the next number, with the engines that its items need (R151, R157). -/
def Core.openStep (r : StepRec) (engines : List Nat) (c : Core) : Core :=
  (c.onSched (fun s => { s with lastStep := s.lastStep + 1, steps := s.steps.set (s.lastStep + 1) r, coolUntil := none })).powerUp engines

section
variable {t : Top} {c : Core} {k : Nat} {it : Item}

/-- With one decode item that is eligible and needs no frame, the boundary opens a step of it, which the item joins (R151, R155). -/
theorem Core.stepBoundary_opens (calm : Claims.Calm t c) (lone : c.eligible = [(k, it)]) (item : c.sched.items.get? k = some it)
    (decode : it.chunk = false) (room : 1 ≤ c.pset.field 0) (warm : c.cooling t = false) (needs : c.needs it = []) (joins : c.joins it = false) :
    ∃ (late : Item → Bool) (r : StepRec), r.form = (it.group, t.now, true, false) ∧ c.stepBoundary t =
      (((c.boundaryEffects t).updItem k (fun x => { x with late := late x })).openStep r it.needsEngines).joinStep t (c.sched.lastStep + 1) k it := by
  have g := Core.boundaryEffects_governs calm
  have open_ : (c.job.isNone || !c.slotFree || c.eligible.isEmpty || c.cooling t) = false := by
    simp [calm.job, calm.slot, lone, warm]
  unfold Core.stepBoundary
  rw [open_, if_neg Bool.false_ne_true]
  generalize c.boundaryEffects t = b at g
  have here : b.sched.items.get? k = some it := g.items ▸ item
  have number : b.sched.lastStep = c.sched.lastStep := g.lastStep
  simp only [g.eligible, lone, g.former decode room, List.append_nil, g.settle calm item needs joins]
  simp only [List.filterMap_cons, List.filterMap_nil, here, Option.map_some, ← number]
  have none_passed : [(k, it)].filter (fun e => !(Tbl.keys [(k, it)]).contains e.1) = [] := by simp [Tbl.keys]
  have decodes : (Tbl.vals [(k, it)]).filter (fun x => !x.chunk) = [it] := by simp [Tbl.vals, decode]
  have chunks : (Tbl.vals [(k, it)]).filter Item.chunk = [] := by simp [Tbl.vals, decode]
  have engines : [(k, it)].flatMap (fun e => e.2.needsEngines) = it.needsEngines := by simp
  simp only [none_passed, decodes, chunks, engines]
  refine ⟨fun x => !x.chunk && b.skipperOk x.ctx &&
      ((b.deadline x).map fun d => decide (d < t.now + max (b.decodeEst [it]) (b.ridgeEst []))).getD false,
    { group := it.group, formed := t.now, slice := b.pact.slice, score := b.tiers.tier0.score, hasDecode := !it.chunk || false,
      hasChunk := it.chunk || false }, by rw [decode]; rfl, rfl⟩

theorem Core.stepBoundary_forms (calm : Claims.Calm t c) (lone : c.eligible = [(k, it)]) (item : c.sched.items.get? k = some it)
    (decode : it.chunk = false) (room : 1 ≤ c.pset.field 0) (warm : c.cooling t = false) (needs : c.needs it = []) (joins : c.joins it = false) :
    (∃ x, (c.stepBoundary t).sched.items.get? k = some x ∧ x.step = c.sched.lastStep + 1 ∧ x.passed = 0 ∧ x.msgs = it.msgs) ∧
    (c.stepBoundary t).pact = c.pset ∧ (c.stepBoundary t).sched.lastStep = c.sched.lastStep + 1 ∧
    ∃ r, (c.stepBoundary t).sched.steps.get? (c.sched.lastStep + 1) = some r ∧ r.group = it.group ∧ r.formed = t.now ∧
      r.hasDecode = true ∧ r.hasChunk = false := by
  have g := Core.boundaryEffects_governs calm
  obtain ⟨late, r, form, opens⟩ := Core.stepBoundary_opens calm lone item decode room warm needs joins
  rw [opens]
  generalize c.boundaryEffects t = b at g
  have number : b.sched.lastStep = c.sched.lastStep := g.lastStep
  have marked : (b.updItem k (fun x => { x with late := late x })).sched.items.get? k = some { it with late := late it } :=
    Core.get?_updItem (g.items ▸ item)
  obtain ⟨joined, pact, last, steps⟩ := Core.joinStep_joins (t := t) (n := c.sched.lastStep + 1) (it := it)
    (c := (b.updItem k (fun x => { x with late := late x })).openStep r it.needsEngines) marked
  refine ⟨joined, pact.trans g.pact, last.trans (congrArg (· + 1) number), ?_⟩
  have put : ((b.updItem k (fun x => { x with late := late x })).openStep r it.needsEngines).sched.steps.get? (c.sched.lastStep + 1) = some r := by
    rw [← number]
    exact Tbl.get?_set_self _ _ _
  rw [put] at steps
  obtain ⟨r', at_, same⟩ := Option.map_eq_some_iff.1 steps
  simp only [StepRec.form, Prod.mk.injEq] at form same
  obtain ⟨group, formed, dec, chunk⟩ := same
  exact ⟨r', at_, group.trans form.1, formed.trans form.2.1, dec.trans form.2.2.1, chunk.trans form.2.2.2⟩

/-- With no eligible item, and an effect that waits, the boundary is an idle one (R445). -/
theorem Core.idleBoundary_governs (calm : Claims.Calm t c) (none_ : c.eligible = []) (due : c.sched.due = true) :
    c.Governs t (c.idleBoundary t) := by
  have g := Core.boundaryEffects_governs calm
  have idle : (c.job.isNone || !c.slotFree || !c.eligible.isEmpty || !c.sched.due) = false := by simp [calm.job, calm.slot, none_, due]
  unfold Core.idleBoundary
  rw [idle, if_neg Bool.false_ne_true]
  exact (g.restoreFloor calm _).symm ▸ g

end

/-- Settles O31: a boundary that nothing but settings awaits governs alone; a lone decode item is served, taken by the former, and joins. -/
theorem boundaryBringsSettingsIntoForceAndFormsSteps : Obligations.BoundaryBringsSettingsIntoForceAndFormsSteps := by
  intro s live calm
  refine ⟨fun k it lone item decode room warm needs joins => ?_, fun none_ due => ?_⟩
  · obtain ⟨ms, noted⟩ := (s.core.stepBoundary s.top).noteReady_moves
    obtain ⟨joined, pact, last, formed⟩ := Core.stepBoundary_forms calm lone item decode room warm needs joins
    refine ⟨_, State.next_onCore live fun t c => (c.stepBoundary t).noteReady, rfl, ?_⟩
    dsimp only
    rw [noted]
    exact ⟨pact, last, joined, formed⟩
  · obtain ⟨ms, noted⟩ := (s.core.idleBoundary s.top).noteReady_moves
    have g := Core.idleBoundary_governs calm none_ due
    refine ⟨_, State.next_onCore live fun t c => (c.idleBoundary t).noteReady, rfl, ?_⟩
    dsimp only
    rw [noted]
    exact ⟨g.pact, g.due, g.steps, g.items, g.lastStep, g.tiers, g.fabric, g.ctx⟩

end Sys2Proof.Machine
end

/-! ### Cells on their paths neither read nor change the fabric (R308, R312, R332) -/

section
namespace Sys2Proof.Machine

/-- The state `c` with another fabric. -/
def Core.withFabric (c : Core) (g : Fabric) : Core := { c with fabric := g }

section
variable {g : Fabric} (c : Core)

@[simp] theorem Core.withFabric_host : (c.withFabric g).host = c.host := rfl
@[simp] theorem Core.withFabric_telem : (c.withFabric g).telem = c.telem := rfl
@[simp] theorem Core.withFabric_onTelem (f : Telem → Telem) : (c.withFabric g).onTelem f = (c.onTelem f).withFabric g := rfl
@[simp] theorem Core.withFabric_onHost (f : HostIf → HostIf) : (c.withFabric g).onHost f = (c.onHost f).withFabric g := rfl
@[simp] theorem Core.withFabric_emit (x : Out) : (c.withFabric g).emit x = (c.emit x).withFabric g := rfl

@[simp] theorem Core.ite_withFabric (p : Prop) [Decidable p] (a b : Core) :
    (if p then a.withFabric g else b.withFabric g) = (if p then a else b).withFabric g := (apply_ite (·.withFabric g) p a b).symm

theorem Core.foldl_withFabric {α : Type} (f : Core → α → Core) (h : ∀ (c : Core) x, f (c.withFabric g) x = (f c x).withFabric g) (xs : List α) :
    xs.foldl f (c.withFabric g) = (xs.foldl f c).withFabric g := List.foldl_hom (Core.withFabric · g) h

@[simp] theorem Core.bump_withFabric (x : Ctr) (n : Nat) : (c.withFabric g).bump x n = (c.bump x n).withFabric g := by simp [Core.bump]
@[simp] theorem Core.msix_withFabric (v : Nat) : (c.withFabric g).msix v = (c.msix v).withFabric g := by simp [Core.msix]
@[simp] theorem Core.wm_withFabric (id : Nat) : (c.withFabric g).wm id = c.wm id := rfl
@[simp] theorem Core.setWm_withFabric (id : Nat) (w : Wm) : (c.withFabric g).setWm id w = (c.setWm id w).withFabric g := rfl

@[simp] theorem Core.evWrite_withFabric (t : Top) (code src subject : Nat) (detail : List Byte) :
    (c.withFabric g).evWrite t code src subject detail = (c.evWrite t code src subject detail).withFabric g := by
  simp only [Core.evWrite, bump_withFabric, withFabric_host, withFabric_emit, withFabric_onHost, msix_withFabric, ite_withFabric]

@[simp] theorem Core.wmStep_withFabric (id : Nat) (up : Bool) (thr clr v : Nat) :
    (c.withFabric g).wmStep id up thr clr v = ((c.wmStep id up thr clr v).1.withFabric g, (c.wmStep id up thr clr v).2) := by
  simp [Core.wmStep]

@[simp] theorem Core.evqWatch_withFabric (t : Top) : (c.withFabric g).evqWatch t = (c.evqWatch t).withFabric g := by
  simp [Core.evqWatch]

@[simp] theorem Core.watch_withFabric (t : Top) (id : Nat) (up : Bool) (dflt : Nat × Nat) (v src : Nat) :
    (c.withFabric g).watch t id up dflt v src = (c.watch t id up dflt v src).withFabric g := by simp [Core.watch, Core.raise]

@[simp] theorem Core.queue_withFabric (id inst : Nat) : (c.withFabric g).queue id inst = c.queue id inst := rfl
@[simp] theorem Core.qRoom_withFabric (t : Top) (id inst prod : Nat) : (c.withFabric g).qRoom t id inst prod = c.qRoom t id inst prod := rfl

@[simp] theorem Core.putQueue_withFabric (t : Top) (id inst : Nat) (es : List QEntry) :
    (c.withFabric g).putQueue t id inst es = (c.putQueue t id inst es).withFabric g := by simp [Core.putQueue]

@[simp] theorem Core.qSend_withFabric (t : Top) (id inst prod n : Nat) (w : Work) :
    (c.withFabric g).qSend t id inst prod n w = (c.qSend t id inst prod n w).withFabric g := by simp [Core.qSend]

@[simp] theorem Core.qEnd_withFabric (t : Top) (id inst : Nat) (p : Work → Bool) :
    (c.withFabric g).qEnd t id inst p = (c.qEnd t id inst p).withFabric g := by
  have refilled (d : Core) : (d.withFabric g).qRefill t id inst = (d.qRefill t id inst).withFabric g :=
    Core.foldl_withFabric _ _ (fun c e => by simp) _
  simp [Core.qEnd, refilled]

@[simp] theorem Core.qPass_withFabric (t : Top) (id inst prod n : Nat) (w : Work) :
    (c.withFabric g).qPass t id inst prod n w = (c.qPass t id inst prod n w).withFabric g := by simp [Core.qPass, Core.fenced]

@[simp] theorem Core.meshSend_withFabric (t : Top) (src dst : Nat) (cls : MeshClass) (cargo : Cargo) (w : Work) (units : Nat) :
    (c.withFabric g).meshSend t src dst cls cargo w units = (c.meshSend t src dst cls cargo w units).withFabric g := by
  unfold Core.meshSend
  split
  · rfl
  · simp

@[simp] theorem Core.meshPass_withFabric (t : Top) (src dst : Nat) (cls : MeshClass) (cargo : Cargo) (w : Work) (units : Nat) :
    (c.withFabric g).meshPass t src dst cls cargo w units = (c.meshPass t src dst cls cargo w units).withFabric g := by
  have ended (d : Core) (ids : Nat → Bool) (p : Work → Bool) : (d.withFabric g).qEndAll t ids p = (d.qEndAll t ids p).withFabric g :=
    Core.foldl_withFabric _ _ (fun _ _ => qEnd_withFabric _ _ _ _ _) _
  simp [Core.meshPass, Core.meshGone, ended]

@[simp] theorem Core.port_withFabric (p : Nat) : (c.withFabric g).port p = c.port p := rfl
@[simp] theorem Core.head_withFabric (p : Nat) : (c.withFabric g).head p = c.head p := rfl
@[simp] theorem Core.updPort_withFabric (p : Nat) (f : Port → Port) : (c.withFabric g).updPort p f = (c.updPort p f).withFabric g := by
  unfold Core.updPort; split <;> rfl

@[simp] theorem Core.egressAcct_withFabric (t : Top) (p : Nat) : (c.withFabric g).egressAcct t p = (c.egressAcct t p).withFabric g := by
  have queue (d : Core) (h t0 t1 n j : Nat) (x : Port) : (d.withFabric g).acctQueue h t0 t1 x n j = (d.acctQueue h t0 t1 x n j).withFabric g := by
    unfold Core.acctQueue
    split
    · rfl
    · simp
  have queues (h t0 t1 n : Nat) (x : Port) (xs : List Nat) : xs.foldl (fun c j => c.acctQueue h t0 t1 x n j) (c.withFabric g) =
      (xs.foldl (fun c j => c.acctQueue h t0 t1 x n j) c).withFabric g := Core.foldl_withFabric _ _ (fun d j => queue d _ _ _ _ j _) _
  simp only [Core.egressAcct, head_withFabric, port_withFabric, queues, updPort_withFabric]

@[simp] theorem Core.enqueue_withFabric (t : Top) (p j : Nat) (f : QFrame) :
    (c.withFabric g).enqueue t p j f = (c.enqueue t p j f).withFabric g := by simp [Core.enqueue, Core.egressWatch]

@[simp] theorem Core.choosePath_withFabric (mask : Nat) (hash : Option Nat) : (c.withFabric g).choosePath mask hash = c.choosePath mask hash := rfl

/-- Cells go the way that their connection gives, whatever else the fabric holds (R308). -/
theorem Core.putCells_withFabric (t : Top) (cid : Nat) (m : Msg) (control : Bool) (same : g.conns = c.fabric.conns) :
    (c.withFabric g).putCells t cid m control = (c.putCells t cid m control).withFabric g := by
  have conn : (c.withFabric g).conn cid = c.conn cid := by simp only [Core.conn, Core.withFabric, same]
  simp only [Core.putCells, conn]
  exact Core.foldl_withFabric _ _ (fun c x => by simp) _

end

/-! #### An answer reads and changes the connections alone of the fabric (R304, R313) -/

/-- The state `c` with all of the fabric but the connections taken from `k`. -/
def Core.withShore (c k : Core) : Core := c.withFabric { k.fabric with conns := c.fabric.conns }

section
variable {k : Core} (c : Core)

@[simp] theorem Core.conn_withShore (j : Nat) : (c.withShore k).conn j = c.conn j := rfl
@[simp] theorem Core.updConn_withShore (j : Nat) (f : Conn → Conn) : (c.withShore k).updConn j f = (c.updConn j f).withShore k := rfl

@[simp] theorem Core.ite_withShore (p : Prop) [Decidable p] (a b : Core) :
    (if p then a.withShore k else b.withShore k) = (if p then a else b).withShore k := (apply_ite (·.withShore k) p a b).symm

@[simp] theorem Core.putCells_withShore (t : Top) (cid : Nat) (m : Msg) (control : Bool) :
    (c.withShore k).putCells t cid m control = (c.putCells t cid m control).withShore k := by
  unfold Core.withShore
  rw [(c.posts_putCells t cid m control).fabric]
  exact Core.putCells_withFabric c t cid m control rfl

@[simp] theorem Core.answerMsg_withShore (t : Top) (cid : Nat) (q : Msg) (type : Nat) (body : List Byte) :
    (c.withShore k).answerMsg t cid q type body = (c.answerMsg t cid q type body).withShore k := by
  have may (m : Msg) (stages : Nat) : (c.withShore k).mayAsk t m stages = c.mayAsk t m stages := rfl
  have job : (c.withShore k).jobId = c.jobId := rfl
  simp only [Core.answerMsg, Core.sendMsg, Core.sendNow, conn_withShore, may, job, updConn_withShore, putCells_withShore, ite_withShore]
  rfl

end

end Sys2Proof.Machine
end

/-! ### Requests for memory that pass their checks (R310, R318 to R322) -/

section
namespace Sys2Proof.Machine

/-- A request for `n` bytes at local offset `off` passes the checks that come before its target (R310, R318, R320). -/
structure Msg.Asks (q : Msg) (off n : Nat) : Prop where
  place : addrLocal (q.arg 0 8) = off
  size : q.arg 8 4 = n
  node : addrNode (q.arg 0 8) = q.dst
  least : 1 ≤ n
  most : n ≤ 65536
  inside : off + n ≤ 2 ^ 50
  word : q.type = 0x52 → (n = 4 ∨ n = 8) ∧ off % n = 0
  data : q.type = 0x51 → n ≤ (q.body.drop 40).length

section
variable {t : Top} {cid off n : Nat} {q : Msg} {c : Core} {no : Option Nat}

theorem Msg.Asks.passes (asks : q.Asks off n) : ¬(q.type = 0x52 && n ≠ 4 && n ≠ 8) = true ∧ ¬(n = 0 || 65536 < n) = true ∧
    ¬(q.type = 0x52 && off % n ≠ 0) = true ∧ ¬(q.type = 0x51 && (q.body.drop 40).length < n) = true ∧ ¬2 ^ 50 < off + n := by
  have least := asks.least
  have most := asks.most
  refine ⟨fun wide => ?_, by simp; omega, fun odd => ?_, fun short => ?_, Nat.not_lt.2 asks.inside⟩
  · simp only [Bool.and_eq_true, decide_eq_true_eq] at wide
    have := (asks.word wide.1.1).1
    omega
  · simp only [Bool.and_eq_true, decide_eq_true_eq] at odd
    exact odd.2 (asks.word odd.1).2
  · simp only [Bool.and_eq_true, decide_eq_true_eq] at short
    exact absurd (asks.data short.1) (Nat.not_le.2 short.2)

/-- Where nothing local holds the range, a read of what was revoked is answered POISONED, anything else is denied (R76, R96, R310). -/
theorem Core.memRequest_none (asks : q.Asks off n) (target : c.memTarget off n no.isSome = none) : c.memRequest t cid q no =
    (none, if q.type = 0x50 && c.inRevoked off n then c.memAnswer t cid q .poisoned 0 0 0 [] else c.memDenied t cid q) := by
  obtain ⟨width, length, multiple, data, inside⟩ := asks.passes
  simp only [Core.memRequest, asks.place, asks.size, asks.node, ne_eq, not_true, if_false]
  rw [if_neg width, if_neg length, if_neg multiple, if_neg data, if_neg inside]
  simp only [target]
  split <;> rfl

/-- A plain access to a grant of the asking domain is served (R310). -/
theorem Core.memRequest_grant {g : Grant} (asks : q.Asks off n) (target : c.memTarget off n no.isSome = some (.grant g))
    (pd : g.pd = (c.conn cid).pd) (right_ : bit 3 (memRight q.type) = true) (plain : (q.takesLine || q.isWriteback) = false)
    (known : memOpKnown q.type (q.arg 12 1) = true) : c.memRequest t cid q no = (none, c.serveMem t cid q (.grant g) off n) := by
  obtain ⟨width, length, multiple, data, inside⟩ := asks.passes
  have allowed : ¬((MemTarget.grant g).pd ≠ (c.conn cid).pd || !bit (MemTarget.grant g).rights (memRight q.type)) = true := by
    simp [MemTarget.pd, MemTarget.rights, pd, right_]
  simp only [Core.memRequest, asks.place, asks.size, asks.node, ne_eq, not_true, if_false]
  rw [if_neg width, if_neg length, if_neg multiple, if_neg data, if_neg inside]
  simp only [target]
  rw [if_neg allowed, plain, known]
  rfl

section
variable {i : Nat} {r : Region} (asks : q.Asks off n) (target : c.memTarget off n no.isSome = some (.region i r))
  (pd : r.pd = (c.conn cid).pd) (right_ : bit r.rights (memRight q.type) = true) (backing : r.backing ≠ .signal)
  (known : memOpKnown q.type (q.arg 12 1) = true)
include asks target pd right_ backing known

/-- A plain access to a region that is not coherent is served (R310). -/
theorem Core.memRequest_region (plain : (q.takesLine || q.isWriteback) = false) (here : q.type = 0x52 → r.backing = .device)
    (flag : bit r.flags 3 = false) : c.memRequest t cid q no = (none, c.serveMem t cid q (.region i r) off n) := by
  obtain ⟨width, length, multiple, data, inside⟩ := asks.passes
  have allowed : ¬((MemTarget.region i r).pd ≠ (c.conn cid).pd || !bit (MemTarget.region i r).rights (memRight q.type)) = true := by
    simp [MemTarget.pd, MemTarget.rights, pd, right_]
  have local_ : ¬(q.type = 0x52 && r.backing = .host) = true := by
    simp only [Bool.and_eq_true, decide_eq_true_eq]
    rintro ⟨atomic, host⟩
    cases host.symm.trans (here atomic)
  have noWriteback : q.isWriteback = false := (Bool.or_eq_false_iff.1 plain).2
  simp only [Core.memRequest, asks.place, asks.size, asks.node, ne_eq, not_true, if_false]
  rw [if_neg width, if_neg length, if_neg multiple, if_neg data, if_neg inside]
  simp only [target]
  rw [if_neg allowed, plain, if_neg (by simp), if_neg backing, known, if_neg (by simp), if_neg local_, if_neg (by simp), noWriteback,
    if_neg Bool.false_ne_true, flag, if_neg Bool.false_ne_true]

/-- A read that takes a line of a coherent region meets its lines, under a number of its own or under the one that it had waited with (R321, R326). -/
theorem Core.memRequest_line {k : Nat} {a b : Core} {go : Bool} (type : q.type = 0x50) (member : c.inDomain t q.src = true)
    (flag : bit r.flags 3 = true) (aligned : off % 64 = 0) (line : n = 64) (number : no.getD c.fabric.nextLineReq = k)
    (numbered : (if no.isSome then c else c.onFabric (fun f => { f with nextLineReq := k + 1 })) = a)
    (meets : a.meetLines t cid q off n k = (go, b)) :
    c.memRequest t cid q no = (none, if go then b.serveMem t cid q (.region i r) off n else b) := by
  obtain ⟨width, length, multiple, data, inside⟩ := asks.passes
  have allowed : ¬((MemTarget.region i r).pd ≠ (c.conn cid).pd || !bit (MemTarget.region i r).rights (memRight q.type)) = true := by
    simp [MemTarget.pd, MemTarget.rights, pd, right_]
  have noWriteback : q.isWriteback = false := by simp [Msg.isWriteback, type]
  subst number numbered
  simp only [Core.memRequest, asks.place, asks.size, asks.node, ne_eq, not_true, if_false]
  rw [if_neg width, if_neg length, if_neg multiple, if_neg data, if_neg inside]
  simp only [target]
  rw [if_neg allowed, if_neg (by simp [member]), if_neg backing, known, flag, if_neg (by simp), if_neg (by simp [type]),
    if_neg (by simp [aligned, line]), noWriteback, if_neg Bool.false_ne_true, if_pos rfl, meets]

end
end

end Sys2Proof.Machine
end

/-! ### Reads of local memory, of host memory and of coherent lines (R310, R318, R319, R322, R326) -/

section
namespace Sys2Proof.Machine

section
variable {t : Top} {cid off n : Nat} {q : Msg} {c : Core}

/-- Taking a message from the inbox leaves the domain of its connection (R310). -/
theorem Core.pd_takeMsg (cid : Nat) (q : Msg) (c : Core) : ((c.takeMsg cid q).conn cid).pd = (c.conn cid).pd := by
  rw [Core.takeMsg, Core.oweUnits, Core.conn_updConn_self, Core.conn_updConn_self]
  cases q.rsp <;> rfl

theorem Core.bufs_takeMsg (cid : Nat) (q : Msg) (c : Core) : ((c.takeMsg cid q).conn cid).bufs = (c.conn cid).bufs := by
  rw [Core.takeMsg, Core.oweUnits, Core.conn_updConn_self, Core.conn_updConn_self]
  cases q.rsp <;> rfl

theorem Core.memArrives_of {d : Core} (serves : c.memRequest t cid q none = (none, d)) : c.memArrives t cid q = d := by
  rw [Core.memArrives, serves]

theorem Core.memAnswer_answers (st : Status) (d ver old : Nat) (data : List Byte) (asked : q.type = 0x51 → bit (q.arg 13 1) 0 = true) :
    c.memAnswer t cid q st d ver old data = c.answerMsg t cid q 0x53 (memCompletion (q.arg 16 4) st d ver old data) := by
  refine if_neg fun silent => ?_
  simp only [Bool.and_eq_true, decide_eq_true_eq, Bool.not_eq_true'] at silent
  exact absurd (asked silent.1) (by simp [silent.2])

/-- A state whose ports and connections are those that the answer leaves, and whose contexts stand, has replied. -/
theorem replies_of {s : State} {type : Nat} {body : List Byte} {d : Core}
    (ports : d.ports = ((s.core.takeMsg cid q).answerMsg s.top cid q type body).ports)
    (conns : d.fabric.conns = ((s.core.takeMsg cid q).answerMsg s.top cid q type body).fabric.conns) (ctxs : d.ctxs = s.core.ctxs) :
    Claims.replies s { s with core := d } cid q type body := ⟨rfl, ports, conns, ctxs⟩

theorem Core.ctxs_answerMsg (t : Top) (cid : Nat) (q : Msg) (type : Nat) (body : List Byte) (c : Core) :
    (c.answerMsg t cid q type body).ctxs = c.ctxs := (c.talks_sendMsg _ _ _ _ _ _ _).ctxs

/-- A denied request has been answered AUTH_FAIL; of the rest, only a counter and what sending changes differ (R310). -/
theorem replies_memDenied {s : State} (asked : q.type = 0x51 → bit (q.arg 13 1) 0 = true) :
    Claims.replies s { s with core := (s.core.takeMsg cid q).memDenied s.top cid q } cid q 0x53 (memCompletion (q.arg 16 4) .authFail 0 0 0 []) := by
  have counted := ((s.core.takeMsg cid q).memAnswer s.top cid q .authFail 0 0 0 []).sameWork_bump (.pass (cid / 4096) 3) 1
  refine replies_of (counted.ports.trans ?_) ((congrArg Fabric.conns counted.fabric).trans ?_) (counted.ctxs.trans ?_)
  · rw [Core.memAnswer_answers _ _ _ _ _ asked]
  · rw [Core.memAnswer_answers _ _ _ _ _ asked]
  · rw [Core.memAnswer_answers _ _ _ _ _ asked, Core.ctxs_answerMsg]
    rfl

/-! #### Local memory -/

theorem Msg.Asks.of_read (type : q.type = 0x50) (node : addrNode (q.arg 0 8) = q.dst) (least : 1 ≤ q.arg 8 4) (most : q.arg 8 4 ≤ 65536)
    (inside : addrLocal (q.arg 0 8) + q.arg 8 4 ≤ 2 ^ 50) : q.Asks (addrLocal (q.arg 0 8)) (q.arg 8 4) :=
  ⟨rfl, rfl, node, least, most, inside, fun atomic => (by rw [type] at atomic; cases atomic), fun write => (by rw [type] at write; cases write)⟩

/-- Local memory that is not poisoned is read byte for byte (R319). -/
theorem Core.serveRead_plain {rid : Nat} {r : Option Region} (type : q.type = 0x50) (op : q.arg 12 1 ≠ 3)
    (here : (r.map (fun r => r.backing == .host)).getD false = false) (good : c.memPoisoned off n = false) :
    c.serveRead t cid q rid r off n = c.answerMsg t cid q 0x53 (memCompletion (q.arg 16 4) .ok 0 0 0 (c.tiers.mem.readN off n)) := by
  simp only [Core.serveRead, op, here, good, decide_false, Bool.false_and, Bool.false_eq_true, if_false]
  exact Core.memAnswer_answers _ _ _ _ _ fun write => by rw [type] at write; cases write

/-- A versioned read within one granule gives its version with the bytes (R323). -/
theorem Core.serveRead_versioned {rid : Nat} {r : Region} (type : q.type = 0x50) (op : q.arg 12 1 = 3) (here : r.backing = .device)
    (good : c.memPoisoned off n = false) (flag : bit r.flags 2 = true) (one : off / 4096 = (off + n - 1) / 4096) :
    c.serveRead t cid q rid (some r) off n = c.answerMsg t cid q 0x53
      (memCompletion (q.arg 16 4) .ok 0 (r.versions.getD (off / 4096 - r.off / 4096) 1) 0 (c.tiers.mem.readN off n)) := by
  have local_ : (r.backing == .host) = false := by rw [here]; rfl
  simp only [Core.serveRead, op, local_, good, flag, ← one, decide_true, Option.map_some, Option.getD_some, Bool.not_true, Bool.and_false, ne_eq,
    not_true, decide_false, Bool.false_eq_true, if_false, if_true]
  exact Core.memAnswer_answers _ _ _ _ _ fun write => by rw [type] at write; cases write

theorem Core.serveMem_read {i : Nat} {r : Region} (type : q.type = 0x50) (flag : bit r.flags 3 = false) :
    c.serveMem t cid q (.region i r) off n = c.serveRead t cid q i (some r) off n := by
  unfold Core.serveMem
  rw [type]
  simp only [flag, Bool.false_eq_true, if_false]

theorem Core.serveMem_readGrant {g : Grant} (type : q.type = 0x50) :
    c.serveMem t cid q (.grant g) off n = c.serveRead t cid q 16384 none off n := by
  unfold Core.serveMem
  rw [type]
  rfl

end

section
variable {cid : Nat} {q : Msg} {s : State}

theorem memRead_serves {d : Core} (delivered : Claims.delivered s cid 0x50 none q)
    (serves : (s.core.takeMsg cid q).memRequest s.top cid q none = (none, d)) : exec (.memRead cid) s = .next { s with core := d } := by
  refine congrArg Host.Outcome.next ((onMsg_delivered delivered _).trans ?_)
  rw [Core.memArrives_of serves]

/-- A plain or versioned read that reaches a region which is not coherent is served by it (R310, R319). -/
theorem memRead_region {off n i : Nat} {r : Region} (delivered : Claims.delivered s cid 0x50 none q) (asks : q.Asks off n)
    (target : s.core.memTarget off n false = some (.region i r)) (pd : r.pd = (s.core.conn cid).pd) (right_ : bit r.rights 0 = true)
    (backing : r.backing ≠ .signal) (flag : bit r.flags 3 = false) (op : q.arg 12 1 = 0 ∨ q.arg 12 1 = 3) :
    exec (.memRead cid) s = .next { s with core := (s.core.takeMsg cid q).serveRead s.top cid q i (some r) off n } := by
  have type : q.type = 0x50 := Core.type_of_headMsg delivered.2
  refine memRead_serves delivered ((Core.memRequest_region asks target (pd.trans (Core.pd_takeMsg _ _ _).symm) (by rw [type]; exact right_) backing
    ?_ ?_ (fun atomic => (by rw [type] at atomic; cases atomic)) flag).trans (by rw [Core.serveMem_read type flag]))
  · rcases op with op | op <;> simp [memOpKnown, type, op]
  · rcases op with op | op <;> simp [Msg.takesLine, Msg.isWriteback, type, op]

theorem memRead_grant {off n : Nat} {g : Grant} (delivered : Claims.delivered s cid 0x50 none q) (asks : q.Asks off n)
    (target : s.core.memTarget off n false = some (.grant g)) (pd : g.pd = (s.core.conn cid).pd) (op : q.arg 12 1 = 0)
    (good : s.core.memPoisoned off n = false) : exec (.memRead cid) s = .next { s with core := ((s.core.takeMsg cid q).answerMsg s.top cid q 0x53
      (memCompletion (q.arg 16 4) .ok 0 0 0 (s.core.tiers.mem.readN off n))) } := by
  have type : q.type = 0x50 := Core.type_of_headMsg delivered.2
  refine memRead_serves delivered ((Core.memRequest_grant asks target (pd.trans (Core.pd_takeMsg _ _ _).symm) (by rw [type]; rfl) ?_ ?_).trans ?_)
  · simp [Msg.takesLine, Msg.isWriteback, type, op]
  · simp [memOpKnown, type, op]
  · exact congrArg (Prod.mk none) ((Core.serveMem_readGrant type).trans
      (Core.serveRead_plain (c := s.core.takeMsg cid q) (r := none) type (by rw [op]; decide) rfl good))

/-- A read that nothing local holds is denied, or POISONED where it touches what was revoked (R76, R96, R310). -/
theorem memRead_nowhere {off n : Nat} (delivered : Claims.delivered s cid 0x50 none q) (asks : q.Asks off n)
    (target : s.core.memTarget off n false = none) :
    (s.core.inRevoked off n = true → exec (.memRead cid) s =
      .next { s with core := (s.core.takeMsg cid q).answerMsg s.top cid q 0x53 (memCompletion (q.arg 16 4) .poisoned 0 0 0 []) }) ∧
    (s.core.inRevoked off n = false → ∃ t, exec (.memRead cid) s = .next t ∧
      Claims.replies s t cid q 0x53 (memCompletion (q.arg 16 4) .authFail 0 0 0 []) ∧ t.core.tiers = s.core.tiers) := by
  have type : q.type = 0x50 := Core.type_of_headMsg delivered.2
  have asked : q.type = 0x51 → bit (q.arg 13 1) 0 = true := fun write => by rw [type] at write; cases write
  have reached := Core.memRequest_none (t := s.top) (cid := cid) (c := s.core.takeMsg cid q) (no := none) asks target
  have revoked : (s.core.takeMsg cid q).inRevoked off n = s.core.inRevoked off n := rfl
  refine ⟨fun touched => ?_, fun clear => ⟨_, memRead_serves delivered (reached.trans ?_), replies_memDenied asked, ?_⟩⟩
  · rw [memRead_serves delivered reached, revoked, touched, type, Core.memAnswer_answers _ _ _ _ _ asked]
    rfl
  · rw [revoked, clear, type]
    rfl
  · refine (Core.sameWork_bump _ _ _).tiers.trans ?_
    rw [Core.memAnswer_answers _ _ _ _ _ asked, Core.answerMsg, (Core.talks_sendMsg _ _ _ _ _ _ _ _).tiers]
    rfl

/-! #### Host memory (R310, R322) -/

/-- An open read of the same range of a region, with which another may be combined (R322). -/
def ReadJoin.serves (j : ReadJoin) (i op off n : Nat) : Bool := j.open_ && j.rid == i && j.op == op && j.off == off && j.len == n

/-- A read of host memory with which none is combined asks the host for its range (R310). -/
theorem Core.serveRead_host {t : Top} {off n i : Nat} {r : Region} {c : Core} (op : q.arg 12 1 = 0) (backing : r.backing = .host)
    (alone : bit r.flags 1 = false ∨ ∀ e ∈ c.fabric.joins, e.2.serves i (q.arg 12 1) off n = false) :
    ∃ k, (c.serveRead t cid q i (some r) off n).out = c.out ++ [.hostRead k (r.hostAddr + (off - r.off)) n] ∧
      (c.serveRead t cid q i (some r) off n).fabric.reads.get? k = some (.region cid (q.arg 16 4) q.cls 0 i, n) ∧
      (c.serveRead t cid q i (some r) off n).ports = c.ports := by
  have none_ : c.fabric.joins.filter (fun e => bit r.flags 1 && e.2.serves i (q.arg 12 1) off n) = [] := by
    refine List.filter_eq_nil_iff.2 fun e he => ?_
    rcases alone with alone | alone
    · simp [alone]
    · simp [alone e he]
  have host : (r.backing == .host) = true := by rw [backing]; rfl
  obtain ⟨k, asked, out⟩ := c.readHost_asks (.region cid (q.arg 16 4) q.cls 0 i) (r.hostAddr + (off - r.off)) n
  have ports : (c.readHost (.region cid (q.arg 16 4) q.cls 0 i) (r.hostAddr + (off - r.off)) n).ports = c.ports := rfl
  simp only [ReadJoin.serves, op] at none_
  refine ⟨k, ?_⟩
  simp only [Core.serveRead, op, host, none_, Option.map_some, Option.getD_some, List.head?_nil, if_true]
  simp only [show ¬(0 : Nat) = 3 by decide, decide_false, Bool.false_and, Bool.false_eq_true, if_false]
  split
  · exact ⟨out, asked, ports⟩
  · exact ⟨out, asked, ports⟩

/-- An identical read of a COMBINE region that waits for the host serves this one too (R322). -/
theorem Core.serveRead_joins {t : Top} {off n i k : Nat} {r : Region} {j : ReadJoin} {rest : Tbl ReadJoin} {c : Core} (op : q.arg 12 1 = 0)
    (backing : r.backing = .host) (combine : bit r.flags 1 = true) (first : c.fabric.joins.filter (fun e => e.2.serves i (q.arg 12 1) off n) = (k, j) :: rest)
    (at_ : c.fabric.joins.get? k = some j) :
    (c.serveRead t cid q i (some r) off n).fabric.joins.get? k = some { j with more := j.more ++ [(cid, q.arg 16 4, q.cls)] } ∧
      (c.serveRead t cid q i (some r) off n).fabric.reads = c.fabric.reads ∧ (c.serveRead t cid q i (some r) off n).out = c.out ∧
      (c.serveRead t cid q i (some r) off n).ports = c.ports := by
  have host : (r.backing == .host) = true := by rw [backing]; rfl
  simp only [ReadJoin.serves, op] at first
  simp only [Core.serveRead, op, host, combine, first, Option.map_some, Option.getD_some, List.head?_cons, if_true, Bool.true_and]
  simp only [show ¬(0 : Nat) = 3 by decide, decide_false, Bool.false_and, Bool.false_eq_true, if_false]
  generalize counted : Core.onFabric _ c = d
  have same := d.sameWork_bump (.pass (cid / 4096) 8) 1
  subst counted
  refine ⟨(congrArg (fun f : Fabric => f.joins.get? k) same.fabric).trans ?_, (congrArg Fabric.reads same.fabric).trans ?_, ?_, same.ports⟩
  · simp only [Core.onFabric, Tbl.upd, at_]
    exact Tbl.get?_set_self _ _ _
  · rfl
  · rfl

/-! #### Lines of a coherent region (R321, R326) -/

/-- Two states differ at most in what calling on the holders of a line or on subscribers changes. -/
structure Core.Calls (a b : Core) : Prop where
  tiers : b.tiers = a.tiers
  lines : b.fabric.lines = a.fabric.lines
  bufs : ∀ k, (b.conn k).bufs = (a.conn k).bufs

theorem Core.Calls.of_same {a b : Core} (tiers : b.tiers = a.tiers) (lines : b.fabric.lines = a.fabric.lines)
    (conns : b.fabric.conns = a.fabric.conns) : a.Calls b := ⟨tiers, lines, fun k => by simp only [Core.conn, conns]⟩

theorem Core.Calls.refl (c : Core) : c.Calls c := .of_same rfl rfl rfl

theorem Core.Calls.trans {a b c : Core} (h : a.Calls b) (k : b.Calls c) : a.Calls c :=
  ⟨k.tiers.trans h.tiers, k.lines.trans h.lines, fun j => (k.bufs j).trans (h.bufs j)⟩

theorem Core.SameWork.calls {a b : Core} (h : a.SameWork b) : a.Calls b := .of_same h.tiers (congrArg Fabric.lines h.fabric) (congrArg Fabric.conns h.fabric)

theorem Core.Talks.calls {a b : Core} (h : a.Talks cid b) : a.Calls b where
  tiers := h.tiers
  lines := (congrArg Fabric.lines h.still :)
  bufs k := by
    by_cases own : k = cid
    · subst own
      exact (congrArg Conn.bufs h.own :)
    · rw [h.others k own]

theorem Core.calls_foldl {α : Type} (f : Core → α → Core) (h : ∀ (c : Core) (x : α), c.Calls (f c x)) (xs : List α) (c : Core) :
    c.Calls (xs.foldl f c) := List.foldlRecOn (motive := fun d => c.Calls d) xs f (.refl c) fun b run x _ => run.trans (h b x)

theorem Core.calls_sendInvalidate (t : Top) (cid node off len kind ver : Nat) (p : Purpose) (c : Core) :
    c.Calls (c.sendInvalidate t cid node off len kind ver p) := by
  unfold Core.sendInvalidate
  dsimp only
  refine .trans (.trans ?_ (Core.talks_sendMsg _ _ _ _ _ _ _ _).calls) (Core.sameWork_bump _ _ _).calls
  exact .of_same rfl rfl rfl

/-- A request for one aligned line touches that line alone. -/
theorem linesOf_line {off : Nat} (aligned : off % 64 = 0) : linesOf off 64 = [off / 64] := by
  have last : (off + 64 - 1) / 64 + 1 - off / 64 = 1 := by omega
  rw [linesOf, last]
  rfl

section
variable {t : Top} {off no : Nat} {c : Core} (aligned : off % 64 = 0) (free : (c.line (off / 64)).busy = none)
  (first : c.lineAhead no (off / 64) = false)
include aligned free first

/-- A free line that no holder has can serve a request at once (R326). -/
theorem Core.meetLines_serves (needs : lineNeeds (c.line (off / 64)).state q = none) : c.meetLines t cid q off 64 no = (true, c) := by
  simp [Core.meetLines, linesOf_line aligned, free, first, needs]

/-- For a line that one member holds, the request waits while the home calls on that member (R326). -/
theorem Core.meetLines_calls {kind o : Nat} {next : LineState} (needs : lineNeeds (c.line (off / 64)).state q = some (kind, [o], next)) :
    c.meetLines t cid q off 64 no = (false, (c.updLine (off / 64) (fun x =>
      { x with busy := some ({ conn := cid, node := q.src, msg := q, no := no }, [o]), wbWait := false })).callMember t (off / 64) kind o) := by
  simp [Core.meetLines, linesOf_line aligned, free, first, needs]

end

/-- A read of one coherent line of local memory puts the line into the state that the read gives it, and is answered with its bytes (R326). -/
theorem Core.serveMem_line {t : Top} {off i : Nat} {r : Region} {c : Core} (type : q.type = 0x50) (op : q.arg 12 1 ≠ 3) (backing : r.backing = .device)
    (flag : bit r.flags 3 = true) (aligned : off % 64 = 0) (good : c.memPoisoned off 64 = false) :
    c.serveMem t cid q (.region i r) off 64 = (c.updLine (off / 64) (fun x => { x with state := lineAfter x.state q })).answerMsg t cid q 0x53
      (memCompletion (q.arg 16 4) .ok 0 0 0 (c.tiers.mem.readN off 64)) := by
  have here : ((some r).map (fun r => r.backing == .host)).getD false = false := by simp [backing]
  unfold Core.serveMem
  rw [type]
  simp only [flag, if_true, linesOf_line aligned, List.foldl_cons, List.foldl_nil]
  exact Core.serveRead_plain (c := c.updLine (off / 64) (fun x => { x with state := lineAfter x.state q })) type op here good

@[simp] theorem Core.line_updLine_self (l : Nat) (f : Line → Line) (c : Core) : (c.updLine l f).line l = f (c.line l) := by
  simp [Core.line, Core.updLine, Core.onFabric, Tbl.getD, Tbl.get?_set_self]

/-- The state in which a message has been taken and has its number among the requests that wait on lines (R321). -/
def Core.numbered (cid : Nat) (q : Msg) (c : Core) : Core :=
  (c.takeMsg cid q).onFabric (fun f => { f with nextLineReq := (c.takeMsg cid q).fabric.nextLineReq + 1 })

section
variable {off n i : Nat} {r : Region} (delivered : Claims.delivered s cid 0x50 none q) (asks : q.Asks off 64)
  (target : s.core.memTarget off 64 false = some (.region i r)) (pd : r.pd = (s.core.conn cid).pd) (right_ : bit r.rights 0 = true)
  (backing : r.backing = .device) (flag : bit r.flags 3 = true) (member : s.core.inDomain s.top q.src = true) (aligned : off % 64 = 0)
  (free : (s.core.line (off / 64)).busy = none) (first : s.core.lineAhead s.core.fabric.nextLineReq (off / 64) = false)
  (op : q.arg 12 1 = 1 ∨ q.arg 12 1 = 2)
include delivered asks target pd right_ backing flag member aligned free first op

omit free first in
theorem memRead_meets {go : Bool} {b : Core}
    (meets : (s.core.numbered cid q).meetLines s.top cid q off 64 s.core.fabric.nextLineReq = (go, b)) :
    exec (.memRead cid) s = .next { s with core := if go then b.serveMem s.top cid q (.region i r) off 64 else b } := by
  have type : q.type = 0x50 := Core.type_of_headMsg delivered.2
  refine memRead_serves delivered (Core.memRequest_line (c := s.core.takeMsg cid q) (no := none) asks target (pd.trans (Core.pd_takeMsg _ _ _).symm)
    (by rw [type]; exact right_) (by rw [backing]; decide) ?_ type member flag aligned rfl rfl rfl meets)
  rcases op with op | op <;> simp [memOpKnown, type, op]

/-- A line that nobody holds goes to the reader with its bytes (R326). -/
theorem memRead_uncached (good : s.core.memPoisoned off 64 = false) (state : (s.core.line (off / 64)).state = .uncached) :
    ∃ t, exec (.memRead cid) s = .next t ∧ Claims.replies s t cid q 0x53 (memCompletion (q.arg 16 4) .ok 0 0 0 (s.core.tiers.mem.readN off 64)) ∧
      (t.core.line (off / 64)).state = (if q.arg 12 1 = 1 then .shared [q.src] else .exclusive q.src) := by
  have type : q.type = 0x50 := Core.type_of_headMsg delivered.2
  have needs : lineNeeds (s.core.line (off / 64)).state q = none := by rw [state]; rfl
  have runs := memRead_meets delivered asks target pd right_ backing flag member aligned op
    (Core.meetLines_serves (c := s.core.numbered cid q) aligned free first needs)
  rw [if_pos rfl, Core.serveMem_line (c := s.core.numbered cid q) type (by omega) backing flag aligned good] at runs
  have shore : (s.core.numbered cid q).updLine (off / 64) (fun x => { x with state := lineAfter x.state q }) = (s.core.takeMsg cid q).withShore
      ((s.core.numbered cid q).updLine (off / 64) (fun x => { x with state := lineAfter x.state q })) := rfl
  rw [shore, Core.answerMsg_withShore] at runs
  refine ⟨_, runs, replies_of rfl rfl (Core.ctxs_answerMsg _ _ _ _ _ _), ?_⟩
  show (((s.core.numbered cid q).updLine (off / 64) (fun x => { x with state := lineAfter x.state q })).line (off / 64)).state = _
  have was : ((s.core.numbered cid q).line (off / 64)).state = .uncached := state
  rw [Core.line_updLine_self]
  rcases op with op | op <;> simp [lineAfter, was, type, op]

/-- A line that a member holds alone is called in; the read waits, and nothing is read (R326). -/
theorem memRead_exclusive {o : Nat} (state : (s.core.line (off / 64)).state = .exclusive o) :
    ∃ t, exec (.memRead cid) s = .next t ∧ t.top = s.top ∧
      (t.core.line (off / 64)).busy = some ({ conn := cid, node := q.src, msg := q, no := s.core.fabric.nextLineReq }, [o]) ∧
      (t.core.line (off / 64)).state = .exclusive o ∧ t.core.tiers = s.core.tiers := by
  have type : q.type = 0x50 := Core.type_of_headMsg delivered.2
  obtain ⟨kind, next, needs⟩ : ∃ kind next, lineNeeds (s.core.line (off / 64)).state q = some (kind, [o], next) := by
    rw [state]
    rcases op with op | op
    · exact ⟨4, .shared [o], by simp [lineNeeds, type, op]⟩
    · exact ⟨3, .uncached, by simp [lineNeeds, type, op]⟩
  have runs := memRead_meets delivered asks target pd right_ backing flag member aligned op
    (Core.meetLines_calls (c := s.core.numbered cid q) aligned free first needs)
  rw [if_neg Bool.false_ne_true] at runs
  generalize asked : Core.updLine (off / 64) _ (s.core.numbered cid q) = d at runs
  have calls : d.Calls (d.callMember s.top (off / 64) kind o) := d.calls_sendInvalidate _ _ _ _ _ _ _ _
  have line : (d.callMember s.top (off / 64) kind o).line (off / 64) = d.line (off / 64) := by simp only [Core.line, calls.lines]
  refine ⟨_, runs, rfl, ?_⟩
  dsimp only
  rw [line, calls.tiers, ← asked, Core.line_updLine_self]
  exact ⟨rfl, state, rfl⟩

end

end

end Sys2Proof.Machine
end

/-! ### Writes and atomics on local memory (R310, R320, R321, R323) -/

section
namespace Sys2Proof.Machine

/-- Bytes stored at an offset read back there, and nothing outside them changes. -/
def Mem.Holds (old new : Mem) (off : Nat) (bs : List Byte) : Prop :=
  new.readN off bs.length = bs ∧ ∀ x, x < off ∨ off + bs.length ≤ x → new.read x = old.read x

theorem Mem.holds_writeN (m : Mem) (off : Nat) (bs : List Byte) : Mem.Holds m (m.writeN off bs) off bs :=
  ⟨m.readN_writeN off bs, fun x outside => m.read_writeN_other bs off x outside⟩

section
variable {t : Top} {cid off n : Nat} {q : Msg} {c : Core}

theorem Msg.Asks.of_write (type : q.type = 0x51) (node : addrNode (q.arg 0 8) = q.dst) (least : 1 ≤ q.arg 8 4) (most : q.arg 8 4 ≤ 65536)
    (inside : addrLocal (q.arg 0 8) + q.arg 8 4 ≤ 2 ^ 50) (data : q.arg 8 4 ≤ (q.body.drop 40).length) :
    q.Asks (addrLocal (q.arg 0 8)) (q.arg 8 4) :=
  ⟨rfl, rfl, node, least, most, inside, fun atomic => (by rw [type] at atomic; cases atomic), fun _ => data⟩

theorem Msg.Asks.of_atomic (type : q.type = 0x52) (node : addrNode (q.arg 0 8) = q.dst) (word : q.arg 8 4 = 4 ∨ q.arg 8 4 = 8)
    (inside : addrLocal (q.arg 0 8) + q.arg 8 4 ≤ 2 ^ 50) (aligned : addrLocal (q.arg 0 8) % q.arg 8 4 = 0) :
    q.Asks (addrLocal (q.arg 0 8)) (q.arg 8 4) :=
  ⟨rfl, rfl, node, by omega, by omega, inside, fun _ => ⟨word, aligned⟩, fun write => (by rw [type] at write; cases write)⟩

/-- A write to a region that is not COHERENT_READ raises no versions (R323). -/
theorem Core.newVersions_plain {i txn : Nat} {r : Region} (at_ : c.fabric.regions.get? i = some r) (flag : bit r.flags 2 = false) :
    c.newVersions t i off n txn = (0, c) := by
  simp [Core.newVersions, at_, flag]

/-- A write to a plain region of this device is stored, and answered where it asks for that (R321). -/
theorem Core.serveMem_write {i : Nat} {r : Region} (type : q.type = 0x51) (backing : r.backing = .device) (full : bit r.flags 3 = false)
    (flag : bit r.flags 2 = false) (at_ : c.fabric.regions.get? i = some r) : c.serveMem t cid q (.region i r) off n =
      (c.memStore off ((q.body.drop 40).take n)).memAnswer t cid q .ok 0 0 0 [] := by
  have stored : (c.storeAt (some r) off ((q.body.drop 40).take n)) = c.memStore off ((q.body.drop 40).take n) := by
    simp [Core.storeAt, backing]
  have quiet := Core.newVersions_plain (t := t) (off := off) (n := n) (txn := (c.memStore off ((q.body.drop 40).take n)).fabric.nextTxn)
    (c := c.memStore off ((q.body.drop 40).take n)) at_ flag
  unfold Core.serveMem
  simp only [full, Bool.false_eq_true, if_false]
  split
  · next read => exact absurd (type.symm.trans read) (by decide)
  · next atomic => exact absurd (type.symm.trans atomic) (by decide)
  · simp only [stored, Core.writeDone, quiet, if_true]

/-- What an access at a target comes to. The accesses are variables here, so that the kernel takes the match apart without evaluating them. -/
theorem eq_target {x : Grant → Core} {y : Nat → Region → Core} {z : Core} (m : MemTarget) : (∀ g, m = .grant g → x g = z) →
    (∀ i r, m = .region i r → y i r = z) → (match m with | .grant g => x g | .region i r => y i r) = z := by
  intro grant region
  cases m with
  | grant g => exact grant g rfl
  | region i r => exact region i r rfl

/-- A write to a grant comes to what committing its storage makes of it (R96, R321). -/
theorem Core.serveMem_writeGrant {m : MemTarget} {g : Grant} {z : Core} (type : q.type = 0x51) (grant : m = .grant g)
    (full : c.commitGrant t g off n = none → c.memAnswer t cid q .noResource 0 0 0 [] = z)
    (commits : ∀ d, c.commitGrant t g off n = some d → (d.memStore off ((q.body.drop 40).take n)).memAnswer t cid q .ok 0 0 0 [] = z) :
    c.serveMem t cid q m off n = z := by
  unfold Core.serveMem
  split
  next rid r eq =>
  extract_lets c1 data
  have none_ : r = none := by
    rw [grant] at eq
    exact (congrArg Prod.snd eq).symm
  have lines : c1 = c := by
    unfold c1
    rw [none_]
  clear_value c1
  split
  · next read => exact absurd (type.symm.trans read) (by decide)
  · next atomic => exact absurd (type.symm.trans atomic) (by decide)
  · refine eq_target m (fun h same => ?_) (fun i s same => ?_)
    · cases grant.symm.trans same
      rw [lines]
      cases committed : c.commitGrant t g off n with
      | none => exact full committed
      | some d => exact commits d committed
    · cases grant.symm.trans same

/-- Committing storage for a write changes no byte (R96). -/
theorem Core.mem_commitGrant {g : Grant} {d : Core} (committed : c.commitGrant t g off n = some d) : d.tiers.mem = c.tiers.mem := by
  have took (k : Nat) (a : Core) : (a.tookUnits t k).tiers = a.tiers := by
    unfold Core.tookUnits Core.watchFree
    extract_lets b
    split
    · exact (Core.sameWork_watch _ _ _ _ _ _ _).tiers.trans rfl
    · rfl
  unfold Core.commitGrant at committed
  extract_lets us s on at committed
  split at committed
  · cases committed
    rfl
  split at committed
  · cases committed
    rw [took]
    rfl
  · cases committed

/-- Taking a message changes the connections alone. -/
theorem Core.takeMsg_conns (cid : Nat) (q : Msg) (c : Core) : ∃ cs, c.takeMsg cid q = c.withFabric { c.fabric with conns := cs } := ⟨_, rfl⟩

theorem Core.within_takeMsg (k tier bytes : Nat) : (c.takeMsg cid q).within t k tier bytes = c.within t k tier bytes := by
  obtain ⟨cs, taken⟩ := c.takeMsg_conns cid q
  rw [taken]
  rfl

theorem Core.framesFit_takeMsg (x y : Nat → Nat) : (c.takeMsg cid q).framesFit t x y = c.framesFit t x y := by
  obtain ⟨cs, taken⟩ := c.takeMsg_conns cid q
  rw [taken]
  rfl

/-- Whether storage can be committed does not turn on the message that asks for it (R96). -/
theorem Core.isSome_commitGrant_takeMsg {g : Grant} :
    ((c.takeMsg cid q).commitGrant t g off n).isSome = (c.commitGrant t g off n).isSome := by
  unfold Core.commitGrant
  simp only [Core.within_takeMsg, Core.framesFit_takeMsg, apply_ite Option.isSome, Option.isSome_some]

theorem Core.talks_memAnswer (t : Top) (cid : Nat) (q : Msg) (st : Status) (d ver old : Nat) (data : List Byte) (c : Core) :
    c.Talks cid (c.memAnswer t cid q st d ver old data) := by
  unfold Core.memAnswer
  split
  · exact .refl _ _
  · exact c.talks_sendMsg _ _ _ _ _ _ _

theorem Core.tiers_memAnswer (t : Top) (cid : Nat) (q : Msg) (st : Status) (d ver old : Nat) (data : List Byte) (c : Core) :
    (c.memAnswer t cid q st d ver old data).tiers = c.tiers := (c.talks_memAnswer _ _ _ _ _ _ _ _).tiers

/-- An atomic on a word of a plain region stores its value and answers with the old one (R320). -/
theorem Core.serveMem_atomic {i v : Nat} {r : Region} (type : q.type = 0x52) (backing : r.backing = .device) (full : bit r.flags 3 = false)
    (flag : bit r.flags 2 = false) (at_ : c.fabric.regions.get? i = some r) (good : c.memPoisoned off n = false)
    (value : atomicOp (q.arg 12 1) (8 * n) (rd (c.tiers.mem.readN off n) 0 n) (q.arg 24 8) (q.arg 32 8) = some v) :
    ∃ txn, c.serveMem t cid q (.region i r) off n =
      ((c.memStore off (le n v)).memAnswer t cid q .ok 0 0 (rd (c.tiers.mem.readN off n) 0 n) []).onFabric (fun f => { f with nextTxn := txn }) := by
  have here : (r.backing == .host) = false := by rw [backing]; rfl
  generalize answered : (c.memStore off (le n v)).memAnswer t cid q .ok 0 0 (rd (c.tiers.mem.readN off n) 0 n) [] = d
  have still : d.fabric.regions = c.fabric.regions := by
    rw [← answered]
    exact (congrArg Fabric.regions (Core.talks_memAnswer _ _ _ _ _ _ _ _ _).still :)
  have quiet := Core.newVersions_plain (t := t) (off := off) (n := n) (txn := d.fabric.nextTxn) (c := d) (still.symm ▸ at_) flag
  refine ⟨d.fabric.nextTxn + 1, ?_⟩
  unfold Core.serveMem
  simp only [full, Bool.false_eq_true, if_false]
  split
  · next read => exact absurd (type.symm.trans read) (by decide)
  · simp only [Core.serveAtomic, value, Option.map_some, Option.getD_some, here, good, Bool.false_eq_true, if_false, answered, quiet]
  · next atomic => exact absurd type atomic

end

section
variable {cid off n : Nat} {q : Msg} {s : State}

theorem memWrite_serves {d : Core} (delivered : Claims.delivered s cid 0x51 none q)
    (serves : (s.core.takeMsg cid q).memRequest s.top cid q none = (none, d)) : exec (.memWrite cid) s = .next { s with core := d } := by
  refine congrArg Host.Outcome.next ((onMsg_delivered delivered _).trans ?_)
  rw [Core.memArrives_of serves]

theorem memAtomic_serves {d : Core} (delivered : Claims.delivered s cid 0x52 none q)
    (serves : (s.core.takeMsg cid q).memRequest s.top cid q none = (none, d)) : exec (.memAtomic cid) s = .next { s with core := d } := by
  refine congrArg Host.Outcome.next ((onMsg_delivered delivered _).trans ?_)
  rw [Core.memArrives_of serves]

/-- What is stored before an answer stays as the answer is sent, and the answer is the one that would have been sent without it. -/
theorem stored_answer {u : Core} {type : Nat} {body bs : List Byte} :
    Mem.Holds u.tiers.mem ((u.memStore off bs).answerMsg s.top cid q type body).tiers.mem off bs ∧
    ((u.memStore off bs).answerMsg s.top cid q type body).ports = (u.answerMsg s.top cid q type body).ports ∧
    ((u.memStore off bs).answerMsg s.top cid q type body).fabric.conns = (u.answerMsg s.top cid q type body).fabric.conns := by
  have sent : (u.memStore off bs).answerMsg s.top cid q type body = (u.answerMsg s.top cid q type body).withInner (u.memStore off bs) :=
    Core.answerMsg_withInner (k := u.memStore off bs) s.top cid q type body u
  rw [sent]
  exact ⟨Mem.holds_writeN _ _ _, rfl, rfl⟩

section
variable {i : Nat} {r : Region} (asks : q.Asks off n) (target : s.core.memTarget off n false = some (.region i r))
  (at_ : s.core.fabric.regions.get? i = some r) (pd : r.pd = (s.core.conn cid).pd) (backing : r.backing = .device) (flag : bit r.flags 2 = false)
  (full : bit r.flags 3 = false)
include asks target at_ pd backing flag full

/-- A write to a plain region of this device stores its bytes, and is answered where it asks for that (R321). -/
theorem memWrite_region (delivered : Claims.delivered s cid 0x51 none q) (right_ : bit r.rights 1 = true) (op : q.arg 12 1 = 0) :
    ∃ t, exec (.memWrite cid) s = .next t ∧ Mem.Holds s.core.tiers.mem t.core.tiers.mem off ((q.body.drop 40).take n) ∧
      (bit (q.arg 13 1) 0 = true → Claims.replies s t cid q 0x53 (memCompletion (q.arg 16 4) .ok 0 0 0 [])) ∧
      (bit (q.arg 13 1) 0 = false → t.core.ports = s.core.ports ∧ t.core.out = s.core.out) := by
  have type : q.type = 0x51 := Core.type_of_headMsg delivered.2
  have served := Core.memRequest_region (t := s.top) (c := s.core.takeMsg cid q) (no := none) asks target (pd.trans (Core.pd_takeMsg _ _ _).symm)
    (by rw [type]; exact right_) (by rw [backing]; decide) (by simp [memOpKnown, type, op]) (by simp [Msg.takesLine, Msg.isWriteback, type, op])
    (fun atomic => absurd (type.symm.trans atomic) (by decide)) full
  rw [Core.serveMem_write (c := s.core.takeMsg cid q) type backing full flag at_] at served
  refine ⟨_, memWrite_serves delivered served, ?_⟩
  cases ack : bit (q.arg 13 1) 0 with
  | true =>
    rw [Core.memAnswer_answers _ _ _ _ _ fun _ => ack]
    obtain ⟨holds, ports, conns⟩ := stored_answer (s := s) (cid := cid) (off := off) (q := q) (u := s.core.takeMsg cid q) (type := 0x53)
      (body := memCompletion (q.arg 16 4) .ok 0 0 0 []) (bs := (q.body.drop 40).take n)
    exact ⟨holds, fun _ => replies_of ports conns (Core.ctxs_answerMsg _ _ _ _ _ _), fun silent => absurd silent (by decide)⟩
  | false =>
    rw [Core.memAnswer, if_pos (by simp [type, ack])]
    exact ⟨Mem.holds_writeN _ _ _, fun asked => absurd asked (by decide), fun _ => ⟨rfl, rfl⟩⟩

/-- An atomic on a word of a plain region of this device stores its value and answers with the old one (R320). -/
theorem memAtomic_region {v : Nat} (delivered : Claims.delivered s cid 0x52 none q) (right_ : bit r.rights 2 = true)
    (good : s.core.memPoisoned off n = false)
    (value : atomicOp (q.arg 12 1) (8 * n) (rd (s.core.tiers.mem.readN off n) 0 n) (q.arg 24 8) (q.arg 32 8) = some v)
    (least : 1 ≤ q.arg 12 1) (most : q.arg 12 1 ≤ 6) :
    ∃ t, exec (.memAtomic cid) s = .next t ∧ Mem.Holds s.core.tiers.mem t.core.tiers.mem off (le n v) ∧
      Claims.replies s t cid q 0x53 (memCompletion (q.arg 16 4) .ok 0 0 (rd (s.core.tiers.mem.readN off n) 0 n) []) := by
  have type : q.type = 0x52 := Core.type_of_headMsg delivered.2
  have asked : q.type = 0x51 → bit (q.arg 13 1) 0 = true := fun write => absurd (type.symm.trans write) (by decide)
  have served := Core.memRequest_region (t := s.top) (c := s.core.takeMsg cid q) (no := none) asks target (pd.trans (Core.pd_takeMsg _ _ _).symm)
    (by rw [type]; exact right_) (by rw [backing]; decide) (by simp [memOpKnown, type, least, most]) (by simp [Msg.takesLine, Msg.isWriteback, type])
    (fun _ => backing) full
  obtain ⟨txn, stored⟩ := Core.serveMem_atomic (t := s.top) (cid := cid) (c := s.core.takeMsg cid q) type backing full flag at_ good value
  rw [stored, Core.memAnswer_answers _ _ _ _ _ asked] at served
  obtain ⟨holds, ports, conns⟩ := stored_answer (s := s) (cid := cid) (off := off) (q := q) (u := s.core.takeMsg cid q) (type := 0x53)
    (body := memCompletion (q.arg 16 4) .ok 0 0 (rd (s.core.tiers.mem.readN off n) 0 n) []) (bs := le n v)
  exact ⟨_, memAtomic_serves delivered served, holds, replies_of ports conns (Core.ctxs_answerMsg _ _ _ _ _ _)⟩

end

section
variable (delivered : Claims.delivered s cid 0x51 none q) (asks : q.Asks off n)
include delivered asks

theorem memWrite_grant {g : Grant} (target : s.core.memTarget off n false = some (.grant g)) (pd : g.pd = (s.core.conn cid).pd) (op : q.arg 12 1 = 0) :
    exec (.memWrite cid) s = .next { s with core := (s.core.takeMsg cid q).serveMem s.top cid q (.grant g) off n } := by
  have type : q.type = 0x51 := Core.type_of_headMsg delivered.2
  exact memWrite_serves delivered (Core.memRequest_grant (c := s.core.takeMsg cid q) (no := none) asks target (pd.trans (Core.pd_takeMsg _ _ _).symm)
    (by rw [type]; rfl) (by simp [Msg.takesLine, Msg.isWriteback, type, op]) (by simp [memOpKnown, type, op]))

section
variable {g : Grant} (target : s.core.memTarget off n false = some (.grant g)) (pd : g.pd = (s.core.conn cid).pd) (op : q.arg 12 1 = 0)
include target pd op

/-- A write to a grant whose storage stands or can be committed is stored (R96, R321). -/
theorem memWrite_commits (committed : (s.core.commitGrant s.top g off n).isSome = true) :
    ∃ t, exec (.memWrite cid) s = .next t ∧ Mem.Holds s.core.tiers.mem t.core.tiers.mem off ((q.body.drop 40).take n) := by
  have type : q.type = 0x51 := Core.type_of_headMsg delivered.2
  rw [← Core.isSome_commitGrant_takeMsg (cid := cid) (q := q)] at committed
  obtain ⟨d, some_⟩ := Option.isSome_iff_exists.1 committed
  refine ⟨_, memWrite_grant delivered asks target pd op, ?_⟩
  have served : (s.core.takeMsg cid q).serveMem s.top cid q (.grant g) off n =
      (d.memStore off ((q.body.drop 40).take n)).memAnswer s.top cid q .ok 0 0 0 [] :=
    Core.serveMem_writeGrant type rfl (fun none_ => by cases some_.symm.trans none_) fun e found => by rw [Option.some.inj (found.symm.trans some_)]
  have mem : d.tiers.mem = s.core.tiers.mem := (Core.mem_commitGrant some_).trans rfl
  dsimp only
  rw [served, Core.tiers_memAnswer, ← mem]
  exact Mem.holds_writeN _ _ _

/-- A write that touches only storage that stands commits none (R96). -/
theorem memWrite_stands (stands : g.fresh off n = []) : ∃ t, exec (.memWrite cid) s = .next t ∧
    Mem.Holds s.core.tiers.mem t.core.tiers.mem off ((q.body.drop 40).take n) ∧ t.core.tiers.grants = s.core.tiers.grants := by
  have type : q.type = 0x51 := Core.type_of_headMsg delivered.2
  have same : (s.core.takeMsg cid q).commitGrant s.top g off n = some (s.core.takeMsg cid q) := by simp [Core.commitGrant, stands]
  refine ⟨_, memWrite_grant delivered asks target pd op, ?_⟩
  have served : (s.core.takeMsg cid q).serveMem s.top cid q (.grant g) off n =
      ((s.core.takeMsg cid q).memStore off ((q.body.drop 40).take n)).memAnswer s.top cid q .ok 0 0 0 [] :=
    Core.serveMem_writeGrant type rfl (fun none_ => by cases same.symm.trans none_) fun e found => by rw [Option.some.inj (found.symm.trans same)]
  dsimp only
  rw [served, Core.tiers_memAnswer]
  exact ⟨Mem.holds_writeN _ _ _, rfl⟩

/-- A write for which the client has no quota left is answered NO_RESOURCE (R96). -/
theorem memWrite_full (fresh : g.fresh off n ≠ []) (quota : s.core.within s.top g.client 1 (65536 * (g.fresh off n).length) = false)
    (ack : bit (q.arg 13 1) 0 = true) : exec (.memWrite cid) s = .next { s with core := ((s.core.takeMsg cid q).answerMsg s.top cid q 0x53
      (memCompletion (q.arg 16 4) .noResource 0 0 0 [])) } := by
  have type : q.type = 0x51 := Core.type_of_headMsg delivered.2
  have none_ : (s.core.takeMsg cid q).commitGrant s.top g off n = none := by
    simp [Core.commitGrant, fresh, Core.within_takeMsg, quota]
  rw [memWrite_grant delivered asks target pd op, Core.serveMem_writeGrant type rfl
    (fun _ => Core.memAnswer_answers _ _ _ _ _ fun _ => ack) fun e found => by cases none_.symm.trans found]

end

/-- A write that nothing local holds is denied (R76, R310). -/
theorem memWrite_nowhere (target : s.core.memTarget off n false = none) :
    ∃ t, exec (.memWrite cid) s = .next t ∧ t.core.tiers = s.core.tiers ∧ t.core.fabric.regions = s.core.fabric.regions := by
  have type : q.type = 0x51 := Core.type_of_headMsg delivered.2
  have reached := Core.memRequest_none (t := s.top) (cid := cid) (c := s.core.takeMsg cid q) (no := none) asks target
  rw [if_neg (by simp [type])] at reached
  refine ⟨_, memWrite_serves delivered reached, ?_⟩
  have counted := ((s.core.takeMsg cid q).memAnswer s.top cid q .authFail 0 0 0 []).sameWork_bump (.pass (cid / 4096) 3) 1
  exact ⟨counted.tiers.trans (Core.tiers_memAnswer _ _ _ _ _ _ _ _ _),
    (congrArg Fabric.regions counted.fabric).trans (congrArg Fabric.regions (Core.talks_memAnswer _ _ _ _ _ _ _ _ _).still :)⟩

end

end

end Sys2Proof.Machine
end

/-! ### Invalidations, completions, SENDs, and the next request of a line (R311, R319, R321, R324, R326) -/

section
namespace Sys2Proof.Machine

theorem Core.talks_answerMsg (t : Top) (cid : Nat) (q : Msg) (type : Nat) (body : List Byte) (c : Core) :
    c.Talks cid (c.answerMsg t cid q type body) := c.talks_sendMsg _ _ _ _ _ _ _

theorem Core.calls_newVersions (t : Top) (rid off n txn : Nat) (c : Core) : c.Calls (c.newVersions t rid off n txn).2 := by
  unfold Core.newVersions
  split
  · exact .refl c
  next r _ =>
  split
  · exact .refl c
  refine List.foldlRecOn (motive := fun p : Nat × Core => c.Calls p.2) _ _ (.refl c) fun p run g _ => run.trans ?_
  refine .trans ?_ (Core.calls_foldl _ (fun d x => d.calls_sendInvalidate _ _ _ _ _ _ _ _) _ _)
  exact .of_same rfl rfl rfl

theorem Core.calls_wrote (t : Top) (rid off n : Nat) (c : Core) : c.Calls (c.wrote t rid off n) := by
  unfold Core.wrote
  extract_lets txn
  have versions := c.calls_newVersions t rid off n txn
  split
  next k d found =>
  rw [found] at versions
  split
  · exact versions
  · exact versions.trans (.of_same rfl rfl rfl)

section
variable {cid : Nat} {q : Msg} {s : State}

/-- An INVALIDATE is answered at once, with WB_SENT where a WRITEBACK of the line has been sent (R324, R326). -/
theorem invalidate_answers (delivered : Claims.delivered s cid 0x54 none q) : exec (.invalidate cid) s =
    .next { s with core := ((s.core.takeMsg cid q).answerMsg s.top cid q 0x53 (memCompletion (q.arg 16 4) .ok
      (b2n (decide (q.arg 12 1 ≠ 1) && s.core.fabric.writtenBack.contains (q.arg 0 8))) 0 0 [])) } :=
  congrArg Host.Outcome.next (onMsg_delivered delivered _)

/-- A MEM_COMPLETION ends the MEM_ISSUE of its tag (R319). -/
theorem memCompletion_stages {k m : Nat} {x : Req} {st : Status} (delivered : Claims.delivered s cid 0x53 none q)
    (status : Status.ofCode (q.arg 4 1) = some st)
    (found : s.core.findReq cid (fun k x => (x.type == 0x50 || x.type == 0x51 || x.type == 0x52 || x.type == 0x54) && k % 2 ^ 32 == q.arg 0 4) =
      some (k, x)) (purpose : x.purpose = .memIssue m) : exec (.memCompletion cid) s =
    .next { s with core := (((s.core.takeMsg cid q).dropReq k).stage m st (q.arg 5 3) (q.body.take (24 + q.arg 12 4))) } := by
  replace found : (s.core.takeMsg cid q).findReq cid
    (fun k x => (x.type == 0x50 || x.type == 0x51 || x.type == 0x52 || x.type == 0x54) && k % 2 ^ 32 == q.arg 0 4) = some (k, x) := found
  refine congrArg Host.Outcome.next ((onMsg_delivered delivered _).trans ?_)
  simp only [Core.memCompleted, found, status, purpose]

/-- A SEND_ACK ACK ends the oldest SEND of its tag with the remote status (R311). -/
theorem sendAck_stages {k m : Nat} {x : Req} {st : Status} (delivered : Claims.delivered s cid 0x61 (some 1) q)
    (status : Status.ofCode (q.arg 1 1) = some st) (found : s.core.findReq cid (fun _ x => x.type == 0x60 && x.tag == q.arg 4 4) = some (k, x))
    (purpose : x.purpose = .sendPost m) : exec (.sendAck cid) s = .next { s with core := (((s.core.takeMsg cid q).dropReq k).stage m st (q.arg 12 3)
      (le 1 st.code ++ zeros 3 ++ le 4 (q.arg 8 4))) } := by
  replace found : (s.core.takeMsg cid q).findReq cid (fun _ x => x.type == 0x60 && x.tag == q.arg 4 4) = some (k, x) := found
  refine congrArg Host.Outcome.next ((onMsg_delivered delivered _).trans ?_)
  simp only [Core.sendAcked, found, status, purpose]

/-! #### SEND (R311) -/

theorem send_noBuffer (delivered : Claims.delivered s cid 0x60 none q) (none_ : (s.core.conn cid).bufs = []) : exec (.send cid) s =
    .next { s with core := ((s.core.takeMsg cid q).answerMsg s.top cid q 0x61 (sendAck (q.arg 0 4) .noResource 0 0)) } := by
  refine congrArg Host.Outcome.next ((onMsg_delivered delivered _).trans ?_)
  simp only [Core.sendArrives, Core.bufs_takeMsg, none_]

/-- A SEND that fits its buffer is stored there, and the buffer is used up (R311). -/
theorem send_stores {b : RecvBuf} {rest : List RecvBuf} {r : Region} (delivered : Claims.delivered s cid 0x60 none q)
    (first : (s.core.conn cid).bufs = b :: rest) (fits : (q.body.drop 8).length ≤ b.len) (at_ : s.core.fabric.regions.get? b.region = some r)
    (pd : r.pd = (s.core.conn cid).pd) (open_ : r.closing = none) (backing : r.backing = .device) : ∃ t, exec (.send cid) s = .next t ∧
      t.top = s.top ∧ (t.core.conn cid).bufs = rest ∧ Mem.Holds s.core.tiers.mem t.core.tiers.mem (r.off + b.off) (q.body.drop 8) := by
  refine ⟨_, congrArg Host.Outcome.next (onMsg_delivered delivered _), rfl, ?_⟩
  dsimp only
  generalize data : q.body.drop 8 = bs at fits ⊢
  generalize used : (s.core.takeMsg cid q).updConn cid (fun n => { n with bufs := rest }) = u
  have region : (u.fabric.regions.get? b.region).filter (fun r => r.pd == (u.conn cid).pd && r.closing.isNone) = some r := by
    have same : u.fabric.regions = s.core.fabric.regions := used ▸ rfl
    have domain : (u.conn cid).pd = (s.core.conn cid).pd := by rw [← used, Core.conn_updConn_self, ← Core.pd_takeMsg cid q s.core]
    rw [same, at_, domain, ← pd]
    simp [open_]
  have stored : u.storeAt (some r) (r.off + b.off) bs = u.memStore (r.off + b.off) bs := by simp [Core.storeAt, backing]
  have arrives : (s.core.takeMsg cid q).sendArrives s.top cid q = ((((u.memStore (r.off + b.off) bs).wrote s.top b.region (r.off + b.off) bs.length).answerMsg
      s.top cid q 0x61 (sendAck (q.arg 0 4) .ok 0 bs.length)).raise s.top 0x0A01 (passDie (cid / 4096)) cid (le 4 b.tag ++ le 4 bs.length)) := by
    simp only [Core.sendArrives, Core.bufs_takeMsg, first, data, Nat.not_lt.2 fits, if_false, used, region, stored]
  have calls := (((u.memStore (r.off + b.off) bs).calls_wrote s.top b.region (r.off + b.off) bs.length).trans
    (Core.talks_answerMsg s.top cid q 0x61 (sendAck (q.arg 0 4) .ok 0 bs.length) _).calls).trans
    (Core.sameWork_raise s.top 0x0A01 (passDie (cid / 4096)) cid (le 4 b.tag ++ le 4 bs.length) _).calls
  have bufs : ((u.memStore (r.off + b.off) bs).conn cid).bufs = rest := by
    show (u.conn cid).bufs = rest
    rw [← used, Core.conn_updConn_self]
  have mem : (u.memStore (r.off + b.off) bs).tiers.mem = s.core.tiers.mem.writeN (r.off + b.off) bs := by
    subst used
    rfl
  rw [arrives]
  exact ⟨(calls.bufs cid).trans bufs, by rw [calls.tiers, mem]; exact Mem.holds_writeN _ _ _⟩

end

/-! #### The next request of a line (R321, R326) -/

section
variable {l : Nat} {q : Msg} {s : State}

theorem coherentRequest_next (live : s.top.live = true) : exec (.coherentRequest l) s = .next { s with core := s.core.lineNext s.top l } :=
  State.next_onCore live fun t c => c.lineNext t l

theorem Core.lineNext_busy {t : Top} {c : Core} (busy : (c.line l).busy.isSome = true) : c.lineNext t l = c := by
  obtain ⟨b, busy⟩ := Option.isSome_iff_exists.1 busy
  simp only [Core.lineNext, busy]

theorem Core.lineNext_nobody {t : Top} {c : Core} (nobody : (c.line l).queue = []) : c.lineNext t l = c := by
  unfold Core.lineNext
  simp only [nobody]
  cases (c.line l).busy <;> rfl

/-- Nothing that waits is ahead of a request once it has left its own line's queue (R321). -/
theorem Core.lineAhead_updLine {c : Core} {w : LineReq} {rest : List LineReq} {no : Nat} (free : (c.line l).busy = none)
    (queue : (c.line l).queue = w :: rest) (first : c.lineAhead no l = false) :
    (c.updLine l (fun x => { x with queue := rest })).lineAhead no l = false := by
  have queued : ∃ x, c.fabric.lines.get? l = some x ∧ c.line l = x := by
    cases at_ : c.fabric.lines.get? l with
    | none => simp [Core.line, Tbl.getD, at_] at queue
    | some x => exact ⟨x, rfl, by simp [Core.line, Tbl.getD, at_]⟩
  obtain ⟨x, at_, line⟩ := queued
  have old := fun y (here : y ∈ c.fabric.lines.vals) => List.any_eq_false.1 first y here
  refine List.any_eq_false.2 fun y here => ?_
  obtain ⟨e, he, rfl⟩ := List.mem_map.1 here
  rcases Tbl.mem_set _ _ _ _ he with rfl | kept
  · have was := old x (Tbl.mem_vals_of_get? at_)
    rw [← line, free, queue] at was
    have now_ : (c.fabric.lines.getD l {}) = c.line l := rfl
    simp only [now_, free, Option.map_none, Option.getD_none, List.append_nil, List.any_cons, Bool.or_eq_true, not_or] at was ⊢
    exact was.2
  · exact old e.2 (List.mem_map_of_mem kept)

/-- Where no region is closing, a line that is done closes none (R331). -/
theorem Core.closeAt_none {off : Nat} {c : Core} (none_ : ∀ e ∈ c.fabric.regions, e.2.closing = none) : c.closeAt off = c := by
  have found : c.fabric.regions.find? (fun e => e.2.closing.isSome && e.2.off ≤ off && off < e.2.off + e.2.size) = none :=
    List.find?_eq_none.2 fun e he => by simp [none_ e he]
  simp only [Core.closeAt, found]

/-- The next READ_SHARED of a line that nobody holds takes it (R318, R326). -/
theorem Core.lineNext_shares {t : Top} {c : Core} {w : LineReq} {rest : List LineReq} {i : Nat} {r : Region} (free : (c.line l).busy = none)
    (state : (c.line l).state = .uncached) (queue : (c.line l).queue = w :: rest) (first : c.lineAhead w.no l = false)
    (type : w.msg.type = 0x50) (op : w.msg.arg 12 1 = 1) (asks : w.msg.Asks (64 * l) 64)
    (target : c.memTarget (64 * l) 64 true = some (.region i r)) (pd : r.pd = (c.conn w.conn).pd) (right_ : bit r.rights 0 = true)
    (backing : r.backing = .device) (good : c.memPoisoned (64 * l) 64 = false) (flag : bit r.flags 3 = true)
    (member : c.inDomain t w.msg.src = true) (open_ : ∀ e ∈ c.fabric.regions, e.2.closing = none) :
    ((c.lineNext t l).line l).queue = rest ∧ ((c.lineNext t l).line l).state = .shared [w.msg.src] ∧ (c.lineNext t l).tiers = c.tiers := by
  have aligned : 64 * l % 64 = 0 := by omega
  have index : 64 * l / 64 = l := by omega
  generalize left : c.updLine l (fun x => { x with queue := rest }) = d
  have line : d.line l = { c.line l with queue := rest } := by rw [← left, Core.line_updLine_self]
  have ahead : d.lineAhead w.no l = false := by
    rw [← left]
    exact Core.lineAhead_updLine free queue first
  have meets : d.meetLines t w.conn w.msg (64 * l) 64 w.no = (true, d) :=
    Core.meetLines_serves aligned (by rw [index, line]; exact free) (by rw [index]; exact ahead) (by rw [index, line, state]; rfl)
  have asked := Core.memRequest_line (t := t) (cid := w.conn) (c := d) (no := some w.no) asks (by rw [← left]; exact target)
    (by rw [← left]; exact pd) (by rw [type]; exact right_) (by rw [backing]; decide) (by simp [memOpKnown, type, op]) type
    (by rw [← left]; exact member) flag aligned rfl rfl rfl meets
  rw [if_pos rfl, Core.serveMem_line type (by omega) backing flag aligned (by rw [← left]; exact good)] at asked
  generalize sent : Core.answerMsg t w.conn w.msg 0x53 _ _ = e at asked
  have talks := sent ▸ Core.talks_answerMsg t w.conn w.msg 0x53 _ _
  have regions : e.fabric.regions = c.fabric.regions := (congrArg Fabric.regions talks.still).trans (by rw [← left]; rfl)
  have next : c.lineNext t l = e := by
    simp only [Core.lineNext, free, queue, first, Bool.false_eq_true, if_false, left, asked]
    exact Core.closeAt_none (regions ▸ open_)
  have lines : e.line l = { d.line l with state := lineAfter (d.line l).state w.msg } := by
    simp only [Core.line, talks.calls.lines]
    rw [index]
    exact Core.line_updLine_self _ _ _
  rw [next, lines, line, state]
  exact ⟨rfl, by simp [lineAfter, type, op], talks.tiers.trans (by rw [← left]; rfl)⟩

end

end Sys2Proof.Machine
end

/-! ### Remote memory, all in all (R96, R310, R311, R317 to R323, R326) -/

section
namespace Sys2Proof.Machine

/-- Settles O54, request by request: one that passes its checks reaches its target, is served there byte for byte, and is answered. -/
theorem remoteMemoryIsReadWrittenAndCoherent : Obligations.RemoteMemoryIsReadWrittenAndCoherent := by
  intro cid q s c n off op tag data mem u sends fits wrote plain good same
  refine ⟨fun delivered ⟨node, least, most, inside⟩ => ?_, fun delivered ⟨node, least, most, inside⟩ long => ?_,
    fun delivered ⟨node, _, _, inside⟩ word aligned i r v target at_ ⟨pd, right_, backing⟩ good flag full value least most => ?_,
    fun delivered => invalidate_answers delivered,
    fun k x m st delivered status found purpose => memCompletion_stages delivered status found purpose,
    fun delivered => ⟨fun none_ => send_noBuffer delivered none_, fun b r rest first fits at_ pd open_ backing => ?_⟩,
    fun k x m st delivered status found purpose => sendAck_stages delivered status found purpose, fun l live => ?_⟩
  · have type : q.type = 0x50 := Core.type_of_headMsg delivered.2
    have asks : q.Asks off n := Msg.Asks.of_read type node least most inside
    refine ⟨fun i r target ⟨pd, right_, backing⟩ good flag => ?_, fun i r target pd right_ backing flag op => ?_,
      fun g target pd op good => memRead_grant delivered asks target pd op good, fun target => memRead_nowhere delivered asks target,
      fun i r target ⟨pd, right_, backing⟩ good flag member aligned line free first => ?_⟩
    · have serves (op : q.arg 12 1 = 0 ∨ q.arg 12 1 = 3) := memRead_region delivered asks target pd right_ (by rw [backing]; decide) flag op
      refine ⟨fun op => (serves (.inl op)).trans ?_, fun op versioned one => (serves (.inr op)).trans ?_⟩
      · rw [Core.serveRead_plain (c := s.core.takeMsg cid q) type (by omega) (by simp [backing]) good]
        rfl
      · rw [Core.serveRead_versioned (c := s.core.takeMsg cid q) type op backing good versioned one]
        rfl
    · have runs := memRead_region delivered asks target pd right_ (by rw [backing]; decide) flag (.inl op)
      refine ⟨fun alone => ?_, fun k j rest combine first at_ => ?_⟩
      · obtain ⟨k, out, reads, ports⟩ := Core.serveRead_host (t := s.top) (c := s.core.takeMsg cid q) op backing alone
        exact ⟨_, k, runs, out, reads, ports⟩
      · obtain ⟨joins, reads, out, ports⟩ := Core.serveRead_joins (t := s.top) (c := s.core.takeMsg cid q) op backing combine first at_
        exact ⟨_, runs, joins, reads, out, ports⟩
    · have whole : q.Asks off 64 := by rw [← line]; exact asks
      have reached : s.core.memTarget off 64 false = some (.region i r) := by rw [← line]; exact target
      have clean : s.core.memPoisoned off 64 = false := by rw [← line]; exact good
      refine ⟨fun state op => ?_, fun o state op => memRead_exclusive delivered whole reached pd right_ backing flag member aligned free first op state⟩
      have bytes : mem.readN off n = mem.readN off 64 := congrArg (mem.readN off) line
      rw [bytes]
      exact memRead_uncached delivered whole reached pd right_ backing flag member aligned free first op clean state
  · have type : q.type = 0x51 := Core.type_of_headMsg delivered.2
    have asks : q.Asks off n := Msg.Asks.of_write type node least most inside long
    refine ⟨fun i r target at_ ⟨pd, right_, backing⟩ flag full op =>
      memWrite_region asks target at_ pd backing flag full delivered right_ op, fun g target pd op => ?_,
      fun target => memWrite_nowhere delivered asks target⟩
    exact ⟨fun stands => memWrite_stands delivered asks target pd op stands, fun commits => memWrite_commits delivered asks target pd op commits,
      fun fresh quota ack => memWrite_full delivered asks target pd op fresh quota ack⟩
  · have type : q.type = 0x52 := Core.type_of_headMsg delivered.2
    have asks : q.Asks off n := Msg.Asks.of_atomic type node word inside aligned
    exact memAtomic_region asks target at_ pd backing flag full delivered right_ good value least most
  · obtain ⟨t, run, top, bufs, bytes, outside⟩ := send_stores delivered first fits at_ pd open_ backing
    exact ⟨t, run, top, bufs, bytes, outside⟩
  · have next := coherentRequest_next (l := l) live
    refine ⟨fun busy => by rw [next, Core.lineNext_busy busy], fun nobody => by rw [next, Core.lineNext_nobody nobody],
      fun w rest i r free state queue first conn msg type op ⟨node, _, _, inside⟩ place size target ⟨pd, right_, backing⟩
        good flag member open_ => ?_⟩
    subst conn msg
    have asks : w.msg.Asks (64 * l) 64 := ⟨place, size, node, by decide, by decide, by omega,
      fun atomic => absurd (type.symm.trans atomic) (by decide), fun write => absurd (type.symm.trans write) (by decide)⟩
    have reached : s.core.memTarget (64 * l) 64 true = some (.region i r) :=
      (congrArg₂ (fun a b => s.core.memTarget a b true) place size).symm.trans target
    have clean : s.core.memPoisoned (64 * l) 64 = false := (congrArg₂ s.core.memPoisoned place size).symm.trans good
    exact ⟨_, next, Core.lineNext_shares free state queue first type op asks reached pd right_ backing clean flag member open_⟩

end Sys2Proof.Machine
end

/-! ### Jobs, roles and mailboxes (R145, R372 to R376) -/

section
namespace Sys2Proof.Machine

theorem Core.sameWork_watchFree (t : Top) (c : Core) : c.SameWork (c.watchFree t) := by
  unfold Core.watchFree
  split
  · exact c.sameWork_watch _ _ _ _ _ _
  · exact .refl c

/-- A job without an index gives its Crests the partitions of its role (R91). -/
theorem Core.parts_role {c : Core} (none_ : c.search.idxs = []) (r : Role) : c.parts { role := r } = partsOf r := by
  have need : c.tableNeed = 0 := by simp [Core.tableNeed, none_, searchNeed]
  cases r <;> simp [Core.parts, need, Parts.raise, partsOf]

/-- What a bind leaves (R375). -/
theorem Core.bind_binds (t : Top) (sh : List Byte) (id count : Nat) (r : Role) (c : Core) :
    let b := c.bind t sh id count r
    (∃ j, b.job = some j ∧ j.id = id ∧ j.shape = sh ∧ j.clientCount = count ∧ j.quiesced = false) ∧
      b.pact = { role := r } ∧ b.pset = { role := r } ∧ b.ctxs = c.ctxs ∧ b.tiers = { c.tiers with tier0 := partsOf r } ∧
      b.ports = c.ports ∧ b.host.mboxes = c.host.mboxes := by
  intro b
  unfold b Core.bind
  extract_lets p per c1 c2 c3 c4 c5
  have w := Core.sameWork_watchFree t ((c5.powerUp (keptBy r)).useEngines t (keptBy r))
  have parts : c2.parts p = partsOf r := Core.parts_role rfl r
  refine ⟨⟨_, w.job, rfl, rfl, rfl, rfl⟩, w.pact, w.pset, w.ctxs, w.tiers.trans ?_, w.ports, w.mboxes⟩
  rw [← parts]
  rfl

section
variable {m : Nat} {a : Cmd} {s : State}

/-- A command that also changes the device's own state, once it passes its checks. -/
theorem runTop_takes {op : Nat} (h : Takes s m op a) (body : Top → Core → Nat → Cmd → Chk (Top × Core × Option Resp)) {t : Top} {c : Core}
    {r : Option Resp} (hb : body s.top s.core m a = .ok (t, c, r)) :
    runTop m op body s = { s with top := t, core := s.core.finish m (.ok (c, r)) } := by
  simp only [runTop, h.toTaken.ready, State.onBoth, h.live, h.precheck, hb, bind, Except.bind, if_true]

/-- JOB_BIND. -/
theorem jobBindBody_binds {r : Role} (t : Top) (c : Core) (node : t.nodeId ≠ 0x3FFF) (shape : shapeCheck (a.args.take 840) = .ok ())
    (id : a.arg 840 4 ≠ 0) (role : Role.ofCode (a.arg 844 1) = some r) (least : 1 ≤ a.arg 846 2) (most : a.arg 846 2 ≤ 256) :
    ∃ p : List Byte, p.length = 16 ∧ jobBindBody t c m a =
      .ok ({ t with dev := .bound }, c.bind t (a.args.take 840) (a.arg 840 4) (a.arg 846 2) r, some ⟨.ok, 0, p⟩) := by
  have nodeFits : (t.nodeId != 0x3FFF) = true := by simpa using node
  have idFits : (a.arg 840 4 != 0) = true := by simpa using id
  have countFits : (decide (1 ≤ a.arg 846 2) && decide (a.arg 846 2 ≤ 256)) = true := by simp [least, most]
  let b := c.bind t (a.args.take 840) (a.arg 840 4) (a.arg 846 2) r
  refine ⟨le 4 b.frameF ++ le 4 b.f1 ++ le 4 b.floor ++ le 4 b.slotB, by simp, ?_⟩
  simp only [jobBindBody, needArg, need, nodeFits, idFits, countFits, shape, role, bind, Except.bind, if_true]
  rfl

/-- JOB_RELEASE. -/
theorem jobRelease_drains (takes : Takes s m 0x0104 a) :
    ∃ c : Core, exec (.jobRelease m) s = .next { s with top := { s.top with dev := .draining }, core := c.start m } := by
  obtain ⟨c, runs⟩ : ∃ c, jobReleaseBody s.top s.core m a = .ok ({ s.top with dev := .draining }, c, none) := by
    unfold jobReleaseBody
    extract_lets t c1 opened c2
    have top : ({ (releaseStep t c2).1 with dev := .draining } : Top) = { s.top with dev := .draining } := by
      obtain same | moved := releaseStep_top t c2
      · rw [same]
      · rw [moved]
    exact ⟨_, by rw [← top]⟩
  exact ⟨c, congrArg Host.Outcome.next (runTop_takes takes jobReleaseBody runs)⟩

/-- ROLE_SET. -/
theorem roleSetBody_eq {r : Role} (t : Top) (c : Core) (role : Role.ofCode (a.arg 0 1) = some r) :
    roleSetBody t c m a =
      if bit (a.arg 1 1) 0 then waits ((c.setNext (fun p => { p with role := r, partsNo := p.partsNo + 1 })).onSched (fun x => { x with
        drains := x.drains ++ [{ mbox := m, role := r, deadline := t.now + 5000000 }] }))
      else ok (c.setNext (fun p => { p with role := r, partsNo := p.partsNo + 1 })) := by
  simp only [roleSetBody, role]

/-- MBOX_RECLAIM. -/
theorem mboxReclaimBody_eq {k : Nat} (t : Top) (c : Core) (named : a.arg 0 1 = k) (other : k ≠ m) (there : k < 64) :
    mboxReclaimBody t c m a =
      if (c.mbox k).phase = .pending || (c.mbox k).phase = .running then waits (c.updMbox k (fun b => { b with reclaim := b.reclaim ++ [m] }))
      else ok (c.updMbox k (fun b => { b with owner := 0, phase := .idle })) := by
  have fits : (k != m && decide (k < 64)) = true := by simpa using ⟨other, there⟩
  simp only [mboxReclaimBody, needArg, need, named, fits, bind, Except.bind, if_true]

/-- DEVICE_QUERY. -/
theorem deviceQuery_answers (takes : Takes s m 0x0101 a) :
    ∃ p, exec (.deviceQuery m) s = .next (s.answers m s.core p) ∧ p.length = 32 ∧
      ∀ j, s.core.job = some j → rd p 1 1 = s.core.pset.role.code ∧ rd p 4 4 = j.id % 2 ^ 32 := by
  refine ⟨_, congrArg Host.Outcome.next (runCommand_answers takes rfl), by simp [Core.deviceRecord], fun j job => ?_⟩
  have role : s.core.pset.role.code % 256 = s.core.pset.role.code := by cases s.core.pset.role <;> rfl
  constructor
  · simp (disch := simp) [Core.deviceRecord, rd_skip, rd_le, job, role]
  · simp (disch := simp) [Core.deviceRecord, rd_skip, rd_le, Core.jobId, job]

theorem Top.length_capRecord (t : Top) : t.capRecord.length = 256 := by
  unfold Top.capRecord
  extract_lets ports count
  simp only [List.length_append, length_le_bytes, length_zeros]

theorem Top.capRecord_contexts (t : Top) : rd t.capRecord 24 4 = t.contexts % 2 ^ 32 := by
  unfold Top.capRecord
  extract_lets ports count
  simp only [List.append_assoc]
  simp (disch := simp only [length_le_bytes]; decide) only [rd_skip, length_le_bytes, Nat.reduceSub]
  exact rd_le 4 _ _

/-- CAP_QUERY. -/
theorem capQuery_answers (takes : Takes s m 0x0102 a) :
    ∃ p, exec (.capQuery m) s = .next (s.answers m s.core p) ∧ p.length = 256 ∧ rd p 24 4 = s.top.contexts % 2 ^ 32 :=
  ⟨s.top.capRecord, congrArg Host.Outcome.next (runCommand_answers takes rfl), s.top.length_capRecord, s.top.capRecord_contexts⟩

end

/-- Settles O22, command by command. -/
theorem jobIsBoundReleasedAndGivenItsRole : Obligations.JobIsBoundReleasedAndGivenItsRole := by
  intro m a s
  refine ⟨fun r takes node shape id role least most => ?_, fun takes => ?_, fun r takes role => ⟨fun now => ?_, fun drain => ?_⟩,
    fun k takes named other there => ⟨fun free => ?_, fun busy => ?_⟩, deviceQuery_answers, capQuery_answers⟩
  · obtain ⟨p, long, body⟩ := jobBindBody_binds (m := m) s.top s.core node shape id role least most
    have runs : exec (.jobBind m) s = .next _ := congrArg Host.Outcome.next (runTop_takes takes jobBindBody body)
    obtain ⟨⟨j, job, jid, jshape, count, quiesced⟩, pact, pset, ctxs, tiers, ports, mboxes⟩ :=
      Core.bind_binds s.top (a.args.take 840) (a.arg 840 4) (a.arg 846 2) r s.core
    generalize s.core.bind s.top (a.args.take 840) (a.arg 840 4) (a.arg 846 2) r = c at *
    have box : c.mbox m = s.core.mbox m := by simp only [Core.mbox, mboxes]
    exact ⟨_, j, _, runs, rfl, job, jid, jshape, count, quiesced, congrArg Params.role pact, congrArg Params.role pset, ctxs, tiers, ports,
      State.answers_result (s := s) c _ (box ▸ takes.taken) (box ▸ takes.unanswered), long⟩
  · obtain ⟨c, runs⟩ := jobRelease_drains takes
    exact ⟨_, runs, rfl, by rw [Core.mbox_start]⟩
  · exact congrArg Host.Outcome.next (runCommand_answers takes ((roleSetBody_eq _ _ role).trans (if_neg (by simpa [bit] using now))))
  · exact congrArg Host.Outcome.next (runCommand_holds takes ((roleSetBody_eq _ _ role).trans (if_pos (by simpa [bit] using drain))))
  · refine congrArg Host.Outcome.next (runCommand_answers takes ((mboxReclaimBody_eq _ _ named other there).trans (if_neg ?_)))
    rcases free with idle | done
    · simp [idle]
    · simp [done]
  · refine congrArg Host.Outcome.next (runCommand_holds takes ((mboxReclaimBody_eq _ _ named other there).trans (if_pos ?_)))
    simpa using busy

end Sys2Proof.Machine
end

/-! ### What the scheduler does when it is due (R145, R155, R157, R169, R172) -/

section
namespace Sys2Proof.Machine

/-! #### The count of an event (R401, R409) -/

section
variable {t : Top} {c : Core}

theorem Core.ctr_msix (v : Nat) (c : Core) (k : Ctr) : (c.msix v).ctr k = c.ctr k := by
  unfold Core.msix
  split
  · rfl
  · rfl

/-- An event writes no counter but those of its class and of events lost. -/
theorem Core.ctr_evWrite_other (code src subject : Nat) (detail : List Byte) {j : Ctr} (raised : j.key ≠ (Ctr.event (code / 256) 0).key)
    (masked : j.key ≠ (Ctr.event (code / 256) 1).key) (lost : j.key ≠ (Ctr.dev 6).key) :
    (c.evWrite t code src subject detail).ctr j = c.ctr j := by
  unfold Core.evWrite
  split
  · rfl
  extract_lets cls c1 h tail
  rw [← Core.ctr_bump_other raised 1 c]
  split
  · exact Core.ctr_bump_other masked 1 c1
  split
  · exact Core.ctr_bump_other lost 1 c1
  split
  · exact Core.ctr_msix _ _ _
  · rfl

/-- An event of a device whose primary Summit is in service is counted once for its class. -/
theorem Core.ctr_evWrite_class (up : t.primaryDown = false) (code src subject : Nat) (detail : List Byte) (least : code / 256 < 2 ^ 51) :
    (c.evWrite t code src subject detail).ctr (.event (code / 256) 0) = (c.ctr (.event (code / 256) 0)).up 1 := by
  rw [← Core.ctr_bump_self]
  unfold Core.evWrite
  rw [if_neg (by simp [up])]
  extract_lets cls c1 h tail
  split
  · exact Core.ctr_bump_other (by simp only [Ctr.key]; omega) 1 c1
  split
  · exact Core.ctr_bump_other (by simp only [Ctr.key]; omega) 1 c1
  split
  · exact Core.ctr_msix _ _ _
  · rfl

/-- The queue's own watermark counts its event for class 12, and its crossing. -/
theorem Core.ctr_evqWatch_event {n : Nat} (other : n < 12) (c : Core) : (c.evqWatch t).ctr (.event n 0) = c.ctr (.event n 0) := by
  have step : ∀ up thr clr v, (c.wmStep wmEvq up thr clr v).1.ctr (.event n 0) = c.ctr (.event n 0) := fun up thr clr v => by
    unfold Core.wmStep
    extract_lets w lvl crossing raised c1
    split
    · exact Core.ctr_bump_other (by simp only [Ctr.key, wmEvq]; omega) 1 c1
    · rfl
  unfold Core.evqWatch
  dsimp only
  split
  · exact (Core.ctr_evWrite_other _ _ _ _ (by simp only [Ctr.key]; omega) (by simp only [Ctr.key]; omega)
      (by simp only [Ctr.key]; omega)).trans (step _ _ _ _)
  · exact step _ _ _ _

/-- An event of a class other than the watermarks' raised (R405, R408). -/
theorem Core.ctr_raise_class (up : t.primaryDown = false) (code src subject : Nat) (detail : List Byte) (other : code / 256 < 12) (c : Core) :
    (c.raise t code src subject detail).ctr (.event (code / 256) 0) = (c.ctr (.event (code / 256) 0)).up 1 :=
  (Core.ctr_evqWatch_event other _).trans (Core.ctr_evWrite_class up _ _ _ _ (by omega))

end

/-! #### Commands answered together -/

section
variable (st : Status) (d : Nat) (p : List Byte)

theorem Core.mbox_stageAll_other {j : Nat} (ms : List Nat) (c : Core) (other : j ∉ ms) :
    (ms.foldl (fun c m => c.stage m st d p) c).mbox j = c.mbox j := by
  induction ms generalizing c with
  | nil => rfl
  | cons k ms ih =>
    rw [List.mem_cons, not_or] at other
    rw [List.foldl_cons, ih _ other.2]
    exact Core.mbox_updMbox_other _ _ other.1

theorem Core.signals_stageAll (ms : List Nat) (c : Core) : c.Signals (ms.foldl (fun c m => c.stage m st d p) c) :=
  signals_foldl _ (fun c m => c.signals_stage m st d p) _ _

end

/-- The ROLE_SETs that are done, or too late, leave the list and are answered together (R145). -/
theorem Core.roleCheck_eq (c : Core) : ∃ done : RoleDrain → Bool, c.roleCheck =
    ((c.sched.drains.filter done).map RoleDrain.mbox).foldl (fun c m => c.stage m .ok 0 [])
      (c.onSched (fun x => { x with drains := c.sched.drains.filter (fun d => !done d) })) := by
  unfold Core.roleCheck
  extract_lets done ds
  exact ⟨done, by rw [List.foldl_map]⟩

theorem Core.roleTimeout_eq (t : Top) (c : Core) : c.roleTimeout t =
    ((c.sched.drains.filter (fun d => d.deadline ≤ t.now)).map RoleDrain.mbox).foldl (fun c m => c.stage m .timeout 0 [])
      (c.onSched (fun x => { x with drains := c.sched.drains.filter (fun d => t.now < d.deadline) })) := by
  refine Eq.trans ?_ List.foldl_map.symm
  simp [Core.roleTimeout, ← decide_not]

/-! #### The rows -/

section
variable {s : State}

theorem itemStarved_marks (live : s.top.live = true) (k : Nat) :
    exec (.itemStarved k) s = .next { s with
      core := s.core.updItem k (fun it => if s.core.pact.field 8 ≤ it.passed then { it with starved := true } else it) } :=
  State.next_onCore live _

/-- A context above the threshold for long enough is reported once (R172). -/
theorem straggler_reports {k : Nat} (live : s.top.live = true) (on : s.core.pact.stragOn = true) (base : s.core.sched.noBaseline = false)
    (fresh : (s.core.ctx k).straggling = false) (used : (s.core.ctx k).state ≠ .free) (above : 0 < (s.core.ctx k).run)
    (long : s.core.pact.stragN ≤ (s.core.ctx k).run) :
    ∃ t, exec (.straggler k) s = .next t ∧ t.top = s.top ∧ t.core.ctx k = { s.core.ctx k with straggling := true } ∧
      (∀ j, j ≠ k → t.core.ctx j = s.core.ctx j) ∧ t.core.sched = s.core.sched ∧
      (s.top.primaryDown = false → t.core.ctr (.event 5 0) = (s.core.ctr (.event 5 0)).up 1) := by
  let detail := le 4 (s.core.ctx k).slowdown ++ zeros 4 ++ le 8 (s.core.ctx k).slowStep
  let marked := s.core.updCtx k (fun x => { x with straggling := true })
  have fires : s.core.stragglerEvent s.top k = marked.raise s.top 0x0501 (ctxDie k) (s.core.handle k) detail :=
    if_pos (by simp [on, base, fresh, used, above, long])
  have same := marked.sameWork_raise s.top 0x0501 (ctxDie k) (s.core.handle k) detail
  refine ⟨{ s with core := marked.raise s.top 0x0501 (ctxDie k) (s.core.handle k) detail }, ?_, rfl, ?_, fun j other => ?_, same.sched,
    fun up => Core.ctr_raise_class up 0x0501 _ _ _ (by decide) marked⟩
  · rw [← fires]
    exact State.next_onCore live _
  · exact (Core.ctx_of_ctxs same.ctxs k).trans (Core.ctx_updCtx_self _ _ _)
  · exact (Core.ctx_of_ctxs same.ctxs j).trans (Core.ctx_updCtx_other other _ _)

theorem baselineReady_clears (live : s.top.live = true) (enough : 1024 ≤ s.core.sched.completed) :
    exec .baselineReady s = .next { s with core := s.core.onSched (fun x => { x with noBaseline := false }) } :=
  (State.next_onCore live _).trans (by rw [Core.baselineReady, if_pos enough])

/-- An engine class without work for 10 ms goes off (R157). -/
theorem enginePowerDown_stops {e : EngineClass} {last : Nat} (live : s.top.live = true) (on : s.core.sched.engines[engineIdx e]? = some (.on, last))
    (bound : s.core.job.isSome = true) (unkept : (keptBy s.core.pact.role).contains (engineIdx e) = false)
    (idle : s.core.engineBusy (engineIdx e) = false) (late : last + 10000000 ≤ s.top.now) :
    exec (.enginePowerDown e) s = .next { s with
      core := s.core.onSched (fun x => { x with engines := x.engines.set (engineIdx e) (.off, last) }) } := by
  refine (State.next_onCore live _).trans ?_
  have due : (s.core.job.isSome && !(keptBy s.core.pact.role).contains (engineIdx e) && !s.core.engineBusy (engineIdx e) &&
      decide (last + 10000000 ≤ s.top.now)) = true := by rw [bound, unkept, idle, decide_eq_true late]; rfl
  simp only [Core.enginePowerDown, on, due, if_true]

/-- An engine class that has risen is on, and the ROLE_SETs that waited for it are answered (R145, R157). -/
theorem enginePowerReady_rises {e : EngineClass} (live : s.top.live = true) (rising : s.core.engine (engineIdx e) = .rising) :
    ∃ t, exec (.enginePowerReady e) s = .next t ∧ t.top = s.top ∧
      t.core.sched.engines = s.core.sched.engines.set (engineIdx e) (.on, s.top.now) ∧ t.core.sched.items = s.core.sched.items ∧
      t.core.tiers = s.core.tiers := by
  refine ⟨_, State.next_onCore live _, rfl, ?_⟩
  dsimp only
  obtain ⟨done, checked⟩ := Core.roleCheck_eq (s.core.onSched (fun x => { x with engines := x.engines.set (engineIdx e) (.on, s.top.now) }))
  rw [Core.enginePowerReady, if_pos rising, checked]
  have answers := Core.signals_stageAll .ok 0 [] (((s.core.sched.drains).filter done).map RoleDrain.mbox)
  exact ⟨(congrArg Sched.engines (answers _).sched :), (congrArg Sched.items (answers _).sched :), (answers _).tiers⟩

/-- The ROLE_SETs that have waited too long are answered with TIMEOUT (R145). -/
theorem roleSetTimeout_answers (live : s.top.live = true) :
    ∃ t, exec .roleSetTimeout s = .next t ∧ t.top = s.top ∧
      t.core.sched = { s.core.sched with drains := s.core.sched.drains.filter (fun d => s.top.now < d.deadline) } ∧
      (∀ d ∈ s.core.sched.drains, d.deadline ≤ s.top.now → (s.core.mbox d.mbox).taken.isSome = true → (s.core.mbox d.mbox).result = none →
        (t.core.mbox d.mbox).result = some ⟨.timeout, 0, []⟩) ∧
      (∀ j, (∀ d ∈ s.core.sched.drains, d.mbox ≠ j) → t.core.mbox j = s.core.mbox j) := by
  refine ⟨_, State.next_onCore live _, rfl, ?_⟩
  dsimp only
  rw [Core.roleTimeout_eq]
  refine ⟨?_, fun d waits late taken open_ => ?_, fun j none_ => ?_⟩
  · exact (Core.signals_stageAll .timeout 0 [] _ _).sched
  · refine Core.result_stageAll _ _ _ _ _ taken (.inr ⟨open_, List.mem_map_of_mem (List.mem_filter.2 ⟨waits, ?_⟩)⟩)
    simpa using late
  · refine (Core.mbox_stageAll_other _ _ _ _ _ fun named => ?_).trans rfl
    obtain ⟨d, late, rfl⟩ := List.mem_map.1 named
    exact none_ d (List.mem_filter.1 late).1 rfl

end

/-- Settles O33, row by row. -/
theorem schedulerConditionsTakeEffect : Obligations.SchedulerConditionsTakeEffect := by
  intro k e s live c n
  refine ⟨fun _ _ => itemStarved_marks live k, straggler_reports live, fun short => ?_, baselineReady_clears live, fun few => ?_,
    fun last => enginePowerDown_stops live, enginePowerReady_rises live, fun other => ?_, roleSetTimeout_answers live⟩
  · refine State.next_onCore_id live _ (if_neg ?_)
    simp [c, Nat.not_le.2 short]
  · exact State.next_onCore_id live _ (if_neg (Nat.not_le.2 few))
  · exact State.next_onCore_id live _ (if_neg other)

end Sys2Proof.Machine
end

/-! ### What leaves the records of moves alone (R116) -/

section
namespace Sys2Proof.Machine

/-- Two states hold the same records of moves. -/
structure Core.KeepsMoves (a b : Core) : Prop where
  moves : b.moves = a.moves
  next : b.nextMove = a.nextMove

theorem Core.KeepsMoves.refl (c : Core) : c.KeepsMoves c := ⟨rfl, rfl⟩

theorem Core.KeepsMoves.trans {a b c : Core} (h : a.KeepsMoves b) (k : b.KeepsMoves c) : a.KeepsMoves c :=
  ⟨k.moves.trans h.moves, k.next.trans h.next⟩

theorem Core.KeepsMoves.at_ {a b : Core} (h : a.KeepsMoves b) {r : Nat} {x : Option Move} (at_ : a.moves.get? r = x) : b.moves.get? r = x := by
  rw [h.moves, at_]

theorem Core.KeepsInner.keepsMoves {a b : Core} (h : a.KeepsInner b) : a.KeepsMoves b := ⟨h.moves, (congrArg Core.nextMove h).symm⟩
theorem Core.SameWork.keepsMoves {a b : Core} (h : a.SameWork b) : a.KeepsMoves b := ⟨h.moves, h.nextMove⟩

theorem Core.keepsMoves_ite {a b c : Core} (p : Prop) [Decidable p] (h : a.KeepsMoves b) (k : a.KeepsMoves c) : a.KeepsMoves (if p then b else c) := by
  split
  · exact h
  · exact k

theorem Core.keepsMoves_foldl {α : Type} (f : Core → α → Core) (h : ∀ (c : Core) (x : α), c.KeepsMoves (f c x)) (xs : List α) (c : Core) :
    c.KeepsMoves (xs.foldl f c) := List.foldlRecOn (motive := fun d => c.KeepsMoves d) xs f (.refl c) fun b run x _ => run.trans (h b x)

theorem Core.keepsMoves_tiers (f : Tiers → Tiers) (c : Core) : c.KeepsMoves (c.onTiers f) := ⟨rfl, rfl⟩
theorem Core.keepsMoves_sched (f : Sched → Sched) (c : Core) : c.KeepsMoves (c.onSched f) := ⟨rfl, rfl⟩
theorem Core.keepsMoves_updCtx (i : Nat) (f : Ctx → Ctx) (c : Core) : c.KeepsMoves (c.updCtx i f) := ⟨rfl, rfl⟩
theorem Core.keepsMoves_updPage (o : Nat) (f : PageObj → PageObj) (c : Core) : c.KeepsMoves (c.updPage o f) := ⟨rfl, rfl⟩
theorem Core.keepsMoves_stage (m : Nat) (st : Status) (d : Nat) (p : List Byte) (c : Core) : c.KeepsMoves (c.stage m st d p) := ⟨rfl, rfl⟩
theorem Core.keepsMoves_bump (k : Ctr) (n : Nat) (c : Core) : c.KeepsMoves (c.bump k n) := (c.sameWork_bump k n).keepsMoves
theorem Core.keepsMoves_raise (t : Top) (code src subject : Nat) (detail : List Byte) (c : Core) :
    c.KeepsMoves (c.raise t code src subject detail) := (c.sameWork_raise _ _ _ _ _).keepsMoves
theorem Core.keepsMoves_watchFree (t : Top) (c : Core) : c.KeepsMoves (c.watchFree t) :=
  (c.sameWork_watchFree t).keepsMoves
theorem Core.keepsMoves_freeWork (t : Top) (w : Work → Bool) (c : Core) : c.KeepsMoves (c.freeWork t w) := (c.freeWork_sameWork w).keepsMoves
theorem Core.keepsMoves_sendMsg (t : Top) (cid type : Nat) (rsp : Bool) (cls : Nat) (body : List Byte) (req : Option Nat) (c : Core) :
    c.KeepsMoves (c.sendMsg t cid type rsp cls body req) := (c.keepsInner_sendMsg _ _ _ _ _ _ _).keepsMoves

/-! #### Signals and answers -/

theorem Core.keepsMoves_staleSync (id : Nat) (c : Core) : c.KeepsMoves (c.staleSync id) := keepsMoves_ite _ (c.keepsMoves_bump _ _) (.refl c)

theorem Core.keepsMoves_putSync (id : Nat) (o : SyncObj) (excess : Nat) (c : Core) : c.KeepsMoves (c.putSync id o excess) :=
  keepsMoves_ite _ ⟨rfl, rfl⟩ ⟨rfl, rfl⟩

theorem Core.keepsMoves_removeWaiter (w : Waiter) (c : Core) : c.KeepsMoves (c.removeWaiter w) := ⟨rfl, rfl⟩

theorem Core.keepsMoves_fire (t : Top) (w : Waiter) (value : Nat) (c : Core) : c.KeepsMoves (c.fire t w value) := by
  unfold Core.fire
  extract_lets c1
  have released : c.KeepsMoves c1 := by
    unfold c1; split
    · exact ⟨rfl, rfl⟩
    · exact .refl c
  refine released.trans ?_
  split
  · exact c1.keepsMoves_stage _ _ _ _
  · extract_lets c2
    have raised : c1.KeepsMoves c2 := (c1.sameWork_msix _).keepsMoves
    exact keepsMoves_ite _ (raised.trans (c2.keepsMoves_raise _ _ _ _ _)) raised
  · split
    · exact c1.keepsMoves_bump _ _
    split
    · exact (c1.keepsInner_newReq _ _ _ _ _).keepsMoves.trans (Core.keepsMoves_sendMsg _ _ _ _ _ _ _ _)
    · exact c1.keepsMoves_staleSync _

theorem Core.keepsMoves_fireAll (t : Top) (value : Nat) (ws : List Waiter) (c : Core) : c.KeepsMoves (c.fireAll t value ws) :=
  keepsMoves_foldl _ (fun c w => (c.keepsMoves_removeWaiter w).trans (Core.keepsMoves_fire _ _ _ _)) _ _

theorem Core.keepsMoves_fireSem (t : Top) (id : Nat) (ws : List Waiter) (c : Core) : c.KeepsMoves (c.fireSem t id ws) := by
  induction ws generalizing c with
  | nil => exact .refl c
  | cons w ws ih =>
    unfold Core.fireSem
    split
    · exact .refl c
    · split
      · exact .refl c
      · extract_lets c1
        have taken : c.KeepsMoves (c1.removeWaiter w) := ⟨rfl, rfl⟩
        exact (taken.trans (Core.keepsMoves_fire _ _ _ _)).trans (ih _)

theorem Core.keepsMoves_evaluate (t : Top) (id : Nat) (c : Core) : c.KeepsMoves (c.evaluate t id) := by
  unfold Core.evaluate
  split
  · exact .refl c
  · extract_lets ws c1
    have stored : c.KeepsMoves c1 := ⟨rfl, rfl⟩
    split
    · exact keepsMoves_ite _ (c.keepsMoves_fireAll _ _ _) (.refl c)
    · exact keepsMoves_ite _ (c.keepsMoves_fireAll _ _ _) (.refl c)
    · exact c.keepsMoves_fireSem _ _ _
    · exact keepsMoves_ite _ (.refl c) (stored.trans (c1.keepsMoves_fireAll _ _ _))

theorem Core.keepsMoves_signalDone (t : Top) (id : Nat) (c : Core) : c.KeepsMoves (c.signalDone t id) := by
  refine keepsMoves_ite _ (.refl c) ?_
  unfold Core.signal
  split
  · exact c.keepsMoves_staleSync _
  · exact keepsMoves_ite _ (c.keepsMoves_staleSync _) ((c.keepsMoves_putSync _ _ _).trans (Core.keepsMoves_evaluate _ _ _))

theorem Core.keepsMoves_failLayer (t : Top) (i : Nat) (chunk : Bool) (st : Status) (d : Nat) (m : LayerMsg) (c : Core) :
    c.KeepsMoves (c.failLayer t i chunk st d m) :=
  ((c.keepsMoves_sendMsg _ _ _ _ _ _ _).trans (Core.keepsMoves_signalDone _ _ _)).trans (Core.keepsMoves_updCtx _ _ _)

theorem Core.keepsMoves_failLayers (t : Top) (i : Nat) (chunk : Bool) (st : Status) (d : Nat) (ms : List LayerMsg) (c : Core) :
    c.KeepsMoves (ms.foldl (fun c m => c.failLayer t i chunk st d m) c) := keepsMoves_foldl _ (fun c m => c.keepsMoves_failLayer _ _ _ _ _ m) _ _

/-! #### Pages -/

theorem Core.keepsMoves_retireFrame (t : Top) (st fr why : Nat) (c : Core) : c.KeepsMoves (c.retireFrame t st fr why) := by
  unfold Core.retireFrame
  extract_lets die r c1 c2 c3
  have listed : c.KeepsMoves c2 := ⟨rfl, rfl⟩
  have kept : c2.KeepsMoves c3 := keepsMoves_ite _ (c2.sameWork_telem _).keepsMoves (.refl c2)
  exact (listed.trans kept).trans (c3.keepsMoves_raise _ _ _ _ _)

theorem Core.keepsMoves_releaseFrame (t : Top) (o : Nat) (c : Core) : c.KeepsMoves (c.releaseFrame t o) := by
  unfold Core.releaseFrame
  split
  · exact .refl c
  · extract_lets given c1 c2
    have freed : c.KeepsMoves c2 := ⟨rfl, rfl⟩
    refine freed.trans ?_
    split
    · exact keepsMoves_ite _ (.refl c2) (keepsMoves_ite _ (c2.keepsMoves_tiers _) (c2.keepsMoves_retireFrame _ _ _ _))
    · exact .refl c2

theorem Core.keepsMoves_dropPage (t : Top) (o : Nat) (c : Core) : c.KeepsMoves (c.dropPage t o) := by
  unfold Core.dropPage
  exact ((c.keepsMoves_releaseFrame t o).trans (Core.keepsMoves_freeWork t _ _)).trans (Core.keepsMoves_tiers _ _)

theorem Core.keepsMoves_unref (t : Top) (i key : Nat) (c : Core) : c.KeepsMoves (c.unref t i key) := by
  unfold Core.unref
  split
  · exact .refl c
  · extract_lets c1
    have left : c.KeepsMoves c1 := c.keepsMoves_updCtx _ _
    refine left.trans ?_
    split
    · exact c1.keepsMoves_dropPage _ _
    · exact c1.keepsMoves_updPage _ _

theorem Core.keepsMoves_freePages (t : Top) (i : Nat) (c : Core) : c.KeepsMoves (c.freePages t i) :=
  ((keepsMoves_foldl _ (fun c k => c.keepsMoves_unref t i k) _ c).trans (Core.keepsMoves_updCtx _ _ _)).trans (Core.keepsMoves_watchFree _ _)

/-- A free number is a free choice. -/
theorem Core.pickFree_picks {used : List Nat} {limit v : Nat} {c c' : Core} (h : c.pickFree used limit = some (v, c')) : c' = c.pick.2 := by
  unfold Core.pickFree at h
  dsimp only at h
  split at h
  · cases h
  · cases h
    rfl

/-- A frame found is a free choice, and is noted (R83, R377). -/
theorem Core.findFrame_notes {t : Top} {k0 : Nat} {c c' : Core} {fr : Nat × Nat} (h : c.findFrame t k0 = some (fr, c')) : c' = c.pick.2.noteFrame fr := by
  unfold Core.findFrame at h
  dsimp only at h
  split at h
  · cases h
  split at h
  · cases h
  · next found =>
    cases h
    rw [Core.pickFree_picks found]

theorem Core.keepsMoves_findFrame {t : Top} {k0 : Nat} {c c' : Core} {fr : Nat × Nat} (h : c.findFrame t k0 = some (fr, c')) : c.KeepsMoves c' :=
  Core.findFrame_notes h ▸ ⟨rfl, rfl⟩

/-- Units of warm space found are a free choice (R377). -/
theorem Core.findWarm_picks {t : Top} {n off : Nat} {c c' : Core} (h : c.findWarm t n = some (off, c')) : c' = c.pick.2 := by
  unfold Core.findWarm at h
  dsimp only at h
  split at h
  · cases h
  split at h
  · cases h
  · cases h
    rfl

theorem Core.keepsMoves_findWarm {t : Top} {n : Nat} {c c' : Core} {off : Nat} (h : c.findWarm t n = some (off, c')) : c.KeepsMoves c' :=
  Core.findWarm_picks h ▸ ⟨rfl, rfl⟩

theorem Core.keepsMoves_commitFor {t : Top} {i l p : Nat} {parked : Bool} {c c' : Core} (h : c.commitFor t i parked l p = some c') : c.KeepsMoves c' := by
  unfold Core.commitFor at h
  split at h
  · unfold Core.commitWarm at h
    dsimp only at h
    split at h
    · cases h
    · next found =>
      cases h
      exact (Core.keepsMoves_findWarm found).trans ⟨rfl, rfl⟩
  · unfold Core.commitPage at h
    split at h
    · cases h
    · next found =>
      cases h
      exact (Core.keepsMoves_findFrame found).trans ⟨rfl, rfl⟩

/-! #### Work that ends -/

theorem Core.keepsMoves_unappend (t : Top) (o fill : Nat) (c : Core) : c.KeepsMoves (c.unappend t o fill) := by
  unfold Core.unappend
  split
  · exact .refl c
  · exact ⟨rfl, rfl⟩

theorem Core.keepsMoves_endHold (t : Top) (i : Nat) (c : Core) : c.KeepsMoves (c.endHold t i) := by
  unfold Core.endHold
  split
  · exact .refl c
  · split
    · exact .refl c
    · exact ⟨rfl, rfl⟩

theorem Core.keepsMoves_dropRun (t : Top) (i : Nat) (c : Core) : c.KeepsMoves (c.dropRun t i) := by
  unfold Core.dropRun
  split
  · exact .refl c
  split
  · exact .refl c
  · extract_lets c1 c2 c3 c4 m n c5
    have slices : c1.KeepsMoves c2 := keepsMoves_foldl _ (fun c s =>
      keepsMoves_ite _ ((c.keepsMoves_sched _).trans (Core.keepsMoves_sched _ _)) (.refl c)) _ _
    have units : c2.KeepsMoves c3 := keepsMoves_foldl _ (fun c u => by
      extract_lets d
      have scores : c.KeepsMoves d := keepsMoves_ite _ (c.keepsMoves_sched _) (.refl c)
      exact keepsMoves_ite _ (scores.trans (d.keepsMoves_sched _)) scores) _ _
    have tokens : c4.KeepsMoves c5 := by
      refine keepsMoves_ite _ (.refl c4) (keepsMoves_ite _ (keepsMoves_foldl _ (fun c p => ?_) _ _) ?_)
      · split
        · exact c.keepsMoves_unappend _ _ _
        · exact .refl c
      · split
        · exact c4.keepsMoves_unappend _ _ _
        · exact .refl c4
    exact (((((c.keepsMoves_sched _).trans slices).trans units).trans (c3.keepsMoves_freeWork _ _)).trans tokens).trans (c5.keepsMoves_sched _)

theorem Core.keepsMoves_failItem (t : Top) (i : Nat) (st : Status) (d : Nat) (c : Core) : c.KeepsMoves (c.failItem t i st d) := by
  unfold Core.failItem
  split
  · exact .refl c
  · extract_lets c1 c2 c3 mine c4 c5
    have run : c.KeepsMoves c1 := (c.keepsMoves_endHold t i).trans (Core.keepsMoves_dropRun _ _ _)
    have engines : c1.KeepsMoves c2 := keepsMoves_ite _ (.refl c1) (c1.keepsMoves_sched _)
    have parts : c3.KeepsMoves c4 := keepsMoves_foldl _ (fun c l => c.keepsMoves_failLayers _ _ _ _ _ _) _ _
    exact (((run.trans engines).trans (c2.keepsMoves_failLayers _ _ _ _ _ _)).trans parts).trans ⟨rfl, rfl⟩

theorem Core.keepsMoves_failParts (t : Top) (x : Nat) (st : Status) (d : Nat) (c : Core) : c.KeepsMoves (c.failParts t x st d) := by
  unfold Core.failParts
  extract_lets mine c1
  have parts : c.KeepsMoves c1 := keepsMoves_foldl _ (fun c _ => (c.keepsMoves_failLayers _ _ _ _ _ _).trans (Core.keepsMoves_sched _ _)) _ _
  exact parts.trans (c1.keepsMoves_sched _)

theorem Core.keepsMoves_failHelds (t : Top) (x : Nat) (st : Status) (d : Nat) (c : Core) : c.KeepsMoves (c.failHelds t x st d) :=
  (c.keepsMoves_updCtx _ _).trans (keepsMoves_foldl _ (fun c _ => c.keepsMoves_failLayer _ _ _ _ _ _) _ _)

theorem Core.keepsMoves_endPause (i : Nat) (st : Status) (d : Nat) (c : Core) : c.KeepsMoves (c.endPause i st d) :=
  (c.keepsMoves_updCtx _ _).trans (keepsMoves_foldl _ (fun c _ => c.keepsMoves_stage _ _ _ _) _ _)

theorem Core.keepsMoves_cancelWaiters (p : Waiter → Bool) (st : Status) (d : Nat) (c : Core) : c.KeepsMoves (c.cancelWaiters p st d) :=
  keepsMoves_foldl _ (fun c w => keepsMoves_ite _ (by
    unfold Core.cancelWaiter
    split
    all_goals split
    all_goals exact ⟨rfl, rfl⟩) (.refl c)) _ _

theorem Core.keepsMoves_dropIdle (t : Top) (i : Nat) (c : Core) : c.KeepsMoves (c.dropIdle t i) := by
  unfold Core.dropIdle
  extract_lets idle c1
  have items : c.KeepsMoves c1 := keepsMoves_foldl _ (fun c (e : Nat × Item) => c.keepsMoves_failItem t e.1 _ _) _ _
  exact items.trans (c1.keepsMoves_sched _)

theorem Core.keepsMoves_enterDraining (t : Top) (i : Nat) (c : Core) : c.KeepsMoves (c.enterDraining t i) := by
  unfold Core.enterDraining
  extract_lets d c1 c2
  have waiters : c.KeepsMoves c1 := c.keepsMoves_cancelWaiters _ _ _
  have work : c1.KeepsMoves c2 := ((c1.keepsMoves_failParts _ _ _ _).trans (Core.keepsMoves_endPause _ _ _ _)).trans (Core.keepsMoves_dropIdle _ _ _)
  exact (waiters.trans work).trans (c2.keepsMoves_updCtx _ _)

theorem Core.keepsMoves_enterParked (t : Top) (i ttl : Nat) (victim : Bool) (c : Core) : c.KeepsMoves (c.enterParked t i ttl victim) := by
  unfold Core.enterParked
  extract_lets n c1
  split
  extract_lets c2 c3
  have items : c1.KeepsMoves c2 := keepsMoves_foldl _ (fun c e => keepsMoves_ite _ (.refl c)
    ((keepsMoves_ite _ (c.keepsMoves_bump _ _) (.refl c)).trans (Core.keepsMoves_failItem _ _ _ _ _))) _ _
  exact (((c.keepsMoves_tiers _).trans items).trans ((c2.keepsMoves_failParts _ _ _ _).trans (Core.keepsMoves_endPause _ _ _ _))).trans
    (Core.keepsMoves_updCtx _ _ _)

end Sys2Proof.Machine
end

/-! ### The operations on the record of a move, one rule each (R52, R134, R138, R317) -/

section
namespace Sys2Proof.Machine

/-! #### A record changed -/

theorem Tbl.get?_upd_self {α : Type} {x : Tbl α} {k : Nat} {v : α} (at_ : x.get? k = some v) (f : α → α) : (x.upd k f).get? k = some (f v) := by
  simp [Tbl.upd, at_]

theorem Tbl.get?_upd_other {α : Type} {k j : Nat} (other : j ≠ k) (x : Tbl α) (f : α → α) : (x.upd k f).get? j = x.get? j := by
  unfold Tbl.upd
  split
  · exact Tbl.get?_set_other _ _ _ _ other
  · rfl

/-- A key that is looked up in vain is no entry's. -/
theorem Tbl.key_ne_of_get?_none {α : Type} {x : Tbl α} {k : Nat} (none_ : x.get? k = none) {e : Nat × α} (here : e ∈ x) : e.1 ≠ k := by
  induction x with
  | nil => cases here
  | cons d x ih =>
    simp only [Tbl.get?] at none_
    split at none_
    · cases none_
    · next other =>
      rcases List.mem_cons.1 here with rfl | here
      · exact other
      · exact ih none_ here

theorem Core.signals_updMove (r : Nat) (f : Move → Move) (c : Core) : c.Signals (c.updMove r f) :=
  ⟨rfl, rfl, fun _ => rfl, fun _ => rfl, fun _ _ => rfl⟩

theorem Core.signals_takeMsg (cid : Nat) (q : Msg) (c : Core) : c.Signals (c.takeMsg cid q) := ⟨rfl, rfl, fun _ => rfl, fun _ => rfl, fun _ _ => rfl⟩

theorem Core.signals_countStale (i : Nat) {k : Nat} (other : k ≠ 0) (small : k < 256) (c : Core) : c.Signals (c.countStale i k) :=
  c.signals_bump _ _ fun q hq => by simp only [Ctr.key]; omega

theorem Core.get?_addMove (m : Move) (c : Core) : (c.addMove m).2.moves.get? c.nextMove = some m := Tbl.get?_set_self _ _ _

/-- A context as a change of a record leaves it: the references follow those that the record holds (R52, R142). -/
def Move.hold (m m' : Move) (x : Ctx) : Ctx := { x with msgs := x.msgs + m'.refs.1 - m.refs.1, pins := x.pins + m'.refs.2 - m.refs.2 }

section
variable {r : Nat} {c : Core} {m : Move} (at_ : c.moves.get? r = some m)
include at_

theorem Core.get?_updMove (f : Move → Move) : (c.updMove r f).moves.get? r = some (f m) := Tbl.get?_upd_self at_ f

/-- A record changed with the references that it holds. -/
theorem Core.setMove_eq (f : Move → Move) : c.setMove r f = (c.updMove r f).updCtx m.ctx (m.hold (f m)) := by
  unfold Core.setMove
  rw [at_]
  rfl

theorem Core.get?_setMove (f : Move → Move) : (c.setMove r f).moves.get? r = some (f m) := by
  rw [Core.setMove_eq at_]
  exact Core.get?_updMove at_ f

theorem Core.ctx_setMove (f : Move → Move) : (c.setMove r f).ctx m.ctx = m.hold (f m) (c.ctx m.ctx) := by
  rw [Core.setMove_eq at_]
  exact Core.ctx_updCtx_self _ _ _

theorem Core.signals_setMove (f : Move → Move) : c.Signals (c.setMove r f) := by
  rw [Core.setMove_eq at_]
  exact (c.signals_updMove r f).trans (Core.signals_updCtx _ _ _ fun _ => rfl)
end

/-! #### Requests no longer awaited -/

theorem Core.reqs_dropReq (q : Nat) (c : Core) : (c.dropReq q).fabric.reqs = c.fabric.reqs.del q := by
  unfold Core.dropReq
  split
  · next none_ =>
    refine (List.filter_eq_self.2 fun e here => ?_).symm
    simpa using Tbl.key_ne_of_get?_none none_ here
  · extract_lets c1
    split
    · split
      · rfl
      · rfl
    · rfl

theorem Core.signals_dropReq (q : Nat) (c : Core) : c.Signals (c.dropReq q) := by
  unfold Core.dropReq
  split
  · exact .refl c
  · extract_lets c1
    have left : c.Signals c1 := ⟨rfl, rfl, fun _ => rfl, fun _ => rfl, fun _ _ => rfl⟩
    split
    · exact signals_ite _ left (left.trans (c1.signals_dropRef _ _))
    · exact left

theorem Core.keepsMoves_dropReq (q : Nat) (c : Core) : c.KeepsMoves (c.dropReq q) := by
  unfold Core.dropReq
  split
  · exact .refl c
  · extract_lets c1
    split
    · exact keepsMoves_ite _ ⟨rfl, rfl⟩ ⟨rfl, rfl⟩
    · exact ⟨rfl, rfl⟩

section
variable (qs : List Nat) (c : Core)

theorem Core.signals_dropReqs : c.Signals (qs.foldl (fun c q => c.dropReq q) c) := signals_foldl _ (fun c q => c.signals_dropReq q) _ _
theorem Core.keepsMoves_dropReqs : c.KeepsMoves (qs.foldl (fun c q => c.dropReq q) c) := keepsMoves_foldl _ (fun c q => c.keepsMoves_dropReq q) _ _

theorem Core.reqs_dropReqs : (qs.foldl (fun c q => c.dropReq q) c).fabric.reqs = c.fabric.reqs.filter (fun e => !qs.contains e.1) := by
  induction qs generalizing c with
  | nil => simp
  | cons q qs ih =>
    rw [List.foldl_cons, ih, Core.reqs_dropReq, Tbl.del, List.filter_filter]
    refine List.filter_congr fun e _ => ?_
    rw [List.contains_cons, Bool.not_or, Bool.and_comm]
    rfl

/-- Once those of a move's requests that pass a test are dropped, none passes it. -/
theorem Core.dropReqs_gone (r : Nat) (p : Nat × Req → Bool) :
    ∀ e ∈ ((Tbl.keys ((c.moveReqs r).filter p)).foldl (fun c q => c.dropReq q) c).moveReqs r, p e = false := by
  intro e here
  unfold Core.moveReqs at here
  rw [Core.reqs_dropReqs, List.mem_filter, List.mem_filter] at here
  obtain ⟨⟨there, kept⟩, mine⟩ := here
  by_contra passes
  refine absurd (?_ : e.1 ∈ Tbl.keys ((c.moveReqs r).filter p)) (by simpa [Core.moveReqs] using kept)
  exact List.mem_map_of_mem (List.mem_filter.2 ⟨List.mem_filter.2 ⟨there, mine⟩, by simpa using passes⟩)
end

section
variable (r type tag : Nat) (c : Core)
theorem Core.signals_answered : c.Signals (c.answered r type tag) := c.signals_dropReqs _
theorem Core.keepsMoves_answered : c.KeepsMoves (c.answered r type tag) := c.keepsMoves_dropReqs _
end

/-! #### Messages of a move -/

/-- A message that waits for no answer leaves the requests alone. -/
theorem Core.reqs_sendMsg (t : Top) (cid type : Nat) (rsp : Bool) (cls : Nat) (body : List Byte) (c : Core) :
    (c.sendMsg t cid type rsp cls body none).fabric.reqs = c.fabric.reqs := by
  unfold Core.sendMsg
  extract_lets n m allowed
  split
  · rfl
  split
  · rfl
  split
  · rw [Core.sendNow, (Core.posts_putCells _ _ _ _ _).fabric]
    rfl
  · rfl

section
variable (t : Top) (r type kind cls : Nat) (body : List Byte) (c : Core)

theorem Core.signals_moveMsg (req : Option Nat) : c.Signals (c.moveMsg t r type kind cls body req) := by
  unfold Core.moveMsg
  split
  · exact .refl c
  · exact c.signals_sendMsg _ _ _ _ _ _ _

theorem Core.keepsInner_moveMsg (req : Option Nat) : c.KeepsInner (c.moveMsg t r type kind cls body req) := by
  unfold Core.moveMsg
  split
  · exact rfl
  · exact c.keepsInner_sendMsg _ _ _ _ _ _ _

theorem Core.keepsMoves_moveMsg (req : Option Nat) : c.KeepsMoves (c.moveMsg t r type kind cls body req) :=
  (c.keepsInner_moveMsg _ _ _ _ _ _ _).keepsMoves

theorem Core.reqs_moveMsg : (c.moveMsg t r type kind cls body none).fabric.reqs = c.fabric.reqs := by
  unfold Core.moveMsg
  split
  · rfl
  · exact c.reqs_sendMsg _ _ _ _ _ _
end

/-! #### The end of a record -/

/-- A record as its end leaves it (R134, R138). -/
def Move.over (m : Move) (t : Top) (ph : MovePhase) (st : Status) : Move :=
  { m with phase := ph, status := st, ended := some t.now, mbox := none }

section
variable {t : Top} {r : Nat} {c : Core} {m : Move} (at_ : c.moves.get? r = some m) (live : m.ended = none)
include at_ live

/-- The end of a record touches of contexts their references only (R134, R138). -/
theorem Core.endMove_ends (ph : MovePhase) (event : Bool) (st : Status) (d : Nat) :
    (c.endMove t r ph event st d).moves.get? r = some (m.over t ph st) ∧ c.Signals (c.endMove t r ph event st d) := by
  rw [Core.endMove, at_]
  dsimp -zeta only
  rw [if_neg (by simp [live])]
  extract_lets c1 c2 det c3 c4
  have at1 : c1.moves.get? r = some m := (c.keepsMoves_dropReqs _).at_ at_
  have at2 : c2.moves.get? r = some (m.over t ph st) := Core.get?_setMove at1 _
  have raised : c2.KeepsMoves c3 ∧ c2.Signals c3 := by
    unfold c3
    split
    · exact ⟨.refl c2, .refl c2⟩
    · split
      · exact ⟨c2.keepsMoves_raise _ _ _ _ _, c2.signals_raise _ _ _ _ _⟩
      · exact ⟨c2.keepsMoves_raise _ _ _ _ _, c2.signals_raise _ _ _ _ _⟩
  have answered : c3.KeepsMoves c4 ∧ c3.Signals c4 := by
    unfold c4
    split
    · exact ⟨c3.keepsMoves_stage _ _ _ _, c3.signals_stage _ _ _ _⟩
    · exact ⟨.refl c3, .refl c3⟩
  exact ⟨((raised.1.trans answered.1).trans (c4.keepsMoves_signalDone _ _)).at_ at2,
    ((((c.signals_dropReqs _).trans (Core.signals_setMove at1 _)).trans raised.2).trans answered.2).trans (c4.signals_signalDone _ _)⟩

/-- An abort ends the record, tells the peer or not, and then sees to the context (R138, R143). -/
theorem Core.abortMove_eq (st : Status) (d : Nat) (tell : Bool) :
    ∃ b : Core, b.moves.get? r = some (m.over t .aborted st) ∧ c.Signals b ∧ c.abortMove t r st d tell =
      if m.type = .attach then
        if m.source then b else (b.freePages t m.ctx).updCtx m.ctx (fun x => { x with attaching := false, posOff := 0 })
      else if m.source then b.sourceBack t m.ctx
      else if (b.ctx m.ctx).state = .movingIn then
        ((b.failHelds t m.ctx .stateReject (stateDetail .context CtxState.draining.code)).enterDraining t m.ctx).freePages t m.ctx
      else b := by
  rw [Core.abortMove, at_]
  dsimp -zeta only
  rw [if_neg (by simp [live])]
  extract_lets c1 c2 x
  have told : c.KeepsMoves c1 ∧ c.Signals c1 := by
    unfold c1
    split
    · exact ⟨c.keepsMoves_moveMsg _ _ _ _ _ _ _, c.signals_moveMsg _ _ _ _ _ _ _⟩
    · exact ⟨.refl c, .refl c⟩
  obtain ⟨ends, same⟩ := Core.endMove_ends (t := t) (told.1.at_ at_) live .aborted true st d
  exact ⟨c2, ends, told.2.trans same, rfl⟩

/-- An abort ends the record (R138). -/
theorem Core.abortMove_ends (st : Status) (d : Nat) (tell : Bool) :
    (c.abortMove t r st d tell).moves.get? r = some (m.over t .aborted st) := by
  obtain ⟨b, ended, -, eq⟩ := Core.abortMove_eq (t := t) at_ live st d tell
  rw [eq]
  split
  · split
    · exact ended
    · exact ((b.keepsMoves_freePages t m.ctx).trans (Core.keepsMoves_updCtx _ _ _)).at_ ended
  split
  · exact (b.keepsMoves_updCtx _ _).at_ ended
  split
  · exact (((b.keepsMoves_failHelds _ _ _ _).trans (Core.keepsMoves_enterDraining _ _ _)).trans (Core.keepsMoves_freePages _ _ _)).at_ ended
  · exact ended

/-- A source that has not cut over returns to its prior state (R138). -/
theorem Core.abortMove_source (kind : m.type ≠ .attach) (source : m.source = true) (out : (c.ctx m.ctx).state = .movingOut) (st : Status) (d : Nat)
    (tell : Bool) : ((c.abortMove t r st d tell).ctx m.ctx).state = (c.ctx m.ctx).prior ∧ (c.abortMove t r st d tell).tiers = c.tiers := by
  obtain ⟨b, -, same, eq⟩ := Core.abortMove_eq (t := t) at_ live st d tell
  have state : (b.ctx m.ctx).state = .movingOut := (congrArg Ctx.state (same.ctx m.ctx) :).trans out
  have prior : (b.ctx m.ctx).prior = (c.ctx m.ctx).prior := (congrArg Ctx.prior (same.ctx m.ctx) :)
  rw [eq, if_neg kind, if_pos source, Core.sourceBack, Core.ctx_updCtx_self, if_pos state]
  exact ⟨prior, same.tiers⟩

/-- A destination that has not seen CUTOVER drains (R138). -/
theorem Core.abortMove_dest (kind : m.type ≠ .attach) (dest : m.source = false) (in_ : (c.ctx m.ctx).state = .movingIn) (st : Status) (d : Nat)
    (tell : Bool) : ((c.abortMove t r st d tell).ctx m.ctx).state = .draining := by
  obtain ⟨b, -, same, eq⟩ := Core.abortMove_eq (t := t) at_ live st d tell
  have state : (b.ctx m.ctx).state = .movingIn := (congrArg Ctx.state (same.ctx m.ctx) :).trans in_
  rw [eq, if_neg kind, if_neg (by simp [dest]), if_pos state, (Core.sheds_freePages _ _ _).state]
  exact (Core.enterDraining_drains _ _ _).1

end

/-! #### Pages that become ready -/

theorem Core.noteReady_keeps (c : Core) : c.noteReady.ctxs = c.ctxs ∧ c.noteReady.tiers = c.tiers := by
  obtain ⟨ms, eq⟩ := c.noteReady_moves
  rw [eq]
  exact ⟨rfl, rfl⟩

/-- A record to which ready pages may have been added (R128). -/
theorem Core.noteReady_at {r : Nat} {c : Core} {m : Move} (at_ : c.moves.get? r = some m) :
    ∃ ks, c.noteReady.moves.get? r = some { m with ready := ks } := by
  unfold Core.noteReady
  refine List.foldlRecOn (motive := fun d : Core => ∃ ks, d.moves.get? r = some { m with ready := ks }) _ _ ⟨m.ready, at_⟩ ?_
  rintro b ⟨ks, at_⟩ e -
  extract_lets x new
  split
  · exact ⟨ks, at_⟩
  · by_cases same : r = e.1
    · subst same
      exact ⟨ks ++ new, Core.get?_updMove at_ _⟩
    · exact ⟨ks, (Tbl.get?_upd_other same _ _).trans at_⟩

end Sys2Proof.Machine
end

/-! ### Messages that name a record (R51, R58, R119, R313) -/

section
namespace Sys2Proof.Machine

/-- A delivered message has the kind of its row. -/
theorem Core.kind_of_headMsg {c : Core} {cid type k : Nat} {q : Msg} (h : c.headMsg cid type (some k) = some q) : q.arg 0 1 = k := by
  unfold Core.headMsg at h
  split at h
  · split at h
    · next found =>
      cases h
      simp only [Bool.and_eq_true, Option.isNone_some, Bool.false_or, beq_iff_eq, Option.some.injEq] at found
      exact found.2.symm
    · cases h
  · cases h

/-- A row on the core of a live device leaves what its function makes of it. -/
theorem onCore_next {s : State} (live : s.top.live = true) {f : Top → Core → Core} {d : Core} (acts : f s.top s.core = d) :
    (.next (s.onCore f) : Host.Outcome State Fault Refusal) = .next { s with core := d } := by rw [State.next_onCore live, acts]

theorem Core.keepsMoves_takeMsg (cid : Nat) (q : Msg) (c : Core) : c.KeepsMoves (c.takeMsg cid q) := ⟨rfl, rfl⟩

section
variable {cid type kind r : Nat} {src : Bool} {q : Msg} {mv : Move} {s : State}

/-- A message of a move that names a context which accepts it is not refused (R51, R58). -/
theorem moveRefused_of_reaches {h : Nat} (reaches : Claims.reaches s type kind h) (delivered : Claims.delivered s cid type (some kind) q) :
    (s.core.takeMsg cid q).moveRefused s.top cid h q = none := by
  obtain ⟨fresh, state⟩ := reaches
  have isType := Core.type_of_headMsg delivered.2
  have isKind := Core.kind_of_headMsg delivered.2
  have fresh : (s.core.takeMsg cid q).stale s.top h = false := fresh
  have same : (s.core.takeMsg cid q).ctx (hIndex h) = s.core.ctx (hIndex h) := rfl
  unfold Core.moveRefused
  rw [fresh, isType, isKind, same]
  rcases state with rfl | ⟨rfl, rfl⟩ | ⟨draining, faulted⟩
  · simp
  · simp
  · simp [draining, faulted]

/-- A row of a delivered message leaves what its function makes of the state (R313). -/
theorem onMsg_next {kind : Option Nat} (delivered : Claims.delivered s cid type kind q) {f : Top → Core → Nat → Msg → Core} {d : Core}
    (acts : f s.top (s.core.takeMsg cid q) cid q = d) :
    (.next (onMsg cid type kind f s) : Host.Outcome State Fault Refusal) = .next { s with core := d } := by
  rw [onMsg_delivered delivered, acts]

/-- A message that names a record which it fits acts on it (R119). -/
theorem onMove_next (h : Claims.onRecord s cid type kind src q r mv) {f : Top → Core → Nat → Nat → Move → Msg → Core} {d : Core}
    (acts : f s.top (s.core.takeMsg cid q) cid r mv q = d) :
    (.next (onMsg cid type (some kind) (onMove src f) s) : Host.Outcome State Fault Refusal) = .next { s with core := d } := by
  obtain ⟨delivered, reaches, found, -, epoch, side, -⟩ := h
  have found : (s.core.takeMsg cid q).findMove (q.arg 4 2 % 2 ^ 14) (q.arg 2 2) = some (r, mv) := found
  refine onMsg_next delivered ?_
  simp only [onMove, moveRefused_of_reaches reaches delivered, found, epoch, side, decide_true, Bool.and_self, if_true, acts]

/-- The record that a message names is live when the message acts on it. -/
theorem record_of_onRecord (h : Claims.onRecord s cid type kind src q r mv) :
    (s.core.takeMsg cid q).moves.get? r = some mv ∧ mv.ended = none := by
  obtain ⟨-, -, -, at_, -, -, live⟩ := h
  exact ⟨at_, live⟩

end

end Sys2Proof.Machine
end

/-! ### Drain markers and the timers of moves (R134 to R138, R147) -/

section
namespace Sys2Proof.Machine

theorem length_fit (n : Nat) (bs : List Byte) : (fit n bs).length = n := by simp [fit]; omega

/-! #### A MARK -/

section
variable {t : Top} {cid : Nat} {q : Msg} {c : Core}

/-- A MARK has no answer that could carry a status (R305). -/
theorem Core.refuseMsg_mark (type : q.type = 0x33) (kind : q.arg 0 1 = 1) (st : Status) (d : Nat) : c.refuseMsg t cid q st d = c := by
  simp [Core.refuseMsg, type, kind]

/-- The echo of a MARK (R135). -/
def Core.echo (c : Core) (t : Top) (cid : Nat) (q : Msg) : Core := c.answerMsg t cid q 0x33 (le 1 2 ++ fit 21 (q.body.drop 1) ++ zeros 2)

/-- A MARK is echoed, or discarded, and counted where its handle or its epoch is stale (R51, R119, R135). -/
theorem Core.markArrives_cases (type : q.type = 0x33) (kind : q.arg 0 1 = 1) :
    c.markArrives t cid q = c.echo t cid q ∨ c.markArrives t cid q = c ∨ ∃ i k, c.markArrives t cid q = c.countStale i k := by
  have refused : ∀ h d, c.moveRefused t cid h q = some d → d = c ∨ ∃ i k, d = c.countStale i k := by
    intro h d
    unfold Core.moveRefused
    simp only [Core.refuseMsg_mark type kind]
    intro answer
    split at answer
    · cases answer
    split at answer
    · exact .inr ⟨_, _, (Option.some.inj answer).symm⟩
    split at answer
    · cases answer
    split at answer
    · exact .inl (Option.some.inj answer).symm
    split at answer
    · exact .inl (Option.some.inj answer).symm
    · cases answer
  unfold Core.markArrives Core.staleMove
  simp only [Core.refuseMsg_mark type kind]
  split
  · exact .inl rfl
  · split
    · exact .inl rfl
    · split
      · next d refuses => exact .inr (refused _ d refuses)
      · split
        · exact .inl rfl
        · exact .inr (.inr ⟨_, _, rfl⟩)

/-- What becomes of a MARK changes no context, no move and no page, and the inboxes stay as they are. -/
theorem Core.markArrives_keeps (type : q.type = 0x33) (kind : q.arg 0 1 = 1) :
    (c.markArrives t cid q).ctxs = c.ctxs ∧ (c.markArrives t cid q).moves = c.moves ∧ (c.markArrives t cid q).tiers = c.tiers ∧
      ((c.markArrives t cid q).conn cid).inbox = (c.conn cid).inbox := by
  obtain echoed | same | ⟨i, k, counted⟩ := Core.markArrives_cases (c := c) (t := t) (cid := cid) type kind
  · have kept := c.keepsInner_sendMsg t cid 0x33 true q.cls (le 1 2 ++ fit 21 (q.body.drop 1) ++ zeros 2) none
    rw [echoed]
    exact ⟨kept.ctxs, kept.moves, kept.tiers, (c.talks_answerMsg t cid q 0x33 _).inbox⟩
  · rw [same]
    exact ⟨rfl, rfl, rfl, rfl⟩
  · rw [counted]
    have kept := c.sameWork_bump (.summit (i / 32768) k) 1
    exact ⟨kept.ctxs, kept.moves, kept.tiers, by rw [Core.countStale, Core.conn_bump]⟩

/-- A message for which the connection holds units goes at once: one sequence number and its units are taken (R304, R313). -/
theorem Core.chan_sendNow (m : Msg) (req : Option Nat) :
    (((c.sendNow t cid m req).conn cid).chan m.rsp).next = (((c.conn cid).chan m.rsp).next + 1) % 2 ^ 32 ∧
      (((c.sendNow t cid m req).conn cid).chan m.rsp).held = ((c.conn cid).chan m.rsp).held - m.units := by
  unfold Core.sendNow
  extract_lets n ch m' c1 c2
  have sent : (c2.putCells t cid m' false).conn cid = c1.conn cid := by
    simp only [Core.conn, (c2.posts_putCells t cid m' false).fabric]
    unfold c2
    split
    · rfl
    · rfl
  rw [sent, Core.conn_updConn_self]
  dsimp only
  rw [show m'.rsp = m.rsp from rfl, Conn.chan_onChan_self]
  cases m.rsp
  · exact ⟨rfl, rfl⟩
  · exact ⟨rfl, rfl⟩

/-- A message for a connection, before it has its sequence (R304). -/
def Core.message (c : Core) (t : Top) (cid type : Nat) (rsp : Bool) (cls : Nat) (body : List Byte) : Msg :=
  { type := type, flags := b2n rsp + 2 * cls, src := t.nodeId, dst := (c.conn cid).peer, conn := (c.conn cid).peerConn, seq := 0,
    stamp := 0, job := 0, crReq := 0, crRsp := 0, body := body }

theorem Core.rsp_message (type : Nat) (rsp : Bool) (cls : Nat) (body : List Byte) : (c.message t cid type rsp cls body).rsp = rsp := by
  cases rsp
  · simp [Core.message, Msg.rsp, bit, b2n]
  · simp [Core.message, Msg.rsp, bit, b2n]

/-- An answer goes at once on an open connection that holds the units and has nothing waiting (R313). -/
theorem Core.sendMsg_now {type cls : Nat} {body : List Byte} {units : Nat} (opened : (c.conn cid).state = .opened) (plain : type < 0x50)
    (clear : (c.conn cid).rsp.wait = []) (size : (c.message t cid type true cls body).units = units) (held : units ≤ (c.conn cid).rsp.held)
    (most : units ≤ (c.conn cid).rsp.heldMax) :
    c.sendMsg t cid type true cls body none = c.sendNow t cid (c.message t cid type true cls body) none := by
  have asks : c.mayAsk t (c.message t cid type true cls body) (c.conn cid).stages = true := by
    simp [Core.mayAsk, Core.message, Nat.not_le.2 plain]
  unfold Core.message at asks size
  unfold Core.sendMsg
  dsimp only
  refine (if_neg ?_).trans ((if_neg ?_).trans (if_pos ?_))
  · simpa [opened] using asks
  · simpa [Conn.chan] using fun _ => size.le.trans most
  · simpa [Conn.chan, clear] using size.le.trans held

/-- An echo takes one unit and one sequence number of an open connection that holds units and has nothing waiting. -/
theorem Core.echo_sends (opened : (c.conn cid).state = .opened) (clear : (c.conn cid).rsp.wait = []) (held : 1 ≤ (c.conn cid).rsp.held)
    (most : 1 ≤ (c.conn cid).rsp.heldMax) :
    ((c.echo t cid q).conn cid).rsp.next = ((c.conn cid).rsp.next + 1) % 2 ^ 32 ∧
      ((c.echo t cid q).conn cid).rsp.held = (c.conn cid).rsp.held - 1 := by
  have units : (c.message t cid 0x33 true q.cls (le 1 2 ++ fit 21 (q.body.drop 1) ++ zeros 2)).units = 1 := by
    simp [Core.message, Msg.units, Msg.total, length_fit, ceilDiv]
  have sends := Core.chan_sendNow (t := t) (cid := cid) (c := c) (c.message t cid 0x33 true q.cls (le 1 2 ++ fit 21 (q.body.drop 1) ++ zeros 2)) none
  rw [Core.rsp_message, units, ← Core.sendMsg_now opened (by decide) clear units held most] at sends
  exact sends

end

section
variable {cid r : Nat} {q : Msg} {mv : Move} {s : State}

/-- DRAIN_MARK MARK (R135). -/
theorem drainMark_echoes (delivered : Claims.delivered s cid 0x33 (some 1) q) :
    ∃ t, exec (.drainMarkMark cid) s = .next t ∧ t.top = s.top ∧ t.core.ctxs = s.core.ctxs ∧ t.core.moves = s.core.moves ∧
      t.core.tiers = s.core.tiers ∧ (t.core.conn cid).inbox = (s.core.conn cid).inbox.tail ∧
      ((∀ k m, s.core.findMove (q.arg 4 2 % 2 ^ 14) (q.arg 2 2) = some (k, m) →
          m.source = true ∨ (q.arg 6 2 = m.wire ∧ Claims.reaches s 0x33 1 (q.arg 12 4))) →
        (s.core.conn cid).state = .opened → (s.core.conn cid).rsp.wait = [] → 1 ≤ (s.core.conn cid).rsp.held →
        1 ≤ (s.core.conn cid).rsp.heldMax →
        (t.core.conn cid).rsp.next = ((s.core.conn cid).rsp.next + 1) % 2 ^ 32 ∧
          (t.core.conn cid).rsp.held = (s.core.conn cid).rsp.held - 1) := by
  have runs : exec (.drainMarkMark cid) s = .next { s with core := (s.core.takeMsg cid q).markArrives s.top cid q } :=
    congrArg Host.Outcome.next (onMsg_delivered delivered _)
  obtain ⟨ctxs, moves, tiers, inbox⟩ := Core.markArrives_keeps (t := s.top) (cid := cid) (c := s.core.takeMsg cid q)
    (Core.type_of_headMsg delivered.2) (Core.kind_of_headMsg delivered.2)
  have taken : (s.core.takeMsg cid q).conn cid = Conn.onChan q.rsp (fun ch => { ch with owed := ch.owed + q.units })
      { s.core.conn cid with inbox := (s.core.conn cid).inbox.tail } := by
    simp [Core.takeMsg, Core.oweUnits]
  have rsp : ∃ o, ((s.core.takeMsg cid q).conn cid).rsp = { (s.core.conn cid).rsp with owed := o } := by
    rw [taken]
    cases q.rsp
    · exact ⟨_, rfl⟩
    · exact ⟨_, rfl⟩
  refine ⟨_, runs, rfl, ctxs, moves, tiers, ?_, fun heeded opened clear held most => ?_⟩
  · rw [inbox, taken, Conn.onChan_inbox]
  · have echoes : (s.core.takeMsg cid q).markArrives s.top cid q = (s.core.takeMsg cid q).echo s.top cid q := by
      have heeded : ∀ k m, (s.core.takeMsg cid q).findMove (q.arg 4 2 % 2 ^ 14) (q.arg 2 2) = some (k, m) → _ := heeded
      unfold Core.markArrives
      split
      · rfl
      · next k m found =>
        rcases heeded k m found with source | ⟨epoch, reaches⟩
        · rw [if_pos source]
          rfl
        · rw [moveRefused_of_reaches reaches delivered]
          dsimp only
          rw [if_pos epoch]
          split
          · rfl
          · rfl
    obtain ⟨o, rsp⟩ := rsp
    have opened : ((s.core.takeMsg cid q).conn cid).state = .opened := by rw [taken, Conn.onChan_state]; exact opened
    have sends := Core.echo_sends (t := s.top) (q := q) opened (by rw [rsp]; exact clear) (by rw [rsp]; exact held) (by rw [rsp]; exact most)
    rw [rsp] at sends
    rw [echoes]
    exact sends

end
/-! #### The markers awaited -/

section
variable {t : Top} {r : Nat} {c : Core}

/-- COMPLETE, or not yet: no request is made, and nothing of pages and schedules is touched (R134). -/
theorem Core.drainCheck_keeps (t : Top) (r : Nat) (c : Core) : c.Signals (c.drainCheck t r) ∧ (c.drainCheck t r).fabric.reqs = c.fabric.reqs := by
  unfold Core.drainCheck
  split
  · exact ⟨.refl c, rfl⟩
  · split
    · exact ⟨.refl c, rfl⟩
    · exact ⟨(c.signals_updMove _ _).trans (Core.signals_moveMsg _ _ _ _ _ _ _ _), Core.reqs_moveMsg _ _ _ _ _ _ _⟩

/-- A request of a move that ends without its answer (R317). -/
theorem Core.reqFails_move {q i : Nat} {x : Req} {st : Status} (at_ : c.fabric.reqs.get? q = some x) (whose : x.purpose = .move r i)
    (other : st ≠ .poisoned) :
    ∃ b : Core, c.reqFails t q st = b.moveReqFails t r x st ∧ b.fabric.reqs = c.fabric.reqs.del q ∧ c.Signals b ∧ c.KeepsMoves b := by
  refine ⟨(c.dropReq q).updConn x.conn (Conn.onChan false (fun ch => { ch with wait := ch.wait.filter (fun w => w.2 != some q) })), ?_,
    c.reqs_dropReq q, (c.signals_dropReq q).trans ⟨rfl, rfl, fun _ => rfl, fun _ => rfl, fun _ _ => rfl⟩, (c.keepsMoves_dropReq q).trans ⟨rfl, rfl⟩⟩
  unfold Core.reqFails
  simp only [at_, whose, other, if_false]

/-- A MARK whose echo does not come counts as echoed (R134). -/
theorem Core.moveReqFails_mark {x : Req} (mark : x.type = 0x33) (st : Status) (c : Core) :
    c.Signals (c.moveReqFails t r x st) ∧ (c.moveReqFails t r x st).fabric.reqs = c.fabric.reqs := by
  unfold Core.moveReqFails
  split
  · exact ⟨.refl c, rfl⟩
  · next m _ =>
    split
    · exact ⟨.refl c, rfl⟩
    · have counted : c.Signals (if st = .timeout then c.countStale m.ctx 4 else c) ∧
          (if st = .timeout then c.countStale m.ctx 4 else c).fabric.reqs = c.fabric.reqs := by
        split
        · exact ⟨c.signals_countStale _ (by decide) (by decide), by rw [Core.countStale, (c.sameWork_bump _ _).fabric]⟩
        · exact ⟨.refl c, rfl⟩
      obtain ⟨same, reqs⟩ := Core.drainCheck_keeps t r (if st = .timeout then c.countStale m.ctx 4 else c)
      simp only [mark]
      exact ⟨counted.1.trans same, reqs.trans counted.2⟩

/-- A request of a move that ends without its answer is one that opens: the move aborts (R138). -/
theorem Core.moveReqFails_opens {x : Req} {m : Move} (at_ : c.moves.get? r = some m) (live : m.ended = none) (alone : x.movesAlone = true)
    (other : x.type ≠ 0x33) (st : Status) : c.moveReqFails t r x st = c.abortMove t r st 0 true := by
  have opens : ((decide (x.type = 0x30) && decide (x.tag = 1)) || (decide (x.type = 0x31) && (decide (x.tag = 1) || decide (x.tag = 2)))) = true := by
    unfold Req.movesAlone at alone
    split at alone
    · simpa [other] using alone
    · cases alone
  unfold Core.moveReqFails
  rw [at_]
  dsimp only
  rw [if_neg (by simp [live])]
  exact if_pos opens

end

section
variable {cid r : Nat} {q : Msg} {mv : Move} {s : State}

/-- A request that is looked up among those of a move is one of them. -/
theorem Core.purpose_of_moveReqs {c : Core} {p : Nat × Req → Bool} {k : Nat} {x : Req} (found : (c.moveReqs r).find? p = some (k, x)) :
    p (k, x) = true ∧ ∃ i, x.purpose = .move r i := by
  have mine := (List.mem_filter.1 (List.mem_of_find?_eq_some found)).2
  refine ⟨List.find?_some found, ?_⟩
  dsimp only [Req.ofMove] at mine
  split at mine
  · next n i purpose =>
    obtain rfl : n = r := by simpa using mine
    exact ⟨i, purpose⟩
  · cases mine

/-- DRAIN_MARK ECHO (R134). -/
theorem drainEcho_clears (h : Claims.onRecord s cid 0x33 2 true q r mv) :
    ∃ t, exec (.drainMarkEcho cid) s = .next t ∧ t.top = s.top ∧
      (∀ e ∈ t.core.moveReqs r, ¬ (e.2.type = 0x33 ∧ e.2.conn = cid)) ∧ t.core.tiers = s.core.tiers := by
  obtain ⟨delivered, ⟨fresh, -⟩, found, -, epoch, source, -⟩ := h
  let c := s.core.takeMsg cid q
  let d := (Tbl.keys ((c.moveReqs r).filter (fun e => e.2.type == 0x33 && e.2.conn == cid))).foldl (fun c k => c.dropReq k) c
  have fresh : c.stale s.top (q.arg 8 4) = false := fresh
  have found : c.findMove (q.arg 4 2 % 2 ^ 14) (q.arg 2 2) = some (r, mv) := found
  have echoed : c.markEcho s.top cid q = d.drainCheck s.top r := by
    unfold Core.markEcho
    rw [if_neg (by simp [fresh]), found]
    exact if_neg (by simp [epoch, source])
  obtain ⟨same, reqs⟩ := Core.drainCheck_keeps s.top r d
  refine ⟨_, onMsg_next delivered echoed, rfl, fun e here ⟨type, conn⟩ => ?_,
    same.tiers.trans ((c.signals_dropReqs _).tiers.trans (s.core.signals_takeMsg cid q).tiers)⟩
  have here : e ∈ d.moveReqs r := by
    unfold Core.moveReqs at here ⊢
    rwa [← reqs]
  have gone := c.dropReqs_gone r (fun e => e.2.type == 0x33 && e.2.conn == cid) e here
  simp [type, conn] at gone

/-- DRAIN_TIMEOUT (R134, R317). -/
theorem drainTimeout_clears {k : Nat} {x : Req} (live : s.top.live = true)
    (found : (s.core.moveReqs r).find? (fun e => s.core.reqDue s.top e.2 && e.2.type == 0x33 && e.2.conn == cid) = some (k, x))
    (at_ : s.core.fabric.reqs.get? k = some x) (alive : x.mseq = none ∨ ∃ h, s.core.fabric.heard.get? x.node = some h ∧ x.sent ≤ h) :
    ∃ t, exec (.drainTimeout r cid) s = .next t ∧ t.top = s.top ∧ t.core.fabric.reqs.get? k = none ∧ t.core.tiers = s.core.tiers := by
  obtain ⟨is, i, whose⟩ := Core.purpose_of_moveReqs found
  obtain ⟨⟨-, mark⟩, -⟩ : (_ ∧ x.type = 0x33) ∧ x.conn = cid := by simpa using is
  obtain ⟨b, fails, reqs, left, -⟩ := Core.reqFails_move (t := s.top) at_ whose (st := .timeout) (by decide)
  obtain ⟨same, kept⟩ := Core.moveReqFails_mark (t := s.top) (r := r) mark .timeout b
  refine ⟨_, onCore_next live (d := b.moveReqFails s.top r x .timeout) (by rw [found, ← fails, ← Core.reqTimesOut_alive at_ alive]), rfl, ?_,
    same.tiers.trans left.tiers⟩
  dsimp only
  rw [kept, reqs]
  exact Tbl.get?_del_self _ _

/-- MOVE_OPEN_TIMEOUT (R138, R317). -/
theorem moveOpenTimeout_aborts {k : Nat} {x : Req} (live : s.top.live = true)
    (found : (s.core.moveReqs r).find? (fun e => s.core.reqDue s.top e.2 && e.2.movesAlone && e.2.type != 0x33) = some (k, x))
    (at_ : s.core.fabric.reqs.get? k = some x) (alive : x.mseq = none ∨ ∃ h, s.core.fabric.heard.get? x.node = some h ∧ x.sent ≤ h)
    (record : s.core.moves.get? r = some mv) (open_ : mv.ended = none) (source : mv.source = true) (kind : mv.type ≠ .attach)
    (out : (s.core.ctx mv.ctx).state = .movingOut) :
    ∃ t mv', exec (.moveOpenTimeout r) s = .next t ∧ t.top = s.top ∧ t.core.moves.get? r = some mv' ∧ mv'.ended = some s.top.now ∧
      mv'.phase = .aborted ∧ mv'.status = .timeout ∧ (t.core.ctx mv.ctx).state = (s.core.ctx mv.ctx).prior := by
  obtain ⟨is, i, whose⟩ := Core.purpose_of_moveReqs found
  obtain ⟨⟨-, alone⟩, other⟩ : (_ ∧ x.movesAlone = true) ∧ x.type ≠ 0x33 := by simpa using is
  obtain ⟨b, fails, -, left, kept⟩ := Core.reqFails_move (t := s.top) at_ whose (st := .timeout) (by decide)
  have record := kept.at_ record
  have aborts : s.core.reqTimesOut s.top k = b.abortMove s.top r .timeout 0 true := by
    rw [Core.reqTimesOut_alive at_ alive, fails, Core.moveReqFails_opens record open_ alone other]
  have bare := left.ctx mv.ctx
  have back := (Core.abortMove_source (t := s.top) record open_ kind source ((congrArg Ctx.state bare :).trans out) .timeout 0 true).1
  exact ⟨_, _, onCore_next live (d := b.abortMove s.top r .timeout 0 true) (by rw [found, ← aborts]), rfl,
    Core.abortMove_ends record open_ .timeout 0 true, rfl, rfl, rfl, back.trans (congrArg Ctx.prior bare :)⟩

end

/-! #### Pages that stall -/

section
variable {t : Top} {r l pg : Nat} {c : Core} {m : Move}

/-- The first entry that passes a test, where the entries that pass it are changed and still pass it. -/
theorem find?_map_passing {α : Type} {p : α → Bool} {f : α → α} (still : ∀ x, p (f x) = p x) (xs : List α) :
    (xs.map (fun x => if p x then f x else x)).find? p = (xs.find? p).map f := by
  induction xs with
  | nil => rfl
  | cons x xs ih =>
    cases passes : p x with
    | true => simp [passes, still]
    | false => simpa [passes] using ih

theorem Move.recvOf_onRecv {f : RecvPage → RecvPage} (place : ∀ p, (f p).layer = p.layer ∧ (f p).page = p.page) (m : Move) :
    (m.onRecv l pg f).recvOf l pg = (m.recvOf l pg).map f :=
  find?_map_passing (p := fun s : RecvPage => s.layer == l && s.page == pg) (fun p => by simp only [(place p).1, (place p).2]) m.recv

/-- An acknowledgement returns the credits owed (R130). -/
theorem Core.ackPage_owes (at_ : c.moves.get? r = some m) (st : Status) (attempt : Nat) :
    (c.ackPage t r st l pg attempt).moves.get? r = some { m with owed := 0 } ∧ c.Signals (c.ackPage t r st l pg attempt) ∧
      (c.ackPage t r st l pg attempt).ctxs = c.ctxs := by
  rw [Core.ackPage, at_]
  have kept := Core.keepsInner_moveMsg t r 0x32 2 m.pageCls
    (statusBytes st 0 ++ le 2 (min 32 m.owed) ++ le 2 l ++ le 2 pg ++ le 1 attempt ++ zeros 5) (c.updMove r (fun m => { m with owed := 0 })) none
  exact ⟨kept.keepsMoves.at_ (Core.get?_updMove at_ _), (c.signals_updMove _ _).trans (Core.signals_moveMsg _ _ _ _ _ _ _ _), kept.ctxs⟩

/-- A partial page is discarded and asked for again (R136). -/
theorem Core.refetch_asks {p : RecvPage} (at_ : c.moves.get? r = some m) (partial_ : m.recvOf l pg = some p) (few : p.attempt < 3)
    (room : c.hasRef m.ctx .msg = true) (st : Status) :
    ∃ m' g, (c.refetch t r l pg st).moves.get? r = some m' ∧ m'.stalls = m.stalls + 1 ∧ m'.recvOf l pg = some g ∧
      g.attempt = p.attempt + 1 ∧ g.got = [] := by
  unfold Core.refetch
  rw [at_]
  dsimp -zeta only
  rw [partial_]
  dsimp -zeta only
  extract_lets c1 c2 c3
  have marked : c1.moves = c.moves ∧ c1.ctxs = c.ctxs := by
    unfold c1
    split
    · exact ⟨rfl, rfl⟩
    · exact ⟨rfl, rfl⟩
  have at2 := Core.get?_updMove (c := c1) (r := r) (m := m) (by rw [marked.1, at_])
    (fun m => ({ m with stalls := m.stalls + 1 } : Move).onRecv l pg (fun x => { x with
        attempt := p.attempt + 1, got := [], bytes := [], stallAt := none }))
  obtain ⟨at3, -, ctxs⟩ := Core.ackPage_owes (t := t) (l := l) (pg := pg) at2 st p.attempt
  have same : c3.ctxs = c.ctxs := ctxs.trans marked.2
  have roomy : c3.hasRef m.ctx .msg = true := by rw [Core.hasRef, Core.ctx_of_ctxs same]; exact room
  rw [if_neg (by simp [few, roomy])]
  rw [← Core.moveAsk_moves (t := t) at3 m.conn 0x31 3 (tagKey l pg) 2 (zeros 12 ++ le 2 l ++ le 2 pg ++ le 1 (p.attempt + 1) ++ zeros 3)] at at3
  have page := Move.recvOf_onRecv (l := l) (pg := pg) (f := fun x => { x with
    attempt := p.attempt + 1, got := [], bytes := [], stallAt := none }) (fun _ => ⟨rfl, rfl⟩) { m with stalls := m.stalls + 1 }
  rw [show Move.recvOf { m with stalls := m.stalls + 1 } l pg = some p from partial_] at page
  exact ⟨_, _, at3, rfl, page, rfl, rfl⟩

end

section
variable {r : Nat} {mv : Move} {s : State}

/-- STALL_TIMER_EXPIRY (R136). -/
theorem stallTimer_refetches {l pg e : Nat} {p : RecvPage} (live : s.top.live = true) (record : s.core.moves.get? r = some mv)
    (open_ : mv.ended = none) (partial_ : mv.recvOf l pg = some p) (stalls : p.stallAt = some e) (room : s.core.hasRef mv.ctx .msg = true)
    (due : e ≤ s.top.now) (incomplete : p.complete = false) (few : p.attempt < 3) :
    ∃ t mv' g, exec (.stallTimerExpiry r l pg) s = .next t ∧ t.top = s.top ∧ t.core.moves.get? r = some mv' ∧ mv'.stalls = mv.stalls + 1 ∧
      mv'.recvOf l pg = some g ∧ g.attempt = p.attempt + 1 ∧ g.got = [] := by
  obtain ⟨mv', g, facts⟩ := Core.refetch_asks (t := s.top) record partial_ few room .stalled
  refine ⟨_, mv', g, onCore_next live (d := s.core.refetch s.top r l pg .stalled) ?_, rfl, facts⟩
  simp [Core.stallExpiry, record, open_, partial_, stalls, due, incomplete]

/-- PAGE_ACK_TIMEOUT (R136, R317). -/
theorem pageAckTimeout_sendsAgain {l pg o h : Nat} {p : SentPage} {g : PageObj} (live : s.top.live = true)
    (record : s.core.moves.get? r = some mv) (open_ : mv.ended = none) (source : mv.source = true)
    (sent : mv.sent.find? (fun y => y.layer == l && y.page == pg) = some p) (unacked : p.acked = false) (few : p.attempt < 3)
    (at_ : s.core.pageOf mv.ctx l pg = some (o, g)) (whole : s.core.streamLen g ≤ p.sent)
    (due : p.at_ + (s.core.conn mv.conn).timeoutUs * 1000 ≤ s.top.now) (heard : s.core.fabric.heard.get? mv.peerNode = some h) (alive : p.at_ ≤ h) :
    ∃ t mv', exec (.pageAckTimeout r l pg) s = .next t ∧ t.top = s.top ∧ t.core.moves.get? r = some mv' ∧
      mv'.sent = mv.sent.map (fun y => if y.layer == l && y.page == pg then { y with attempt := y.attempt + 1, sent := 0 } else y) ∧
      t.core.tiers = s.core.tiers := by
  let again := fun (m : Move) => m.onSent l pg (fun y => { y with attempt := y.attempt + 1, sent := 0 })
  have unanswered : s.core.pageUnacked s.top r l pg = s.core.setMove r again := by
    simp [Core.pageUnacked, record, sent, Nat.not_le.2 few, again]
  refine ⟨_, again mv, onCore_next live (d := s.core.setMove r again) ?_, rfl, Core.get?_setMove record again, rfl,
    (Core.signals_setMove record again).tiers⟩
  simp [record, sent, at_, whole, open_, source, unacked, due, heard, alive, unanswered]

/-- MOVE_RECORD_EXPIRY (R147). -/
theorem moveRecordExpiry_forgets {e : Nat} (live : s.top.live = true) (record : s.core.moves.get? r = some mv) (ended : mv.ended = some e) :
    (e + 1000000000 ≤ s.top.now → exec (.moveRecordExpiry r) s = .next { s with core := { s.core with moves := s.core.moves.del r } }) ∧
    (s.top.now < e + 1000000000 → exec (.moveRecordExpiry r) s = .next s) := by
  refine ⟨fun late => (State.next_onCore live _).trans ?_, fun early => State.next_onCore_id live _ ?_⟩
  · simp [record, ended, late]
  · simp [record, ended, Nat.not_le.2 early]

end

/-- Settles O44, row by row. -/
theorem drainMarkersAndMoveTimers : Obligations.DrainMarkersAndMoveTimers := by
  intro cid r q mv s c heard
  exact ⟨drainMark_echoes, drainEcho_clears, fun k x live => drainTimeout_clears live, fun k x live => moveOpenTimeout_aborts live,
    fun l pg p e live => stallTimer_refetches live, fun l pg p o g h live => pageAckTimeout_sendsAgain live,
    fun e live => moveRecordExpiry_forgets live⟩

end Sys2Proof.Machine
end

/-! ### The source of a move (R127, R128, R130, R134, R136, R142) -/

section
namespace Sys2Proof.Machine

/-! #### A write-down abandoned (R240) -/

/-- A page's write-down taken back, once the page has a frame again. -/
def Core.stopDown (t : Top) (o crest : Nat) (c : Core) : Core :=
  (((c.updPage o (fun p => { p with down := none })).bump (.chrys crest 11)).dropPool3 o).freeWork t (· == .page o)

section
variable {t : Top} {o : Nat} {c : Core}

/-- A page is left alone, or its write-down is taken back, and the page that has its frame is given another (R110, R240). -/
theorem Core.abandon_cases (t : Top) (o : Nat) (c : Core) : c.abandon t o = c ∨ ∃ k b, c.abandon t o = b.stopDown t o k ∧
    (b = c ∨ ∃ k0 h fr d, c.findFrame t k0 = some (fr, d) ∧ b = d.updPage h (fun p => { p with t1 := some fr })) := by
  unfold Core.abandon
  split
  · exact .inl rfl
  split
  · exact .inl rfl
  · next d _ =>
    extract_lets stop
    split
    · exact .inr ⟨d.crest, c, rfl, .inl rfl⟩
    split
    · exact .inr ⟨d.crest, c, rfl, .inl rfl⟩
    · split
      split
      · next fr b found => exact .inr ⟨d.crest, _, rfl, .inr ⟨_, _, fr, b, found, rfl⟩⟩
      · exact .inl rfl

/-- Two states whose jobs have the same shape, and where a page of the one is there in the other with the same data. -/
structure Core.KeepsData (a b : Core) : Prop where
  shape : b.shape = a.shape
  page : ∀ o g, a.page o = some g → ∃ g', b.page o = some g' ∧ g'.data = g.data ∧ g'.fill = g.fill ∧ g'.present = g.present

theorem Core.KeepsData.refl (c : Core) : c.KeepsData c := ⟨rfl, fun _ g at_ => ⟨g, at_, rfl, rfl, rfl⟩⟩

theorem Core.KeepsData.trans {a b c : Core} (h : a.KeepsData b) (k : b.KeepsData c) : a.KeepsData c := by
  refine ⟨k.shape.trans h.shape, fun o g at_ => ?_⟩
  obtain ⟨g1, at1, data1, fill1, present1⟩ := h.page o g at_
  obtain ⟨g2, at2, data2, fill2, present2⟩ := k.page o g1 at1
  exact ⟨g2, at2, data2.trans data1, fill2.trans fill1, present2.trans present1⟩

theorem Core.KeepsData.of_same {a b : Core} (shape : b.shape = a.shape) (tiers : b.tiers = a.tiers) : a.KeepsData b :=
  ⟨shape, fun _ g at_ => ⟨g, by rwa [Core.page, tiers], rfl, rfl, rfl⟩⟩

theorem Core.SameWork.keepsData {a b : Core} (h : a.SameWork b) : a.KeepsData b := .of_same (Core.shape_of_job h.job) h.tiers

theorem Core.keepsData_updPage (v : Nat) {f : PageObj → PageObj} (same : ∀ p, (f p).data = p.data ∧ (f p).fill = p.fill ∧ (f p).present = p.present)
    (c : Core) : c.KeepsData (c.updPage v f) := by
  refine ⟨rfl, fun o g at_ => ?_⟩
  by_cases here : o = v
  · subst here
    exact ⟨f g, by rw [Core.page_updPage_self, at_]; rfl, same g⟩
  · exact ⟨g, by rwa [Core.page_updPage_other here], rfl, rfl, rfl⟩

theorem Core.keepsData_findFrame {k0 : Nat} {fr : Nat × Nat} {d : Core} (found : c.findFrame t k0 = some (fr, d)) : c.KeepsData d := by
  rw [Core.findFrame_notes found]
  refine .of_same ?_ rfl
  simp only [Core.shape, Core.noteFrame, Option.map_map]
  rfl

theorem Core.keepsData_stopDown (k : Nat) (c : Core) : c.KeepsData (c.stopDown t o k) := by
  have cleared := c.keepsData_updPage o (f := fun p => { p with down := none }) fun _ => ⟨rfl, rfl, rfl⟩
  have counted := Core.sameWork_bump (.chrys k 11) 1 (c.updPage o (fun p => { p with down := none }))
  have dropped : ∀ c : Core, c.KeepsData (c.dropPool3 o) := fun _ => .of_same rfl rfl
  exact ((cleared.trans counted.keepsData).trans (dropped _)).trans (Core.freeWork_sameWork _ _).keepsData

theorem Core.keepsMoves_stopDown (k : Nat) (c : Core) : c.KeepsMoves (c.stopDown t o k) := by
  have cleared := c.keepsMoves_updPage o (fun p => { p with down := none })
  have dropped : ∀ c : Core, c.KeepsMoves (c.dropPool3 o) := fun _ => ⟨rfl, rfl⟩
  exact ((cleared.trans (Core.keepsMoves_bump (.chrys k 11) 1 _)).trans (dropped _)).trans (Core.keepsMoves_freeWork _ _ _)

theorem Core.keepsData_abandon (t : Top) (o : Nat) (c : Core) : c.KeepsData (c.abandon t o) := by
  obtain same | ⟨k, b, stops, rfl | ⟨k0, h, fr, d, found, rfl⟩⟩ := c.abandon_cases t o
  · rw [same]; exact .refl c
  · rw [stops]; exact b.keepsData_stopDown k
  · rw [stops]
    have given := d.keepsData_updPage h (f := fun p => { p with t1 := some fr }) fun _ => ⟨rfl, rfl, rfl⟩
    exact ((Core.keepsData_findFrame found).trans given).trans (Core.keepsData_stopDown k _)

theorem Core.keepsMoves_abandon (t : Top) (o : Nat) (c : Core) : c.KeepsMoves (c.abandon t o) := by
  obtain same | ⟨k, b, stops, rfl | ⟨k0, h, fr, d, found, rfl⟩⟩ := c.abandon_cases t o
  · rw [same]; exact .refl c
  · rw [stops]; exact b.keepsMoves_stopDown k
  · rw [stops]
    exact ((Core.keepsMoves_findFrame found).trans (d.keepsMoves_updPage h _)).trans (Core.keepsMoves_stopDown k _)

end

/-! #### Pulls (R127, R136, R142) -/

section
variable {cid r : Nat} {q : Msg} {mv : Move} {s : State}

/-- The record of a pull that resumes (R127). -/
def Core.resumed (c : Core) (cid : Nat) (q : Msg) : Move :=
  { initiator := q.arg 4 2 % 2 ^ 14, id := q.arg 2 2, type := .resume, source := true, phase := .opening, ctx := hIndex (q.arg 8 4),
    handle := q.arg 8 4, peerNode := q.src, oldEpoch := (c.ctx (hIndex (q.arg 8 4))).epoch,
    newEpoch := ((c.ctx (hIndex (q.arg 8 4))).epoch + 1) % 65536, tag := q.arg 16 8, conn := cid, client := 0xFF,
    arrival := .paused, summit := hIndex (q.arg 8 4) / 32768 }

/-- A pull of a context that may be resumed opens a record and answers (R127). -/
theorem Core.pullOpen_opens {t : Top} {c : Core} (bound : t.dev = .bound) (fresh : c.stale t (q.arg 8 4) = false)
    (state : (c.ctx (hIndex (q.arg 8 4))).state ∈ MoveType.resume.from_) (new : c.findMove (q.arg 4 2 % 2 ^ 14) (q.arg 2 2) = none)
    (room : c.moveRoom (hIndex (q.arg 8 4) / 32768) = true) (ref : c.hasRef (hIndex (q.arg 8 4)) .msg = true) :
    c.pullOpen t cid q = ((c.addMove (c.resumed cid q)).2.answerMsg t cid q 0x32 (stateAck ((c.resumed cid q).head 7) .ok 0 0 0 0 0)).startPush t
      c.nextMove := by
  have sound : (c.ctx (hIndex (q.arg 8 4))).state ≠ .faulted := by rintro h; rw [h] at state; simp [MoveType.from_] at state
  have listed : MoveType.resume.from_.contains (c.ctx (hIndex (q.arg 8 4))).state = true := by simpa using state
  unfold Core.pullOpen
  simp only [bound, fresh, sound, listed, new, room, ref]
  rfl

/-- STATE_PULL OPEN. -/
theorem pullOpen_leaves (delivered : Claims.delivered s cid 0x31 (some 1) q) (bound : s.top.dev = .bound)
    (fresh : s.core.stale s.top (q.arg 8 4) = false) (state : (s.core.ctx (hIndex (q.arg 8 4))).state ∈ MoveType.resume.from_)
    (new : s.core.findMove (q.arg 4 2 % 2 ^ 14) (q.arg 2 2) = none) (room : s.core.moveRoom (hIndex (q.arg 8 4) / 32768) = true)
    (ref : s.core.hasRef (hIndex (q.arg 8 4)) .msg = true) :
    ∃ t mv', exec (.statePullOpen cid) s = .next t ∧ t.top = s.top ∧ t.core.moves.get? s.core.nextMove = some mv' ∧ mv'.type = .resume ∧
      mv'.source = true ∧ mv'.phase = .opening ∧ mv'.ctx = hIndex (q.arg 8 4) ∧ (t.core.ctx (hIndex (q.arg 8 4))).state = .movingOut ∧
      (t.core.ctx (hIndex (q.arg 8 4))).prior = (s.core.ctx (hIndex (q.arg 8 4))).state ∧
      (∀ j, j ≠ hIndex (q.arg 8 4) → t.core.ctx j = s.core.ctx j) ∧ t.core.tiers = s.core.tiers := by
  let c := s.core.takeMsg cid q
  let rec_ := c.resumed cid q
  have answers := (c.addMove rec_).2.keepsInner_sendMsg s.top cid 0x32 true q.cls (stateAck (rec_.head 7) .ok 0 0 0 0 0) none
  have at_ : ((c.addMove rec_).2.answerMsg s.top cid q 0x32 (stateAck (rec_.head 7) .ok 0 0 0 0 0)).moves.get? c.nextMove = some rec_ :=
    answers.keepsMoves.at_ (Core.get?_addMove _ _)
  obtain ⟨⟨mv', record, asked, phase, -⟩, out, prior, others, tiers, -⟩ := Core.startPush_opens (t := s.top) at_
  have same (j : Nat) : ((c.addMove rec_).2.answerMsg s.top cid q 0x32 (stateAck (rec_.head 7) .ok 0 0 0 0 0)).ctx j = s.core.ctx j :=
    Core.ctx_of_ctxs answers.ctxs j
  have opens : c.pullOpen s.top cid q = _ := Core.pullOpen_opens (c := c) bound fresh state new room ref
  refine ⟨_, mv', onMsg_next delivered opens, rfl, record, (congrArg Move.type asked :), (congrArg Move.source asked :), phase,
    (congrArg Move.ctx asked :), out, ?_, fun j other => ?_, tiers.trans answers.tiers⟩
  · exact prior.trans (congrArg Ctx.state (same _))
  · exact (others j other).trans (same j)

/-- STATE_PULL PAGE (R136). -/
theorem pullPage_again (h : Claims.onRecord s cid 0x31 3 true q r mv) (few : q.arg 32 1 ≤ 3) :
    ∃ t mv', exec (.statePullPage cid) s = .next t ∧ t.top = s.top ∧ t.core.moves.get? r = some mv' ∧ t.core.tiers = s.core.tiers ∧
      mv'.sent = mv.sent.map (fun p => if p.layer == q.arg 28 2 && p.page == q.arg 30 2 then
        { p with attempt := q.arg 32 1, sent := 0, acked := false } else p) := by
  obtain ⟨at_, live⟩ := record_of_onRecord h
  let again := fun (m : Move) => m.onSent (q.arg 28 2) (q.arg 30 2) (fun y => { y with attempt := q.arg 32 1, sent := 0, acked := false })
  have pulled : (s.core.takeMsg cid q).pullPage r mv q = (s.core.takeMsg cid q).setMove r again :=
    if_neg (by simp [live, Nat.not_lt.2 few])
  exact ⟨_, _, onMove_next h pulled, rfl, Core.get?_setMove at_ again, (Core.signals_setMove at_ again).tiers, rfl⟩

/-! #### Acknowledgements (R115, R125, R130, R134, R142) -/

/-- MOVE_START answered: its record has no mailbox any more (R127). -/
theorem Core.moveStarted_at {c : Core} {m : Move} (at_ : c.moves.get? r = some m) :
    (c.moveStarted r).moves.get? r = some { m with mbox := none } ∧ c.Signals (c.moveStarted r) ∧ (c.moveStarted r).ctxs = c.ctxs := by
  unfold Core.moveStarted
  simp only [at_]
  cases box : m.mbox with
  | none => exact ⟨by rw [at_, ← box], .refl c, rfl⟩
  | some b => exact ⟨Core.get?_updMove at_ _, (c.signals_updMove _ _).trans (Core.signals_stage _ _ _ _ _), rfl⟩

theorem Core.cutDue_keeps (r : Nat) (c : Core) : c.KeepsMoves (c.cutDue r) ∧ (c.cutDue r).ctxs = c.ctxs := by
  unfold Core.cutDue
  split
  · split
    · exact ⟨⟨rfl, rfl⟩, rfl⟩
    · exact ⟨.refl c, rfl⟩
  · exact ⟨.refl c, rfl⟩

/-- STATE_ACK OPEN (R115, R125, R130). -/
theorem ackOpen_ends (h : Claims.onRecord s cid 0x32 1 true q r mv) (opening : mv.phase = .opening) (kind : mv.type = .migrate) :
    (q.arg 16 1 = Status.ok.code → ∃ t mv', exec (.stateAckOpen cid) s = .next t ∧ t.top = s.top ∧ t.core.moves.get? r = some mv' ∧
      mv'.phase = .bulk ∧ mv'.credits = q.arg 20 2 ∧ mv'.peerHandle = q.arg 12 4 ∧ mv'.mbox = none ∧ mv'.ended = none) ∧
    (q.arg 16 1 = Status.deferredMemory.code → (s.core.ctx mv.ctx).state = .movingOut → ∃ t mv', exec (.stateAckOpen cid) s = .next t ∧
      t.core.moves.get? r = some mv' ∧ mv'.ended = some s.top.now ∧ (t.core.ctx mv.ctx).state = (s.core.ctx mv.ctx).prior) := by
  obtain ⟨at_, live⟩ := record_of_onRecord h
  let c := (s.core.takeMsg cid q).answered r 0x30 1
  have same : s.core.Signals c := (s.core.signals_takeMsg cid q).trans (Core.signals_answered _ _ _ _)
  have at_ : c.moves.get? r = some mv := (Core.keepsMoves_answered _ _ _ _).at_ at_
  have open_ : ¬(mv.ended.isSome || decide (mv.phase ≠ .opening)) = true := by simp [live, opening]
  refine ⟨fun status => ?_, fun status out => ?_⟩
  · let d := (c.updMove r (fun m => { m with peerHandle := q.arg 12 4, credits := q.arg 20 2, phase := .bulk })).moveStarted r
    have accepted : (s.core.takeMsg cid q).ackOpen s.top r mv q = d.noteReady.cutDue r := by
      refine (if_neg open_).trans ?_
      simp only [status, kind]
      rfl
    obtain ⟨ks, ready⟩ := Core.noteReady_at (Core.moveStarted_at (Core.get?_updMove at_
      (fun m => { m with peerHandle := q.arg 12 4, credits := q.arg 20 2, phase := .bulk }))).1
    exact ⟨_, _, onMove_next h accepted, rfl, (Core.cutDue_keeps r _).1.at_ ready, rfl, rfl, rfl, rfl, live⟩
  · have refused : (s.core.takeMsg cid q).ackOpen s.top r mv q =
        (c.endMove s.top r .aborted false .deferredMemory (q.arg 17 3)).sourceBack s.top mv.ctx := by
      refine (if_neg open_).trans ?_
      simp only [status]
      rfl
    obtain ⟨ends, left⟩ := Core.endMove_ends (t := s.top) at_ live .aborted false .deferredMemory (q.arg 17 3)
    have bare := (same.trans left).ctx mv.ctx
    have state : ((c.endMove s.top r .aborted false .deferredMemory (q.arg 17 3)).ctx mv.ctx).state = .movingOut :=
      (congrArg Ctx.state bare :).trans out
    refine ⟨_, _, onMove_next h refused, (Core.keepsMoves_updCtx _ _ _).at_ ends, rfl, ?_⟩
    dsimp only
    rw [Core.sourceBack, Core.ctx_updCtx_self, if_pos state]
    exact (congrArg Ctx.prior bare :)

/-- STATE_ACK PULL: a refusal ends the record of a RESUME that waits (R127). -/
theorem ackPull_refuses (delivered : Claims.delivered s cid 0x32 (some 7) q)
    (found : s.core.findMove (q.arg 4 2 % 2 ^ 14) (q.arg 2 2) = some (r, mv)) (at_ : s.core.moves.get? r = some mv) (live : mv.ended = none)
    (dest : mv.source = false) (kind : mv.type = .resume) (nowhere : mv.ctx = 0) (status : q.arg 16 1 = Status.noResource.code)
    (asked : ∃ e ∈ s.core.moveReqs r, e.2.type = 0x31 ∧ (e.2.tag = 1 ∨ e.2.tag = 2)) :
    ∃ t mv', exec (.stateAckPull cid) s = .next t ∧ t.top = s.top ∧ t.core.moves.get? r = some mv' ∧ mv'.ended = some s.top.now ∧
      mv'.status = .noResource ∧ t.core.tiers = s.core.tiers := by
  let c := s.core.takeMsg cid q
  let d := (c.answered r 0x31 1).answered r 0x31 2
  have found : c.findMove (q.arg 4 2 % 2 ^ 14) (q.arg 2 2) = some (r, mv) := found
  have awaited : (c.moveReqs r).vals.any (fun x => x.type == 0x31 && (x.tag == 1 || x.tag == 2)) = true := by
    obtain ⟨e, there, type, tag⟩ := asked
    exact List.any_eq_true.2 ⟨e.2, List.mem_map_of_mem there, by simp [type, tag]⟩
  have refused : c.ackPull s.top q = d.endMove s.top r .aborted false .noResource (q.arg 17 3) := by
    unfold Core.ackPull
    rw [found]
    dsimp only
    rw [if_neg (by simp [nowhere]), status, awaited, if_neg (by simp [dest, live, Status.ofCode, Status.code]), if_neg (by simp [kind]), if_pos nowhere]
    rfl
  have same : s.core.Signals d := ((s.core.signals_takeMsg cid q).trans (Core.signals_answered _ _ _ _)).trans (Core.signals_answered _ _ _ _)
  have at_ : d.moves.get? r = some mv :=
    (((s.core.keepsMoves_takeMsg cid q).trans (Core.keepsMoves_answered _ _ _ _)).trans (Core.keepsMoves_answered _ _ _ _)).at_ at_
  obtain ⟨ends, left⟩ := Core.endMove_ends (t := s.top) at_ live .aborted false .noResource (q.arg 17 3)
  refine ⟨_, _, onMsg_next delivered refused, rfl, ends, rfl, rfl, left.tiers.trans same.tiers⟩

/-- A record, once its donor has looked whether every page is acknowledged, counts and sends what it did (R142). -/
theorem Core.donorCheck_at {t : Top} {c : Core} {m : Move} (at_ : c.moves.get? r = some m) (live : m.ended = none) :
    ∃ m', (c.donorCheck t r).moves.get? r = some m' ∧ m'.acked = m.acked ∧ m'.credits = m.credits ∧ m'.sent = m.sent := by
  rw [Core.donorCheck, at_]
  dsimp only
  split
  · exact ⟨_, (Core.endMove_ends (t := t) at_ live _ _ _ _).1, rfl, rfl, rfl⟩
  · exact ⟨m, at_, rfl, rfl, rfl⟩

/-- STATE_ACK PAGE (R129, R130). -/
theorem ackPage_counts {p : SentPage} (h : Claims.onRecord s cid 0x32 2 true q r mv) (status : q.arg 16 1 = Status.ok.code)
    (sent : mv.sent.find? (fun y => y.layer == q.arg 22 2 && y.page == q.arg 24 2) = some p) (unacked : p.acked = false) :
    ∃ t mv', exec (.stateAckPage cid) s = .next t ∧ t.top = s.top ∧ t.core.moves.get? r = some mv' ∧ mv'.acked = mv.acked + 1 ∧
      mv'.credits = mv.credits + q.arg 20 2 ∧ (∀ y ∈ mv'.sent, y.layer = q.arg 22 2 → y.page = q.arg 24 2 → y.acked = true) := by
  obtain ⟨at_, live⟩ := record_of_onRecord h
  let credit := fun (m : Move) => { m with credits := m.credits + q.arg 20 2 }
  let count := fun (m : Move) => ({ m with acked := m.acked + 1 } : Move).onSent (q.arg 22 2) (q.arg 24 2) (fun s => { s with acked := true })
  have counted : (s.core.takeMsg cid q).ackPageIn s.top r mv q =
      ((((s.core.takeMsg cid q).updMove r credit).setMove r count).cutDue r).donorCheck s.top r := by
    unfold Core.ackPageIn
    rw [if_neg (by simp [live])]
    simp only [sent, status, unacked]
    rfl
  have at2 := (Core.cutDue_keeps r _).1.at_ (Core.get?_setMove (Core.get?_updMove at_ credit) count)
  obtain ⟨mv', at3, acked, credits, pages⟩ := Core.donorCheck_at (t := s.top) at2 live
  refine ⟨_, mv', onMove_next h counted, rfl, at3, acked, credits, fun y here layer page => ?_⟩
  rw [pages] at here
  obtain ⟨x, -, rfl⟩ := List.mem_map.1 here
  split at layer
  · next matches_ => rw [if_pos matches_]
  · next differs =>
    rw [if_neg differs] at page
    exact absurd (by simp [layer, page]) differs

/-- STATE_ACK CREDIT (R130). -/
theorem ackCredit_credits (h : Claims.onRecord s cid 0x32 5 true q r mv) :
    ∃ t, exec (.stateAckCredit cid) s = .next t ∧ t.top = s.top ∧
      t.core.moves = s.core.moves.upd r (fun y => { y with credits := y.credits + q.arg 20 2 }) ∧ t.core.ctxs = s.core.ctxs ∧
      t.core.tiers = s.core.tiers := by
  obtain ⟨-, live⟩ := record_of_onRecord h
  have credits : (s.core.takeMsg cid q).ackCredit r mv q =
      (s.core.takeMsg cid q).updMove r (fun y => { y with credits := y.credits + q.arg 20 2 }) := if_neg (by simp [live])
  exact ⟨_, onMove_next h credits, rfl, rfl, rfl, rfl⟩

/-- STATE_ACK CUTOVER (R132). -/
theorem ackCutover_clears (h : Claims.onRecord s cid 0x32 3 true q r mv) :
    ∃ t, exec (.stateAckCutover cid) s = .next t ∧ t.top = s.top ∧ t.core.moves = s.core.moves ∧
      (∀ e ∈ t.core.moveReqs r, ¬ (e.2.type = 0x30 ∧ e.2.tag = 3)) ∧ t.core.tiers = s.core.tiers := by
  let c := s.core.takeMsg cid q
  refine ⟨_, onMove_next h rfl, rfl, (c.keepsMoves_answered r 0x30 3).moves, fun e here ⟨type, tag⟩ => ?_, (c.signals_answered r 0x30 3).tiers⟩
  have gone := c.dropReqs_gone r (fun e => e.2.type == 0x30 && e.2.tag == 3) e here
  simp [type, tag] at gone

/-- A move complete at its source drains the context that has left (R134). -/
theorem Core.sourceDone_drains {t : Top} {c : Core} {m : Move} (at_ : c.moves.get? r = some m) (live : m.ended = none)
    (out : (c.ctx m.ctx).state = .movingOut) (event : Bool) (st : Status) :
    (c.sourceDone t r event st).moves.get? r = some (m.over t .done st) ∧ ((c.sourceDone t r event st).ctx m.ctx).state = .draining := by
  obtain ⟨ends, same⟩ := Core.endMove_ends (t := t) at_ live .done event st 0
  have state : ((c.endMove t r .done event st 0).ctx m.ctx).state = .movingOut := (congrArg Ctx.state (same.ctx m.ctx) :).trans out
  rw [Core.sourceDone, at_]
  dsimp only
  rw [if_pos state, (Core.sheds_freePages _ _ _).state]
  exact ⟨((Core.keepsMoves_enterDraining _ _ _).trans (Core.keepsMoves_freePages _ _ _)).at_ ends, (Core.enterDraining_drains _ _ _).1⟩

/-- STATE_ACK DONE (R134). -/
theorem ackDone_drains (h : Claims.onRecord s cid 0x32 6 true q r mv) (cut : mv.cut = true) (out : (s.core.ctx mv.ctx).state = .movingOut) :
    ∃ t mv', exec (.stateAckDone cid) s = .next t ∧ t.top = s.top ∧ t.core.moves.get? r = some mv' ∧ mv'.ended = some s.top.now ∧
      mv'.phase = .done ∧ (t.core.ctx mv.ctx).state = .draining := by
  obtain ⟨at_, live⟩ := record_of_onRecord h
  obtain ⟨ends, state⟩ := Core.sourceDone_drains (t := s.top) at_ live out
    ((if mv.lost then .ok else (Status.ofCode (q.arg 16 1)).getD .ok) = .ok) (if mv.lost then .ok else (Status.ofCode (q.arg 16 1)).getD .ok)
  exact ⟨_, _, onMove_next h (if_neg (by simp [live, cut])), rfl, ends, rfl, rfl, state⟩

/-! #### A copy for an attach (R142) -/

/-- The pages of the first `n` positions, in layer order (R128). -/
def Core.prefixPages (c : Core) (n : Nat) : List (Nat × Nat) := (shOrder c.shape).flatMap (fun l => (List.range (pagesOf n)).map (fun p => (l, p)))

theorem Core.length_prefixPages (n : Nat) (c : Core) : (c.prefixPages n).length = (shOrder c.shape).length * pagesOf n := by
  simp [Core.prefixPages, List.length_flatMap]

/-- The write-downs of some pages of a context taken back. -/
def Core.abandonPages (t : Top) (i : Nat) (ps : List (Nat × Nat)) (c : Core) : Core :=
  ps.foldl (fun c k => match c.pageOf i k.1 k.2 with
    | some (o, _) => c.abandon t o
    | none => c) c

/-- Write-downs taken back change no context, no move and no page's data. -/
theorem Core.abandonPages_keeps (t : Top) (i : Nat) (ps : List (Nat × Nat)) (c : Core) :
    (c.abandonPages t i ps).ctxs = c.ctxs ∧ c.KeepsMoves (c.abandonPages t i ps) ∧ c.KeepsData (c.abandonPages t i ps) := by
  refine List.foldlRecOn (motive := fun d : Core => d.ctxs = c.ctxs ∧ c.KeepsMoves d ∧ c.KeepsData d) _ _ ⟨rfl, .refl c, .refl c⟩ ?_
  rintro b ⟨ctxs, moves, data⟩ k -
  split
  · exact ⟨(b.repages_abandon t _).ctxs.trans ctxs, moves.trans (b.keepsMoves_abandon t _), data.trans (b.keepsData_abandon t _)⟩
  · exact ⟨ctxs, moves, data⟩

/-- The record of a donor (R142), before the pages asked for are in its order. -/
def Core.donated (c : Core) (cid : Nat) (q : Msg) : Move :=
  { initiator := q.arg 4 2 % 2 ^ 14, id := q.arg 2 2, type := .attach, source := true, phase := .bulk, ctx := hIndex (q.arg 8 4),
    handle := q.arg 8 4, peerNode := q.src, peerHandle := q.arg 12 4, oldEpoch := (c.ctx (hIndex (q.arg 8 4))).epoch,
    newEpoch := (c.ctx (hIndex (q.arg 8 4))).epoch, conn := cid, prefixLen := q.arg 24 4, credits := 32,
    carried := (c.prefixPages (q.arg 24 4)).length, summit := hIndex (q.arg 8 4) / 32768 }

/-- A record whose order holds some pages, none of them sent. -/
def Move.sending (ps : List (Nat × Nat)) (now : Nat) (m : Move) : Move :=
  { m with sent := ps.map (fun k => { layer := k.1, page := k.2, attempt := 0, sent := 0, at_ := now }) }

/-- A donor pins the pages that it is to send, and holds no message for them yet (R52, R142). -/
theorem Move.refs_sending {m : Move} (live : m.ended = none) (source : m.source = true) (ps : List (Nat × Nat)) (now : Nat) :
    (m.sending ps now).refs = (0, ps.length) := by
  have unsent : ((m.sending ps now).sent.filter (fun s => !s.acked)) = (m.sending ps now).sent := by
    refine List.filter_eq_self.2 fun y here => ?_
    obtain ⟨k, -, rfl⟩ := List.mem_map.1 here
    rfl
  have none_ : ((m.sending ps now).sent.filter (fun s => decide (0 < s.sent))) = [] := by
    refine List.filter_eq_nil_iff.2 fun y here => ?_
    obtain ⟨k, -, rfl⟩ := List.mem_map.1 here
    simp
  unfold Move.refs
  rw [if_neg (by simp [Move.sending, live, source])]
  simp only [unsent, none_]
  simp [Move.sending]

theorem Core.pullCopy_opens {t : Top} {c : Core} (bound : t.dev = .bound) (fresh : c.stale t (q.arg 8 4) = false)
    (state : (c.ctx (hIndex (q.arg 8 4))).state ∈ MoveType.attach.from_) (least : 1 ≤ q.arg 24 4)
    (most : q.arg 24 4 ≤ c.curLen (c.ctx (hIndex (q.arg 8 4)))) (new : c.findMove (q.arg 4 2 % 2 ^ 14) (q.arg 2 2) = none)
    (room : c.moveRoom (hIndex (q.arg 8 4) / 32768) = true)
    (pins : c.hasRef (hIndex (q.arg 8 4)) .pin (shLayers c.shape * pagesOf (q.arg 24 4)) = true) :
    let d := (c.abandonPages t (hIndex (q.arg 8 4)) (c.prefixPages (q.arg 24 4))).updCtx (hIndex (q.arg 8 4)) (Ctx.noteConn cid)
    c.pullCopy t cid q = ((d.addMove (c.donated cid q)).2.setMove d.nextMove (Move.sending (c.prefixPages (q.arg 24 4)) t.now)).noteReady := by
  have sound : (c.ctx (hIndex (q.arg 8 4))).state ≠ .faulted := by rintro h; rw [h] at state; simp [MoveType.from_] at state
  have listed : MoveType.attach.from_.contains (c.ctx (hIndex (q.arg 8 4))).state = true := by simpa using state
  have some_ : ¬(q.arg 24 4 = 0 || decide (c.curLen (c.ctx (hIndex (q.arg 8 4))) < q.arg 24 4)) = true := by simp; omega
  unfold Core.pullCopy
  simp only [bound, fresh, sound, listed, some_, new, room, pins]
  rfl

/-- STATE_PULL COPY (R142). -/
theorem pullCopy_leaves (delivered : Claims.delivered s cid 0x31 (some 2) q) (bound : s.top.dev = .bound)
    (fresh : s.core.stale s.top (q.arg 8 4) = false) (state : (s.core.ctx (hIndex (q.arg 8 4))).state ∈ MoveType.attach.from_)
    (least : 1 ≤ q.arg 24 4) (most : q.arg 24 4 ≤ s.core.curLen (s.core.ctx (hIndex (q.arg 8 4))))
    (new : s.core.findMove (q.arg 4 2 % 2 ^ 14) (q.arg 2 2) = none) (room : s.core.moveRoom (hIndex (q.arg 8 4) / 32768) = true)
    (pins : s.core.hasRef (hIndex (q.arg 8 4)) .pin (shLayers s.core.shape * pagesOf (q.arg 24 4)) = true) :
    ∃ t mv', exec (.statePullCopy cid) s = .next t ∧ t.top = s.top ∧ t.core.moves.get? s.core.nextMove = some mv' ∧ mv'.type = .attach ∧
      mv'.source = true ∧ mv'.prefixLen = q.arg 24 4 ∧ mv'.credits = 32 ∧
      (t.core.ctx (hIndex (q.arg 8 4))).state = (s.core.ctx (hIndex (q.arg 8 4))).state ∧
      (t.core.ctx (hIndex (q.arg 8 4))).pins =
        (s.core.ctx (hIndex (q.arg 8 4))).pins + (shOrder s.core.shape).length * pagesOf (q.arg 24 4) ∧
      (∀ o g, s.core.page o = some g → ∃ g', t.core.page o = some g' ∧ g'.data = g.data ∧ g'.fill = g.fill ∧ g'.present = g.present) := by
  let c := s.core.takeMsg cid q
  let i := hIndex (q.arg 8 4)
  let ps := c.prefixPages (q.arg 24 4)
  let d := (c.abandonPages s.top i ps).updCtx i (Ctx.noteConn cid)
  let send := Move.sending ps s.top.now
  obtain ⟨ctxs, moves, data⟩ := c.abandonPages_keeps s.top i ps
  have at_ : (d.addMove (c.donated cid q)).2.moves.get? d.nextMove = some (c.donated cid q) := Core.get?_addMove _ _
  have next : d.nextMove = s.core.nextMove := moves.next
  obtain ⟨ks, ready⟩ := Core.noteReady_at (Core.get?_setMove at_ send)
  obtain ⟨noteCtxs, noteTiers⟩ := ((d.addMove (c.donated cid q)).2.setMove d.nextMove send).noteReady_keeps
  have opens : c.pullCopy s.top cid q = ((d.addMove (c.donated cid q)).2.setMove d.nextMove send).noteReady :=
    Core.pullCopy_opens (c := c) bound fresh state least most new room pins
  have own : (((d.addMove (c.donated cid q)).2.setMove d.nextMove send).noteReady).ctx i =
      (c.donated cid q).hold (send (c.donated cid q)) (Ctx.noteConn cid (s.core.ctx i)) := by
    have connected : d.ctx i = Ctx.noteConn cid (s.core.ctx i) := by
      unfold d
      rw [Core.ctx_updCtx_self, Core.ctx_of_ctxs ctxs]
      rfl
    rw [Core.ctx_of_ctxs noteCtxs, ← connected]
    exact Core.ctx_setMove at_ send
  obtain ⟨cs, full, noted⟩ := Ctx.noteConn_notes cid (s.core.ctx i)
  refine ⟨_, _, onMsg_next delivered opens, rfl, (congrArg (Tbl.get? _) next.symm).trans ready, rfl, rfl, rfl, rfl, ?_, ?_, fun o g there => ?_⟩
  · dsimp only
    rw [own, noted]
    rfl
  · dsimp only
    rw [own, noted, Move.hold, Move.refs_sending rfl rfl, Core.length_prefixPages]
    rfl
  · obtain ⟨g', here, kept⟩ := data.page o g there
    have same := noteTiers.trans (Core.signals_setMove at_ send).tiers
    exact ⟨g', (congrArg (fun x : Tiers => x.pages.get? o) same).trans here, kept⟩

/-! #### Fragments (R128 to R130) -/

theorem Mem.length_readN (m : Mem) (a n : Nat) : (m.readN a n).length = n := by
  induction n generalizing a with
  | zero => rfl
  | succ n ih => simp [Mem.readN, ih]

theorem Core.length_streamOf (p : PageObj) (fill : Nat) (data : Mem) (c : Core) : (c.streamOf p fill data).length = c.streamLen p := by
  have summary : (if fill = 256 then fit c.sumBytes (p.summary.getD []) else zeros c.sumBytes).length = c.sumBytes := by
    split
    · exact length_fit _ _
    · exact length_zeros _
  rw [Core.streamOf, List.length_append, summary, Mem.length_readN]
  rfl

/-- A page in progress that is next to be sent from is in the record's order (R128). -/
theorem Core.nextToSend_listed {c : Core} {m : Move} {p : SentPage} (next : c.nextToSend m = some p) (begun : 0 < p.sent) : p ∈ m.sent := by
  unfold Core.nextToSend at next
  extract_lets open_ at next
  split at next
  · next found =>
    cases next
    exact List.mem_of_find?_eq_some found
  · obtain ⟨k, -, rfl⟩ := Option.map_eq_some_iff.1 next
    cases found : m.sent.find? (fun s => s.layer == k.1 && s.page == k.2) with
    | none => simp [found] at begun
    | some y => simpa [found] using List.mem_of_find?_eq_some found

/-- A record once `n` bytes of a page have been sent, the last of them now (R129, R130). -/
def Move.noteSent (p : SentPage) (n now : Nat) (m : Move) : Move :=
  if m.sent.any (fun x => x.layer == p.layer && x.page == p.page) then
    ({ m with credits := m.credits - 1 } : Move).onSent p.layer p.page (fun x => { x with sent := n, at_ := now })
  else { m with credits := m.credits - 1, sent := m.sent ++ [{ p with sent := n, at_ := now }] }

/-- A further fragment of a page in progress goes out against a credit (R129, R130). -/
theorem Core.sendFragment_sends {t : Top} {c : Core} {m : Move} {p : SentPage} {o : Nat} {g : PageObj}
    (page : c.pageOf m.ctx p.layer p.page = some (o, g)) (begun : 0 < p.sent) (clean : g.poison = false) :
    ∃ body, c.sendFragment t r m p =
      ((c.abandon t o).setMove r (Move.noteSent p (p.sent + min 65536 (c.streamLen g - p.sent)) t.now)).moveMsg t r 0x30 2 2 body none := by
  have further : p.sent ≠ 0 := by omega
  have shape := (c.keepsData_abandon t o).shape
  have length : (c.abandon t o).streamLen g = c.streamLen g := by simp only [Core.streamLen, Core.sumBytes, Core.bytesIn, shape]
  unfold Core.sendFragment
  rw [page]
  dsimp -zeta only
  extract_lets counted c1 note checked c2 st frag c3
  have unchecked : checked = (c1, true) := by
    unfold checked
    rw [if_neg further, clean]
    rfl
  have whole : st.length = c.streamLen g := by
    unfold st c2
    rw [unchecked, Core.length_streamOf, ← length]
  have part : frag.length = min 65536 (c.streamLen g - p.sent) := by
    unfold frag
    rw [List.length_take, List.length_drop, whole]
  rw [if_neg (by simp [further]), if_pos (by rw [unchecked]), part]
  exact ⟨_, by unfold c2; rw [unchecked]; rfl⟩

/-- MOVE_PAGE_PUSH of a page in progress. -/
theorem movePagePush_sends {p : SentPage} {o : Nat} {g : PageObj} (live : s.top.live = true) (ready : s.core.noteReady = s.core)
    (at_ : s.core.moves.get? r = some mv) (source : mv.source = true) (open_ : mv.ended = none) (bulk : mv.phase ≠ .opening)
    (credit : 0 < mv.credits) (next : s.core.nextToSend mv = some p) (begun : 0 < p.sent)
    (page : s.core.pageOf mv.ctx p.layer p.page = some (o, g)) (clean : g.poison = false) :
    ∃ t mv', exec (.movePagePush r) s = .next t ∧ t.top = s.top ∧ t.core.moves.get? r = some mv' ∧ mv'.credits = mv.credits - 1 ∧
      (∃ y ∈ mv'.sent, y.layer = p.layer ∧ y.page = p.page ∧ y.at_ = s.top.now ∧
        y.sent = p.sent + min 65536 (s.core.streamLen g - p.sent)) := by
  have listed := Core.nextToSend_listed next begun
  have counted : mv.sent.any (fun x => x.layer == p.layer && x.page == p.page) = true := List.any_eq_true.2 ⟨p, listed, by simp⟩
  obtain ⟨body, sends⟩ := Core.sendFragment_sends (r := r) (t := s.top) page begun clean
  have pushes : s.core.pagePush s.top r = s.core.sendFragment s.top r mv p := by
    unfold Core.pagePush
    rw [ready]
    simp only [at_, next]
    rw [if_neg (by simp [source, open_, bulk]), if_neg (by omega)]
  have record := (Core.keepsMoves_moveMsg s.top r 0x30 2 2 body _ none).at_
    (Core.get?_setMove ((s.core.keepsMoves_abandon s.top o).at_ at_) (Move.noteSent p (p.sent + min 65536 (s.core.streamLen g - p.sent)) s.top.now))
  rw [Move.noteSent, if_pos counted] at record
  refine ⟨_, _, onCore_next live (pushes.trans sends), rfl, record, rfl,
    { p with sent := p.sent + min 65536 (s.core.streamLen g - p.sent), at_ := s.top.now }, List.mem_map.2 ⟨p, listed, ?_⟩, rfl, rfl, rfl, rfl⟩
  simp

end

/-- Settles O43, row by row. -/
theorem moveSourceSendsTheSequence : Obligations.MoveSourceSendsTheSequence := by
  intro cid r q mv s c h i
  exact ⟨pullOpen_leaves, pullCopy_leaves, pullPage_again, ackOpen_ends, ackPull_refuses, fun p => ackPage_counts, ackCredit_credits,
    ackCutover_clears, ackDone_drains, fun p o g => movePagePush_sends⟩

end Sys2Proof.Machine
end

/-! ### A local ATTACH, MOVE_ABORT, MOVE_QUERY and the settings of moves (R136, R138, R140, R142 to R144, R146, R147) -/

section
namespace Sys2Proof.Machine

/-! #### Tables built of a list -/

/-- The table of a function on the numbers below `n`. -/
theorem Tbl.getD_range {n k : Nat} (small : k < n) (v : Nat) : Tbl.getD ((List.range n).map (fun l => (l, v))) k 0 = v := by
  have found : ∀ ls : List Nat, k ∈ ls → Tbl.get? (ls.map (fun l => (l, v))) k = some v := fun ls here => by
    induction ls with
    | nil => cases here
    | cons l ls ih =>
      rw [List.map_cons, Tbl.get?]
      split
      · rfl
      · next other => exact ih ((List.mem_cons.1 here).resolve_left (Ne.symm other))
  rw [Tbl.getD, found _ (List.mem_range.2 small)]
  rfl

/-- Entries stored one after another: one whose key no other value shares is there at the end. -/
theorem Tbl.get?_sets {α : Type} {k : Nat} {v : α} {es : List (Nat × α)} (alone : ∀ e ∈ es, e.1 = k → e.2 = v) {x : Tbl α}
    (there : (k, v) ∈ es ∨ x.get? k = some v) : (es.foldl (fun x e => Tbl.set x e.1 e.2) x).get? k = some v := by
  induction es generalizing x with
  | nil => exact there.resolve_left List.not_mem_nil
  | cons e es ih =>
    refine ih (fun d here => alone d (List.mem_cons_of_mem _ here)) ?_
    by_cases same : e.1 = k
    · subst same
      exact .inr ((Tbl.get?_set_self _ _ _).trans (congrArg some (alone e List.mem_cons_self rfl)))
    · refine there.imp (fun listed => (List.mem_cons.1 listed).resolve_left fun is => same (congrArg Prod.fst is).symm) fun held => ?_
      exact (Tbl.get?_set_other _ _ _ _ (Ne.symm same)).trans held

/-! #### A donor on this node (R142) -/

section
variable {t : Top} {i j n delta : Nat} {c : Core}

/-- The entries that an attacher takes over from its donor: its own keys, and the donor's pages (R89, R142). -/
def Ctx.shared (x y : Ctx) (layers pages delta : Nat) : List (Nat × PageRef) :=
  (List.range layers).flatMap (fun l => (List.range pages).filterMap (fun p =>
    (y.ref l p).map (fun r => (x.pageKey l p, ({ obj := r.obj, base := 256 * p + delta } : PageRef)))))

/-- An attacher once it shares its donor's full pages (R142, R143). -/
def Ctx.attached (x y : Ctx) (layers n delta : Nat) : Ctx :=
  { x with
    posOff := delta
    pages := (x.shared y layers (n / 256) delta).foldl (fun ps e => Tbl.set ps e.1 e.2) x.pages
    tokens := (List.range layers).map (fun l => (l, n)) }

/-- Full pages are shared: the attacher alone changes. -/
theorem Core.attachHere_shares (other : j ≠ i) (full : n % 256 = 0) :
    ∃ c', c.attachHere t i j n delta = some c' ∧ c'.ctx i = (c.ctx i).attached (c.ctx j) (shLayers c.shape) n delta ∧
      c'.tiers = c.tiers ∧ c.KeepsMoves c' := by
  refine ⟨_, if_pos full, ?_, rfl, ⟨rfl, rfl⟩⟩
  rw [Core.ctx_updCtx_self, Core.ctx_updCtx_self, Core.ctx_updCtx_other other]
  rfl

/-- Page table keys of different pages differ (R86). -/
theorem Ctx.pageKey_inj {x : Ctx} {l p l' p' : Nat} (small : p < x.pagesP) (small' : p' < x.pagesP) (same : x.pageKey l p = x.pageKey l' p') :
    l = l' ∧ p = p' := by
  unfold Ctx.pageKey at same
  have layer : l = l' := by
    have quotient := congrArg (· / x.pagesP) same
    rwa [Nat.mul_comm, Nat.mul_add_div (Nat.zero_lt_of_lt small), Nat.div_eq_of_lt small, Nat.mul_comm l', Nat.mul_add_div (Nat.zero_lt_of_lt small),
      Nat.div_eq_of_lt small', Nat.add_zero, Nat.add_zero] at quotient
  subst layer
  exact ⟨rfl, by omega⟩

/-- Every full page of the donor's first `n` positions is the attacher's too (R142). -/
theorem Ctx.ref_attached {x y : Ctx} {layers l k : Nat} {r : PageRef} (fits : n ≤ x.maxLen) (layer : l < layers) (page : k < n / 256)
    (ref : y.ref l k = some r) : ((x.attached y layers n delta).ref l k).map PageRef.obj = some r.obj := by
  have bound : n / 256 ≤ x.pagesP := by unfold Ctx.pagesP ceilDiv; omega
  have entry : (x.attached y layers n delta).pages.get? (x.pageKey l k) = some { obj := r.obj, base := 256 * k + delta } := by
    refine Tbl.get?_sets (fun e here key => ?_) (.inl ?_)
    · obtain ⟨l', -, here⟩ := List.mem_flatMap.1 here
      obtain ⟨p', small, there⟩ := List.mem_filterMap.1 here
      obtain ⟨r', ref', rfl⟩ := Option.map_eq_some_iff.1 there
      obtain ⟨rfl, rfl⟩ := Ctx.pageKey_inj (by have := List.mem_range.1 small; omega) (by omega) key
      rw [ref] at ref'
      cases ref'
      rfl
    · exact List.mem_flatMap.2 ⟨l, List.mem_range.2 layer, List.mem_filterMap.2 ⟨k, List.mem_range.2 page, by rw [ref]; rfl⟩⟩
  have place : (x.attached y layers n delta).ref l k = (x.attached y layers n delta).pages.get? (x.pageKey l k) :=
    if_pos (show k < x.pagesP by omega)
  rw [place, entry]
  rfl

end

section
variable {m r : Nat} {a : Cmd} {mv : Move} {s : State}

/-! #### MOVE_START of a local ATTACH -/

/-- The record of an ATTACH from a donor on this node (R142). -/
def Core.attachMove (c : Core) (t : Top) (id : Nat) (a : Cmd) : Move :=
  { initiator := t.nodeId, id := id, type := .attach, source := false, phase := .bulk, ctx := hIndex a.handle, handle := a.handle,
    peerNode := a.arg 2 2, peerHandle := a.arg 4 4, oldEpoch := (c.ctx (hIndex a.handle)).epoch, newEpoch := (c.ctx (hIndex a.handle)).epoch,
    tag := a.arg 8 8, conn := 0xFFFF, syncObj := a.arg 32 2, prefixLen := a.arg 24 4, summit := hIndex a.handle / 32768 }

/-- The fields of a local ATTACH that are in order, and the two contexts that it names (R115, R142, R143, R147). -/
structure Core.LocalAttach (c : Core) (t : Top) (a : Cmd) : Prop where
  kind : a.arg 0 1 = 5
  arrival : a.arg 1 1 = 0
  peer : a.arg 2 2 = t.nodeId
  near : t.nodeId < 0x3FFF
  obj : a.arg 32 2 < 16384 ∨ a.arg 32 2 = 0xFFFF
  reserved : (c.ctx (hIndex a.handle)).state = .reserved
  empty : c.curLen (c.ctx (hIndex a.handle)) = 0
  idle : (c.ctx (hIndex a.handle)).attaching = false
  least : 1 ≤ a.arg 24 4
  most : a.arg 24 4 ≤ (c.ctx (hIndex a.handle)).maxLen
  shift : a.arg 28 4 ≤ 1048576
  reach : (c.ctx (hIndex a.handle)).maxLen + a.arg 28 4 ≤ 2097152
  fresh : c.stale t (a.arg 4 4) = false
  donor : (c.ctx (hIndex (a.arg 4 4))).state ∈ MoveType.attach.from_
  holds : a.arg 24 4 ≤ c.curLen (c.ctx (hIndex (a.arg 4 4)))

/-- What a local ATTACH does once its fields are in order and its tag is free (R142, R143). -/
def Core.attachLocal (c : Core) (t : Top) (a : Cmd) : Ans := do
  need (c.moveRoom (hIndex a.handle / 32768)) .noResource
  need (c.fitsMove t (c.ctx (hIndex a.handle)).client (if a.arg 24 4 % 256 = 0 then 0 else shLayers c.shape) false) .deferredMemory
  match c.newMoveId t with
  | none => .error (.noResource, 0)
  | some (id, d) => match d.attachHere t (hIndex a.handle) (hIndex (a.arg 4 4)) (a.arg 24 4) (a.arg 28 4) with
    | none => .error (.deferredMemory, 0)
    | some d =>
      let (r, d) := d.addMove (c.attachMove t id a)
      ok ((d.endMove t r .done true .ok 0).watchFree t) (d.moveAnswer (c.attachMove t id a))

/-- A check that passes leads on. -/
theorem passed_bind {α β : Type} (v : α) (f : α → Chk β) : ((.ok v : Chk α) >>= f) = f v := rfl

section
variable {c : Core} {t : Top} (h : c.LocalAttach t a)
include h

/-- MOVE_START of an ATTACH whose own fields are in order comes to the attach itself. -/
theorem Core.LocalAttach.start : moveStartBody t c m a =
    attachBody t c m (hIndex a.handle) (a.arg 2 2) (a.arg 24 4) (a.arg 28 4) (a.arg 32 2) (a.arg 8 8) (a.arg 36 2) a := by
  obtain ⟨kind, arrival, peer, near, obj, reserved, -⟩ := h
  have kind : MoveType.ofCode (a.arg 0 1) = some .attach := by rw [kind]; rfl
  have peerFits : (decide (a.arg 2 2 < 0x3FFF) && !(MoveType.attach.push && a.arg 2 2 == t.nodeId)) = true := by
    simpa [MoveType.push, peer] using near
  have objFits : (decide (a.arg 32 2 < 16384) || a.arg 32 2 == 0xFFFF) = true := by simpa using obj
  have from_ : (!MoveType.attach.push || MoveType.attach.from_.contains (c.ctx (hIndex a.handle)).state) = true := rfl
  have state : (MoveType.attach != .attach || (c.ctx (hIndex a.handle)).state == .reserved) = true := by simp [reserved]
  have arrives : (if MoveType.attach = .park then a.arg 1 1 == 4 || a.arg 1 1 == 5 else a.arg 1 1 == 0) = true := by simp [arrival]
  unfold moveStartBody
  simp only [kind, needArg, need, from_, state, arrives, peerFits, objFits, if_true]
  rfl

theorem Core.LocalAttach.body : moveStartBody t c m a = (c.needTag (a.arg 8 8)).bind (fun _ => c.attachLocal t a) := by
  rw [h.start]
  obtain ⟨-, -, peer, -, -, reserved, empty, idle, least, most, shift, reach, fresh, donor, holds⟩ := h
  have here := eq_true peer
  have waits : ((c.ctx (hIndex a.handle)).state == .reserved && c.curLen (c.ctx (hIndex a.handle)) == 0 && !(c.ctx (hIndex a.handle)).attaching) = true := by
    simp [reserved, empty, idle]
  have donorFits : MoveType.attach.from_.contains (c.ctx (hIndex (a.arg 4 4))).state = true := by simpa using donor
  have lenFits : (decide (1 ≤ a.arg 24 4) && decide (a.arg 24 4 ≤ (c.ctx (hIndex a.handle)).maxLen)) = true := by simp [least, most]
  have shiftFits : (decide (a.arg 28 4 ≤ 1048576) && decide ((c.ctx (hIndex a.handle)).maxLen + a.arg 28 4 ≤ 2097152)) = true := by
    simp [shift, reach]
  have holdFits : decide (a.arg 24 4 ≤ c.curLen (c.ctx (hIndex (a.arg 4 4)))) = true := by simp [holds]
  unfold attachBody Core.attachLocal
  simp only [needArg, need, waits, lenFits, shiftFits, here, fresh, donorFits, holdFits, if_true, Bool.not_false, passed_bind]
  rfl

end

/-- A tag that a live record bears (R140). -/
theorem Core.needTag_taken {c : Core} {tag : Nat} (some_ : tag ≠ 0) (taken : ∃ e ∈ c.moves, e.2.tag = tag ∧ e.2.ended = none) :
    c.needTag tag = .error (.busy, 0) := by
  obtain ⟨e, there, bears, live⟩ := taken
  have any : c.moves.vals.any (fun x => x.tag == tag && x.ended.isNone) = true :=
    List.any_eq_true.2 ⟨e.2, List.mem_map_of_mem there, by simp [bears, live]⟩
  exact if_neg (by simp [some_, any])

/-- Full pages are shared, and the record ends at once (R142). -/
theorem Core.attachLocal_shares {c : Core} {t : Top} (other : hIndex (a.arg 4 4) ≠ hIndex a.handle) (full : a.arg 24 4 % 256 = 0)
    (room : c.moveRoom (hIndex a.handle / 32768) = true) (id_ : (c.newMoveId t).isSome = true) :
    ∃ c' p, c.attachLocal t a = ok c' p ∧ p.length = 12 ∧ c'.tiers = c.tiers ∧ (c'.ctx (hIndex a.handle)).bare =
      ((c.ctx (hIndex a.handle)).attached (c.ctx (hIndex (a.arg 4 4))) (shLayers c.shape) (a.arg 24 4) (a.arg 28 4)).bare := by
  obtain ⟨⟨id, c1⟩, new⟩ := Option.isSome_iff_exists.1 id_
  obtain ⟨-, rfl⟩ := Core.newMoveId_fresh new
  obtain ⟨d, attached, ctx, tiers, -⟩ := Core.attachHere_shares (t := t) (delta := a.arg 28 4) (c := c.pick.2) other full
  have fits : c.fitsMove t (c.ctx (hIndex a.handle)).client 0 false = true := by simp [Core.fitsMove]
  obtain ⟨-, same⟩ := Core.endMove_ends (t := t) (Core.get?_addMove (c.attachMove t id a) d) rfl .done true .ok 0
  have watched := Core.sameWork_watchFree t ((d.addMove (c.attachMove t id a)).2.endMove t d.nextMove .done true .ok 0)
  refine ⟨_, (d.addMove (c.attachMove t id a)).2.moveAnswer (c.attachMove t id a), ?_, by simp [Core.moveAnswer],
    (watched.tiers.trans same.tiers).trans tiers, ?_⟩
  · unfold Core.attachLocal
    rw [full, new]
    simp only [need, room, fits, if_true, passed_bind, attached]
    rfl
  · calc _ = _ := congrArg Ctx.bare (Core.ctx_of_ctxs watched.ctxs (i := hIndex a.handle))
      _ = _ := same.ctx _
      _ = _ := congrArg Ctx.bare ctx

/-- A local ATTACH of full pages (R89, R142, R143). -/
theorem moveStart_attaches (takes : Takes s m 0x0401 a) (h : s.core.LocalAttach s.top a)
    (free : a.arg 8 8 = 0 ∨ ∀ e ∈ s.core.moves, e.2.tag = a.arg 8 8 → e.2.ended ≠ none) (full : a.arg 24 4 % 256 = 0)
    (room : s.core.moveRoom (hIndex a.handle / 32768) = true) (id_ : (s.core.newMoveId s.top).isSome = true) :
    ∃ c' p, exec (.moveStart m) s = .next (s.answers m c' p) ∧ p.length = 12 ∧ (c'.ctx (hIndex a.handle)).state = .reserved ∧
      (c'.ctx (hIndex a.handle)).posOff = a.arg 28 4 ∧
      (∀ l < shLayers s.core.shape, (c'.ctx (hIndex a.handle)).held1 l = a.arg 24 4) ∧
      (∀ l < shLayers s.core.shape, ∀ k < a.arg 24 4 / 256, ∀ r, (s.core.ctx (hIndex (a.arg 4 4))).ref l k = some r →
        ((c'.ctx (hIndex a.handle)).ref l k).map PageRef.obj = some r.obj) ∧ c'.tiers.pages = s.core.tiers.pages := by
  have other : hIndex (a.arg 4 4) ≠ hIndex a.handle := fun same => by
    have donor := h.donor
    rw [same, h.reserved] at donor
    exact absurd donor (by decide)
  obtain ⟨c', p, shares, length, tiers, bare⟩ := Core.attachLocal_shares (t := s.top) other full room id_
  have body : moveStartBody s.top s.core m a = ok c' p := by rw [h.body, Core.needTag_free free]; exact shares
  have same : ∀ {α : Type} (f : Ctx → α), (∀ x, f x.bare = f x) → f (c'.ctx (hIndex a.handle)) =
      f ((s.core.ctx (hIndex a.handle)).attached (s.core.ctx (hIndex (a.arg 4 4))) (shLayers s.core.shape) (a.arg 24 4) (a.arg 28 4)) :=
    fun f keeps => by rw [← keeps, bare, keeps]
  refine ⟨c', p, congrArg Host.Outcome.next (runCommand_answers takes body), length, (same Ctx.state fun _ => rfl).trans h.reserved,
    same Ctx.posOff fun _ => rfl, fun l layer => ?_, fun l layer k page r ref => ?_, congrArg _ tiers⟩
  · exact (same (Ctx.held1 · l) fun _ => rfl).trans (Tbl.getD_range layer _)
  · rw [same (Ctx.ref · l k) fun _ => rfl]
    exact Ctx.ref_attached h.most layer page ref

/-! #### The other commands of moves -/

/-- MOVE_ABORT before cutover (R138). -/
theorem moveAbort_ends (takes : Takes s m 0x0402 a) (found : s.core.findMove (a.arg 2 2) (a.arg 0 2) = some (r, mv))
    (at_ : s.core.moves.get? r = some mv) (live : mv.ended = none) (early : mv.cut = false) :
    ∃ c', exec (.moveAbort m) s = .next (s.answers m c') ∧
      (∃ mv', c'.moves.get? r = some mv' ∧ mv'.ended = some s.top.now ∧ mv'.phase = .aborted) ∧
      (mv.source = true → mv.type ≠ .attach → (s.core.ctx mv.ctx).state = .movingOut →
        (c'.ctx mv.ctx).state = (s.core.ctx mv.ctx).prior) := by
  obtain ⟨d, body, same, kept⟩ : ∃ d : Core, moveAbortBody s.top s.core m a = ok (d.abortMove s.top r .ok 0 true) ∧ s.core.Signals d ∧
      s.core.KeepsMoves d := by
    have body : moveAbortBody s.top s.core m a = ok ((match mv.mbox with
        | some b => s.core.stage b .stateReject (stateDetail .move MovePhase.aborted.code) []
        | none => s.core).abortMove s.top r .ok 0 true) := by
      unfold moveAbortBody Core.moveArg
      simp only [found, passed_bind, need, live, early]
      rfl
    cases answer : mv.mbox with
    | some b =>
      rw [answer] at body
      exact ⟨_, body, s.core.signals_stage _ _ _ _, s.core.keepsMoves_stage _ _ _ _⟩
    | none =>
      rw [answer] at body
      exact ⟨_, body, .refl _, .refl _⟩
  have at_ := kept.at_ at_
  refine ⟨_, congrArg Host.Outcome.next (runCommand_answers takes body), ⟨_, Core.abortMove_ends at_ live _ _ _, rfl, rfl⟩,
    fun source kind out => ?_⟩
  have bare := same.ctx mv.ctx
  exact (Core.abortMove_source (t := s.top) at_ live kind source ((congrArg Ctx.state bare :).trans out) _ _ _).1.trans (congrArg Ctx.prior bare :)

/-- MOVE_ABORT after cutover (R138). -/
theorem moveAbort_refused (takes : Takes s m 0x0402 a) (found : s.core.findMove (a.arg 2 2) (a.arg 0 2) = some (r, mv)) (cut : mv.cut = true) :
    exec (.moveAbort m) s = .next (s.refuses m .stateReject (stateDetail .move mv.phase.code)) := by
  refine congrArg Host.Outcome.next (runCommand_refuses takes ?_)
  unfold moveAbortBody Core.moveArg
  simp only [found, passed_bind, need, cut, Bool.not_true, Bool.and_false]
  rfl

theorem MoveType.code_lt (y : MoveType) : y.code < 256 := by cases y <;> decide
theorem MovePhase.code_lt (p : MovePhase) : p.code < 256 := by cases p <;> decide

/-- MOVE_QUERY (R146). -/
theorem moveQuery_answers (takes : Takes s m 0x0403 a) (found : s.core.findMove (a.arg 2 2) (a.arg 0 2) = some (r, mv)) :
    ∃ p, exec (.moveQuery m) s = .next (s.answers m s.core p) ∧ p.length = 32 ∧ rd p 0 1 = mv.type.code ∧ rd p 2 1 = mv.phase.code ∧
      rd p 4 4 = mv.carried % 2 ^ 32 ∧ rd p 8 4 = mv.acked % 2 ^ 32 := by
  refine ⟨_, congrArg Host.Outcome.next (runCommand_answers takes (by simp only [moveQueryBody, Core.moveArg, found, passed_bind]; rfl)),
    ?_, ?_, ?_, ?_, ?_⟩
  · simp
  · simpa (disch := simp) [rd_skip, rd_le] using Nat.mod_eq_of_lt mv.type.code_lt
  · simpa (disch := simp) [rd_skip, rd_le] using Nat.mod_eq_of_lt mv.phase.code_lt
  · simp (disch := simp) [rd_skip, rd_le]
  · simp (disch := simp) [rd_skip, rd_le]

end

/-- Settles O41: the record of a local ATTACH ends in the command that opens it, so its shared pages are all that is left of it; an abort
ends its record after its MOVE_START is answered. -/
theorem attachAbortAndMoveSettings : Obligations.AttachAbortAndMoveSettings := by
  intro m a s c i n
  refine ⟨fun takes kind arrival peer near obj free reserved empty idle least most full shift reach fresh donor holds room id_ => ?_,
    fun takes kind arrival peer near obj reserved empty idle least most shift reach fresh donor holds some_ taken => ?_,
    fun r mv takes found at_ live early => moveAbort_ends takes found at_ live early, fun r mv takes found cut => moveAbort_refused takes found cut,
    fun r mv takes found => moveQuery_answers takes found, fun v takes value range => ?_, fun k v takes key value client fits => ?_⟩
  · exact moveStart_attaches takes ⟨kind, arrival, peer, near, obj, reserved, empty, idle, least, most, shift, reach, fresh, donor, holds⟩ free
      full room id_
  · have h : c.LocalAttach s.top a := ⟨kind, arrival, peer, near, obj, reserved, empty, idle, least, most, shift, reach, fresh, donor, holds⟩
    exact congrArg Host.Outcome.next (runCommand_refuses takes (by rw [h.body, Core.needTag_taken some_ taken]; rfl))
  · subst value
    have fits : (a.arg 0 4 == 0 || (decide (10 ≤ a.arg 0 4) && decide (a.arg 0 4 ≤ 100000))) = true := by simpa using range
    exact congrArg Host.Outcome.next (runCommand_answers takes (by simp only [moveParamSetBody, needArg, need, fits, if_true, passed_bind]; rfl))
  · subst key value
    have client : s.core.isClient (a.arg 0 1) = true := client
    exact congrArg Host.Outcome.next (runCommand_answers takes
      (by simp only [parkTtlSetBody, Core.clientArg, needArg, need, client, fits, decide_true, if_true, passed_bind]; rfl))

end Sys2Proof.Machine
end

/-! ### The destination of a move (R117, R125, R129, R132 to R138) -/

section
namespace Sys2Proof.Machine

/-! #### Room committed to a move (R57, R125) -/

section
variable {t : Top} {i : Nat} {c c' : Core}

/-- Of some Summit dies, the best is one of them. -/
theorem bestSummit_mem {f : Nat → Nat} {qs : List Nat} {q : Nat} (best : bestSummit f qs = some q) : q ∈ qs := by
  refine List.foldlRecOn (motive := fun b : Option Nat => ∀ p, b = some p → p ∈ qs) qs _ (fun p none_ => by cases none_) ?_ q best
  intro b earlier a listed p picked
  split at picked
  · cases picked
    exact listed
  · split at picked
    · cases picked
      exact listed
    · cases picked
      exact earlier _ rfl

/-- A page committed to a context for data still to come adds to its pages alone. -/
theorem Core.ctx_commitFor {l p : Nat} {parked : Bool} (h : c.commitFor t i parked l p = some c') :
    ∃ ps, c'.ctx i = { c.ctx i with pages := ps } := by
  unfold Core.commitFor at h
  split at h
  · unfold Core.commitWarm at h
    dsimp only at h
    split at h
    · cases h
    · next off d found =>
      cases h
      obtain rfl := Core.findWarm_picks found
      exact ⟨_, Core.ctx_updCtx_self _ _ _⟩
  · unfold Core.commitPage at h
    split at h
    · cases h
    · next fr d found =>
      cases h
      obtain rfl := Core.findFrame_notes found
      exact ⟨_, Core.ctx_updCtx_self _ _ _⟩

/-- What every step of a fold that may fail keeps, the fold keeps. -/
theorem foldl_bind_keeps {α β : Type} {P : β → Prop} {step : α → β → Option β} (keeps : ∀ x b b', P b → step x b = some b' → P b')
    {xs : List α} {o : Option β} (start : ∀ b, o = some b → P b) : ∀ b, xs.foldl (fun o x => o.bind (step x)) o = some b → P b :=
  List.foldlRecOn (motive := fun o : Option β => ∀ b, o = some b → P b) xs _ start fun o earlier x _ b stepped => by
    obtain ⟨a, before, after⟩ := Option.bind_eq_some_iff.1 stepped
    exact keeps x a b (earlier a before) after

/-- Room committed to a move changes no record, and of its context the pages alone. -/
theorem Core.commitAll_fills {n : Nat} {parked : Bool} (h : c.commitAll t i n parked = some c') :
    c.KeepsMoves c' ∧ ∃ ps, c'.ctx i = { c.ctx i with pages := ps } := by
  refine List.foldlRecOn (motive := fun o : Option Core => ∀ d, o = some d → c.KeepsMoves d ∧ ∃ ps, d.ctx i = { c.ctx i with pages := ps })
    (List.range (shLayers c.shape)) _ ?_ ?_ c' h
  · rintro d ⟨⟩
    exact ⟨.refl c, _, rfl⟩
  · intro o earlier l _ d
    refine foldl_bind_keeps (fun p b b' ⟨moves, ps, own⟩ committed => ?_) earlier d
    obtain ⟨ps', own'⟩ := Core.ctx_commitFor committed
    exact ⟨moves.trans (Core.keepsMoves_commitFor committed), ps', by rw [own', own]⟩

/-- A context taken out of FREE bears what it is to hold, and no record of a move changes. -/
theorem Core.takeCtx_fills {q : Nat} {new : Ctx} (taken : c.takeCtx t q new = .ok (i, c')) :
    c.KeepsMoves c' ∧ (c'.ctx i).state = new.state ∧ (c'.ctx i).epoch = new.epoch ∧ (c'.ctx i).maxLen = new.maxLen := by
  unfold Core.takeCtx at taken
  split at taken
  · cases taken
  · next j d popped =>
    split at taken
    · cases taken
    · cases taken
      have popped : c.KeepsMoves d := by
        unfold Core.popCtx at popped
        dsimp only at popped
        split at popped
        · split at popped
          · cases popped
            exact ⟨rfl, rfl⟩
          · cases popped
        · split at popped
          · split at popped
            · cases popped
              exact ⟨rfl, rfl⟩
            · cases popped
          · cases popped
      rw [Core.ctx_updCtx_self]
      exact ⟨popped.trans (d.keepsMoves_updCtx _ _), rfl, rfl, rfl⟩

end

/-! #### An OPEN (R117, R125, R127) -/

section
variable {cid r i sm : Nat} {q : Msg} {mv : Move} {s : State} {t : Top} {c c1 c2 : Core}

/-- Arrival in PARKED, by the code that an OPEN carries (R121). -/
theorem CtxState.parked_of_code : ∀ n, ((CtxState.ofCode n).getD .generate == .parked) = decide (n = CtxState.parked.code)
  | 0 | 1 | 2 | 3 | 4 | 5 | 6 | 7 | 8 | 9 => rfl
  | n + 10 => (decide_eq_false (fun same : n + 10 = 5 => by omega)).symm

/-- The record of an OPEN that is accepted into context `i` (R117, R121). -/
def Core.received (c : Core) (cid i sm : Nat) (q : Msg) : Move :=
  { initiator := q.arg 4 2 % 2 ^ 14, id := q.arg 2 2, type := (MoveType.ofCode (q.arg 1 1)).getD .migrate, source := false,
    phase := .bulk, ctx := i, handle := c.handle i, peerNode := q.src, peerHandle := q.arg 8 4, oldEpoch := q.arg 52 2,
    newEpoch := q.arg 6 2, tag := q.arg 16 8, conn := cid, client := q.arg 28 1, arrival := (CtxState.ofCode (q.arg 30 1)).getD .generate,
    expected := q.arg 40 4, ttl := q.arg 48 4, carried := q.arg 56 4, summit := sm }

/-- An OPEN for which there is room is accepted, recorded and answered (R125, R130). -/
theorem Core.acceptOpen_accepts (sound : c.openBad q (q.arg 28 1) = none)
    (fits : c.fitsMove t (q.arg 28 1) (shLayers c.shape * pagesOf (q.arg 40 4)) (decide (q.arg 30 1 = CtxState.parked.code)) = true)
    (best : bestSummit (c.admissible t) (c.moveSummits t) = some sm) (taken : c.takeCtx t sm (Claims.openCtx cid q) = .ok (i, c1))
    (committed : c1.commitAll t i (pagesOf (q.arg 40 4)) (decide (q.arg 30 1 = CtxState.parked.code)) = some c2) :
    c.acceptOpen t cid q none none = (((c2.addMove (c2.received cid i sm q)).2.answerMsg t cid q 0x32
      (stateAck ((c2.received cid i sm q).head 1) .ok 0 32 0 0 0)).moveStarted c2.nextMove).watchFree t := by
  have room : c.moveRoom sm = true := (List.mem_filter.1 (bestSummit_mem best)).2
  unfold Claims.openCtx at taken
  unfold Core.acceptOpen
  simp only [Option.bind_none, sound, CtxState.parked_of_code, fits, best, room, Core.moveCtx, taken, committed]
  rfl

/-- STATE_PUSH OPEN of a move that this node has no record of (R117, R125, R140). -/
theorem Core.pushOpen_new (bound : t.dev = .bound) (job : q.arg 24 4 = c.jobId) (runs : c.quiesced = false)
    (new : c.findMove (q.arg 4 2 % 2 ^ 14) (q.arg 2 2) = none)
    (alone : ∀ e ∈ c.moves, q.arg 16 8 = 0 ∨ e.2.tag ≠ q.arg 16 8 ∨ e.2.ended ≠ none ∨ e.2.ctx = 0) :
    c.pushOpen t cid q = c.acceptOpen t cid q none none := by
  have other : c.moves.find? (fun e => q.arg 16 8 ≠ 0 && e.2.tag == q.arg 16 8 && e.2.ended.isNone && some e.1 != none && e.2.ctx != 0) = none := by
    refine List.find?_eq_none.2 fun e listed passes => ?_
    simp only [ne_eq, Bool.and_eq_true, decide_eq_true_eq, beq_iff_eq, bne_iff_ne, Option.isNone_iff_eq_none] at passes
    obtain ⟨⟨⟨⟨some_, bears⟩, live⟩, -⟩, here⟩ := passes
    rcases alone e listed with none_ | away | ended | nowhere
    · exact some_ none_
    · exact away bears
    · exact ended live
    · exact here nowhere
  unfold Core.pushOpen
  simp only [bound, job, runs, new, Option.map_none, Option.getD_none, ne_self_iff_false, if_false, Bool.false_eq_true, other]

/-- STATE_PUSH OPEN. -/
theorem statePushOpen_accepts (delivered : Claims.delivered s cid 0x30 (some 1) q) (bound : s.top.dev = .bound)
    (job : q.arg 24 4 = s.core.jobId) (runs : s.core.quiesced = false) (new : s.core.findMove (q.arg 4 2 % 2 ^ 14) (q.arg 2 2) = none)
    (alone : ∀ e ∈ s.core.moves, q.arg 16 8 = 0 ∨ e.2.tag ≠ q.arg 16 8 ∨ e.2.ended ≠ none ∨ e.2.ctx = 0)
    (sound : s.core.openBad q (q.arg 28 1) = none)
    (fits : s.core.fitsMove s.top (q.arg 28 1) (shLayers s.core.shape * pagesOf (q.arg 40 4)) (decide (q.arg 30 1 = CtxState.parked.code)) = true)
    (best : bestSummit (s.core.admissible s.top) (s.core.moveSummits s.top) = some sm)
    (taken : (s.core.takeMsg cid q).takeCtx s.top sm (Claims.openCtx cid q) = .ok (i, c1))
    (committed : c1.commitAll s.top i (pagesOf (q.arg 40 4)) (decide (q.arg 30 1 = CtxState.parked.code)) = some c2) :
    ∃ t mv', exec (.statePushOpen cid) s = .next t ∧ t.top = s.top ∧ t.core.ctxs = c2.ctxs ∧ (t.core.ctx i).state = .movingIn ∧
      (t.core.ctx i).epoch = q.arg 6 2 ∧ (t.core.ctx i).maxLen = q.arg 32 4 ∧ t.core.moves.get? s.core.nextMove = some mv' ∧
      mv'.source = false ∧ mv'.phase = .bulk ∧ mv'.ctx = i ∧ mv'.id = q.arg 2 2 ∧ mv'.newEpoch = q.arg 6 2 ∧ mv'.carried = q.arg 56 4 := by
  let c := s.core.takeMsg cid q
  let rec_ := c2.received cid i sm q
  let d := (c2.addMove rec_).2.answerMsg s.top cid q 0x32 (stateAck (rec_.head 1) .ok 0 32 0 0 0)
  have accepts : c.pushOpen s.top cid q = (d.moveStarted c2.nextMove).watchFree s.top :=
    (Core.pushOpen_new (c := c) bound job runs new alone).trans (Core.acceptOpen_accepts (c := c) sound fits best taken committed)
  obtain ⟨takes, state, epoch, len⟩ := Core.takeCtx_fills taken
  obtain ⟨commits, ps, own⟩ := Core.commitAll_fills committed
  have answers := (c2.addMove rec_).2.keepsInner_sendMsg s.top cid 0x32 true q.cls (stateAck (rec_.head 1) .ok 0 32 0 0 0) none
  have next : c2.nextMove = s.core.nextMove := commits.next.trans takes.next
  obtain ⟨record, -, ctxs⟩ := Core.moveStarted_at (c := d) (answers.keepsMoves.at_ (Core.get?_addMove rec_ c2))
  have watched := (d.moveStarted c2.nextMove).sameWork_watchFree s.top
  have ctxs : ((d.moveStarted c2.nextMove).watchFree s.top).ctxs = c2.ctxs := (watched.ctxs.trans ctxs).trans answers.ctxs
  have ctx : ((d.moveStarted c2.nextMove).watchFree s.top).ctx i = { c1.ctx i with pages := ps } := (Core.ctx_of_ctxs ctxs i).trans own
  exact ⟨_, { rec_ with mbox := none }, onMsg_next delivered accepts, rfl, ctxs, (congrArg Ctx.state ctx).trans state,
    (congrArg Ctx.epoch ctx).trans epoch, (congrArg Ctx.maxLen ctx).trans len,
    (congrArg (Tbl.get? _) next.symm).trans (watched.keepsMoves.at_ record), rfl, rfl, rfl, rfl, rfl, rfl⟩

end

/-! #### A fragment (R129, R130, R136) -/

section
variable {cid r l pg : Nat} {q : Msg} {mv m : Move} {s : State} {t : Top} {c : Core}

/-- A request no longer awaited leaves the stall time alone (R136). -/
theorem Core.stallUs_dropReq (k : Nat) (c : Core) : (c.dropReq k).stallUs = c.stallUs := by
  unfold Core.dropReq
  split
  · rfl
  · extract_lets c1
    split
    · split
      · rfl
      · rfl
    · rfl

theorem Core.stallUs_answered (r type tag : Nat) (c : Core) : (c.answered r type tag).stallUs = c.stallUs :=
  List.foldlRecOn (motive := fun d : Core => d.stallUs = c.stallUs) _ _ rfl fun b earlier k _ => (b.stallUs_dropReq k).trans earlier

/-- Where pages and contexts but for their references are the same, so are the pages of a context. -/
theorem Core.Signals.pageOf {a b : Core} (h : a.Signals b) (i l pg : Nat) : b.pageOf i l pg = a.pageOf i l pg := by
  have ref : (b.ctx i).ref l pg = (a.ctx i).ref l pg := (congrArg (Ctx.ref · l pg) (h.ctx i) :)
  simp only [Core.pageOf, Core.page, ref, h.tiers]

/-- A record once a fragment of a page is written (R129). -/
def Move.written (p : RecvPage) (m : Move) : Move :=
  { m with owed := m.owed + 1, recv := m.recv.filter (fun x => !(x.layer == p.layer && x.page == p.page)) ++ [p] }

theorem Move.recvOf_written (p : RecvPage) (m : Move) : (m.written p).recvOf p.layer p.page = some p := by
  have others : (m.recv.filter (fun x => !(x.layer == p.layer && x.page == p.page))).find? (fun x => x.layer == p.layer && x.page == p.page) = none :=
    List.find?_eq_none.2 fun x listed => by simpa [imp_iff_not_or] using (List.mem_filter.1 listed).2
  rw [Move.recvOf, Move.written, List.find?_append, others]
  simp

/-- Credits go back once 8 fragments have been written (R130). -/
theorem Core.ackCredits_at (at_ : c.moves.get? r = some m) :
    (c.ackCredits t r).moves.get? r = some { m with owed := if m.owed < 8 then m.owed else 0 } := by
  rw [Core.ackCredits, at_]
  dsimp only
  split
  · exact at_
  · exact (Core.keepsMoves_moveMsg _ _ _ _ _ _ _ _).at_ (Core.get?_updMove at_ fun m => { m with owed := 0 })

/-- A page of which the first fragment has come, but not the whole (R121, R129). -/
def Msg.firstPart (q : Msg) (now stall : Nat) : RecvPage :=
  { layer := q.arg 16 2, page := q.arg 18 2, attempt := q.arg 20 1, got := [(0, ((q.body.drop 48).take (q.arg 40 4)).length)],
    bytes := Mem.writeN [] 0 ((q.body.drop 48).take (q.arg 40 4)), total := q.arg 32 4, fmt := q.arg 22 1, fill := q.arg 24 2,
    digest := BitVec.ofNat 32 (q.arg 28 4), poison := bit (q.arg 21 1) 0, stallAt := some (now + 1000 * stall) }

/-- The first fragment of a page is recorded, and its stall timer runs (R129, R136). -/
theorem Core.writeFragment_records (at_ : c.moves.get? r = some m) (new : m.recvOf (q.arg 16 2) (q.arg 18 2) = none) (first : q.arg 36 4 = 0)
    (less : ((q.body.drop 48).take (q.arg 40 4)).length < q.arg 32 4) :
    (c.writeFragment t r q).moves.get? r =
      some { m.written (q.firstPart t.now c.stallUs) with owed := if m.owed + 1 < 8 then m.owed + 1 else 0 } := by
  unfold Core.writeFragment
  rw [at_]
  dsimp -zeta only
  extract_lets l pg off frag base p c1 c2 c3
  have fresh : base = { layer := l, page := pg, attempt := 0, total := 0, fmt := 0, fill := 0, digest := 0 } := by
    unfold base
    rw [show m.recvOf l pg = none from new]
  have page : p = q.firstPart t.now c.stallUs := by
    unfold p
    rw [fresh, show off = 0 from first]
    rfl
  have at1 : c1.moves.get? r = some (m.written p) := by
    unfold c1
    rw [page]
    exact Core.get?_updMove at_ _
  have kept : c1.KeepsMoves c3 := by
    refine (c1.keepsMoves_answered r 0x31 (3 + 256 * tagKey l pg)).trans (b := c2) ?_
    unfold c3
    split
    · split
      · exact c2.keepsMoves_updPage _ _
      · exact .refl c2
    · exact .refl c2
  have partial_ : ¬p.total ≤ sumL (p.got.map Prod.snd) := by
    rw [page]
    simpa only [Msg.firstPart, List.map_cons, List.map_nil, sumL, List.foldl_cons, List.foldl_nil, Nat.zero_add, not_le] using less
  rw [if_neg partial_]
  rw [page] at at1
  exact Core.ackCredits_at (kept.at_ at1)

/-- STATE_PUSH PAGE: the first fragment of a page that has a frame (R126, R129). -/
theorem Core.pushPage_writes {o : Nat} {g : PageObj} (at_ : c.moves.get? r = some m) (live : m.ended = none) (dest : m.source = false)
    (layer : q.arg 16 2 < shLayers c.shape) (page : q.arg 18 2 < (c.ctx m.ctx).pagesP) (tries : q.arg 20 1 ≤ 3) (first : q.arg 36 4 = 0)
    (fits : q.arg 40 4 ≤ q.arg 32 4) (new : m.recvOf (q.arg 16 2) (q.arg 18 2) = none)
    (framed : c.pageOf m.ctx (q.arg 16 2) (q.arg 18 2) = some (o, g)) :
    ∃ (d : Core) (m' : Move), c.pushPage t r m q = d.writeFragment t r q ∧ d.moves.get? r = some m' ∧ m'.recvOf (q.arg 16 2) (q.arg 18 2) = none ∧
      m'.owed = m.owed ∧ d.stallUs = c.stallUs := by
  unfold Core.pushPage
  rw [if_neg (by simp [live, dest]), if_neg (by simp [layer, page, tries])]
  extract_lets c1 old present done c2 old2 parked
  have absent : old = none := new
  have answered : c.Signals c1 := (c.signals_answered _ _ _).trans (Core.signals_updMove _ _ _)
  have at1 : c1.moves.get? r = some { m with pageCls := q.cls } := Core.get?_updMove ((c.keepsMoves_answered _ _ _).at_ at_) _
  have new1 : Move.recvOf { m with pageCls := q.cls } (q.arg 16 2) (q.arg 18 2) = none := new
  have stall1 : c1.stallUs = c.stallUs := c.stallUs_answered r 0x31 2
  obtain ⟨m', at2, none_, owed⟩ : ∃ m' : Move, c2.moves.get? r = some m' ∧ m'.recvOf (q.arg 16 2) (q.arg 18 2) = none ∧ m'.owed = m.owed := by
    unfold c2
    split
    · refine ⟨_, Core.get?_updMove at1 _, ?_, rfl⟩
      rw [Move.recvOf_onRecv (f := fun p => { p with attempt := q.arg 20 1, got := [], bytes := [] }) fun _ => ⟨rfl, rfl⟩, new1]
      rfl
    · exact ⟨_, at1, new1, rfl⟩
  have same : c.Signals c2 := answered.trans (by
    unfold c2
    split
    · exact c1.signals_updMove _ _
    · exact .refl c1)
  have stall2 : c2.stallUs = c.stallUs := by
    unfold c2
    split
    · exact stall1
    · exact stall1
  have absent2 : old2 = none := by
    unfold old2
    rw [at2]
    exact none_
  have none_done : ¬done = true := by simp [done, absent]
  have earliest : ¬q.arg 20 1 < present := by simp [present, absent]
  have timely : ¬((old2.map (fun p => p.got.any (fun g => g.1 == q.arg 36 4))).getD false || decide (q.arg 36 4 % 65536 ≠ 0) ||
      decide (q.arg 32 4 < q.arg 36 4 + q.arg 40 4)) = true := by
    simp [absent2, first, fits]
  have framed : (c2.pageOf m.ctx (q.arg 16 2) (q.arg 18 2)).isSome = true := by rw [same.pageOf, framed]; rfl
  exact ⟨c2, m', (if_neg none_done).trans ((if_neg earliest).trans ((if_neg timely).trans (if_pos framed))), at2, none_, owed, stall2⟩

/-- STATE_PUSH PAGE. -/
theorem statePushPage_records {o : Nat} {p : PageObj} {frag : List Byte} (h : Claims.onRecord s cid 0x30 2 false q r mv)
    (layer : q.arg 16 2 = l) (page : q.arg 18 2 = pg) (body : frag = (q.body.drop 48).take (q.arg 40 4)) (inside : l < shLayers s.core.shape)
    (within : pg < (s.core.ctx mv.ctx).pagesP) (tries : q.arg 20 1 ≤ 3) (first : q.arg 36 4 = 0) (less : frag.length < q.arg 32 4)
    (fits : q.arg 40 4 ≤ q.arg 32 4) (new : mv.recvOf l pg = none) (framed : s.core.pageOf mv.ctx l pg = some (o, p)) :
    ∃ t mv' g, exec (.statePushPage cid) s = .next t ∧ t.top = s.top ∧ t.core.moves.get? r = some mv' ∧ mv'.recvOf l pg = some g ∧
      g.got = [(0, frag.length)] ∧ g.total = q.arg 32 4 ∧ g.attempt = q.arg 20 1 ∧ g.complete = false ∧
      g.stallAt = some (s.top.now + 1000 * s.core.stallUs) ∧ mv'.owed = (if mv.owed + 1 < 8 then mv.owed + 1 else 0) := by
  subst layer page body
  obtain ⟨at_, live⟩ := record_of_onRecord h
  have onRecord := h
  obtain ⟨-, -, -, -, -, dest, -⟩ := h
  obtain ⟨d, m', writes, at_, none_, owed, stall⟩ := Core.pushPage_writes (t := s.top) (c := s.core.takeMsg cid q) at_ live dest inside within tries
    first fits new framed
  have record := Core.writeFragment_records (t := s.top) at_ none_ first less
  rw [owed, stall] at record
  exact ⟨_, _, _, onMove_next onRecord writes, rfl, record, Move.recvOf_written (q.firstPart s.top.now s.core.stallUs) m', rfl, rfl, rfl, rfl, rfl, rfl⟩

end

/-! #### The end of a move at its destination (R133, R134, R138) -/

section
variable {cid r : Nat} {q : Msg} {mv m : Move} {s : State} {t : Top} {c : Core}

/-- What a move needs before its destination completes (R134). -/
def Core.Complete (c : Core) (m : Move) : Prop :=
  m.carried ≤ (m.recv.filter RecvPage.complete).length ∧ m.complete = true ∧ m.cut = true ∧ (c.ctx m.ctx).state = .movingIn

theorem Core.finishMove_waits (at_ : c.moves.get? r = some m) (kind : m.type ≠ .attach) (waits : ¬c.Complete m) : c.finishMove t r = c := by
  rw [Core.finishMove, at_]
  dsimp only
  split
  · rfl
  · next open_ =>
    refine if_neg fun whole => waits ?_
    simp only [Bool.or_eq_true, decide_eq_true_eq, not_or, not_lt] at open_
    simp only [Bool.and_eq_true, decide_eq_true_eq] at whole
    exact ⟨open_.2, whole.1.1, whole.1.2, whole.2⟩

theorem Core.keepsMoves_arrive (t : Top) (m : Move) (c : Core) : c.KeepsMoves (c.arrive t m) :=
  keepsMoves_ite _ ((c.keepsMoves_updCtx _ _).trans (Core.keepsMoves_enterParked _ _ _ _ _)) (c.keepsMoves_updCtx _ _)

/-- A move complete at its destination ends, and its context enters the state that it arrives in (R134). -/
theorem Core.finishMove_arrives (at_ : c.moves.get? r = some m) (live : m.ended = none) (dest : m.source = false) (kind : m.type ≠ .attach)
    (whole : c.Complete m) :
    (c.finishMove t r).moves.get? r = some (m.over t .done .ok) ∧
      (m.arrival ≠ .parked → ((c.finishMove t r).ctx m.ctx).state = m.arrival) := by
  obtain ⟨pages, complete, cut, in_⟩ := whole
  let d := (c.arrive t m).moveMsg t r 0x32 6 m.doneCls (statusBytes .ok 0 ++ zeros 12) none
  have finishes : c.finishMove t r = d.endMove t r .done true .ok 0 := by
    rw [Core.finishMove, at_]
    dsimp only
    rw [if_neg (by simp [dest, live, pages]), if_neg kind, if_pos (by simp [complete, cut, in_])]
  have kept : c.KeepsMoves d := (c.keepsMoves_arrive t m).trans (Core.keepsMoves_moveMsg _ _ _ _ _ _ _ _)
  obtain ⟨ends, left⟩ := Core.endMove_ends (t := t) (kept.at_ at_) live .done true .ok 0
  have same : (c.arrive t m).Signals (d.endMove t r .done true .ok 0) := (Core.signals_moveMsg _ _ _ _ _ _ _ _).trans left
  rw [finishes]
  refine ⟨ends, fun running => ?_⟩
  have arrived : ((c.arrive t m).ctx m.ctx).state = m.arrival := by
    rw [Core.arrive, if_neg running, Core.ctx_updCtx_self]
  exact (congrArg Ctx.state (same.ctx m.ctx) :).trans arrived

/-- The tokens of a length, of which a table keeps none where there are none. -/
theorem Tbl.getD_range_positive {n k : Nat} (small : k < n) (v : Nat) :
    Tbl.getD (((List.range n).map (fun l => (l, v))).filter (fun e => decide (0 < e.2))) k 0 = v := by
  cases v with
  | zero =>
    rw [List.filter_eq_nil_iff.2 fun e listed => by
      obtain ⟨l, -, rfl⟩ := List.mem_map.1 listed
      simp]
    rfl
  | succ v =>
    rw [List.filter_eq_self.2 fun e listed => by
      obtain ⟨l, -, rfl⟩ := List.mem_map.1 listed
      simp]
    exact Tbl.getD_range small _

/-- A context with nothing held has nothing to join (R133). -/
theorem Core.joinHeld_empty {i : Nat} (empty : (c.ctx i).held = []) : c.joinHeld t i = c.updCtx i (fun x => { x with held := [] }) := by
  rw [Core.joinHeld, empty]
  rfl

/-- A record whose move has cut over at its destination (R121, R133). -/
def Move.cutOver (q : Msg) (m : Move) : Move :=
  { m with
    cut := true, phase := .tail, finalLen := q.arg 16 4, carried := q.arg 20 4, arrival := (CtxState.ofCode (q.arg 24 1)).getD m.arrival }

/-- A destination context at cutover: every layer has the length that CUTOVER gives (R133). -/
def Ctx.cutOver (layers len : Nat) (x : Ctx) : Ctx :=
  { x with cut := true, joining := true, tokens := ((List.range layers).map (fun l => (l, len))).filter (fun e => decide (0 < e.2)) }

/-- Cutover at the destination, answered (R121, R123). -/
def Core.cutOver (c : Core) (t : Top) (cid r : Nat) (m : Move) (q : Msg) : Core :=
  ((c.updMove r (Move.cutOver q)).updCtx m.ctx (Ctx.cutOver (shLayers c.shape) (q.arg 16 4))).answerMsg t cid q 0x32
    (stateAck (m.head 3) .ok 0 0 0 0 0)

theorem Core.pushCutover_joins (live : m.ended = none) (dest : m.source = false) (kind : m.type ≠ .attach) :
    c.pushCutover t cid r m q = ((c.cutOver t cid r m q).joinHeld t m.ctx).finishMove t r := if_neg (by simp [dest, live, kind])

/-- Cutover fills in the record and its context, and changes no page (R133). -/
theorem Core.cutOver_at (at_ : c.moves.get? r = some m) :
    (c.cutOver t cid r m q).moves.get? r = some (m.cutOver q) ∧
      (c.cutOver t cid r m q).ctx m.ctx = (c.ctx m.ctx).cutOver (shLayers c.shape) (q.arg 16 4) ∧ (c.cutOver t cid r m q).tiers = c.tiers := by
  have answers := ((c.updMove r (Move.cutOver q)).updCtx m.ctx (Ctx.cutOver (shLayers c.shape) (q.arg 16 4))).keepsInner_sendMsg t cid 0x32 true q.cls
    (stateAck (m.head 3) .ok 0 0 0 0 0) none
  exact ⟨answers.keepsMoves.at_ (Core.get?_updMove at_ _), (Core.ctx_of_ctxs answers.ctxs _).trans (Core.ctx_updCtx_self _ _ _), answers.tiers⟩

/-- A cutover before COMPLETE, with nothing held, is all that there is to do (R133, R134). -/
theorem Core.pushCutover_cuts (at_ : c.moves.get? r = some m) (live : m.ended = none) (dest : m.source = false) (kind : m.type ≠ .attach)
    (early : m.complete = false) (empty : (c.ctx m.ctx).held = []) :
    c.pushCutover t cid r m q = (c.cutOver t cid r m q).updCtx m.ctx (fun x => { x with held := [] }) := by
  obtain ⟨record, filled, -⟩ := Core.cutOver_at (t := t) (cid := cid) (q := q) at_
  rw [Core.pushCutover_joins live dest kind, Core.joinHeld_empty (by rw [filled]; exact empty)]
  exact Core.finishMove_waits (m := m.cutOver q) record kind fun ⟨_, complete, _⟩ => absurd (complete.symm.trans early) (by decide)

/-- STATE_PUSH CUTOVER (R121, R133). -/
theorem statePushCutover_cuts (h : Claims.onRecord s cid 0x30 3 false q r mv) (kind : mv.type ≠ .attach) (early : mv.complete = false)
    (empty : (s.core.ctx mv.ctx).held = []) :
    ∃ t mv', exec (.statePushCutover cid) s = .next t ∧ t.top = s.top ∧ t.core.moves.get? r = some mv' ∧ mv'.cut = true ∧
      mv'.finalLen = q.arg 16 4 ∧ mv'.carried = q.arg 20 4 ∧ (t.core.ctx mv.ctx).cut = true ∧
      (t.core.ctx mv.ctx).state = (s.core.ctx mv.ctx).state ∧
      (∀ l < shLayers s.core.shape, (t.core.ctx mv.ctx).held1 l = q.arg 16 4) ∧ t.core.tiers = s.core.tiers := by
  obtain ⟨at_, live⟩ := record_of_onRecord h
  have dest : mv.source = false := by
    obtain ⟨-, -, -, -, -, dest, -⟩ := h
    exact dest
  let c := s.core.takeMsg cid q
  let d := c.cutOver s.top cid r mv q
  have cuts : c.pushCutover s.top cid r mv q = d.updCtx mv.ctx (fun x => { x with held := [] }) :=
    Core.pushCutover_cuts at_ live dest kind early empty
  obtain ⟨record, filled, tiers⟩ := Core.cutOver_at (t := s.top) (cid := cid) (q := q) at_
  have ctx : (d.updCtx mv.ctx (fun x => { x with held := [] })).ctx mv.ctx =
      { (s.core.ctx mv.ctx).cutOver (shLayers s.core.shape) (q.arg 16 4) with held := [] } := by
    rw [Core.ctx_updCtx_self, show d.ctx mv.ctx = _ from filled]
    rfl
  refine ⟨_, mv.cutOver q, onMove_next h cuts, rfl, record, rfl, rfl, rfl, (congrArg Ctx.cut ctx :), (congrArg Ctx.state ctx :), fun l layer => ?_, tiers⟩
  exact (congrArg (Ctx.held1 · l) ctx :).trans (Tbl.getD_range_positive layer _)

/-- STATE_PUSH ABORT before cutover (R138). -/
theorem statePushAbort_drains (h : Claims.onRecord s cid 0x30 4 false q r mv) (early : mv.cut = false) (kind : mv.type ≠ .attach)
    (in_ : (s.core.ctx mv.ctx).state = .movingIn) :
    ∃ t mv', exec (.statePushAbort cid) s = .next t ∧ t.top = s.top ∧ t.core.moves.get? r = some mv' ∧ mv'.phase = .aborted ∧
      mv'.ended = some s.top.now ∧ (t.core.ctx mv.ctx).state = .draining := by
  obtain ⟨at_, live⟩ := record_of_onRecord h
  obtain ⟨delivered, reaches, found, -, epoch, dest, -⟩ := h
  let c := s.core.takeMsg cid q
  let st := (Status.ofCode (q.arg 16 1)).getD .ok
  have found : c.findMove (q.arg 4 2 % 2 ^ 14) (q.arg 2 2) = some (r, mv) := found
  have aborts : c.pushAbort s.top r mv q = c.abortMove s.top r st (q.arg 17 3) false :=
    (if_neg (by simp [live])).trans (if_neg (by simp [early]))
  have acts : onMove ((c.findMove (q.arg 4 2 % 2 ^ 14) (q.arg 2 2)).any (fun e => e.2.source)) (fun t c _ r m q => c.pushAbort t r m q) s.top c cid q =
      c.abortMove s.top r st (q.arg 17 3) false := by
    have side : (Option.any (fun e : Nat × Move => e.2.source) (some (r, mv))) = false := dest
    rw [found, side]
    simp only [onMove, Bool.false_eq_true, if_false, moveRefused_of_reaches (h := q.arg 12 4) reaches delivered, found, epoch, dest, decide_true, Bool.and_self,
      if_true, c, aborts]
  exact ⟨_, _, onMsg_next delivered acts, rfl, Core.abortMove_ends at_ live _ _ _, rfl, rfl, Core.abortMove_dest at_ live kind dest in_ _ _ _⟩

/-- DRAIN_MARK COMPLETE (R134). -/
theorem drainMarkComplete_ends (h : Claims.onRecord s cid 0x33 3 false q r mv) (kind : mv.type ≠ .attach) :
    ∃ t mv', exec (.drainMarkComplete cid) s = .next t ∧ t.top = s.top ∧ t.core.moves.get? r = some mv' ∧ mv'.complete = true ∧
      ((mv.recv.filter RecvPage.complete).length < mv.carried → mv'.ended = none ∧ t.core.ctxs = s.core.ctxs) ∧
      (mv.carried ≤ (mv.recv.filter RecvPage.complete).length → mv.cut = true → (s.core.ctx mv.ctx).state = .movingIn → mv.arrival ≠ .parked →
        mv'.ended = some s.top.now ∧ mv'.phase = .done ∧ (t.core.ctx mv.ctx).state = mv.arrival) := by
  obtain ⟨at_, live⟩ := record_of_onRecord h
  have onRecord := h
  obtain ⟨-, -, -, -, -, dest, -⟩ := h
  let c := s.core.takeMsg cid q
  let drained := fun m : Move => { m with complete := true, phase := .drain, doneCls := q.cls }
  let d := c.updMove r drained
  have record : d.moves.get? r = some (drained mv) := Core.get?_updMove at_ drained
  have marks : c.markComplete s.top r mv q = d.finishMove s.top r := if_neg (by simp [dest, live])
  by_cases whole : d.Complete (drained mv)
  · obtain ⟨ends, arrives⟩ := Core.finishMove_arrives (t := s.top) record live dest kind whole
    exact ⟨_, _, onMove_next onRecord marks, rfl, ends, rfl, fun fewer => absurd whole.1 (Nat.not_le.2 fewer),
      fun _ _ _ running => ⟨rfl, rfl, arrives running⟩⟩
  · exact ⟨_, _, onMove_next onRecord (marks.trans (Core.finishMove_waits record kind whole)), rfl, record, rfl, fun _ => ⟨live, rfl⟩,
      fun pages cut in_ _ => absurd ⟨pages, rfl, cut, in_⟩ whole⟩

end

/-- Settles O42, row by row. -/
theorem moveDestinationReceivesTheSequence : Obligations.MoveDestinationReceivesTheSequence := by
  intro cid r q mv s c x
  exact ⟨fun sm i c1 c2 => statePushOpen_accepts, fun l pg o p frag => statePushPage_records, statePushCutover_cuts, statePushAbort_drains,
    drainMarkComplete_ends⟩

end Sys2Proof.Machine
end
